-- ==== Sys2Proof/Word.lean ====
section
/-! DEFINITION. The word type of the SV-9624 and its plainest arithmetic (rules R5 to R8). -/

namespace Sys2Proof

/-- A word is 24 bits (R5). -/
abbrev Word := BitVec 24

/-- The word holding a natural number, taken modulo 2^24. -/
abbrev wd (n : Nat) : Word := BitVec.ofNat 24 n

/-- Bits [lo + w - 1 : lo] of a number (R7). -/
def bitsOf (n lo w : Nat) : Nat := (n >>> lo) % 2 ^ w

/-- A number with its bits [lo + w - 1 : lo] replaced by `v` (taken modulo 2^w). -/
def putBits (n lo w v : Nat) : Nat := (n >>> (lo + w)) <<< (lo + w) + (v % 2 ^ w) <<< lo + n % 2 ^ lo

/-- A flag as a bit. -/
def bit (b : Bool) : Nat := if b then 1 else 0

/-- A word read as a 24-bit two's complement number. -/
def sgn24 (w : Word) : Int := w.toInt

/-- The 24-bit form of an integer. -/
def ofInt24 (i : Int) : Word := BitVec.ofInt 24 i

end Sys2Proof
end

