-- ==== Sys2Proof/Config.lean ====
section
/-! DEFINITION. What the spec leaves open, as constants without a body, and the published algorithms the spec names
without restating them. Nothing in Lean can evaluate these: a claim holds whatever they are. -/

namespace Sys2Proof

/-- Free values (log 3): value number `n` of a run, one for every value the spec leaves open. -/
opaque Config.freeNat : Nat → Nat

/-- SHA-384 over a byte string: 48 bytes (R501). -/
opaque Config.sha384 : List Nat → List Nat

/-- ECDSA P-384 verification of a 96-byte signature over a byte string under a key (R501, R502). -/
opaque Config.ecdsaVerify : List Nat → List Nat → List Nat → Bool

/-- ECDH on P-384 between the unit private key and a peer's public key: the shared secret Z (R508). -/
opaque Config.ecdhZ : List Nat → List Nat

/-- 36 bytes by HKDF with SHA-384 and no salt, from Z and the info bytes (R508). -/
opaque Config.hkdf36 : List Nat → List Nat → List Nat

/-- AES-256-GCM under a key and a nonce: the ciphertext of a plaintext, and the 128-bit tag over additional data and a
ciphertext (R506). -/
opaque Config.gcmCipher : List Nat → List Nat → List Nat → List Nat
opaque Config.gcmTag : List Nat → List Nat → List Nat → List Nat → Nat

/-- An entry of a CAN FD message table (R133): identifier and format, data length in bytes, transmit or receive. -/
structure CanEntry where
  id : Nat
  ext : Bool
  fdf : Bool
  brs : Bool
  len : Nat
  tx : Bool
deriving DecidableEq, Repr

/-- How an SPI template checks a response (R137). -/
inductive SpiCheck where
  | none
  | fixed (byte : Nat)
  | crc8
deriving DecidableEq, Repr

/-- An SPI transaction template (R137): command bytes and the register field's position, bit order, bytes read, whether it
is writable, and its check. -/
structure SpiTemplate where
  cmd : List Nat
  pos : Nat
  msbFirst : Bool
  readLen : Nat
  writable : Bool
  check : SpiCheck
deriving DecidableEq, Repr

/-- What the parameter words of a binding say, whose layout the spec does not give (R126, R131, R133, R137): whether they lie
in their ranges, by binding type; entry i of the message table; template i; the queue of a byte stream; and the wire time in
ns of a request and its response on given objects. -/
opaque Config.paramsOk : Nat → List Word → Bool
opaque Config.canEntry : List Word → Nat → Option CanEntry
opaque Config.spiTemplate : List Word → Nat → Option SpiTemplate
opaque Config.streamQueue : List Word → Nat
opaque Config.requestNs : Nat → List Word → List Nat → Nat
opaque Config.responseNs : Nat → List Word → List Nat → Nat

/-- Factory trim of a converter at a gain, in OTP: OFFSET and GAIN (R169). -/
opaque Config.trimOffset : Nat → Nat → Word
opaque Config.trimGain : Nat → Nat → Word

/-- The dword at which the Device Serial Number capability stands in the extended configuration space (R305). -/
opaque Config.serialAt : Nat

/-- What the open-sensor comparator finds of an impedance from 500 kΩ to 1 MΩ, by channel and time (R174). -/
opaque Config.openReading : Nat → Nat → Bool

/-- The SRAM row of its bank that holds a record: of the Stacks (2 × key) or the Catalogue (2 × key + 1) (R477). -/
opaque Config.archiveRow : Nat → Nat

/-- What a supply channel finds of a current from 0.5 % to 1.0 % of its limit: whether it counts as present, by channel
and sense voltage in µV (R428). -/
opaque Config.smallCurrent : Nat → Nat → Bool

/-- What the steward knows of a ring that is not one of the hub's own, beyond the edition (R38, R241, R267, R294): its slowest
medium and rate, and the slowest that its RATE_MIN settings allow, as 0 optical, 1 copper at 2.5 Gbit/s, 2 at 1 Gbit/s, 3 at
100 Mbit/s; and whether it is protected. -/
opaque Config.ringSpeed : Nat → Nat
opaque Config.ringSpeedMin : Nat → Nat
opaque Config.ringProtected : Nat → Bool

/-- Records of a subscription group of another node (R38, R249): its slice is not part of this hub's image. -/
opaque Config.groupRecords : Nat → Nat → Nat

end Sys2Proof
end

