-- ==== Sys2Proof/Machine/Tab.lean ====
section
/-! DEFINITION. Sparse tables: a list of (key, value) pairs in one canonical form, keys strictly rising and no value
equal to what an unlisted key reads as. Registers, archive banks, windows and every array of units are held so. -/

namespace Sys2Proof.Machine

/-- A sparse table. -/
abbrev Tab (α : Type) := List (Nat × α)

/-- The value at a key; an unlisted key reads as `d k`. -/
def tget {α : Type} (d : Nat → α) : Tab α → Nat → α
  | [], k => d k
  | (a, v) :: t, k => if k = a then v else tget d t k

/-- The table with a listed value at a key, in its place among rising keys. -/
def tput {α : Type} (k : Nat) (v : α) : Tab α → Tab α
  | [] => [(k, v)]
  | (a, w) :: t => if k < a then (k, v) :: (a, w) :: t else if k = a then (k, v) :: t else (a, w) :: tput k v t

/-- A table without the keys that satisfy a test: they read as unlisted again. -/
def tclear {α : Type} (p : Nat → Bool) : Tab α → Tab α
  | [] => []
  | (a, v) :: t => if p a then tclear p t else (a, v) :: tclear p t

/-- The table with the value at a key replaced, kept in canonical form. -/
def tset {α : Type} [DecidableEq α] (d : Nat → α) (k : Nat) (v : α) (t : Tab α) : Tab α :=
  if v = d k then tclear (fun a => a == k) t else tput k v t

/-- The canonical form: keys above `lo` and strictly rising, no value equal to what an unlisted key reads as. -/
def twf {α : Type} [DecidableEq α] (d : Nat → α) : Nat → Tab α → Bool
  | _, [] => true
  | lo, (a, v) :: t => decide (lo ≤ a) && decide (v ≠ d a) && twf d (a + 1) t

/-- A number added to a rising list without repeats. -/
def insSet (k : Nat) : List Nat → List Nat
  | [] => [k]
  | a :: t => if k < a then k :: a :: t else if k = a then a :: t else a :: insSet k t

/-- A number taken out of a list. -/
def delSet (k : Nat) (l : List Nat) : List Nat := l.filter (fun a => a != k)

end Sys2Proof.Machine
end

