-- ==== Sys2Proof/Syntax.lean ====
section
/-! DEFINITION. The operand types and the ONE inductive of commands, one constructor per row of
spec/opcode_table.json. A command carries what comes from outside the state it acts on: the value written, the frame
received, what a measurement or a physical check found, how the field device or the far end answered.
An index operand names a unit of the part (place, engine, line, port, ...); WellFormed.lean bounds it. -/

namespace Sys2Proof

/-- Who makes a register access (R11, R374, R554). -/
inductive Writer where
  /-- the PCI Express host, through BAR0 -/
  | host
  /-- a fabric initiator, by its node ID -/
  | fabric (node : Nat)
  /-- the steward -/
  | steward
deriving DecidableEq, Repr

/-- What has struck one record just before a command (R77), or what a check finds in a store (R99). -/
inductive Ecc where
  | ok
  /-- a single-bit error -/
  | corrected
  /-- a double-bit error -/
  | uncorrectable
deriving DecidableEq, Repr

/-- What a valid response says of one point (R148): a raw value, a raw value beyond the point's data type,
or a sensor failure. -/
inductive Reading where
  | value (raw : Int)
  | beyond (raw : Int)
  | sensorFail
deriving DecidableEq, Repr

/-- The data of a response as the field device sends it: Modbus registers or coils (R129), bytes of I2C or SPI (R137, R139),
the values of SDI-12 sensors by address, each a number and how many of its digits follow the decimal point (R142), a DALI-2
backward frame (R144), or none. -/
inductive FieldData where
  | regs (ws : List Nat)
  | coils (bs : List Bool)
  | bytes (bs : List Nat)
  | values (vs : List (Nat × List (Int × Nat)))
  | answer (b : Nat)
  | none
deriving DecidableEq, Repr

/-- How a poll transaction's present attempt ends (R107, R142, R148). -/
inductive PollEnd where
  | response (d : FieldData)
  /-- parity, framing, CRC or encoding error, or a wrong address or function in the response -/
  | corrupt
  /-- no response within the timeout; on I2C, no acknowledgement, or a stretch over 25 ms -/
  | silent
  /-- a Modbus exception -/
  | exception (code : Nat)
  /-- an SDI-12 sensor states its measurement time in s -/
  | announce (sec : Nat)
  /-- the engine meets an illegal microinstruction (R121) -/
  | illegal
deriving DecidableEq, Repr

/-- One unit of unsolicited input (R103). -/
inductive Unsolicited where
  /-- a CAN FD data frame: identifier and format, data field (R134) -/
  | canFrame (id : Nat) (ext : Bool) (bytes : List Nat)
  /-- a part 103 event message: control device, instance, 10-bit event information (R145) -/
  | daliEvent (dev inst info : Nat)
  /-- a received byte-stream frame (R131) -/
  | uartFrame (bytes : List Nat)
deriving DecidableEq, Repr

/-- What a place's housekeeping step is (R103, R121, R131, R136). -/
inductive House where
  | plain
  /-- a byte stream's frame is sent from its queue; a character error; a receive overrun -/
  | sendFrame
  | charError
  | overrun
  /-- a CAN FD controller enters the error-passive state -/
  | errorPassive
  /-- the engine meets an illegal microinstruction -/
  | illegal
deriving DecidableEq, Repr

/-- How the present attempt at a command, or at its read-back, ends (R116, R117, R146, R148). -/
inductive CmdEnd where
  /-- an acknowledgement that carries the value, or the response of the read-back -/
  | value (d : FieldData)
  /-- the device accepts the write without giving the value; on CAN FD the binding receives its own frame back, and a DALI-2
  group or broadcast frame has been sent without collision -/
  | accepted
  /-- as for a poll -/
  | corrupt
  | silent
  | exception (code : Nat)
  /-- the device refused, by a data byte not acknowledged or the like -/
  | rejected
  /-- the binding finds it cannot write the object -/
  | cannotWrite
deriving DecidableEq, Repr

/-- How copper training ends (R191). -/
inductive TrainEnd where
  /-- qualified at a rate coded as RATE_MAX, with a margin in 0.1 dB and a duration in us -/
  | up (rate margin us : Nat)
  /-- both ends have the same ROLE -/
  | wiring
  /-- no rate qualifies -/
  | noRate
deriving DecidableEq, Repr

/-- Why a link goes down (R194, Table 6). -/
inductive DownCause where
  | noSignal
  | lockLost
deriving DecidableEq, Repr

/-- How a received frame ends (R237, R238). -/
inductive EndCode where
  | good
  | stomp
  /-- a reserved control block inside the frame (R222) -/
  | badBlock
  /-- the ingress link went down before the END block -/
  | cut
deriving DecidableEq, Repr

/-- A Yomel frame: the header of R223 and the payload of R225. -/
structure Frame where
  dest : Nat
  src : Nat
  cls : Nat
  typ : Nat
  sq : Nat
  ring : Nat
  hops : Nat
  west : Bool
  bcast : Bool
  retry : Bool
  replay : Bool
  far : Bool
  fabric : Bool
  entry : Nat
  aux : Nat
  payload : List Word
deriving DecidableEq, Repr

/-- A frame as a port receives it: the frame, the HCHK and CRC-32 that came with it, its END block, and, on a protected
hop, the counter block and whether the GCM tag passes (R224, R225, R506, R511). -/
structure RxFrame where
  frame : Frame
  hchk : Nat
  crc : Nat
  fin : EndCode
  epoch : Nat
  count : Nat
  tagOk : Bool
  /-- control blocks of a reserved type received since the frame before it, outside frames (R222) -/
  strays : Nat
deriving DecidableEq, Repr

/-- What a consumer's check of one item finds (R285 to R287). -/
inductive ItemCheck where
  | ok
  | pointerCopies
  | tagMismatch
  | checkMismatch
  | doubleBit
deriving DecidableEq, Repr

/-- A BAR0 access at a dword's byte offset (R307 to R309); a write says whether its byte enables cover bytes 0 to 2. -/
inductive BarAccess where
  | read (byteOff : Nat)
  | write (byteOff : Nat) (dword : BitVec 32) (covered : Bool)
deriving DecidableEq, Repr

/-- The three resets of R332. -/
inductive LinkReset where
  | linkDown
  | hotReset
  | flr
deriving DecidableEq, Repr

/-- PCI Express errors of R330. -/
inductive PcieError where
  | correctable
  | uncorrectable (poisonedWrite : Bool)
deriving DecidableEq, Repr

/-- A SETUP of R337 to R362: the requests that the device function and the hub part answer themselves, and any other. -/
inductive UsbRequest where
  | setAddress (a : Nat)
  | setConfiguration (on : Bool)
  | hubConfiguration (on : Bool)
  | remoteWakeup (deviceFunction on : Bool)
  | deskWrite (first : Nat) (bytes : List Nat) (wIndex : Nat)
  | deskRead (first len : Nat) (wIndex : Nat)
  | getFrequency
  | getValidity
  | hubDescriptor
  | deviceDescriptor (hubPart : Bool)
  | bosDescriptor (hubPart : Bool)
  | configuration
  /-- to a control that does not exist (R354) -/
  | noControl
  | other
deriving DecidableEq, Repr

/-- The feed states a voltage moves a feed to (R413, Table 2). -/
inductive FeedTo where
  | absent
  | under
  | over
  | qualifying
deriving DecidableEq, Repr

/-- What a supply channel senses (R422, R428): FSCnn_VIN and FSCnn_OUT in mV, and the current of pass FET and pre-charge
switch together, as the sense voltage it makes on R_sense, in µV. -/
structure Sensed where
  vin : Nat
  vout : Nat
  sense : Nat
deriving DecidableEq, Repr

/-- Causes of a channel trip (R424, R425). -/
inductive FscTrip where
  | shortDuringRamp
  | overcurrent
  | fastTrip
deriving DecidableEq, Repr

/-- Holds of a channel (R432), with the code HELD shows. -/
inductive FscHold where
  | feedWarn
  | powerState
  | vinLow
deriving DecidableEq, Repr

/-- What the retention monitors and the canary check find at a wake (R453, R455): bits over the five banks,
and over STW, SWC, RGA, RGB, FP0 to FP3, HIF. -/
structure RetentionFound where
  bankUv : BitVec 5
  bankCanary : BitVec 5
  domUv : BitVec 9
deriving DecidableEq, Repr

/-- The three steps of R483. -/
inductive StandinPhase where
  /-- the ring B ports have come up through the local loop, at these rates -/
  | selfTrained (rateE rateW : Nat)
  | seeded
deriving DecidableEq, Repr

/-- Causes of a core reset (R530), with the code GLB_RST shows. -/
inductive ResetCause where
  | aonReset
  | pwrgd
  | sysRst
  | restart
  | mothballed
deriving DecidableEq, Repr

/-- A configuration request (R532): the entry to or exit from D3hot, another write, or a read. -/
inductive CfgRequest where
  | powerState (d3 : Bool)
  | msixControl (enable functionMask : Bool)
  | msiControl (enable : Bool)
  | write (dwordIndex : Nat) (v : BitVec 32)
  | read (dwordIndex : Nat)
deriving DecidableEq, Repr

/-- The commands and events of spec/opcode_table.json, one constructor a row: those with
operands first, then those without (Lean compiles no constructor with fields whose number passes 244).
Each is whole and indivisible; the docstring gives the row's rule and summary. -/
inductive Instr where
  /-- REGISTER_WRITE (R12): A write to a register or field that has no row of its own takes effect according to its change class and access code. -/
  | registerWrite (by_ : Writer) (off : Nat) (v : Word)
  /-- RC_READ (R10): A read of an RC counter returns its value and clears it in the same access. -/
  | rcRead (off : Nat)
  /-- CNT_LO_READ (R475): A read of CNT_LOk returns the low bits and latches CNT_HIk. -/
  | cntLoRead (k : Nat)
  /-- PAIRED_WRITE (R377): A write to one member of a Paired pair is held, and a later write of the partner applies both together at the next item boundary. -/
  | pairedWrite (by_ : Writer) (off : Nat) (v : Word)
  /-- PAIR_EXPIRY (R379): A pair half-written for more than 10 ms is discarded, logged in DSK_PAIR_LOG and raises fault source 515. -/
  | pairExpiry (off : Nat)
  /-- STK_STALE_LIM_WRITE (R49): A write of STK_STALE_LIMn is held as Staged, or ignored with CFG_REJECT where UNIT is 0b11. -/
  | stkStaleLimWrite (by_ : Writer) (n : Nat) (v : Word)
  /-- SCRUB_VISIT (R79): The scrubber visits one record, checks its SECDED code, applies the stale check and clears CHANGED on group 0 points. -/
  | scrubVisit (ecc : Ecc)
  /-- CATALOGUE_RELOAD (R77): The steward rewrites an uncorrectable or not-loaded Catalogue record from the active edition within 200 ms. -/
  | catalogueReload (p : Nat)
  /-- STK_COPY_START (R81): A write of STK_COPY_CTL.START starts copying a physical bank to the spare bank with dual writes, or is refused with CFG_REJECT. -/
  | stkCopyStart (by_ : Writer) (v : Word)
  /-- BANK_COPY_DONE (R81): The bank copy completes and STK_COPY_STAT.DONE is set while dual writes go on. -/
  | bankCopyDone (bad : List (Bool × Nat))
  /-- STK_COPY_ABORT (R86): A write of STK_COPY_CTL.ABORT stops the copy and dual writes and raises fault source 207 plus the destination bank. -/
  | stkCopyAbort (by_ : Writer) (v : Word)
  /-- STK_BANK_MAP_WRITE (R84): A write of STK_BANK_MAP moves a logical bank onto a completed copy between two archive accesses, or is refused. -/
  | stkBankMapWrite (by_ : Writer) (v : Word)
  /-- BANK_MAP_NOCOPY (R85): A bank map write with NOCOPY maps the spare bank without copying, resets its Stacks records and marks its Catalogue not loaded. -/
  | bankMapNocopy (by_ : Writer) (v : Word)
  /-- SCAN_CYCLE_DUE (R104): A scan class reaches its due time and a new cycle of that class starts at the place. -/
  | scanCycleDue (n k : Nat)
  /-- POLL_TRANSACTION (R107): A poll transaction ends with a response or its last failed attempt, and the place writes its points and chooses its next item. -/
  | pollTransaction (n : Nat) (r : PollEnd) (shadowDiffers : Bool)
  /-- ATTEMPT_TIMEOUT (R107): The response timeout of one attempt runs out, and the attempt counts as silent. -/
  | attemptTimeout (n : Nat)
  /-- UNSOLICITED_INPUT (R103): A unit of unsolicited input, such as a matching CAN FD frame or a DALI-2 event, is processed and writes its points. -/
  | unsolicitedInput (n : Nat) (u : Unsolicited)
  /-- HOUSEKEEPING_STEP (R103): The binding performs one housekeeping item. -/
  | housekeepingStep (n : Nat) (h : House)
  /-- COMMAND_ITEM (R115): A place takes a command from Q96 + n, checks it, writes it to the field device and confirms or fails it. -/
  | commandItem (n : Nat) (r : CmdEnd)
  /-- PORT_DOWN (R109): A port-down condition begins; scanning stops, the command in progress is abandoned, the hold timer starts and COMMS_FAIL is written. -/
  | portDown (n : Nat) (busLost : Bool)
  /-- PORT_UP (R110): The port comes up, the hold timer stops, queued commands run and fresh cycles start. -/
  | portUp (n : Nat)
  /-- HOLD_TIMER_EXPIRY (R111): The hold timer runs out while the port is down; queued commands fail with PORT_DOWN and fault source 257 + 2n is raised. -/
  | holdTimerExpiry (n : Nat)
  /-- ITEM_LIMIT_EXPIRY (R121): An item does not reach its boundary within its item limit, and engine fault source 256 + 2e is raised. -/
  | itemLimitExpiry (e : Nat)
  /-- ENGINE_STORE_ERROR (R99): An uncorrectable code or data store error stops the engine and raises its engine fault source. -/
  | engineStoreError (e : Nat) (ecc : Ecc)
  /-- CLK_ENG_RUN (R98): A write of CLK_ENG_CTL.RUN starts the engine from its entry, halts it at the next item boundary, or is refused without CODE_VALID. -/
  | clkEngRun (by_ : Writer) (e : Nat) (run : Bool)
  /-- CLK_ENG_BIND_WRITE (R98): A write of CLK_ENG_BIND by the steward completes a binding load and sets CODE_VALID. -/
  | clkEngBindWrite (e : Nat) (v : Word)
  /-- CLK_PINSEL_WRITE (R91): A write of CLK_PINSEL.GROUP attaches a place to a pin group, or is refused where the group is taken. -/
  | clkPinselWrite (by_ : Writer) (n g : Nat)
  /-- ENGINE_HANDOVER (R120): At the next lead-class cycle boundary a new serving engine takes the place, the pins move and the old engine becomes idle. -/
  | engineHandover (n : Nat)
  /-- PLACE_REBIND (R100): At its next item boundary after activation, a rebound place halts its engine, goes down with REBINDING and is reloaded. -/
  | placeRebind (n : Nat)
  /-- REBIND_COMPLETE (R100): The rebound place comes up within 10 ms unless its bus is found lost. -/
  | rebindComplete (n : Nat) (busLost : Bool)
  /-- I2C_BUS_TEST (R140): The I2C binding tests SDA every 100 ms, clocking, resetting and taking the port down or up. -/
  | i2cBusTest (n : Nat) (low0 low1 low2 : Bool)
  /-- DISCRETE_EDGE (R155): A sampled edge or level change on a discrete line updates its point, counter or period, or places an edge item. -/
  | discreteEdge (line : Nat) (level : Bool)
  /-- DEBOUNCE_STABLE (R152): A new level in debounced mode has stayed stable for the set time and the point is written. -/
  | debounceStable (line : Nat) (level : Bool)
  /-- DIO_REFRESH (R154): At each refresh the discrete block writes mode 1 to 5 points and reads back mode 6 output lines. -/
  | dioRefresh (differ : List Nat)
  /-- DIO_COMMAND (R157): An output command passing the write checks is applied to the line within 2 µs, or fails at once with PORT_DOWN. -/
  | dioCommand (line : Nat)
  /-- DIO_READBACK (R157): After the settle time the line is read back, and the command is confirmed or fails with FIELD_REJECTED. -/
  | dioReadback (line : Nat) (pin : Bool)
  /-- PWM_PERIOD_BOUNDARY (R156): A PWM period ends and a new duty or period takes effect. -/
  | pwmPeriodBoundary (line : Nat)
  /-- DIO_WDOG_KICK (R161): A write of DIO_WDOG.KICK restarts the output watchdog and ends its expired cause. -/
  | dioWdogKick (by_ : Writer) (v : Word)
  /-- DIO_LINE_CONFIG (R152): A MODE and VALUE pair of a discrete line is applied, or ignored with CFG_REJECT where reserved or out of range. -/
  | dioLineConfig (by_ : Writer) (line : Nat) (cfg par : Word)
  /-- DIO_SPARE_STANDIN (R162): A spare line's EN = 1 pair takes over the replaced line's configuration, state and points between two samples. -/
  | dioSpareStandin (by_ : Writer) (k line : Nat)
  /-- DIO_SPARE_RETURN (R162): A write of EN = 0 returns the replaced line's configuration, state and points between two samples. -/
  | dioSpareReturn (by_ : Writer) (k : Nat)
  /-- ANA_WINDOW_END (R171): An averaging window ends and the channel writes mean, minimum and maximum points. -/
  | anaWindowEnd (ch : Nat) (volts : List Int)
  /-- ANA_CHCFG_WRITE (R168): A write of ANA_CHCFGn changes rate, filter, gain or enable, or is refused for a disallowed RATE and FILTER. -/
  | anaChcfgWrite (by_ : Writer) (ch : Nat) (v : Word)
  /-- OPEN_SENSOR_CHECK (R174): The periodic open-sensor pulse tests a channel and writes SENSOR_FAULT or clears OPEN. -/
  | openSensorCheck (ch ohms : Nat)
  /-- CONVERTER_FAULT (R175): A converter self-check failure writes CONVERTER_FAULT points, sets CAUSE and raises fault source 473 + v ÷ 4. -/
  | converterFault (cv cause : Nat)
  /-- ROTATION_CHECK_END (R176): The 20 ms short and reference measurement ends and the converter is recalibrated and steered back, or fenced. -/
  | rotationCheckEnd (short ref : Int) (offset gain : Word)
  /-- STEER_START (R177): A write of ANA_CHSELn.CONV connects a new converter in parallel with the old, or is refused. -/
  | steerStart (by_ : Writer) (ch cv : Nat)
  /-- STEER_SWITCH (R177): After settling and comparison the new converter takes over at a sample boundary and the old becomes idle. -/
  | steerSwitch (ch : Nat) (pairs : List (Int × Int))
  /-- PORT_ENABLE (R191): A write of RGx_PHY_CTLj.EN starts a port training from detection, or takes it down. -/
  | portEnable (by_ : Writer) (p : Nat) (en : Bool)
  /-- RETRAIN (R194): A write of RETRAIN = 1 takes the link down and trains again. -/
  | retrain (by_ : Writer) (p : Nat)
  /-- TRAINING_COMPLETE (R191): Copper training ends with the link up at the qualified rate, or down with WIRING or RATE_LOW. -/
  | trainingComplete (p : Nat) (r : TrainEnd)
  /-- DETECTION_RETRY (R191): After WIRING every 1 s, or after RATE_LOW every 10 s, the port starts detection again. -/
  | detectionRetry (p : Nat)
  /-- INFO_FIELD_RX (R190): A LINK control block or keep-alive signalling carries the far end's information field, accepted after two identical copies. -/
  | infoFieldRx (p : Nat) (info : BitVec 48)
  /-- LINK_DOWN (R257): A link goes down; its egress queues are flushed, frames cut through are stomped and training restarts. -/
  | linkDown (p : Nat) (c : DownCause)
  /-- LINK_UP (R258): A link comes up with empty egress queues and takes part in forwarding. -/
  | linkUp (p : Nat)
  /-- LINK_DEGRADED (R193): Margin below DEG_MARGIN for 1 s, or uncorrectable codewords in 3 consecutive seconds, raises the degraded fault source. -/
  | linkDegraded (p margin corrected uncorrectable : Nat)
  /-- KEEPALIVE_SHIFT (R460): A port receiving SHIFT = 1 shifts to keep-alive at the next codeword boundary. -/
  | keepaliveShift (p : Nat)
  /-- KEEPALIVE_EXIT (R196): A port leaves keep-alive and retrains fast at its former rate, or fully. -/
  | keepaliveExit (p : Nat) (fast : Bool)
  /-- MODULE_INSERTED (R199): MODABS low for 100 ms leads the port to read the module ID and enable or refuse the transmitter. -/
  | moduleInserted (p : Nat) (id : List Nat)
  /-- MODULE_FAULT (R201): MODABS or TXFLT going high disables the transmitter and takes the link down with MODULE. -/
  | moduleFault (p : Nat) (absent : Bool)
  /-- DDM_POLL (R200): Once every 1 s the port reads the module diagnostics and alarm flags. -/
  | ddmPoll (p : Nat) (r : Option (List Nat × Nat))
  /-- OPTICAL_LINK_UP (R201): RXLOS low, block lock for 1 ms and a passing wiring check bring an optical link up. -/
  | opticalLinkUp (p : Nat)
  /-- IR_START (R204): An insulation measurement starts on START or its period, when the conditions of rule R204 hold. -/
  | irStart (p : Nat) (written : Bool)
  /-- IR_GUARD_RETRY (R202): A failed guard check waits 1 s to 10 s and tries again, ending DEFERRED after 3 tries. -/
  | irGuardRetry (p : Nat)
  /-- IR_COMPLETE (R203): The measurement ends, writes RGx_IR_RESj and applies the alarm and trend tests. -/
  | irComplete (p kohm : Nat)
  /-- TDR_START (R207): A write of RGx_TDR_CTLj.START begins reflectometry, sending QUIET and taking the link down under FORCE, or is refused. -/
  | tdrStart (by_ : Writer) (p : Nat) (v : Word)
  /-- TDR_SILENCE (R207): 1 ms of silence begins the pulses, or 20 ms without it fails the run with NOISY. -/
  | tdrSilence (p : Nat) (quiet : Bool)
  /-- TDR_COMPLETE (R207): Reflection results are written, QUIET = 0 is sent and training starts. -/
  | tdrComplete (p : Nat) (refl : List (Nat × Int))
  /-- QUIET_RECEIVED (R208): A port receiving QUIET = 1 stops sending and its link goes down with TDR. -/
  | quietReceived (p : Nat)
  /-- QUIET_TIMEOUT (R208): After 100 ms of QUIET without QUIET = 0 the port starts detection. -/
  | quietTimeout (p : Nat)
  /-- BYP_HOLD_EN_WRITE (R213): HOLD_EN = 1 starts insertion by self-training; HOLD_EN = 0 takes the links down and BYPx_HOLD low. -/
  | bypHoldEnWrite (by_ : Writer) (x : Nat) (v : Word)
  /-- SELF_TRAIN_DONE (R213): Both ports come up through the local loop and BYPx_HOLD goes high. -/
  | selfTrainDone (x rateE rateW : Nat)
  /-- SELF_TRAIN_FAIL (R214): Self-training fails within 1 s, raises the training fault source and is retried every 10 s. -/
  | selfTrainFail (x : Nat)
  /-- BYPASS_SETTLE (R214): SETTLE after energising, the position is checked and ports start detection, or the pair is locked out. -/
  | bypassSettle (x : Nat) (sense : Bool)
  /-- AUTO_DROP (R215): Both ports of an inserted pair down for longer than DROP_TIME drop the bypass and restart insertion, locking out after 3 drops. -/
  | autoDrop (x : Nat)
  /-- FRAME_TRANSIT (R236): A received frame is checked, forwarded cut-through or stored, stripped or delivered, and stomped where bad. -/
  | frameTransit (p : Nat) (f : RxFrame)
  /-- EGRESS_FRAME_END (R292): At a frame boundary a ring egress port chooses its next frame by class priority and weighted round robin. -/
  | egressFrameEnd (p : Nat)
  /-- EDITION_MISMATCH_CHECK (R406): Neighbour beacons carrying another edition for 1 s raise fault source 518 and send EDITION_MISMATCH. -/
  | editionMismatchCheck (p : Nat)
  /-- READ_REQ (R68): A received READ_REQ is served by the read server or failed with a cause, and answered. -/
  | readReq (ecc : List (Nat × Ecc))
  /-- WRITE (R70): A received WRITE is checked and applied directly, passed to a command queue, or failed by deferred-failure report, and acknowledged. -/
  | write (ecc : Ecc)
  /-- DLY_REQ (R263): A received DLY_REQ is answered with DLY_RESP carrying the turnaround. -/
  | dlyReq (p sq turnaround : Nat)
  /-- DLY_RESP (R263): A received DLY_RESP yields one link delay measurement for averaging. -/
  | dlyResp (p sq turnaround elapsed : Nat)
  /-- DELAY_MEASURE_TIMER (R263): Every 1 ms a port sends DLY_REQ. -/
  | delayMeasureTimer (p : Nat)
  /-- ACK_TIMEOUT (R240): T_ack passes without acknowledgement; the frame is resent, or after 3 resends fails with NO_ACK. -/
  | ackTimeout (cls sq : Nat)
  /-- EVT_MARK_TIMER (R244): 1 ms after the last event to a destination, an EVT_MARK is sent. -/
  | evtMarkTimer (dest : Option Nat) (cls : Nat)
  /-- REPLAY_WAIT_EXPIRY (R245): 5 ms after a gap opens, the receiver places loss items and raises fault source 103. -/
  | replayWaitExpiry (src : Nat) (bcast : Bool) (cls : Nat)
  /-- BEACON_RETURN_TIMEOUT (R259): A beacon not returned by both directions within 5 ms clears CLOSED and raises fault source 100 or 101. -/
  | beaconReturnTimeout (x : Nat)
  /-- SEEDING_END (R235): 1 ms after both ports of a pair are up, seeding ends and delivery and origination begin. -/
  | seedingEnd (x : Nat)
  /-- BULK_ACK_TIMER (R247): 1 ms after the last frame received, the receiver sends BULK_ACK. -/
  | bulkAckTimer (src tid : Nat)
  /-- BULK_PROGRESS_TIMEOUT (R247): 5 ms without progress makes the sender restart from the acknowledged offset. -/
  | bulkProgressTimeout (tid : Nat) (opened : Option (Nat × List Word))
  /-- BULK_TIMEOUT (R247): 1 s without progress makes the sender send BULK_ABORT and fail the transfer. -/
  | bulkTimeout (tid : Nat)
  /-- SWEEP_SLOT (R250): At cycle start plus offset, an entry's sweep frames are built and sent back to back. -/
  | sweepSlot (entry : Nat) (ecc : List (Nat × Ecc))
  /-- SWEEP_LOST_CHECK (R246): At the start of an entry's next sweep the subscriber counts frames of the last sweep not received. -/
  | sweepLostCheck (node group : Nat)
  /-- COUPLER_CREDIT_WAIT (R256): Opposing READ_REQs waiting 10 µs for credits make the coupler answer the lower SRC with READ_RETRY. -/
  | couplerCreditWait (toFar : Bool)
  /-- QUEUE_PUSH (R280): A producer offers an item to a queue, which takes it or holds the handshake incomplete while full. -/
  | queuePush (qs : List Nat) (words : List Word)
  /-- QUEUE_PUSH_RESUME (R280): A queue gains room and a waiting push completes. -/
  | queuePushResume (q : Nat)
  /-- QUEUE_POP (R281): A consumer pops an item, checking tags and item check, or gets an underrun or idle cell. -/
  | queuePop (q : Nat) (chk : ItemCheck) (copies : List (Nat × Nat))
  /-- CELL_PATROL_VISIT (R276): The patrol tests one free cell and retires it with a spare where it shows an error. -/
  | cellPatrolVisit (cell : Nat) (bad linkBad : Bool)
  /-- SWQ_LIMIT_WRITE (R279): A write of SWQ_QCELn or SWQ_TRES is checked against cells in service and refused where the sum is too high. -/
  | swqLimitWrite (by_ : Writer) (off : Nat) (v : Word)
  /-- QUEUE_REBUILD (R484): The steward rebuilds each frozen queue or the free list within 10 ms of fault source 128. -/
  | queueRebuild (kept : List (Nat × Nat))
  /-- BAR0_ACCESS (R309): A BAR0 TLP accesses space 2, desk 0 or MSI-X locally without a ring frame. -/
  | bar0Access (a : BarAccess)
  /-- BAR2_WRITE (R311): A BAR2 write TLP becomes one posted fabric write, or a deferred failure where its window is closed. -/
  | bar2Write (k b : Nat) (data : List (Option Word)) (ecc : Ecc)
  /-- BAR2_READ (R312): A BAR2 read TLP becomes a local or remote fabric read. -/
  | bar2Read (k b n : Nat) (ecc : List (Nat × Ecc))
  /-- BAR2_READ_COMPLETE (R312): Every word of a BAR2 read has arrived, or it failed, and the TLP is completed. -/
  | bar2ReadComplete (id : Nat)
  /-- RD_LIMIT_EXPIRY (R312): A BAR2 read reaching RD_LIMIT completes with 0xFF or Completer Abort and raises fault source 580. -/
  | rdLimitExpiry (id : Nat)
  /-- SQ_TAIL_DOORBELL (R315): A write of HIF_SQs_TAIL makes the hub fetch descriptors up to TAIL. -/
  | sqTailDoorbell (sq : Nat) (v : Word)
  /-- DESCRIPTOR_FETCHED (R316): A fetched descriptor enters Q40 + s and starts, or completes ERR as invalid. -/
  | descriptorFetched (sq : Nat) (bytes : List Nat)
  /-- DMA_READ (R317): A READ descriptor reads fabric words into host memory and completes DONE or ERR. -/
  | dmaRead (sq : Nat) (ecc : List (Nat × Ecc))
  /-- DMA_WRITE (R317): A WRITE descriptor fetches data and sends one fabric write, completing DONE when handed on. -/
  | dmaWrite (sq : Nat) (data : List Word) (ecc : Ecc)
  /-- DMA_FETCH (R317): A FETCH descriptor pops whole items from its queue into a host buffer. -/
  | dmaFetch (sq : Nat)
  /-- FETCH_WAIT_RESUME (R317): A FETCH with WAIT = 1 finds an item present and proceeds. -/
  | fetchWaitResume (sq : Nat)
  /-- DMA_FENCE (R317): A FENCE completes when every earlier descriptor of its ring has completed. -/
  | dmaFence (sq : Nat)
  /-- DMA_HOST_READ_FAIL (R331): A failed DMA read of host memory fails its descriptor and raises fault source 579. -/
  | dmaHostReadFail (sq : Nat) (descriptor : Bool) (hostErr : Nat)
  /-- CQ_HEAD_DOORBELL (R320): A write of HIF_CQc_HEAD releases completion entries to the hub. -/
  | cqHeadDoorbell (c : Nat) (v : Word)
  /-- CQ_SIGNAL (R323): THR entries or TIMER elapsed makes a completion ring signal its interrupt vector. -/
  | cqSignal (c : Nat)
  /-- CQ_FULL_TIMEOUT (R321): A completion ring full for 100 ms raises fault source 581. -/
  | cqFullTimeout (c : Nat)
  /-- MSIX_UNMASK (R325): Unmasking a vector with its pending bit set sends the message. -/
  | msixUnmask (vec : Nat)
  /-- PCIE_LINK_RESET (R332): Link-down, hot reset or FLR disables every ring and window and closes the desk 0 session. -/
  | pcieLinkReset (kind : LinkReset)
  /-- PCIE_ERROR (R330): A PCI Express error is reported through AER and may raise fault source 577 or 578. -/
  | pcieError (kind : PcieError)
  /-- DESK_WRITE (R347): The status stage of a DESK_WRITE completes and its words are written to desk 1 and the doorbell rung, or it is NAKed while busy. -/
  | deskWrite (first : Nat) (words : List Word) (ecc : Ecc)
  /-- DESK_READ (R346): A DESK_READ returns desk 1 response words as they stand. -/
  | deskRead (first n : Nat) (ecc : Ecc)
  /-- EP2_OUT_TRANSFER (R348): A complete EP2 OUT transfer places one item in Q64, or is discarded and halts the endpoint. -/
  | ep2OutTransfer (bytes : List Nat) (ecc : Ecc)
  /-- EP2_IN_TRANSFER (R349): An item in Q65 is sent as one EP2 IN transfer. -/
  | ep2InTransfer (ecc : Ecc)
  /-- EP1_NOTIFICATION (R350): A notification is queued and sent on EP1 IN at most once per 1 ms. -/
  | ep1Notification (ecc : Ecc)
  /-- USB_BUS_RESET (R359): A bus reset unconfigures the device function, flushes Q64 and Q65, stops the stream and resets the desk 1 session. -/
  | usbBusReset (high upstream : Bool)
  /-- USB_SETUP (R359): A SETUP abandons any control transfer in progress and starts a new one. -/
  | usbSetup (r : UsbRequest)
  /-- USB_RESUME (R362): Host resume is followed, remote wake abandoned if not begun, and USB_WAKE_REC written. -/
  | usbResume (hostK : Nat)
  /-- REMOTE_WAKE (R361): With remote wake enabled and 5 ms of suspend, the hub drives K for 2 ms for a pending cause. -/
  | remoteWake (src : Nat)
  /-- USB_CONNECT (R351): A write of USB_CTL.CONNECT checks endpoint memory and applies or removes the pull-up. -/
  | usbConnect (by_ : Writer) (connect : Bool)
  /-- USB_REATTACH (R344): A write of REATTACH detaches the device function from port 1 for 100 ms. -/
  | usbReattach (by_ : Writer)
  /-- USB_OVER_CURRENT (R340): OC_N low for OC_FILT removes port power, sets over-current status and raises fault source 591 + n. -/
  | usbOverCurrent (n lowAt : Nat)
  /-- SET_PORT_POWER (R340): SetPortFeature(PORT_POWER) restores port power only while OC_N is high. -/
  | setPortPower (n : Nat) (ocHigh : Bool)
  /-- SET_INTERFACE (R355): Selecting alternate 1 starts the audio stream; alternate 0 stops it at the next microframe. -/
  | setInterface (alt : Nat)
  /-- SET_CUR_FREQUENCY (R354): A SET CUR to the clock frequency other than 48,000 is stalled. -/
  | setCurFrequency (hz : Nat)
  /-- CLEAR_ENDPOINT_HALT (R359): ClearFeature(ENDPOINT_HALT) on EP2 OUT makes it take a new transfer. -/
  | clearEndpointHalt (e : Nat)
  /-- CORE_SELFTEST_END (R371): The self-test ends and the steward fences a core and restarts, restarts the same pair, or stops. -/
  | coreSelftestEnd (failA failB : Bool)
  /-- DESK_AREA_WRITE (R385): The owner writes a desk's command area or staging window, ignored with REJECT while BUSY. -/
  | deskAreaWrite (d u : Nat) (v : Word)
  /-- DESK_DOORBELL (R385): A write of RING = 1 sets BUSY and places an item in Q72 + d. -/
  | deskDoorbell (d : Nat)
  /-- DESK_DONE (R386): The steward writes the whole response, STATE goes DONE and the owner is signalled. -/
  | deskDone (d : Nat)
  /-- SESSION_IDLE_TIMEOUT (R389): A remote desk session 60 s without a command is closed and fault source 520 raised. -/
  | sessionIdleTimeout (d : Nat)
  /-- IDENTIFY (R392): Returns unit tag, hardware type, firmware, active edition and node identity. -/
  | identify (d : Nat)
  /-- SESSION_CLOSE (R389): Closes the session of the desk. -/
  | sessionClose (d : Nat)
  /-- LOCK (R390): Takes the configuration lock, or answers LOCKED_BY_OTHER. -/
  | lock (d : Nat)
  /-- UNLOCK (R390): Releases the configuration lock. -/
  | unlock (d : Nat)
  /-- STAGE_OPEN (R392): Opens a staging transfer of an edition, binding image or firmware volume. -/
  | stageOpen (d : Nat)
  /-- STAGE_COMMIT (R395): Copies staging window words to the stated image word offset. -/
  | stageCommit (d : Nat) (flashOk : Bool)
  /-- STAGE_CLOSE (R398): Checks the staged image and stores it, or answers EDITION_REFUSED or IMAGE_REFUSED. -/
  | stageClose (d : Nat) (flashOk : Bool)
  /-- STAGE_ABORT (R392): Abandons the open staging transfer. -/
  | stageAbort (d : Nat)
  /-- EDITION_ARM (R400): Computes the change set and arms an edition for ring time T. -/
  | editionArm (d : Nat)
  /-- EDITION_DISARM (R401): Disarms the armed edition until T − 10 ms, then answers ARM_LOCKED. -/
  | editionDisarm (d : Nat)
  /-- EDITION_ACTIVATE_NOW (R404): Activates an edition at once on a hub with no edition loaded. -/
  | editionActivateNow (d : Nat) (flashOk : Bool)
  /-- EDITION_STATUS (R392): Returns active, previous, staged and armed editions and T. -/
  | editionStatus (d : Nat)
  /-- GROUP_LIST (R392): Returns point numbers of a subscription group from a record index. -/
  | groupList (d : Nat)
  /-- POINT_FORCE (R393): Forces a local point to a value, or answers NOT_LOCAL, NOT_FORCEABLE or VALUE_RANGE. -/
  | pointForce (d : Nat)
  /-- POINT_RELEASE (R65): Releases a forced point, leaving it UNCERTAIN until the next source write. -/
  | pointRelease (d : Nat)
  /-- SPARE_SWAP (R479): Replaces a unit with a spare by the planned procedure and reports SPARE_CHANGED. -/
  | spareSwap (d : Nat)
  /-- UNIT_RETURN (R480): Tests a fenced unit and makes it a spare again, or puts a discrete line or ring pair back. -/
  | unitReturn (d : Nat) (passed : Bool) (offset gain : Word)
  /-- POWER_STATE (R444): Requests a power state by Desk command, draining and completing or refusing. -/
  | powerState (d : Nat)
  /-- VOLUME_STATUS (R516): Returns the state and versions of both firmware volumes. -/
  | volumeStatus (d : Nat)
  /-- VOLUME_ARM (R517): Arms a staged or standby volume for ring time T. -/
  | volumeArm (d : Nat)
  /-- VOLUME_COMMIT (R521): Commits a healthy trial volume, raising minima and revoking slots. -/
  | volumeCommit (d : Nat) (flashOk : Bool)
  /-- VOLUME_FALLBACK (R522): Ends a trial by returning to the old volume. -/
  | volumeFallback (d : Nat)
  /-- SETTINGS_GET (R525): Returns the value of a settings key. -/
  | settingsGet (d : Nat)
  /-- SETTINGS_SET (R525): Writes a settings key, programs or revokes an owner slot, or refuses. -/
  | settingsSet (d : Nat) (flashOk : Bool)
  /-- TIME_SET (R392): Steps the grandmaster's ring time. -/
  | timeSet (d : Nat)
  /-- TIME_EPOCH (R392): Reads or sets the TAI epoch kept in the settings shelf. -/
  | timeEpoch (d : Nat) (flashOk : Bool)
  /-- RESTART (R392): Restarts the steward or resets the hub after answering. -/
  | restart (d : Nat)
  /-- EDITION_ACTIVATION (R402): At T the armed edition's node table, Staged fields and change set take effect and slots are updated. -/
  | editionActivation (flashOk : Bool)
  /-- LATE_ACTIVATION (R405): A hub not running at T activates at its first chance, sets LATE and raises fault source 517. -/
  | lateActivation (flashOk : Bool)
  /-- FEED_STATE_CHANGE (R413): A feed voltage crossing a threshold moves the feed between ABSENT, UNDER, OVER and QUALIFYING. -/
  | feedStateChange (x v held : Nat)
  /-- FEED_QUALIFIED (R413): A feed qualifying for its time becomes GOOD and its ORing FET is driven. -/
  | feedQualified (x vfeed vnode : Nat)
  /-- ORING_REVERSE (R414): The common bus above FEEDx_IN by 15 mV turns the ORing FET off within 1 µs. -/
  | oringReverse (x vin bus : Nat)
  /-- ORING_FET_FAULT (R415): An open or shorted ORing FET condition held for its time raises fault source 12 + x. -/
  | oringFetFault (x vx vother bus held : Nat)
  /-- NODE_PHASE_CHANGE (R416): VNODE passing 50 % or reaching ON moves the node hot-swap to RAMP or ON. -/
  | nodePhaseChange (vfeed vnode : Nat) (enhanced : Bool)
  /-- FSC_CHECK_END (R423): V_out below 30 % ends CHECK into PRECHARGE, or 100 ms ends it in FET_SHORTED. -/
  | fscCheckEnd (n : Nat) (m : Sensed)
  /-- FSC_RAMP_START (R423): V_out passing 50 % opens the pre-charge switch and starts RAMP. -/
  | fscRampStart (n : Nat) (m : Sensed)
  /-- FSC_ON (R423): V_out within 2 % with the gate enhanced puts the channel ON. -/
  | fscOn (n : Nat) (m : Sensed) (enhanced : Bool)
  /-- FSC_TRIP (R426): A ramp window, overcurrent or fast trip turns the channel off, counts a trip and enters RETRY or LATCHED. -/
  | fscTrip (n : Nat) (cause : FscTrip) (m : Sensed) (held : Nat)
  /-- FSC_RETRY_EXPIRY (R426): The retry timer expires and the channel enters CHECK. -/
  | fscRetryExpiry (n : Nat)
  /-- FSC_CLEAR_TIMER (R427): ON without a break for CLEAR_T returns TRIPS to 0. -/
  | fscClearTimer (n : Nat)
  /-- FSC_PROBE (R429): A probe closes the pre-charge switch for 2 ms and tests presence. -/
  | fscProbe (n : Nat) (m : Sensed)
  /-- FSC_REMOVAL (R428): Removal of the field board turns the channel off and enters ABSENT. -/
  | fscRemoval (n : Nat) (pin : Bool) (m : Sensed) (held : Nat)
  /-- FSC_REINSERTION (R430): A sign of reinsertion moves the channel into DEBOUNCE. -/
  | fscReinsertion (n : Nat)
  /-- FSC_DEBOUNCE_END (R430): After 100 ms of presence the channel enters CHECK or OFF, clearing TRIPS after 2 s absence. -/
  | fscDebounceEnd (n : Nat)
  /-- FSC_FET_SHORT (R431): Current or voltage with the gate low enters FET_SHORTED and raises fault source 48 + n. -/
  | fscFetShort (n : Nat) (m : Sensed) (held : Nat)
  /-- FSC_EN_WRITE (R432): A write of FED_FSCn_CTL.EN turns the channel on or off. -/
  | fscEnWrite (by_ : Writer) (n : Nat) (en : Bool)
  /-- FSC_UNLATCH (R432): A write of UNLATCH returns a latched or cleared shorted channel to OFF. -/
  | fscUnlatch (by_ : Writer) (n : Nat) (m : Sensed)
  /-- FSC_HOLD_BEGIN (R432): A hold begins and a running channel turns off into OFF. -/
  | fscHoldBegin (n : Nat) (c : FscHold) (vin : Nat)
  /-- FSC_HOLD_END (R432): The last hold ends and an enabled channel enters CHECK. -/
  | fscHoldEnd (n : Nat) (c : FscHold) (vin : Nat)
  /-- PWR_REQ_GO (R443): A write of PWR_REQ.GO starts a power request, sends a wake order, or is refused. -/
  | pwrReqGo (by_ : Writer) (v : Word)
  /-- PWR_DOM_OFF_WRITE (R439): A write of PWR_DOM_OFF drains and turns a domain off, or powers it up. -/
  | pwrDomOffWrite (by_ : Writer) (v : Word)
  /-- WAKE_EVENT (R451): An enabled wake source wakes the hub, recording PWR_WAKE_LAST, and exits to AWAKE. -/
  | wakeEvent (active : List Nat) (failed : RetentionFound)
  /-- DOMAIN_ACK_TIMEOUT (R452): A domain not acknowledging power-up within 1 ms raises fault source 5. -/
  | domainAckTimeout (dom : Nat)
  /-- NIGHT_ORDER (R459): A received CELLARED or wake order is acted on according to the hub's state and kind. -/
  | nightOrder
  /-- FLT_FORCE_WRITE (R469): A write of FLT_FORCEi holds a source line active or ends the forced cause. -/
  | fltForceWrite (by_ : Writer) (i : Nat) (v : Word)
  /-- CNT_CLR (R475): A write of CNT_SELk.CLR sets counter k to 0. -/
  | cntClr (k : Nat) (v : Word)
  /-- ROW_REPLACE (R477): A row with repeated corrected errors is replaced within 1 ms and fault source 626 raised. -/
  | rowReplace (a row : Nat)
  /-- RINGB_STANDIN (R483): Ring B stands in for ring A by self-training, swapping bypasses and seeding. -/
  | ringbStandin (ph : StandinPhase)
  /-- CLAIM_ROUND (R488): A claim round is started on CLAIM_B, arbitrated on CLAIM_A and resolved at 6 µs. -/
  | claimRound (others : List Nat)
  /-- TWIN_HANDOVER_REQ (R489): A write of TWN_REQ.HANDOVER starts a planned hand-over. -/
  | twinHandoverReq (by_ : Writer)
  /-- EPOCH_ROLLOVER (R510): A sending port's frame count would pass its limit and a new epoch starts. -/
  | epochRollover (p : Nat)
  /-- EPOCH_KEY_READY (R511): A receiving port derives the key of a new epoch and begins accepting its frames. -/
  | epochKeyReady (p : Nat)
  /-- UNLOCK_TOKEN (R526): An unlock token presented on JTAG unlocks debug or is refused. -/
  | unlockToken (bytes : List Nat)
  /-- AON_RESET (R529): The AON rail reaching or leaving tolerance asserts or releases the AON reset. -/
  | aonReset (inTolerance : Bool)
  /-- CORE_RESET (R530): A core reset cause holds every domain except AON in reset. -/
  | coreReset (c : ResetCause)
  /-- CORE_RESET_RELEASE (R535): The core reset is released, straps are latched and the boot ROM runs. -/
  | coreResetRelease (straps : BitVec 9) (cores : List Nat) (flashOk : Bool)
  /-- READ_REISSUE (R256): After the random 1 µs to 16 µs wait that a READ_RETRY started, the source reissues its READ_REQ under its original SEQ with RETRY = 1. -/
  | readReissue (tag : Nat)
  /-- PCIE_LINK_UP (R532): PCI Express link training completes, HIF_STATUS.LINK_UP is set, and the desk 0 session can open. -/
  | pcieLinkUp (speed width : Nat)
  /-- CONFIG_REQUEST (R532): A PCI Express configuration request is answered with Configuration Request Retry Status until the hub is ready, and otherwise acts on the configuration space, including the entry to D3hot. -/
  | configRequest (c : CfgRequest)
  /-- ISO_IN_PACKET (R355): In each microframe of a running stream, the device function sends an EP3 packet of the whole sample frames placed since the last packet, and every fourth microframe an EP4 feedback packet. -/
  | isoInPacket (ecc3 ecc4 : Ecc)
  /-- STREAM_SAMPLE (R181): At each 48 kS/s output instant, the filter output of every streamed channel is placed in USB packet memory as part of a sample frame. -/
  | streamSample (volts : List Int)
  /-- RTM_TIME_READ (R271): A read of RTM_TIME0 returns ring time bits [23:0] and latches TIME1 and TIME2. -/
  | rtmTimeRead
  /-- SCRUB_PASS_END (R79): A scrub period ends; a pass not finished sets SCRUB_OVERRUN and raises fault source 217. -/
  | scrubPassEnd
  /-- ALARM_CHECK (R397): The steward takes an alarm-check item from Q208 and raises or clears limits and quality alarms for the point. -/
  | alarmCheck
  /-- DIO_WDOG_EXPIRY (R161): The output watchdog expires; every output line takes its safe state and fault source 472 is raised. -/
  | dioWdogExpiry
  /-- ROTATION_STEP (R176): Every CHECK_PER the rotation steers a converter's channel away and starts its check, or waits for an idle converter. -/
  | rotationStep
  /-- ROTATION_STALL (R176): After 10 × CHECK_PER of waiting, fault source 506 is raised. -/
  | rotationStall
  /-- AUDIO_PLL_UNLOCK (R180): The audio PLL unlocks; enabled channels write converter-check points and fault source 508 is raised. -/
  | audioPllUnlock
  /-- REFERENCE_FAULT (R180): The internal reference leaves tolerance; enabled channels write converter-check points and fault source 507 is raised. -/
  | referenceFault
  /-- IR_HOUR_ROLLOVER (R206): A clock hour of ring time ends and the insulation history shifts. -/
  | irHourRollover
  /-- SWEEP (R252): A received SWEEP is delivered to Q32 where subscribed and injected across a coupler per its ring set. -/
  | sweep
  /-- TIME_SYNC (R266): A received TIME_SYNC steers ring time, may step it, and is forwarded with added correction. -/
  | timeSync
  /-- TIME_ANNOUNCE (R262): A received TIME_ANNOUNCE enters grandmaster selection and is forwarded fabric-wide. -/
  | timeAnnounce
  /-- ACK (R240): A received ACK releases an unacknowledged frame of class 2, 5 or 6. -/
  | ack
  /-- NAK (R243): A received NAK fails the operation with its cause. -/
  | nak
  /-- BEACON (R259): A received BEACON is delivered, forwarded or returns to its originator for the CLOSED test. -/
  | beacon
  /-- CONTROL_OPEN (R388): A CONTROL OPEN message opens a session on a free desk 2 to 5 and is answered with a RESPONSE. -/
  | controlOpen
  /-- CONTROL_COMMAND (R388): A CONTROL COMMAND message writes command words and rings the desk doorbell. -/
  | controlCommand
  /-- CONTROL_RESPONSE (R386): A CONTROL RESPONSE message delivers a desk response to the remote initiator. -/
  | controlResponse
  /-- CONTROL_CLOSE (R389): A CONTROL CLOSE message closes the session, discarding its response and staging. -/
  | controlClose
  /-- REPLAY_REQ (R245): A received REPLAY_REQ resends held event frames or answers REPLAY_GONE. -/
  | replayReq
  /-- EVENT (R245): A received EVENT is delivered in sequence, or held and a replay requested where a gap is found. -/
  | event
  /-- DFR (R322): A received deferred-failure report becomes a host DFR entry or an item in Q80 + tag[15:13]. -/
  | dfr
  /-- EVT_MARK (R245): A received EVT_MARK reveals any gap in an event sequence and may start a replay request. -/
  | evtMark
  /-- REPLAY_GONE (R245): A received REPLAY_GONE ends the wait and places loss items for missing events. -/
  | replayGone
  /-- READ_RESP (R239): A received READ_RESP completes the read of its tag and later duplicates are discarded. -/
  | readResp
  /-- READ_ERR (R31): A received READ_ERR completes the read with its cause. -/
  | readErr
  /-- READ_RETRY (R256): A received READ_RETRY makes the source reissue its read after a random 1 µs to 16 µs. -/
  | readRetry
  /-- BULK_DATA (R247): A received BULK_DATA at the expected offset is taken and acknowledged every 16 frames. -/
  | bulkData
  /-- BULK_ACK (R247): A received BULK_ACK tells the sender the next offset expected. -/
  | bulkAck
  /-- BULK_ABORT (R247): A received BULK_ABORT fails the transfer with its cause. -/
  | bulkAbort
  /-- BEACON_TIMER (R259): Every 10 ms a numbered hub originates a BEACON, every 100th fabric-wide. -/
  | beaconTimer
  /-- TIME_SYNC_TIMER (R264): The grandmaster, or a coupler for its far ring, sends TIME_SYNC each sync interval. -/
  | timeSyncTimer
  /-- TIME_ANNOUNCE_TIMER (R262): Every 125 ms an eligible best candidate sends TIME_ANNOUNCE. -/
  | timeAnnounceTimer
  /-- GRANDMASTER_TIMEOUT (R262): No announce from the grandmaster in 375 ms changes grandmaster and raises fault source 108. -/
  | grandmasterTimeout
  /-- SYNC_HOLDOVER (R266): Three sync intervals without a usable TIME_SYNC set HOLDOVER or turn to the other coupler. -/
  | syncHoldover
  /-- OFFSET_ALARM (R266): Offset above 1 µs for 10 s raises fault source 109. -/
  | offsetAlarm
  /-- PPS_IN_EDGE (R269): A rising PPS_IN edge steers or steps the grandmaster's ring time and sets PPS_LOCKED. -/
  | ppsInEdge
  /-- PPS_MISSED (R269): Three missed PPS_IN edges clear PPS_LOCKED and raise fault source 110. -/
  | ppsMissed
  /-- PPS_OUT_PULSE (R269): At each whole second of ring time PPS_OUT goes high for WIDTH ms. -/
  | ppsOutPulse
  /-- DESCRIPTOR_STARVE (R280): No free descriptor for 1 ms raises fault source 135. -/
  | descriptorStarve
  /-- PCIE_PERST_RELEASE (R532): PCIE_PERST_N going high starts link training within 20 ms. -/
  | pciePerstRelease
  /-- USB_SUSPEND (R360): 3 ms of idle bus suspends the upstream port. -/
  | usbSuspend
  /-- REMOTE_WAKE_TIMEOUT (R362): No resume 10 ms after releasing K returns the hub to suspend and raises fault source 599. -/
  | remoteWakeTimeout
  /-- VBUS_LOST (R343): VBUS absent for 1 ms removes the pull-up and acts as a bus reset. -/
  | vbusLost
  /-- REATTACH_TIMER (R344): After 100 ms the device function is attached again and enumerated afresh. -/
  | reattachTimer
  /-- ISO_PACKET_MISSED (R356): An isochronous packet not collected in its microframe is discarded and counted. -/
  | isoPacketMissed
  /-- LOCKSTEP_MISMATCH (R370): Differing outputs of the pair halt both cores within 1 µs and raise fault source 512. -/
  | lockstepMismatch
  /-- RESTART_POINT (R372): The Archivist writes a restart point into shared memory at least every 1 ms. -/
  | restartPoint
  /-- ARM_LOCK (R401): At T − 10 ms the armed edition's state becomes LOCKED. -/
  | armLock
  /-- NODE_TRIP (R417): A window, safe-operating timer or fast trip turns the node off and starts the retry time. -/
  | nodeTrip (vfeed vnode sense held : Nat)
  /-- NODE_RETRY (R417): The 10 s node retry time expires and the hot-swap starts again. -/
  | nodeRetry
  /-- FEED_WARN_ASSERT (R420): FEED_WARN_N goes low, shedding channels and raising fault source 14. -/
  | feedWarnAssert (vnode held : Nat)
  /-- FEED_WARN_RELEASE (R419): 10 ms after its conditions hold, FEED_WARN_N is released. -/
  | feedWarnRelease (vnode held : Nat)
  /-- DRAIN_COMPLETE (R445): Every affected domain drains and the hub enters the requested state. -/
  | drainComplete
  /-- DRAIN_TIMEOUT (R456): The drain limit passes; the request is refused or forced to completion. -/
  | drainTimeout
  /-- PLL_LOCK_TIMEOUT (R452): The steward PLL not locked within 1 ms of wake keeps the FIRC and raises fault source 6. -/
  | pllLockTimeout (refclk : Bool)
  /-- ORDER_RESEND (R458): An order's originator resends it 10 ms apart, three times in all. -/
  | orderResend
  /-- XTAL_STOP (R462): The 32.768 kHz crystal stops and fault source 4 is raised. -/
  | xtalStop
  /-- FAULT_RAISE (R466): A Registrar cycle with raised sources records them and reacts at their severities. -/
  | faultRaise
  /-- FLT_FIRST_CLEAR (R474): A write of FLT_FIRST0.VALID = 1 clears the first-fault record and mask. -/
  | fltFirstClear
  /-- CNT_CLEAR_ALL (R475): A write of CNT_CTL.CLEAR_ALL sets every counter to 0. -/
  | cntClearAll
  /-- WEAR_HOUR_CHECK (R476): At each clock hour the Attic compares wear measures with thresholds and raises wear sources. -/
  | wearHourCheck
  /-- TWIN_HELLO (R487): A received TWIN_HELLO updates the peer's role, claim number and readiness. -/
  | twinHello
  /-- TWIN_HELLO_TIMER (R487): Every 1 ms each twin sends TWIN_HELLO. -/
  | twinHelloTimer
  /-- TWIN_PEER_LOST (R487): No TWIN_HELLO for 10 ms clears PEER_OK and raises fault source 620. -/
  | twinPeerLost
  /-- TWIN_HANDOVER (R489): A received TWIN_HANDOVER is answered OK by a ready peer, which becomes TAKING. -/
  | twinHandover
  /-- TWIN_HANDOVER_OK (R489): The releasing hub receives OK and proceeds toward H. -/
  | twinHandoverOk
  /-- TWIN_CANCEL (R489): No OK by H − 200 µs sends TWIN_CANCEL and raises fault source 623. -/
  | twinCancel
  /-- HANDOVER_PREPARE (R489): At H − 100 µs the taking hub writes shared points from its copy and sets output levels. -/
  | handoverPrepare
  /-- HANDOVER_TIME (R489): At H the taking hub enables its stages and the releasing hub disables them 15 µs later. -/
  | handoverTime
  /-- TWIN_CLAIM_IDLE (R490): A standby seeing no claim round for three intervals, or a withdrawn peer, takes over. -/
  | twinClaimIdle
  /-- TWIN_ROTATION (R491): HOURS reaching ROT_PER starts a hand-over, and overdue rotation raises fault source 622. -/
  | twinRotation
  /-- TWIN_BOTH_ACTIVE (R492): Both twins ACTIVE for 2 ms makes the lower claim number STANDBY and raises fault source 621. -/
  | twinBothActive
  /-- TRNG_FAIL (R500): A random source health test fails, clearing TRNG_OK and raising fault source 615. -/
  | trngFail
  /-- DEBUG_EXPIRY (R526): Debug locks again at the token's expiry. -/
  | debugExpiry
  /-- VOLUME_SWITCH (R518): At T the steward halts and the boot ROM starts the armed volume in trial. -/
  | volumeSwitch
  /-- VOLUME_HEALTHY (R520): The trial firmware meets every health condition and becomes HEALTHY. -/
  | volumeHealthy
  /-- TRIAL_DEADLINE (R521): At T + 30 s the trial commits automatically, or falls back where not healthy. -/
  | trialDeadline
  /-- AON_WATCHDOG_EXPIRY (R537): The 1 s watchdog expires, restarting the steward, entering recovery or falling back during trial. -/
  | aonWatchdogExpiry
  /-- ARCHIVIST_START (R540): The Archivist reads settings, restores state, enables ports and loads the active edition. -/
  | archivistStart
  /-- FIELD_START_TIMER (R545): 10 s after the Archivist's start, places, lines and channels are started without LOCKED. -/
  | fieldStartTimer
  /-- VBUS_DETECTED (R342): VBUS returning on USB_VBUS_DET with CONNECT at 1 applies the upstream pull-up again and attaches the device function. -/
  | vbusDetected
  /-- AUDIO_PLL_LOCK (R180): The audio PLL locks again, PLL_LOCK goes to 1, and the cause of fault source 508 ends. -/
  | audioPllLock
  /-- REFERENCE_RESTORED (R180): The internal reference returns within tolerance, REF_OK goes to 1, and the cause of fault source 507 ends. -/
  | referenceRestored
  /-- TRNG_HEALTHY (R500): The random source passes its health tests, TRNG_OK goes to 1, and the cause of fault source 615 ends. -/
  | trngHealthy
deriving DecidableEq, Repr

end Sys2Proof
end

