-- ==== Sys2Proof/Machine/State.lean ====
section
/-! DEFINITION. The state of the SV-9624 as plain data, its reset, and the two ways a step can stop.
Every array of units, and every memory, is a sparse table over its reset contents (Machine/Tab.lean): an instance that
stands at its reset value is not listed. Fields the spec does not name are the model's own, and say so. -/

namespace Sys2Proof.Machine

/-! ### The archive (02) -/

/-- State of a point (R45, Table 3). -/
inductive PSt where
  | good | uncertain | bad | noValue
deriving DecidableEq, Repr

/-- Reason of a point's quality (R45, Table 3). -/
inductive Reason where
  | none | commsFail | outOfRange | writeFailed | retentionLost | converterFault | fromTwin | sensorFault
deriving DecidableEq, Repr

/-- A Stacks record (R42, R45): W0, the quality byte's fields and the 40-bit timestamp. -/
structure Rec where
  w0 : Word
  st : PSt
  stale : Bool
  forced : Bool
  changed : Bool
  reason : Reason
  time : Nat
deriving DecidableEq, Repr

/-- Whether a Catalogue record is loaded, marked not loaded (R85), or uncorrectable (R77). -/
inductive CatMark where
  | loaded | notLoaded | bad
deriving DecidableEq, Repr

/-- A Catalogue record (R52): its three words and its mark. -/
structure Cat where
  w0 : Word
  w1 : Word
  w2 : Word
  mark : CatMark
deriving DecidableEq, Repr

/-- A Stacks record as reset or a bank taken into use leaves it (R51 Table 4, R58). -/
def Rec.empty (r : Reason) (t : Nat) : Rec := ⟨0, .noValue, false, false, true, r, t⟩

/-- A Catalogue record not loaded. -/
def Cat.none : Cat := ⟨0, 0, 0, .notLoaded⟩

/-- What the steward holds of one point's alarm set (R397): limits entered, whether the quality alarm matches, and the
quality byte [7:5] it last sent for. -/
structure AlarmSt where
  entered : List Nat
  qmatch : Bool
  qlast : Option Nat
deriving DecidableEq, Repr

/-- Which record the scrubber visits next (R79). -/
structure ScrubPos where
  bank : Nat
  cat : Bool
  index : Nat
  /-- when the period in progress began, while the scrubber runs; its length in ns, whether its pass has finished, whether it
  has overrun -/
  began : Option Nat
  period : Nat
  finished : Bool
  overran : Bool
deriving DecidableEq, Repr

/-- The archive. Records are keyed 262,144 × physical bank + index. -/
structure Archive where
  recs : Tab Rec
  cats : Tab Cat
  /-- what an unlisted Stacks record of banks 0 to 4 holds -/
  fill : List Rec
  /-- how many of a record's 80 bits stand wrong, by 2 × its key + 0 in the Stacks, 1 in the Catalogue (R39, R77) -/
  flips : Tab Nat
  /-- banks whose contents an aborted copy left undefined (R86) -/
  undef : List Nat
  /-- the copy in progress: source and destination banks (R81) -/
  copy : Option (Nat × Nat)
  scrub : ScrubPos
  /-- corrected errors of the clock hour, by bank (R476) -/
  ceHour : Tab Nat
  /-- rows that have shown corrected errors in the last 24 h, newest first: bank, row, when (R477) -/
  ceRows : List (Nat × Nat × Nat)
  alarms : Tab AlarmSt
deriving DecidableEq, Repr

/-! ### The switch core (08) -/

/-- What an item holds: cell words, or a ring frame with its end code (R273, R274). -/
inductive Body where
  | words (l : List Word)
  | frame (f : Frame)
deriving DecidableEq, Repr

/-- What an item's cells are charged to (R278). -/
inductive Charge where
  | minimum (q : Nat)
  | transit (p : Nat)
  | deliver
  | shared
deriving DecidableEq, Repr

/-- An item (R273): its content, class, lane, references, tag, the mode its cells were written in, and its charge as a
list of (charge, cells); the chain of its cells, its length in cell words, its item check and its end code (R274). -/
structure Item where
  body : Body
  cls : Nat
  transit : Bool
  refs : Nat
  tag : Nat
  service : Bool
  charge : List (Charge × Nat)
  /-- the token bucket has been charged for it (R293) -/
  paid : Bool
  cells : List Nat
  length : Nat
  check : Nat
  fin : EndCode
deriving DecidableEq, Repr

/-- A push that waits for room (R280): the queues it enters and the item's body, class and lane. -/
structure PushWait where
  qs : List Nat
  body : Body
  cls : Nat
  transit : Bool
  /-- the place whose item waits for it (R106) -/
  place : Option Nat
deriving DecidableEq, Repr

/-- One port's arbitration state (R292): who served last in the weighted round, how many frames it has had, and the start
and line time of the class 7 window in ns. -/
structure Arb where
  cls : Nat
  given : Nat
  winStart : Nat
  bulkNs : Nat
deriving DecidableEq, Repr

/-- The switch core: items by allocation number, queues as lists of allocation numbers, oldest first. -/
structure Swq where
  items : Tab (Option Item)
  next : Nat
  queues : Tab (List Nat)
  last : Tab (Option Body)
  waits : List PushWait
  /-- since when no descriptor has been free, and whether source 135 has been raised for it (R280) -/
  starved : Option Nat
  starveRaised : Bool
  cellsIn : Nat
  /-- the free list: the next cell that has not been used since reset, cells returned or taken from the spares, oldest
  first, and cells retired (R275, R276) -/
  fresh : Nat
  back : List Nat
  retired : List Nat
  arb : Tab Arb
  /-- token bucket in bits (R293), at most 131,072 -/
  tokens : Nat
  /-- the free list is frozen (R285) -/
  freeFrozen : Bool
  /-- pops that wait for the release of a frozen queue, oldest first (R283) -/
  popWaits : List Nat
  /-- the patrol period, and the free cells visited in it (R276) -/
  patrolAt : Nat
  patrolled : List Nat
deriving DecidableEq, Repr

/-! ### Clerks (03, 04) -/

/-- A command item of Q96 + n (R112), or of a discrete line's command path (R157). -/
structure Cmd where
  handle : Nat
  value : Word
  node : Nat
  tag : Nat
  host : Bool
  force : Bool
deriving DecidableEq, Repr

/-- The item a place works on (R103). -/
inductive PlaceItem where
  /-- a poll transaction of a class, over these points -/
  | poll (k : Nat) (pts : List Nat)
  | command
  | unsolicited
  | housekeeping
deriving DecidableEq, Repr

/-- One class's cycle at a place (R104): when it started, the points left to poll in scan-list order, whether it has
started, the due time of the next cycle, when it became due, and poll items of other classes waited through (R105). -/
structure Cycle where
  started : Bool
  start : Nat
  left : List Nat
  due : Option Nat
  waited : Nat
deriving DecidableEq, Repr

/-- A place (R89, R103 to R111). -/
structure Place where
  /-- the item in progress, whether its work is done and its writes wait to be accepted (R106), when it began, attempts
  that have failed, when the present attempt began, the waits the device has announced, in ns (R121), and whether a command's
  write is accepted and its read-back goes on (R116) -/
  item : Option PlaceItem
  ended : Bool
  itemStart : Nat
  attempts : Nat
  attemptAt : Nat
  announced : Nat
  confirming : Bool
  /-- the last item was unsolicited input; units of it that wait, with their time in us, oldest first (R105, R134) -/
  lastUnsolicited : Bool
  unsolicited : List (Nat × Unsolicited)
  /-- commands taken since the last poll item (R105), and commands to run before scanning resumes (R110) -/
  sinceCmds : Nat
  upCmds : Nat
  /-- fresh cycles start after the last of them (R110) -/
  fresh : Bool
  cycles : Tab Cycle
  /-- when the hold timer runs out (R109) -/
  holdUntil : Option Nat
  failRun : Nat
  busLost : Bool
  /-- the place is being rebound; a rebind, or the removal of its binding, waits for the item boundary (R100) -/
  rebinding : Bool
  rebindDue : Bool
  removing : Bool
  /-- CAN FD: points with a frame since their last poll, and failed polls in a row, by point (R134) -/
  canSeen : List Nat
  canMiss : Tab Nat
  /-- started by the steward (R545) -/
  started : Bool
  /-- the engine that waits to take over at the next lead-class cycle boundary (R120) -/
  takeover : Option Nat
  /-- Live writes held for the item boundary (R103): offset, mask, value -/
  live : List (Nat × Nat × Nat)
  /-- next I2C bus test (R140) -/
  i2cDue : Nat
  /-- byte stream counters, by Table 2's numbers (R126), and entries into the error-passive state (R136) -/
  counts : Tab Nat
  passive : Nat
deriving DecidableEq, Repr

/-- An engine (R89): shadow counting has begun (R120), corrected errors of the clock hour (R476), halt asked for. -/
structure Engine where
  counting : Bool
  ceHour : Nat
  halting : Bool
deriving DecidableEq, Repr

/-! ### Discrete lines (04) -/

/-- What a line's pin is driven to: in PWM, high for so many 8 ns sample steps of so many. -/
inductive Drive where
  | highZ | low | high
  | pwm (high per : Nat)
deriving DecidableEq, Repr

/-- A discrete line's function, which a spare line's pin may carry (R162). -/
structure Line where
  /-- present level of the pin before INV, in mode 2 the stable one, in mode 3 the one that counts -/
  level : Bool
  /-- what its command drives, before INV -/
  drive : Drive
  /-- drives its SAFE state, or the state in which it entered mode 6 or 7 (R160, R548) -/
  safe : Bool
  /-- a command has been confirmed since it entered its mode (R548) -/
  confirmed : Bool
  /-- the commanded level or duty -/
  cmdVal : Nat
  /-- commands, oldest first; the first one is settling where `settling` says so -/
  cmds : List Cmd
  settling : Bool
  settleAt : Nat
  count : Nat
  /-- when the pin's level last changed; in mode 4, the last edge that was selected -/
  lastEdge : Option Nat
  /-- in mode 7, the period in force, in 8 ns units, and when it began (R156) -/
  pwmPer : Nat
  pwmAt : Nat
  /-- Live writes held for the item boundary (R12): mask and value -/
  live : List (Nat × Nat)
  /-- when the line entered its mode -/
  since : Nat
  period : Option Nat
  periodWritten : Nat
  deadUntil : Nat
  /-- the configured mode and parameter that wait for the start of R545 -/
  cfg : Option (Nat × Nat)
deriving DecidableEq, Repr

/-- The discrete block: line functions, clusters whose next edge item is marked LOST, when the watchdog was last
restarted and whether its cause persists, spare stand-ins (k, line), when the next refresh is due, and the lines that
differed at the last one. -/
structure Dio where
  lines : Tab Line
  lost : List Nat
  wdogAt : Nat
  wdogCause : Bool
  standins : List (Nat × Nat)
  refreshDue : Nat
  differ : List Nat
deriving DecidableEq, Repr

/-! ### Analog channels (05) -/

/-- Samples up to a ring time, in ns, were taken at a gain 2^`gain` under an OFFSET and a GAIN of R169. -/
structure CalSeg where
  upTo : Nat
  gain : Nat
  offset : Int
  scale : Nat
deriving DecidableEq, Repr

/-- An analog channel: the converter it is being steered to and since when (R177), its window, when its next open-sensor
check is due (R174), and whether a converter fault has stopped its windows (R175). -/
structure Chan where
  steerTo : Option Nat
  steerSince : Nat
  /-- the index of the window's first sample on the grid of R167 -/
  first : Nat
  /-- stretches of ring time, in ns, whose samples are excluded (R173) -/
  excl : List (Nat × Nat)
  /-- the calibration of samples up to the present, oldest first, where it has changed within a window (R169, R177) -/
  hist : List CalSeg
  openDue : Nat
  stopped : Bool
deriving DecidableEq, Repr

/-- The analog block: channels; the rotation's next converter, its phase (0 none, 1 steering away, 2 checking, 3 steering
back), the channel it steers, when its next step is due and since when a step has waited (R176); by converter, how far
OFFSET moved in the last check (R476) and the gain last used (R169). -/
structure Ana where
  chans : Tab Chan
  rotNext : Nat
  rotPhase : Nat
  rotChan : Option Nat
  rotDue : Nat
  rotWait : Option Nat
  /-- when the measurement of the converter under check began -/
  rotAt : Nat
  drift : Tab Nat
  gains : Tab Nat
  /-- channels enabled by the edition load that wait for the start of R545 -/
  enWait : List Nat
deriving DecidableEq, Repr


/-! ### Editions (11) -/

/-- A node table entry (11 Table 8, section 0x01). -/
structure NodeEnt where
  tag : Nat
  node : Nat
  ring : Nat
  far : Nat
  coupler : Bool
  shape : Nat
deriving DecidableEq, Repr

/-- A shelf list entry (R248, Table 7). -/
structure ShelfEnt where
  node : Nat
  group : Nat
  offset : Nat
  frames : Nat
  divider : Nat
  phase : Nat
  ringSet : Nat
deriving DecidableEq, Repr

/-- A shelf list (R248): cycle length in us, ring sets as masks of ring IDs, entries. -/
structure Shelf where
  cycle : Nat
  sets : List Nat
  entries : List ShelfEnt
deriving DecidableEq, Repr

/-- One limit of an alarm set (R397, Table 10). -/
structure Limit where
  kind : Nat
  cls : Nat
  route : Nat
  limit : Int
  hyst : Nat
deriving DecidableEq, Repr

/-- An alarm set (R397, Table 10). -/
structure AlarmSet where
  limits : List Limit
  onBad : Bool
  onNoValue : Bool
  onStale : Bool
  qcls : Nat
  qroute : Nat
deriving DecidableEq, Repr

/-- An event route (11 Table 8, section 0x08). -/
structure Route where
  nodes : List Nat
  bcast : Bool
deriving DecidableEq, Repr

/-- A binding image as the hub holds it (R96): its type, version, flags, security version, code and parameters. -/
structure Binding where
  typ : Nat
  major : Nat
  minor : Nat
  flags : Nat
  secVer : Nat
  digest : List Nat
  code : List Word
  params : List Word
deriving DecidableEq, Repr

/-- A place's placement (11 Table 8, section 0x42). -/
structure Placement where
  typ : Nat
  major : Nat
  minor : Nat
  group : Nat
  params : List (Nat × Word)
deriving DecidableEq, Repr

/-- An edition as parsed from its hub image (R394, 11 Tables 7 and 8). `sliced`: the node table holds this unit. -/
structure Edition where
  number : Nat
  secVer : Nat
  keyId : Nat
  nodes : List NodeEnt
  shelf : Shelf
  subs : List (Nat × List (Nat × Nat))
  scaling : Tab (List (Int × Int))
  alarms : Tab (Option AlarmSet)
  sevs : List Nat
  rights : List (Nat × Nat)
  routes : Tab Route
  library : List (Nat × Nat × Nat × List Nat)
  sliced : Bool
  cats : List (Nat × List Cat)
  places : List (Nat × Placement)
  regs : List (Nat × Nat × Nat)
  groups : List (Nat × List Nat)
deriving DecidableEq, Repr

/-! ### Ring protocol and ring time (07) -/

/-- A frame sent and not yet acknowledged (R240): its sequence, frame, last sending, resends so far. -/
structure Unacked where
  frame : Frame
  sentAt : Nat
  resends : Nat
  /-- copies that came back to this hub as ENTRY (R243) -/
  returned : Nat
deriving DecidableEq, Repr

/-- A duplicate window (R233): the highest SEQ seen, and which of it and the 63 below it were seen. -/
structure Window where
  h : Nat
  bits : Nat
deriving DecidableEq, Repr

/-- An event stream a receiver follows (R245, R580): the next event sequence to deliver, frames held ahead of it, and when
the gap opened. -/
structure Stream where
  next : Nat
  held : List Frame
  gapAt : Option Nat
  /-- one past the highest event sequence known to exist -/
  upTo : Nat
deriving DecidableEq, Repr

/-- An outgoing bulk transfer (R247): destination, words, offset acknowledged, offset sent, last progress. -/
structure BulkOut where
  dest : Nat
  words : List Word
  acked : Nat
  sent : Nat
  progress : Nat
  started : Nat
deriving DecidableEq, Repr

/-- An incoming bulk transfer (R247): the next offset expected, frames since the last BULK_ACK, last frame's time. -/
structure BulkIn where
  expect : Nat
  since : Nat
  last : Nat
  owed : Bool
deriving DecidableEq, Repr

/-- Who waits for a read (R68, R312, R317): a BAR2 read, or a descriptor of a submission ring. -/
inductive ReadFor where
  | bar2 (id : Nat)
  | dma (sq id : Nat)
deriving DecidableEq, Repr

/-- An outstanding remote read: who waits, its request, the index of its first word, its words, and when it is reissued
after a READ_RETRY (R256). -/
structure ReadOut where
  who : ReadFor
  frame : Frame
  wordsAt : Nat
  count : Nat
  retryDue : Option Nat
deriving DecidableEq, Repr

/-- A sweep tracked by a subscriber (R246): frames received of its last sweep, by index of first record. -/
structure SweepTrack where
  cycle : Nat
  got : List Nat
  /-- the ring time in ns at which the entry's next sweep starts -/
  due : Nat
deriving DecidableEq, Repr

/-- A grandmaster candidate heard (R262). -/
structure Candidate where
  node : Nat
  prio : Nat
  pps : Bool
  heard : Nat
deriving DecidableEq, Repr

/-- The ring protocol's state. -/
structure Ring where
  /-- next SEQ of each class (R231) -/
  seqs : Tab Nat
  /-- frames unacknowledged, oldest first, by class -/
  unacked : List Unacked
  /-- frames that wait for their class's window (R242), oldest first -/
  held : List Frame
  /-- duplicate windows of received frames, keyed 8 × SRC + class; by ring pair 0 and 1 -/
  dup : Tab (Option Window)
  /-- crossing windows of a coupler, keyed as `dup`, with 32,768 added for far to home (R234) -/
  cross : Tab (Option Window)
  /-- event sequences last sent, keyed 2 × dest + class − 3, broadcast as dest 4,096 (R244): next to send -/
  evNext : Tab Nat
  /-- when the last EVENT or DFR of a stream left, where no EVT_MARK has followed -/
  evMark : Tab (Option Nat)
  /-- the replay store, newest first, at most 256 (R244) -/
  replay : List Frame
  /-- streams received, keyed 4 × SRC + 2 × broadcast + class − 3 -/
  streams : Tab (Option Stream)
  /-- frames of classes taken for local delivery that are handled one by one, oldest first (model's own) -/
  rx : List Frame
  /-- one past the last cycle that a shelf entry has swept, by entry (R250) -/
  swept : Tab Nat
  readTags : Tab (Option ReadOut)
  nextTag : Nat
  beaconAt : Option Nat
  beaconCount : Nat
  beaconBack : List Nat
  beaconDue : Nat
  beaconSeq : Nat
  /-- neighbour's edition by port, and since when it has differed (R406) -/
  nbrEd : Tab (Option (Nat × Nat × Nat))
  nbrRaised : Bool
  bulkOut : Tab (Option BulkOut)
  bulkIn : Tab (Option BulkIn)
  sweeps : Tab (Option SweepTrack)
  /-- crossing credits in use toward the far and the home ring, and READ_REQs that wait for one (R255, R256) -/
  credFar : Nat
  credHome : Nat
  waitFar : List (Frame × Nat)
  waitHome : List (Frame × Nat)
  /-- frames this coupler injected of which one copy has come back: SRC, class and SEQ (R243) -/
  injBack : List (Nat × Nat × Nat)
  /-- origination stopped by a node ID conflict (R26) -/
  stopped : Bool
  /-- when the seeding of ring pair x ends (R235) -/
  seedEnd : Tab (Option Nat)
  /-- ring pair x has seeded since reset, MOTHBALLED or taking over -/
  seeded : Tab Bool
  /-- T_ack in ns by destination ring (R241) -/
  tack : Tab Nat
  /-- stomped and CRC-failed frames of the second in progress, by 2 × port + kind (R238) -/
  errSec : Tab Nat
  errSince : Nat
  /-- those of which the second's count has exceeded ERR_THR -/
  errRaised : List Nat
  /-- copies of repeated frames that a coupler has injected, each until its other copy comes: window key, SEQ, WEST
  (log 23) -/
  recross : List (Nat × Nat × Bool)
deriving DecidableEq, Repr

/-- Ring time (R261 to R269). -/
structure RTime where
  cands : List Candidate
  gm : Option Nat
  announceDue : Nat
  announceSeq : Nat
  syncSeq : Nat
  syncDue : Nat
  syncLast : Nat
  syncSeen : Tab (Option Nat)
  /-- offset above 1 us since (R266) -/
  offSince : Option Nat
  offRaised : Bool
  /-- the coupler whose TIME_SYNC is followed (R266) -/
  source : Option Nat
  /-- couplers crossed and priority of the last TIME_SYNC followed (R265) -/
  prevSync : Option (Nat × Nat)
  ppsLast : Option Nat
  ppsMissed : Nat
  /-- PPS_OUT is high until -/
  ppsHigh : Option Nat
  /-- latches of RTM_TIME1 and RTM_TIME2 (R271) -/
  latch1 : Word
  latch2 : Word
  everLocked : Bool
  /-- when a TIME_SYNC of the coupler that is not followed last came (R265) -/
  otherAt : Option Nat
  /-- the frequency learned from the source and the one steered now, in 2^-20 ns for each us, and the part of a ns that ring
  time has run ahead of its count (R266) -/
  freq : Int
  steer : Int
  frac : Nat
deriving DecidableEq, Repr

/-! ### Ring media (06) -/

/-- A ring port's hidden media state. -/
structure Port where
  /-- when detection starts again (R191) -/
  retryAt : Option Nat
  /-- the information field received once (R190) -/
  infoCand : Option Nat
  /-- the port is silent until then (R208) -/
  quietUntil : Option Nat
  /-- reflectometry: 0 none, 1 waiting for silence, 2 pulses; and since when (R207) -/
  tdrPhase : Nat
  tdrSince : Nat
  /-- xx_TXDIS (R199) -/
  txDis : Bool
  /-- insulation: failed tries, when the next try is due, when the last one fell due, one waits for its conditions, the
  lowest result of the clock hour (R202 to R206) -/
  irTries : Nat
  irRetry : Option Nat
  irLast : Nat
  irPend : Bool
  irMin : Nat
  /-- rate before keep-alive (R196) -/
  keptRate : Nat
  /-- SHIFT = 1 is sent (R195) -/
  shiftSent : Bool
  /-- an information field has been accepted since detection began (R190, R191) -/
  infoOk : Bool
  /-- the rate under training (R191 step 3) -/
  trainRate : Nat
  /-- coefficients of the last training are stored (R196) -/
  coeffs : Bool
  /-- since when the margin has been below DEG_MARGIN; the last second with an uncorrectable codeword, and how many such
  seconds in a row it ends (R193) -/
  lowSince : Option Nat
  uncSec : Nat
  uncRun : Nat
  /-- when the insulation try in progress began (R202) -/
  irSince : Nat
  /-- link delay measurements, newest first, at most 16 (R263) -/
  delays : List Nat
  dlySeq : Nat
  dlyOut : Option (Nat × Nat)
  dlyDue : Nat
  /-- the end of the frame in progress on the egress (R236) -/
  txUntil : Nat
deriving DecidableEq, Repr

/-- A bypass's hidden state (R212 to R216): times of the automatic drops, the end of SETTLE, when the present or next try of
self-training starts, since when both ports of the inserted pair are down, and the end of full drive. -/
structure Bypass where
  drops : List Nat
  settleAt : Option Nat
  trainAt : Nat
  downSince : Option Nat
  pullUntil : Nat
deriving DecidableEq, Repr

/-! ### PCI Express bridge (09) -/

/-- A descriptor in progress (R316). -/
structure Desc where
  id : Nat
  op : Nat
  irq : Bool
  wait : Bool
  htag : Nat
  addr : Nat
  count : Nat
  haddr : Nat
  hlen : Nat
  queue : Nat
  /-- its operation has been issued; words of a READ still to come -/
  issued : Bool
  left : Nat
  /-- how it has ended: TYPE, CAUSE and INFO of its completion entry -/
  fin : Option (Nat × Nat × Nat)
  /-- HIF_SQs_HEAD after it -/
  sqHead : Nat
deriving DecidableEq, Repr

/-- A completion entry waiting to be written (R320). -/
structure CqEnt where
  typ : Nat
  sq : Nat
  cause : Nat
  tag : Nat
  info : Nat
  time : Nat
  irq : Bool
  sqHead : Nat
deriving DecidableEq, Repr

/-- A submission ring's hidden state. -/
structure Sq where
  fetched : Nat
  descs : List Desc
deriving DecidableEq, Repr

/-- A completion ring's hidden state: phase, entries with IRQ since the last signal, when the first of them was written,
and since when it has been full. -/
structure Cq where
  phase : Bool
  irqs : Nat
  irqSince : Option Nat
  fullSince : Option Nat
  fullRaised : Bool
deriving DecidableEq, Repr

/-- A BAR2 read in progress (R312). -/
structure Bar2Read where
  win : Nat
  count : Nat
  began : Nat
  /-- words that have arrived, by index, and how many are still to come -/
  words : List (Nat × Word)
  left : Nat
  failed : Option Nat
deriving DecidableEq, Repr

/-- The PCI Express bridge. -/
structure Hif where
  sqs : Tab Sq
  cqs : Tab Cq
  /-- entries that wait in Q52 + c, oldest first, by ring -/
  cqWait : Tab (List CqEnt)
  reads : Tab (Option Bar2Read)
  nextRead : Nat
  nextDesc : Nat
  /-- MSI-X table, dword 4 × vector + i; masks reset set (log 10) -/
  msix : Tab (BitVec 32)
  /-- configuration space dwords that commands write -/
  cfg : Tab (BitVec 32)
  msixEn : Bool
  msixMask : Bool
  msiEn : Bool
  ready : Bool
  perst : Bool
  /-- a link reset has disabled rings or windows that were enabled: reports for the host are dropped (R332) -/
  hostGone : Bool
  corrSec : Nat
  corrSince : Nat
deriving DecidableEq, Repr

/-! ### USB (10) -/

/-- The control transfer in progress of the device function (R346, R347, R359): a DESK_WRITE whose data are held, or a
DESK_READ with the words as they stood when the SETUP arrived. -/
inductive UsbCtl where
  | deskWrite (first : Nat) (words : List Word)
  | deskRead (first : Nat) (words : List Word)
deriving DecidableEq, Repr

/-- The USB hub and device function. -/
structure Usb where
  ctl : Option UsbCtl
  /-- the hub part is configured (R339) -/
  hubConf : Bool
  /-- interfaces 1 and 2 were present at enumeration (R345) -/
  audio : Bool
  alt : Nat
  halted : List Nat
  notif : List Nat
  notifSent : Option Nat
  remoteWakeDev : Bool
  remoteWakeHub : Bool
  wakePending : Option (Nat × Nat)
  kDriven : Option Nat
  suspendAt : Option Nat
  reattachAt : Option Nat
  devAttached : Bool
  /-- sample frames placed in USB packet memory, oldest first; microframes of the stream so far; sample frames of the last
  1,024 microframes, newest first (R355, R357) -/
  frames : List (List Word)
  /-- the next output instant of the stream, as an index on the grid of RATE 15 (R181) -/
  streamAt : Nat
  microframe : Nat
  perFrame : List Nat
  dropSec : Nat
  dropSince : Nat
  hubPorts : Tab Nat
  lastNotif : Nat
deriving DecidableEq, Repr

/-! ### Steward, desks (11) -/

/-- A desk (R382 to R389). -/
structure Desk where
  /-- rights, node and number of the session that rang -/
  rights : Nat
  node : Nat
  sess : Nat
  cmd : Tab Word
  resp : Tab Word
  window : Tab Word
  reject : Bool
  sessionId : Nat
  lastCmd : Nat
  /-- the command has executed and its response is prepared: its words -/
  prepared : Option (List Word)
  discard : Bool
deriving DecidableEq, Repr

/-- A staging transfer (R392, R395). -/
structure Staging where
  desk : Nat
  kind : Nat
  id : Nat
  length : Nat
  words : Tab Word
deriving DecidableEq, Repr

/-- An armed edition (R400): its number, and T in ns of ring time. -/
structure Armed where
  number : Nat
  t : Nat
deriving DecidableEq, Repr

/-- The steward. -/
structure Steward where
  fencedCores : List Nat
  /-- halted for a takeover since (R370) -/
  haltedAt : Option Nat
  /-- halted by a volume switch or held in the boot ROM: not serving -/
  booted : Bool
  nextSession : Nat
  lock : Option Nat
  staging : Option Staging
  nextTransfer : Nat
  staged : Option Edition
  active : Option Edition
  previous : Option Edition
  /-- the edition in force (loaded), and the boot record's claim that ACTIVE is valid -/
  inForce : Option Edition
  armed : Option Armed
  library : List Binding
  ledger : Tab (List Word)
  shared : Tab Word
  /-- Catalogue reloads owed: keys and when they became due (R77) -/
  reloads : List Nat
  /-- what follows once a desk's response has been written: 0 a steward restart, 1 a hub reset, 2 a fallback -/
  afterDone : Option (Nat × Nat)
  /-- edition entries for Halted fields of a running block, owed at its next stop (R381): offset, mask, value -/
  owed : List (Nat × Nat × Nat)
  kickAt : Nat
  /-- the desk whose doorbell was taken last (R387) -/
  deskTurn : Nat
deriving DecidableEq, Repr

/-! ### Feeds and field supplies (12) -/

/-- A feed (R413 to R415). -/
structure Feed where
  qualSince : Nat
  /-- it qualifies for 100 ms, having been ABSENT or OVER before; otherwise for 1 ms -/
  long : Bool
  /-- its FET's fault that persists: 0 none, 1 open, 2 shorted (R415) -/
  fet : Nat
  /-- a QUALIFYING feed stands between 61.5 V and 63.0 V: its time starts again when it returns (R413) -/
  band : Bool
deriving DecidableEq, Repr

/-- A field supply channel (R423 to R432): phase start, retry due, end of the last probe, absent since, holds in force. -/
structure Fsc where
  since : Nat
  retryAt : Nat
  probed : Nat
  absentAt : Option Nat
  holds : List Nat
deriving DecidableEq, Repr

/-- Feeds, node hot-swap and channels. -/
structure Fed where
  feeds : Tab Feed
  /-- a node trip that AON has recorded and whose source is still to be raised (R417) -/
  tripOwed : Bool
  /-- when the node entered its phase (R416) -/
  nodeSince : Nat
  /-- the hold of R420 stands: FEED_WARN_N went low after the node was ON -/
  shedding : Bool
  retryAt : Option Nat
  warnClear : Option Nat
  fscs : Tab Fsc
deriving DecidableEq, Repr

/-! ### Power (13) -/

/-- A power request in progress (R443 to R445). -/
structure PowerReq where
  target : Nat
  force : Bool
  fabric : Bool
  limitUs : Nat
  began : Nat
  desk : Option Nat
  /-- it is an order that the hub acts on (R459) -/
  order : Bool
deriving DecidableEq, Repr

/-- Power states. -/
structure Pwr where
  req : Option PowerReq
  /-- the domains that a write of PWR_DOM_OFF drains, as its bits, and when the drain began (R439) -/
  domDrain : Option (Nat × Nat)
  /-- wake orders to resend: FORCE, how many are left, when the next is due (R458) -/
  orderLeft : Option (Nat × Nat × Nat)
  orderSeen : Tab Nat
  /-- orders that the ring ports have recognised, oldest first: ring, state ordered, FORCE (R459) -/
  orders : List (Nat × Nat × Nat)
  /-- an entry into SHELVED or CELLARED whose steps are still under way: D, when it is complete, the state left (Table 4) -/
  entry : Option (Nat × Nat × Nat)
  wakePend : List Nat
  pllAt : Option Nat
  domAt : Tab Nat
  canary : Bool
deriving DecidableEq, Repr

/-! ### Registrar, Attic and twins (14) -/

/-- An Attic action in progress (R478, R479): its kind, unit and spare, whether it is a planned swap, and whether the unit
is being taken back after a failed acceptance. -/
structure Swap where
  kind : Nat
  unit : Nat
  spare : Nat
  planned : Bool
  back : Bool
deriving DecidableEq, Repr

/-- The Registrar's lines and Attic. -/
structure Flt where
  /-- sources whose cause persists -/
  level : List Nat
  /-- sources raised by a momentary condition since the last Registrar cycle -/
  pulse : List Nat
  /-- sources active in the last Registrar cycle -/
  prev : List Nat
  /-- raises held while the steward does not run (R473), oldest first: source, time, w4 of the fault record -/
  heldRaises : List (Nat × Nat × Nat)
  /-- the Attic's actions in progress, and units that wait to be replaced: kind and unit -/
  attic : List Swap
  owed : List (Nat × Nat)
  /-- worn units whose source is raised: kind and unit (R476) -/
  worn : List (Nat × Nat)
  /-- units whose wear has raised its source in the present clock hour: kind and unit (R476) -/
  wornHour : List (Nat × Nat)
  /-- the clock hour of ring time last checked for wear (R476) -/
  wearHour : Nat
  /-- spare rows used, by array: the row map of the settings shelf (R477) -/
  rows : Tab Nat
deriving DecidableEq, Repr

/-- A planned hand-over (R489). -/
structure Handover where
  h : Nat
  taking : Bool
  ok : Bool
  prepared : Bool
  /-- the CAUSE of the role change it makes (Table 14) -/
  cause : Nat
deriving DecidableEq, Repr

/-- The twin pair (R486 to R492): the peer's last TWIN_HELLO, copies of the shared points by point, the hand-over in
progress, whether the output stages are enabled but for the claim bus, the 8 us interval of the last claim round, since when
both are ACTIVE, and the clock hour of the last role change. -/
structure Twin where
  peerRole : Nat
  peerClaim : Nat
  peerReady : Bool
  helloRx : Nat
  helloDue : Nat
  copies : Tab (Option Rec)
  handover : Option Handover
  stages : Bool
  roundAt : Nat
  bothSince : Option Nat
  hourStart : Nat
  overdue : Bool
deriving DecidableEq, Repr

/-! ### Identity and volumes (15), start-up (16) -/

/-- The one-time-programmable store (R498 to R503): unit tag, public key, certificate, key slots (hash, programmed,
revoked, use), and the nine anti-rollback minima. -/
structure KeySlot where
  hash : List Nat
  key : List Nat
  programmed : Bool
  revoked : Bool
  use : Nat
deriving DecidableEq, Repr

/-- A firmware volume (R514 to R516). -/
structure Volume where
  state : Nat
  version : Nat
  secVer : Nat
  settingsFmt : Nat
  revokeMask : Nat
  slot : Nat
  good : Bool
deriving DecidableEq, Repr

/-- The boot record (R534), but for the edition slots, which the steward's fields name: the running volume, whether it is in
trial, whether the other volume is STANDBY, and the highest reserved link epoch. -/
structure BootRec where
  running : Nat
  trial : Bool
  standby : Bool
  epoch : Nat
deriving DecidableEq, Repr

/-- A trial (R518 to R522): T in ns of ring time, AUTO_COMMIT, the ring pairs CLOSED at T, the edition active at T, and
whether it has written a setting. -/
structure Trial where
  t : Nat
  auto : Bool
  closed : List Nat
  edition : Option Nat
  wrote : Bool
deriving DecidableEq, Repr

/-- Security and volumes. -/
structure Sec where
  slots : Tab KeySlot
  minima : Tab Nat
  /-- link keys: epoch in use and frame count sent, epoch and count received, key ready, by port -/
  txEpoch : Tab Nat
  txCount : Tab Nat
  rxEpoch : Tab (Option Nat)
  rxCount : Tab (Option Nat)
  rxNew : Tab (Option Nat)
  epochNext : Nat
  /-- debug stays unlocked until this whole second of ring time (R526) -/
  debugUntil : Option Nat
  vols : Tab Volume
  /-- the boot record's valid copy -/
  record : Option BootRec
  /-- the armed volume, AUTO_COMMIT and T in ns (R517) -/
  volArmed : Option (Nat × Bool × Nat)
  trial : Option Trial
  /-- volumes whose settings shelf is readable -/
  shelves : List Nat
  /-- settings of both shelves, keyed 65,536 × volume + key (R523) -/
  settings : Tab (Option (List Word))
deriving DecidableEq, Repr

/-- Resets, boot and pins (16). -/
structure Boot where
  coreReset : Bool
  /-- causes of core reset that hold (R530) -/
  causes : List Nat
  /-- consecutive watchdog expiries before SERVING (R537) -/
  expiries : Nat
  /-- the Archivist's start, where field service waits for it (R545) -/
  startedAt : Option Nat
  fieldStarted : Bool
  /-- BOOT_FAIL_N is released -/
  bootFailN : Bool
  /-- the flash answers (R535) -/
  flash : Bool
  /-- REFCLK is there, as far as the steward's clock has shown (R532) -/
  refclk : Bool
  /-- when the last cause of core reset that shows began or ended (R529, R530) -/
  quietFrom : Nat
deriving DecidableEq, Repr

/-! ### What leaves the part, and the whole -/

/-- What leaves the part (log 6), appended as it leaves. -/
inductive Out where
  /-- a frame on the line of a port, with its end code, and the epoch and frame count of a protected hop (R506) -/
  | frame (port : Nat) (f : Frame) (fin : EndCode) (shield : Option (Nat × Nat))
  /-- a DLY_REQ or DLY_RESP block: port, response, sequence, turnaround -/
  | dly (port : Nat) (resp : Bool) (sq turnaround : Nat)
  /-- a LINK block with this information field -/
  | info (port : Nat) (f : BitVec 48)
  /-- a write to host memory: byte address, bytes, and Relaxed Ordering (R324) -/
  | hostWrite (addr : Nat) (bytes : List Nat) (relaxed : Bool)
  /-- a read of host memory: byte address and length -/
  | hostRead (addr len : Nat)
  /-- the message of a vector (MSI-X or MSI), or Assert_INTA -/
  | msi (vec : Nat)
  /-- a completion of a host read: success, and its dwords -/
  | completion (ok : Bool) (dwords : List (BitVec 32))
  /-- a configuration request answered with retry status -/
  | retryStatus
  /-- a message of the PCI Express error reporting, PM_PME or a training -/
  | pcie (kind : Nat)
  /-- a request of a place to its field device: the command's raw value -/
  | field (place : Nat) (raw : Int)
  /-- a CAN FD frame of a place: message table entry, and the raw value of each of its signals by object (R135) -/
  | can (place entry : Nat) (signals : List (Nat × Int))
  /-- a received byte-stream or outgoing byte stream frame of a place -/
  | bytes (place : Nat) (bs : List Nat)
  /-- a USB transfer, packet or handshake: endpoint, 0 data, 1 NAK, 2 STALL, 3 ACK; bytes, each value least significant
  byte first (R7) -/
  | usb (ep kind : Nat) (bytes : List Nat)
  /-- what a pop of a queue returns to its consumer (R281) -/
  | popped (q : Nat) (b : Body)
  /-- PPS_OUT has gone high -/
  | pps
  /-- a pulse or pattern of a measurement on a port -/
  | probe (port kind : Nat)
  /-- the response of the JTAG unlock -/
  | jtag (ok : Bool)
deriving DecidableEq, Repr

/-- One half-written or complete Paired pair (R377 to R379): its two member registers, what is held for each (bits named
by mask, and their value), and the time of the first write. -/
structure PairHold where
  offA : Nat
  offB : Nat
  maskA : Nat
  valA : Nat
  maskB : Nat
  valB : Nat
  since : Nat
deriving DecidableEq, Repr

/-- An event counter's 48-bit value and the latch of its high half (R475). -/
structure Counter where
  val : Nat
  latch : Nat
deriving DecidableEq, Repr

/-- The state of the machine. -/
structure State where
  /-- commands waiting, first in first out -/
  pending : List Instr
  /-- the hub's own time in ns, by which the spec's timers run (log 2) -/
  clk : Nat
  /-- ring time in ns, 64 bits (R261) -/
  ringNs : Nat
  /-- remainder of switch core clock cycles of the tick, in quarters (log 2) -/
  cyc : Nat
  /-- how many free values have been drawn (log 3) -/
  draw : Nat
  /-- what has left the part, newest first (log 6) -/
  out : List Out
  /-- registers of space 2 and their windows, by word offset -/
  regs : Tab Word
  /-- staged copies of Staged fields: bits held, by mask, and their value (R375) -/
  staged : Tab (Nat × Nat)
  /-- half-written pairs (R377) -/
  pairs : List PairHold
  /-- complete pairs that wait for their item boundary (R377) -/
  ready : List PairHold
  /-- event counters (R475) -/
  cnts : Tab Counter
  stk : Archive
  swq : Swq
  places : Tab Place
  engines : Tab Engine
  dio : Dio
  ana : Ana
  ports : Tab Port
  byps : Tab Bypass
  ring : Ring
  rtime : RTime
  hif : Hif
  usb : Usb
  desks : Tab Desk
  stw : Steward
  fed : Fed
  pwr : Pwr
  flt : Flt
  twin : Twin
  sec : Sec
  boot : Boot
deriving DecidableEq, Repr

/-- Why the machine stops with a fault. -/
inductive Fault where
  /-- A command names a unit that the part does not have (place 104, port 4, line 272); raised by every meaning that takes
  an index. Safe: WellFormed.lean refuses the command, and the spec has no such unit. -/
  | noSuchUnit
deriving DecidableEq, Repr

/-- Why a command has no meaning. -/
inductive Refusal where
  /-- A command whose meaning the model does not hold; raised by no arm of the finished dispatch. Safe. -/
  | notModelled (mnemonic : String)
deriving DecidableEq, Repr

/-! ### Reset -/

def AlarmSt.init : AlarmSt := ⟨[], false, none⟩
def Arb.init : Arb := ⟨4, 0, 0, 0⟩
def Cycle.init : Cycle := ⟨false, 0, [], none, 0⟩
def Place.init : Place :=
  ⟨none, false, 0, 0, 0, 0, false, false, [], 0, 0, false, [], none, 0, false, false, false, false, [], [], false, none, [], 0, [], 0⟩
def Engine.init : Engine := ⟨false, 0, false⟩
def Line.init : Line :=
  ⟨false, .highZ, false, false, 0, [], false, 0, 0, none, 0, 0, [], 0, none, 0, 0, none⟩
def Chan.init : Chan := ⟨none, 0, 0, [], [], 0, false⟩
def Port.init : Port :=
  ⟨none, none, none, 0, 0, true, 0, none, 0, false, 0xFFFFFF, 0, false, false, 0, false, none, 0, 0, 0, [], 0, none, 0, 0⟩
def Bypass.init : Bypass := ⟨[], none, 0, none, 0⟩
def Sq.init : Sq := ⟨0, []⟩
def Cq.init : Cq := ⟨true, 0, none, none, false⟩
def Desk.init : Desk := ⟨0, 0, 0, [], [], [], false, 0, 0, none, false⟩
def Feed.init : Feed := ⟨0, true, 0, false⟩
def Fsc.init : Fsc := ⟨0, 0, 0, none, []⟩
def KeySlot.init : KeySlot := ⟨[], [], false, false, 0⟩
def Volume.init : Volume := ⟨0, 0, 0, 0, 0, 0, false⟩
def Counter.init : Counter := ⟨0, 0⟩

/-- Reset of the archive: every record as Table 4's hub reset leaves it at time 0, nothing loaded (R51, R58). -/
def Archive.init : Archive where
  recs := []
  cats := []
  fill := List.replicate 5 (Rec.empty .none 0)
  flips := []
  undef := []
  copy := none
  scrub := ⟨0, false, 0, none, 2000000000, false, false⟩
  ceHour := []
  ceRows := []
  alarms := []

/-- Reset of the switch core: 15,565 cells in service, nothing held (R272). -/
def Swq.init : Swq where
  items := []
  next := 0
  queues := []
  last := []
  waits := []
  starved := none
  starveRaised := false
  cellsIn := 15565
  fresh := 0
  back := []
  retired := []
  arb := []
  tokens := 131072
  freeFrozen := false
  popWaits := []
  patrolAt := 0
  patrolled := []

def Dio.init : Dio := ⟨[], [], 0, false, [], 0, []⟩
def Ana.init : Ana := ⟨[], 0, 0, none, 0, none, 0, [], [], []⟩

def Ring.init : Ring where
  seqs := []
  unacked := []
  held := []
  dup := []
  cross := []
  evNext := []
  evMark := []
  replay := []
  streams := []
  rx := []
  swept := []
  readTags := []
  nextTag := 0
  beaconAt := none
  beaconCount := 0
  beaconBack := []
  beaconDue := 0
  beaconSeq := 0
  nbrEd := []
  nbrRaised := false
  bulkOut := []
  bulkIn := []
  sweeps := []
  credFar := 0
  credHome := 0
  waitFar := []
  waitHome := []
  injBack := []
  stopped := false
  seedEnd := []
  seeded := []
  tack := []
  errSec := []
  errSince := 0
  errRaised := []
  recross := []

def RTime.init : RTime where
  cands := []
  gm := none
  announceDue := 0
  announceSeq := 0
  syncSeq := 0
  syncDue := 0
  syncLast := 0
  syncSeen := []
  offSince := none
  offRaised := false
  source := none
  prevSync := none
  ppsLast := none
  ppsMissed := 0
  ppsHigh := none
  latch1 := 0
  latch2 := 0
  everLocked := false
  otherAt := none
  freq := 0
  steer := 0
  frac := 0

def Hif.init : Hif where
  sqs := []
  cqs := []
  cqWait := []
  reads := []
  nextRead := 0
  nextDesc := 0
  msix := []
  cfg := []
  msixEn := false
  msixMask := false
  msiEn := false
  ready := false
  perst := false
  hostGone := false
  corrSec := 0
  corrSince := 0

def Usb.init : Usb where
  ctl := none
  hubConf := false
  audio := false
  alt := 0
  halted := []
  streamAt := 0
  notif := []
  notifSent := none
  remoteWakeDev := false
  remoteWakeHub := false
  wakePending := none
  kDriven := none
  suspendAt := none
  reattachAt := none
  devAttached := false
  frames := []
  microframe := 0
  perFrame := []
  dropSec := 0
  dropSince := 0
  hubPorts := []
  lastNotif := 0

def Steward.init : Steward where
  deskTurn := 7
  fencedCores := []
  haltedAt := none
  booted := false
  nextSession := 1
  lock := none
  staging := none
  nextTransfer := 0
  staged := none
  active := none
  previous := none
  inForce := none
  armed := none
  library := []
  ledger := []
  shared := []
  reloads := []
  afterDone := none
  owed := []
  kickAt := 0

def Fed.init : Fed := ⟨[], false, 0, false, none, none, []⟩
def Pwr.init : Pwr := ⟨none, none, none, [], [], none, [], none, [], false⟩
def Flt.init : Flt := ⟨[], [], [], [], [], [], [], [], 0, []⟩
def Twin.init : Twin := ⟨0, 0, false, 0, 0, [], none, false, 0, none, 0, false⟩

def Sec.init : Sec where
  slots := []
  minima := []
  txEpoch := []
  txCount := []
  rxEpoch := []
  rxCount := []
  rxNew := []
  epochNext := 0
  debugUntil := none
  vols := []
  record := none
  volArmed := none
  trial := none
  shelves := []
  settings := []

/-- Core reset is released at State.reset, and the boot ROM has not run (log 1). -/
def Boot.init : Boot := ⟨false, [], 0, none, false, true, true, true, 0⟩

/-- The machine right after reset. -/
def State.reset : State where
  pending := []
  clk := 0
  ringNs := 0
  cyc := 0
  draw := 0
  out := []
  regs := []
  staged := []
  pairs := []
  ready := []
  cnts := []
  stk := Archive.init
  swq := Swq.init
  places := []
  engines := []
  dio := Dio.init
  ana := Ana.init
  ports := []
  byps := []
  ring := Ring.init
  rtime := RTime.init
  hif := Hif.init
  usb := Usb.init
  desks := []
  stw := Steward.init
  fed := Fed.init
  pwr := Pwr.init
  flt := Flt.init
  twin := Twin.init
  sec := Sec.init
  boot := Boot.init

end Sys2Proof.Machine
end

