-- ==== Sys2Proof/Machine/Flags.lean ====
section
/-! DEFINITION. Pure computations over records and frames: the quality byte, data types, deadband, scaling, the words of
records, header check and CRC. -/

namespace Sys2Proof.Machine

/-! ### Quality and records (R42, R45) -/

def stCode : PSt → Nat
  | .good => 0
  | .uncertain => 1
  | .bad => 2
  | .noValue => 3

def stOf (n : Nat) : PSt :=
  if n % 4 = 0 then .good else if n % 4 = 1 then .uncertain else if n % 4 = 2 then .bad else .noValue

def reasonCode : Reason → Nat
  | .none => 0
  | .commsFail => 1
  | .outOfRange => 2
  | .writeFailed => 3
  | .retentionLost => 4
  | .converterFault => 5
  | .fromTwin => 6
  | .sensorFault => 7

def reasonOf (n : Nat) : Reason :=
  if n % 8 = 0 then .none else if n % 8 = 1 then .commsFail else if n % 8 = 2 then .outOfRange
  else if n % 8 = 3 then .writeFailed else if n % 8 = 4 then .retentionLost else if n % 8 = 5 then .converterFault
  else if n % 8 = 6 then .fromTwin else .sensorFault

/-- The quality byte (R45, Table 3). -/
def qualityByte (r : Rec) : Nat :=
  stCode r.st * 64 + bit r.stale * 32 + bit r.forced * 16 + bit r.changed * 8 + reasonCode r.reason

/-- W1 and W2 of a record (R42, Table 1); word 3 of a slot reads 0 (R29). -/
def recWord (r : Rec) (i : Nat) : Word :=
  if i = 0 then r.w0
  else if i = 1 then wd (65536 * qualityByte r + bitsOf r.time 24 16)
  else if i = 2 then wd r.time
  else 0

/-- The three words of a record. -/
def recWords (r : Rec) : List Word := [recWord r 0, recWord r 1, recWord r 2]

/-- A record from its three words. -/
def recOf (a b c : Word) : Rec :=
  { w0 := a, st := stOf (bitsOf b.toNat 22 2), stale := bitsOf b.toNat 21 1 == 1, forced := bitsOf b.toNat 20 1 == 1,
    changed := bitsOf b.toNat 19 1 == 1, reason := reasonOf (bitsOf b.toNat 16 3),
    time := 2 ^ 24 * bitsOf b.toNat 0 16 + c.toNat }

/-- Age of a record at a ring time in us (R48). -/
def ageOf (nowUs : Nat) (r : Rec) : Nat := (nowUs % 2 ^ 40 + 2 ^ 40 - r.time % 2 ^ 40) % 2 ^ 40

/-- A record's new form after a write: CHANGED is set where W0, state, reason, STALE or FORCED alter, and is otherwise
left as it was (R58). -/
def alters (old new : Rec) : Bool :=
  old.w0 != new.w0 || old.st != new.st || old.reason != new.reason || old.stale != new.stale || old.forced != new.forced

def withChanged (old new : Rec) : Rec := { new with changed := old.changed || alters old new }

/-! ### The Catalogue record (R52, Table 5) -/

/-- The 72 bits of a Catalogue record. -/
def catBits (c : Cat) : Nat := c.w0.toNat + 2 ^ 24 * c.w1.toNat + 2 ^ 48 * c.w2.toNat

/-- Catalogue fields by their lowest record bit and width. -/
def catField (c : Cat) (lo w : Nat) : Nat := bitsOf (catBits c) lo w

def catSource (c : Cat) : Nat := catField c 0 7
def catDevice (c : Cat) : Nat := catField c 7 8
def catObject (c : Cat) : Nat := catField c 15 16
def catType (c : Cat) : Nat := catField c 31 4
def catScale (c : Cat) : Nat := catField c 35 6
def catDeadband (c : Cat) : Nat := catField c 41 8
def catGroup (c : Cat) : Nat := catField c 49 6
def catClass (c : Cat) : Nat := catField c 55 3
def catRoute (c : Cat) : Nat := catField c 58 2
def catForceable (c : Cat) : Bool := catField c 60 1 == 1
def catAlarm (c : Cat) : Nat := catField c 61 8

/-- A record as the hub serves it: one not loaded or uncorrectable is source 0x7F with route 0b00 and reads W0 = 0x7F,
W1 = 0, W2 = 0 (R77, R85). -/
def catServed (c : Cat) : Cat :=
  if c.mark = .loaded then c else { w0 := 0x7F, w1 := 0, w2 := 0, mark := c.mark }

/-! ### Data types (R43, R44, Table 2) -/

/-- Whether a data type is signed. -/
def typeSigned (t : Nat) : Bool := t == 1 || t == 4 || t == 6

def typeMin (t : Nat) : Int := if t = 1 then -8388608 else if t = 4 then -32768 else if t = 6 then -128 else 0

def typeMax (t : Nat) : Int :=
  if t = 1 then 8388607 else if t = 2 then 1 else if t = 3 then 65535 else if t = 4 then 32767
  else if t = 5 then 255 else if t = 6 then 127 else if t = 8 then 255 else 16777215

/-- The value that a word holds under a data type. -/
def wordInt (t : Nat) (w : Word) : Int := if typeSigned t then w.toInt else (w.toNat : Int)

def inType (t : Nat) (v : Int) : Bool := decide (typeMin t ≤ v) && decide (v ≤ typeMax t)

/-- A value clamped to its data type. -/
def clampType (t : Nat) (v : Int) : Int := if v < typeMin t then typeMin t else if typeMax t < v then typeMax t else v

/-! ### Deadband (R54, R57) -/

/-- Whether every good value counts as a change (R54 mode 0b11; not for BOOL and ENUM8, log 14). -/
def everyUpdate (t code : Nat) : Bool := code / 64 == 3 && t != 2 && t != 8

/-- The deadband threshold with W0 as stored. -/
def threshold (t code : Nat) (w0 : Int) : Nat :=
  if t = 2 ∨ t = 8 then 0
  else if code / 64 = 0 then code % 64
  else if code / 64 = 1 then 64 * (code % 64)
  else max 1 (w0.natAbs * (code % 64) / 1024)

/-- The difference that the deadband is applied to: the forward difference for COUNT24. -/
def deviation (t : Nat) (w0 v : Int) : Nat :=
  if t = 7 then ((v - w0) % 16777216).toNat else (v - w0).natAbs

/-- Whether a good value replaces W0 of a GOOD record. -/
def beyondBand (t code : Nat) (w0 v : Int) : Bool :=
  everyUpdate t code || decide (threshold t code w0 < deviation t w0 v)

/-- The good-value event (R51 Table 4, R57). -/
def goodRec (t code : Nat) (v : Int) (time : Nat) (r : Rec) : Rec :=
  let w := if r.st = .good && !beyondBand t code (wordInt t r.w0) v then r.w0 else ofInt24 v
  let n := { r with w0 := w, st := .good, reason := .none, time := time, stale := false }
  { n with changed := r.changed || alters r n || everyUpdate t code }

/-! ### Scaling (R56, R396) -/

/-- Nearest integer to n/d, halves away from zero. -/
def roundDiv (n : Int) (d : Int) : Int :=
  let a := (2 * n.natAbs + d.natAbs) / (2 * d.natAbs)
  if (n < 0) = (d < 0) then (a : Int) else -(a : Int)

/-- Linear interpolation through breakpoints, ascending in x, within the table. -/
def interp : List (Int × Int) → Int → Int
  | (x0, y0) :: (x1, y1) :: t, x =>
    if x ≤ x1 ∨ t = [] then roundDiv (y0 * (x1 - x0) + (x - x0) * (y1 - y0)) (x1 - x0) else interp ((x1, y1) :: t) x
  | [(_, y0)], _ => y0
  | [], x => x

/-- A raw value scaled forward: the point value, and whether it lay beyond an end breakpoint. -/
def scaleFwd (tab : List (Int × Int)) (x : Int) : Int × Bool :=
  match tab with
  | [] => (x, false)
  | (x0, y0) :: _ =>
    let last := tab.getLastD (x0, y0)
    if x < x0 then (y0, true) else if last.1 < x then (last.2, true) else (interp tab x, false)

/-- A point value scaled backward: the raw value, or none beyond the point values (R56). -/
def scaleBack (tab : List (Int × Int)) (y : Int) : Option Int :=
  match tab with
  | [] => some y
  | _ =>
    let sw := tab.map (fun p => (p.2, p.1))
    let up := match sw with
      | (a, _) :: (b, _) :: _ => decide (a < b)
      | _ => true
    let asc := if up then sw else sw.reverse
    match asc with
    | [] => some y
    | (y0, x0) :: _ =>
      let last := asc.getLastD (y0, x0)
      if y < y0 ∨ last.1 < y then none else some (interp asc y)

/-! ### Checks of frames (R223 to R225) -/

/-- One bit of the CRC-16 of polynomial 0x1021. -/
def crc16Step (c : Nat) : Nat → Nat
  | 0 => c
  | n + 1 =>
    let c' := crc16Step c n
    if c' / 0x8000 % 2 = 1 then (c' * 2) % 0x10000 ^^^ 0x1021 else (c' * 2) % 0x10000

/-- CRC-16, polynomial 0x1021, initial value 0xFFFF, each byte most significant bit first (R224). -/
def crc16 (bs : List Nat) : Nat := bs.foldl (fun c b => crc16Step (c ^^^ (b * 256)) 8) 0xFFFF

/-- One bit of the reflected CRC-32. -/
def crc32Step (c : Nat) : Nat → Nat
  | 0 => c
  | n + 1 =>
    let c' := crc32Step c n
    if c' % 2 = 1 then (c' / 2) ^^^ 0xEDB88320 else c' / 2

/-- CRC-32 of the IEEE 802.3 frame check sequence (R225). -/
def crc32 (bs : List Nat) : Nat := (bs.foldl (fun c b => crc32Step (c ^^^ b) 8) 0xFFFFFFFF) ^^^ 0xFFFFFFFF

/-- The bytes of a number, least significant first. -/
def bytesLE (v : Nat) : Nat → List Nat
  | 0 => []
  | n + 1 => v % 256 :: bytesLE (v / 256) n

/-- The number that bytes spell, least significant first. -/
def ofLE : List Nat → Nat
  | [] => 0
  | b :: bs => b + 256 * ofLE bs

/-- A word as the four bytes of a dword (R307, R346). -/
def dwordBytes (w : Word) : List Nat := bytesLE w.toNat 4

/-- Number of bytes at i in a list, least significant first. -/
def leAt (bs : List Nat) (i n : Nat) : Nat := ofLE ((List.range n).map (fun j => bs.getD (i + j) 0 % 256))

/-- The words of a run of dwords: bits [31:24] of each are ignored (R346). -/
def wordsOfDwords (bs : List Nat) : List Word := (List.range (bs.length / 4)).map (fun i => wd (leAt bs (4 * i) 3))

/-- Payload units of four bytes (R225). -/
def unitsOf (words : Nat) : Nat := (3 * words + 3) / 4

/-- Cell words of a stored frame (R274). -/
def frameCells (words : Nat) : Nat := 6 + (4 * unitsOf words + 2) / 3

/-- A payload's bytes, padded to a multiple of four (R225). -/
def payloadBytes (ws : List Word) : List Nat :=
  let b := ws.flatMap (fun w => bytesLE w.toNat 3)
  b ++ List.replicate (4 * unitsOf ws.length - b.length) 0

/-- The frame check of a payload (R225). -/
def frameCrc (f : Frame) : Nat := crc32 (payloadBytes f.payload)

/-- FLAGS of a header (R223, Table 2). -/
def frameFlags (f : Frame) : Nat :=
  bit f.west + 2 * bit f.bcast + 4 * bit f.retry + 8 * bit f.replay + 16 * bit f.far + 32 * bit f.fabric

/-- Header bits [111:0] (R223, Table 2). -/
def headerBits (f : Frame) : Nat :=
  f.dest % 2 ^ 12 + 2 ^ 12 * (f.src % 2 ^ 12) + 2 ^ 24 * (f.cls % 8) + 2 ^ 27 * (f.typ % 32) + 2 ^ 32 * (f.sq % 2 ^ 16) +
  2 ^ 48 * (f.ring % 64) + 2 ^ 54 * (f.hops % 1024) + 2 ^ 64 * (unitsOf f.payload.length % 512) + 2 ^ 73 * frameFlags f +
  2 ^ 80 * (f.entry % 2 ^ 12) + 2 ^ 96 * (f.aux % 2 ^ 16)

/-- HCHK (R224). -/
def frameHchk (f : Frame) : Nat := crc16 (bytesLE (headerBits f) 14)

/-- Line bytes of a frame: header, payload and one block each of START and END (R220, R221). -/
def lineBytes (f : Frame) : Nat := (16 + 4 * unitsOf f.payload.length + 7) / 8 * 8 + 16

/-- Payload word i, 0 beyond the end. -/
def pw (f : Frame) (i : Nat) : Nat := (f.payload.getD i 0).toNat

/-! ### Multi-word numbers -/

/-- A number's words of 24 bits, lowest first. -/
def wordsLE (v : Nat) : Nat → List Word
  | 0 => []
  | n + 1 => wd v :: wordsLE (v / 2 ^ 24) n

/-- A 40-bit time's two words. -/
def usWords (us : Nat) : List Word := [wd us, wd (us / 2 ^ 24 % 2 ^ 16)]

/-- A 32-bit handle's two words: [23:0], then [31:24] in [7:0] (R230, R392). -/
def handleWords (h : Nat) : List Word := [wd h, wd (h / 2 ^ 24 % 256)]

/-- A point handle (R32). -/
def handleOf (node point : Nat) : Nat := 2 ^ 20 * (node % 4096) + point % 2 ^ 20

end Sys2Proof.Machine
end

