-- ==== Sys2Proof/Machine/Regs.lean ====
section
/-! DEFINITION. The register tables of space 2 as data: every register with its fields, access codes, change classes
and reset values (R8 to R12, R87, R122, R164, R183, R219, R271, R303, R335, R367, R411, R437, R463, R497, R528, R555),
one accessor per field (the docstring of a group names its block), and the reset contents. -/

namespace Sys2Proof.Machine

/-- Access codes (R10). -/
inductive Acc where
  | rw | ro | wo | w1c | rc
deriving DecidableEq, Repr

/-- Change classes (R12). -/
inductive Chg where
  | none | live | staged | halted | paired
deriving DecidableEq, Repr

/-- A field: the word offset of its register, its lowest bit and its width. -/
structure Fld where
  off : Nat
  lo : Nat
  w : Nat
deriving DecidableEq, Repr

/-- A field's row in a register table. -/
structure FldRow where
  lo : Nat
  w : Nat
  acc : Acc
  chg : Chg
  reset : Nat
deriving DecidableEq, Repr

/-- A register's rows: its base, its index dimensions (count, stride), outermost first, and its fields. Bits that no
row names are reserved and read 0 (R9). -/
structure RegRow where
  base : Nat
  dims : List (Nat × Nat)
  flds : List FldRow
deriving DecidableEq, Repr

/-! Fields of block STK. -/

def oSTK_STATUS : Nat := 0x28001
def fSTK_STATUS_CFG_REJECT : Fld := ⟨oSTK_STATUS, 0, 1⟩
def fSTK_STATUS_COPY_BUSY : Fld := ⟨oSTK_STATUS, 1, 1⟩
def fSTK_STATUS_SCRUB_OVERRUN : Fld := ⟨oSTK_STATUS, 2, 1⟩
def fSTK_STATUS_BANK_UE : Fld := ⟨oSTK_STATUS, 3, 5⟩
def oSTK_SCRUB_CTL : Nat := 0x28002
def fSTK_SCRUB_CTL_EN : Fld := ⟨oSTK_SCRUB_CTL, 0, 1⟩
def fSTK_SCRUB_CTL_PERIOD : Fld := ⟨oSTK_SCRUB_CTL, 1, 4⟩
def oSTK_SCRUB_STAT : Nat := 0x28003
def fSTK_SCRUB_STAT_PASS_CNT : Fld := ⟨oSTK_SCRUB_STAT, 0, 16⟩
def fSTK_SCRUB_STAT_BANK : Fld := ⟨oSTK_SCRUB_STAT, 16, 3⟩
def oSTK_BANK_MAP : Nat := 0x28004
def fSTK_BANK_MAP_L0 : Fld := ⟨oSTK_BANK_MAP, 0, 3⟩
def fSTK_BANK_MAP_L1 : Fld := ⟨oSTK_BANK_MAP, 3, 3⟩
def fSTK_BANK_MAP_L2 : Fld := ⟨oSTK_BANK_MAP, 6, 3⟩
def fSTK_BANK_MAP_L3 : Fld := ⟨oSTK_BANK_MAP, 9, 3⟩
def fSTK_BANK_MAP_SPARE : Fld := ⟨oSTK_BANK_MAP, 12, 3⟩
def fSTK_BANK_MAP_NOCOPY : Fld := ⟨oSTK_BANK_MAP, 15, 1⟩
def oSTK_COPY_CTL : Nat := 0x28005
def fSTK_COPY_CTL_SRC : Fld := ⟨oSTK_COPY_CTL, 0, 3⟩
def fSTK_COPY_CTL_DST : Fld := ⟨oSTK_COPY_CTL, 3, 3⟩
def fSTK_COPY_CTL_START : Fld := ⟨oSTK_COPY_CTL, 6, 1⟩
def fSTK_COPY_CTL_ABORT : Fld := ⟨oSTK_COPY_CTL, 7, 1⟩
def oSTK_COPY_STAT : Nat := 0x28006
def fSTK_COPY_STAT_NEXT : Fld := ⟨oSTK_COPY_STAT, 0, 18⟩
def fSTK_COPY_STAT_DONE : Fld := ⟨oSTK_COPY_STAT, 18, 1⟩
def fSTK_COPY_STAT_DUAL : Fld := ⟨oSTK_COPY_STAT, 19, 1⟩
def fSTK_COPY_STAT_ABORTED : Fld := ⟨oSTK_COPY_STAT, 20, 1⟩
def oSTK_STALE_LIM (n : Nat) : Nat := 0x28008 + n
def fSTK_STALE_LIM_COUNT (n : Nat) : Fld := ⟨oSTK_STALE_LIM n, 0, 22⟩
def fSTK_STALE_LIM_UNIT (n : Nat) : Fld := ⟨oSTK_STALE_LIM n, 22, 2⟩
def oSTK_CE_CNT (n : Nat) : Nat := 0x28010 + n
def fSTK_CE_CNT_COUNT (n : Nat) : Fld := ⟨oSTK_CE_CNT n, 0, 24⟩
def oSTK_UE_LAST : Nat := 0x28018
def fSTK_UE_LAST_INDEX : Fld := ⟨oSTK_UE_LAST, 0, 18⟩
def fSTK_UE_LAST_ARRAY : Fld := ⟨oSTK_UE_LAST, 18, 1⟩
def fSTK_UE_LAST_BANK : Fld := ⟨oSTK_UE_LAST, 19, 3⟩
def fSTK_UE_LAST_VALID : Fld := ⟨oSTK_UE_LAST, 22, 1⟩

/-! Fields of block CLK. -/

def oCLK_ENG_CTL (n : Nat) : Nat := 0x100000 + n * 0x1000
def fCLK_ENG_CTL_ROLE (n : Nat) : Fld := ⟨oCLK_ENG_CTL n, 0, 2⟩
def fCLK_ENG_CTL_RUN (n : Nat) : Fld := ⟨oCLK_ENG_CTL n, 2, 1⟩
def oCLK_ENG_PLACE (n : Nat) : Nat := 0x100001 + n * 0x1000
def fCLK_ENG_PLACE_PLACE (n : Nat) : Fld := ⟨oCLK_ENG_PLACE n, 0, 5⟩
def oCLK_ENG_STAT (n : Nat) : Nat := 0x100002 + n * 0x1000
def fCLK_ENG_STAT_STATE (n : Nat) : Fld := ⟨oCLK_ENG_STAT n, 0, 3⟩
def fCLK_ENG_STAT_CODE_VALID (n : Nat) : Fld := ⟨oCLK_ENG_STAT n, 3, 1⟩
def oCLK_ENG_BIND (n : Nat) : Nat := 0x100003 + n * 0x1000
def fCLK_ENG_BIND_TYPE (n : Nat) : Fld := ⟨oCLK_ENG_BIND n, 0, 8⟩
def fCLK_ENG_BIND_MAJOR (n : Nat) : Fld := ⟨oCLK_ENG_BIND n, 8, 8⟩
def fCLK_ENG_BIND_MINOR (n : Nat) : Fld := ⟨oCLK_ENG_BIND n, 16, 8⟩
def oCLK_ENG_SHADOW (n : Nat) : Nat := 0x100004 + n * 0x1000
def fCLK_ENG_SHADOW_COMPARED (n : Nat) : Fld := ⟨oCLK_ENG_SHADOW n, 0, 12⟩
def fCLK_ENG_SHADOW_MISMATCH (n : Nat) : Fld := ⟨oCLK_ENG_SHADOW n, 12, 12⟩
def oCLK_CFG (n : Nat) : Nat := 0x100010 + n * 0x1000
def fCLK_CFG_CMD_BURST (n : Nat) : Fld := ⟨oCLK_CFG n, 0, 3⟩
def fCLK_CFG_FSC (n : Nat) : Fld := ⟨oCLK_CFG n, 3, 4⟩
def fCLK_CFG_FSC_EN (n : Nat) : Fld := ⟨oCLK_CFG n, 7, 1⟩
def oCLK_PINSEL (n : Nat) : Nat := 0x100011 + n * 0x1000
def fCLK_PINSEL_GROUP (n : Nat) : Fld := ⟨oCLK_PINSEL n, 0, 5⟩
def oCLK_HOLD (n : Nat) : Nat := 0x100012 + n * 0x1000
def fCLK_HOLD_TIME (n : Nat) : Fld := ⟨oCLK_HOLD n, 0, 13⟩
def oCLK_RETRY (n : Nat) : Nat := 0x100013 + n * 0x1000
def fCLK_RETRY_COUNT (n : Nat) : Fld := ⟨oCLK_RETRY n, 0, 3⟩
def fCLK_RETRY_TIMEOUT (n : Nat) : Fld := ⟨oCLK_RETRY n, 3, 13⟩
def oCLK_PER (n k : Nat) : Nat := 0x100018 + n * 0x1000 + k
def fCLK_PER_COUNT (n k : Nat) : Fld := ⟨oCLK_PER n k, 0, 22⟩
def fCLK_PER_UNIT (n k : Nat) : Fld := ⟨oCLK_PER n k, 22, 2⟩
def oCLK_STAT (n : Nat) : Nat := 0x100020 + n * 0x1000
def fCLK_STAT_PORT_UP (n : Nat) : Fld := ⟨oCLK_STAT n, 0, 1⟩
def fCLK_STAT_DOWN_CAUSE (n : Nat) : Fld := ⟨oCLK_STAT n, 1, 3⟩
def fCLK_STAT_HOLDING (n : Nat) : Fld := ⟨oCLK_STAT n, 4, 1⟩
def fCLK_STAT_HOLD_EXPIRED (n : Nat) : Fld := ⟨oCLK_STAT n, 5, 1⟩
def fCLK_STAT_ENGINE (n : Nat) : Fld := ⟨oCLK_STAT n, 6, 5⟩
def fCLK_STAT_CFG_REJECT (n : Nat) : Fld := ⟨oCLK_STAT n, 11, 1⟩
def oCLK_OVERRUN (n : Nat) : Nat := 0x100021 + n * 0x1000
def fCLK_OVERRUN_COUNT (n : Nat) : Fld := ⟨oCLK_OVERRUN n, 0, 24⟩
def oCLK_OVR_CLASS (n : Nat) : Nat := 0x100022 + n * 0x1000
def fCLK_OVR_CLASS_CLASS (n : Nat) : Fld := ⟨oCLK_OVR_CLASS n, 0, 8⟩
def oCLK_LAST_CYCLE (n : Nat) : Nat := 0x100023 + n * 0x1000
def fCLK_LAST_CYCLE_TIME (n : Nat) : Fld := ⟨oCLK_LAST_CYCLE n, 0, 24⟩
def oCLK_TXN (n : Nat) : Nat := 0x100024 + n * 0x1000
def fCLK_TXN_TXN (n : Nat) : Fld := ⟨oCLK_TXN n, 0, 24⟩
def oCLK_TXN_FAIL (n : Nat) : Nat := 0x100025 + n * 0x1000
def fCLK_TXN_FAIL_TXN_FAIL (n : Nat) : Fld := ⟨oCLK_TXN_FAIL n, 0, 24⟩
def oCLK_CMD_DONE (n : Nat) : Nat := 0x100026 + n * 0x1000
def fCLK_CMD_DONE_CMD_DONE (n : Nat) : Fld := ⟨oCLK_CMD_DONE n, 0, 24⟩
def oCLK_CMD_FAIL (n : Nat) : Nat := 0x100027 + n * 0x1000
def fCLK_CMD_FAIL_CMD_FAIL (n : Nat) : Fld := ⟨oCLK_CMD_FAIL n, 0, 24⟩

/-! Fields of block DIO. -/

def oDIO_STATUS : Nat := 0x30000
def fDIO_STATUS_CFG_REJECT : Fld := ⟨oDIO_STATUS, 0, 1⟩
def fDIO_STATUS_WDOG_EXPIRED : Fld := ⟨oDIO_STATUS, 1, 1⟩
def fDIO_STATUS_EDGE_OVF : Fld := ⟨oDIO_STATUS, 2, 4⟩
def fDIO_STATUS_FENCED : Fld := ⟨oDIO_STATUS, 6, 4⟩
def oDIO_CTL : Nat := 0x30001
def fDIO_CTL_REFRESH : Fld := ⟨oDIO_CTL, 0, 10⟩
def oDIO_WDOG : Nat := 0x30002
def fDIO_WDOG_TIME : Fld := ⟨oDIO_WDOG, 0, 12⟩
def fDIO_WDOG_KICK : Fld := ⟨oDIO_WDOG, 12, 1⟩
def oDIO_SPARE (k : Nat) : Nat := 0x30010 + k
def fDIO_SPARE_LINE (k : Nat) : Fld := ⟨oDIO_SPARE k, 0, 9⟩
def fDIO_SPARE_EN (k : Nat) : Fld := ⟨oDIO_SPARE k, 9, 1⟩
def oDIO_IN (m : Nat) : Nat := 0x30020 + m
def fDIO_IN_LEVEL (m : Nat) : Fld := ⟨oDIO_IN m, 0, 24⟩
def oDIO_LCFG (n : Nat) : Nat := 0x30100 + n
def fDIO_LCFG_MODE (n : Nat) : Fld := ⟨oDIO_LCFG n, 0, 4⟩
def fDIO_LCFG_EDGE (n : Nat) : Fld := ⟨oDIO_LCFG n, 4, 2⟩
def fDIO_LCFG_SAFE (n : Nat) : Fld := ⟨oDIO_LCFG n, 6, 2⟩
def fDIO_LCFG_INV (n : Nat) : Fld := ⟨oDIO_LCFG n, 8, 1⟩
def oDIO_LPAR (n : Nat) : Nat := 0x30300 + n
def fDIO_LPAR_VALUE (n : Nat) : Fld := ⟨oDIO_LPAR n, 0, 24⟩

/-! Fields of block ANA. -/

def oANA_STATUS : Nat := 0x34000
def fANA_STATUS_CFG_REJECT : Fld := ⟨oANA_STATUS, 0, 1⟩
def fANA_STATUS_PLL_LOCK : Fld := ⟨oANA_STATUS, 1, 1⟩
def fANA_STATUS_REF_OK : Fld := ⟨oANA_STATUS, 2, 1⟩
def fANA_STATUS_ROT_STALL : Fld := ⟨oANA_STATUS, 3, 1⟩
def oANA_CTL : Nat := 0x34001
def fANA_CTL_ROT_EN : Fld := ⟨oANA_CTL, 0, 1⟩
def fANA_CTL_CHECK_PER : Fld := ⟨oANA_CTL, 1, 7⟩
def fANA_CTL_OPEN_PER : Fld := ⟨oANA_CTL, 8, 8⟩
def fANA_CTL_STEER_CMP : Fld := ⟨oANA_CTL, 16, 3⟩
def oANA_ROT_STAT : Nat := 0x34002
def fANA_ROT_STAT_CONV : Fld := ⟨oANA_ROT_STAT, 0, 7⟩
def fANA_ROT_STAT_STANDIN : Fld := ⟨oANA_ROT_STAT, 7, 7⟩
def fANA_ROT_STAT_ROUNDS : Fld := ⟨oANA_ROT_STAT, 14, 10⟩
def oANA_CHCFG (n : Nat) : Nat := 0x34040 + n
def fANA_CHCFG_RATE (n : Nat) : Fld := ⟨oANA_CHCFG n, 0, 4⟩
def fANA_CHCFG_FILTER (n : Nat) : Fld := ⟨oANA_CHCFG n, 4, 2⟩
def fANA_CHCFG_GAIN (n : Nat) : Fld := ⟨oANA_CHCFG n, 6, 3⟩
def fANA_CHCFG_AVG (n : Nat) : Fld := ⟨oANA_CHCFG n, 9, 4⟩
def fANA_CHCFG_OPEN_EN (n : Nat) : Fld := ⟨oANA_CHCFG n, 13, 1⟩
def fANA_CHCFG_EN (n : Nat) : Fld := ⟨oANA_CHCFG n, 14, 1⟩
def oANA_CHSEL (n : Nat) : Nat := 0x34080 + n
def fANA_CHSEL_CONV (n : Nat) : Fld := ⟨oANA_CHSEL n, 0, 7⟩
def oANA_CHSTAT (n : Nat) : Nat := 0x340c0 + n
def fANA_CHSTAT_STEERING (n : Nat) : Fld := ⟨oANA_CHSTAT n, 0, 1⟩
def fANA_CHSTAT_OPEN (n : Nat) : Fld := ⟨oANA_CHSTAT n, 1, 1⟩
def fANA_CHSTAT_OVERLOAD (n : Nat) : Fld := ⟨oANA_CHSTAT n, 2, 1⟩
def fANA_CHSTAT_EXCLUDING (n : Nat) : Fld := ⟨oANA_CHSTAT n, 3, 1⟩
def fANA_CHSTAT_DIFF (n : Nat) : Fld := ⟨oANA_CHSTAT n, 4, 16⟩
def oANA_CONV (v : Nat) : Nat := 0x34100 + v
def fANA_CONV_STATE (v : Nat) : Fld := ⟨oANA_CONV v, 0, 2⟩
def fANA_CONV_CAUSE (v : Nat) : Fld := ⟨oANA_CONV v, 2, 3⟩
def oANA_CALO (v : Nat) : Nat := 0x34180 + v
def fANA_CALO_OFFSET (v : Nat) : Fld := ⟨oANA_CALO v, 0, 24⟩
def oANA_CALG (v : Nat) : Nat := 0x34200 + v
def fANA_CALG_GAIN (v : Nat) : Fld := ⟨oANA_CALG v, 0, 24⟩
def oANA_USBMAP (k : Nat) : Nat := 0x34300 + k
def fANA_USBMAP_CH (k : Nat) : Fld := ⟨oANA_USBMAP k, 0, 6⟩
def fANA_USBMAP_EN (k : Nat) : Fld := ⟨oANA_USBMAP k, 6, 1⟩

/-! Fields of block RGx. -/

def oRGx_PHY_CTL (p : Nat) : Nat := 0x14000 + p / 2 * 0x4000 + p % 2 * 0x100
def fRGx_PHY_CTL_MEDIUM (p : Nat) : Fld := ⟨oRGx_PHY_CTL p, 0, 2⟩
def fRGx_PHY_CTL_RATE_MAX (p : Nat) : Fld := ⟨oRGx_PHY_CTL p, 2, 2⟩
def fRGx_PHY_CTL_RATE_MIN (p : Nat) : Fld := ⟨oRGx_PHY_CTL p, 4, 2⟩
def fRGx_PHY_CTL_EN (p : Nat) : Fld := ⟨oRGx_PHY_CTL p, 6, 1⟩
def fRGx_PHY_CTL_RETRAIN (p : Nat) : Fld := ⟨oRGx_PHY_CTL p, 7, 1⟩
def fRGx_PHY_CTL_DEG_MARGIN (p : Nat) : Fld := ⟨oRGx_PHY_CTL p, 8, 4⟩
def oRGx_PHY_STAT (p : Nat) : Nat := 0x14001 + p / 2 * 0x4000 + p % 2 * 0x100
def fRGx_PHY_STAT_STATE (p : Nat) : Fld := ⟨oRGx_PHY_STAT p, 0, 3⟩
def fRGx_PHY_STAT_RATE (p : Nat) : Fld := ⟨oRGx_PHY_STAT p, 3, 2⟩
def fRGx_PHY_STAT_LINK (p : Nat) : Fld := ⟨oRGx_PHY_STAT p, 5, 1⟩
def fRGx_PHY_STAT_DOWN_CAUSE (p : Nat) : Fld := ⟨oRGx_PHY_STAT p, 6, 4⟩
def fRGx_PHY_STAT_CFG_REJECT (p : Nat) : Fld := ⟨oRGx_PHY_STAT p, 10, 1⟩
def oRGx_PHY_INFO_LO (p : Nat) : Nat := 0x14002 + p / 2 * 0x4000 + p % 2 * 0x100
def fRGx_PHY_INFO_LO_INFO_LO (p : Nat) : Fld := ⟨oRGx_PHY_INFO_LO p, 0, 24⟩
def oRGx_PHY_INFO_HI (p : Nat) : Nat := 0x14003 + p / 2 * 0x4000 + p % 2 * 0x100
def fRGx_PHY_INFO_HI_INFO_HI (p : Nat) : Fld := ⟨oRGx_PHY_INFO_HI p, 0, 24⟩
def oRGx_PHY_MARGIN (p : Nat) : Nat := 0x14004 + p / 2 * 0x4000 + p % 2 * 0x100
def fRGx_PHY_MARGIN_MARGIN (p : Nat) : Fld := ⟨oRGx_PHY_MARGIN p, 0, 8⟩
def oRGx_CW_CORR (p : Nat) : Nat := 0x14005 + p / 2 * 0x4000 + p % 2 * 0x100
def fRGx_CW_CORR_CW_CORR (p : Nat) : Fld := ⟨oRGx_CW_CORR p, 0, 24⟩
def oRGx_CW_UNCORR (p : Nat) : Nat := 0x14006 + p / 2 * 0x4000 + p % 2 * 0x100
def fRGx_CW_UNCORR_CW_UNCORR (p : Nat) : Fld := ⟨oRGx_CW_UNCORR p, 0, 24⟩
def oRGx_DOWN_CNT (p : Nat) : Nat := 0x14007 + p / 2 * 0x4000 + p % 2 * 0x100
def fRGx_DOWN_CNT_DOWN_CNT (p : Nat) : Fld := ⟨oRGx_DOWN_CNT p, 0, 24⟩
def oRGx_TRAIN_TIME (p : Nat) : Nat := 0x14008 + p / 2 * 0x4000 + p % 2 * 0x100
def fRGx_TRAIN_TIME_TRAIN_TIME (p : Nat) : Fld := ⟨oRGx_TRAIN_TIME p, 0, 24⟩
def oRGx_TDR_CTL (p : Nat) : Nat := 0x14010 + p / 2 * 0x4000 + p % 2 * 0x100
def fRGx_TDR_CTL_START (p : Nat) : Fld := ⟨oRGx_TDR_CTL p, 0, 1⟩
def fRGx_TDR_CTL_FORCE (p : Nat) : Fld := ⟨oRGx_TDR_CTL p, 1, 1⟩
def fRGx_TDR_CTL_THRESH (p : Nat) : Fld := ⟨oRGx_TDR_CTL p, 2, 8⟩
def fRGx_TDR_CTL_NVP (p : Nat) : Fld := ⟨oRGx_TDR_CTL p, 10, 10⟩
def oRGx_TDR_STAT (p : Nat) : Nat := 0x14011 + p / 2 * 0x4000 + p % 2 * 0x100
def fRGx_TDR_STAT_STATUS (p : Nat) : Fld := ⟨oRGx_TDR_STAT p, 0, 2⟩
def fRGx_TDR_STAT_FAIL (p : Nat) : Fld := ⟨oRGx_TDR_STAT p, 2, 2⟩
def fRGx_TDR_STAT_COUNT (p : Nat) : Fld := ⟨oRGx_TDR_STAT p, 4, 3⟩
def oRGx_TDR_RES (p k : Nat) : Nat := 0x14012 + p / 2 * 0x4000 + p % 2 * 0x100 + k
def fRGx_TDR_RES_DIST (p k : Nat) : Fld := ⟨oRGx_TDR_RES p k, 0, 14⟩
def fRGx_TDR_RES_TYPE (p k : Nat) : Fld := ⟨oRGx_TDR_RES p k, 14, 3⟩
def fRGx_TDR_RES_MAG (p k : Nat) : Fld := ⟨oRGx_TDR_RES p k, 17, 7⟩
def oRGx_IR_CTL (p : Nat) : Nat := 0x14020 + p / 2 * 0x4000 + p % 2 * 0x100
def fRGx_IR_CTL_START (p : Nat) : Fld := ⟨oRGx_IR_CTL p, 0, 1⟩
def fRGx_IR_CTL_PER (p : Nat) : Fld := ⟨oRGx_IR_CTL p, 1, 8⟩
def oRGx_IR_ALARM (p : Nat) : Nat := 0x14021 + p / 2 * 0x4000 + p % 2 * 0x100
def fRGx_IR_ALARM_ALARM (p : Nat) : Fld := ⟨oRGx_IR_ALARM p, 0, 24⟩
def oRGx_IR_TREND (p : Nat) : Nat := 0x14022 + p / 2 * 0x4000 + p % 2 * 0x100
def fRGx_IR_TREND_TREND (p : Nat) : Fld := ⟨oRGx_IR_TREND p, 0, 24⟩
def oRGx_IR_STAT (p : Nat) : Nat := 0x14023 + p / 2 * 0x4000 + p % 2 * 0x100
def fRGx_IR_STAT_ALARM (p : Nat) : Fld := ⟨oRGx_IR_STAT p, 0, 1⟩
def fRGx_IR_STAT_TREND (p : Nat) : Fld := ⟨oRGx_IR_STAT p, 1, 1⟩
def fRGx_IR_STAT_RUNNING (p : Nat) : Fld := ⟨oRGx_IR_STAT p, 2, 1⟩
def oRGx_IR_RES (p : Nat) : Nat := 0x14024 + p / 2 * 0x4000 + p % 2 * 0x100
def fRGx_IR_RES_VALUE (p : Nat) : Fld := ⟨oRGx_IR_RES p, 0, 20⟩
def fRGx_IR_RES_UNDER (p : Nat) : Fld := ⟨oRGx_IR_RES p, 20, 1⟩
def fRGx_IR_RES_OVER (p : Nat) : Fld := ⟨oRGx_IR_RES p, 21, 1⟩
def fRGx_IR_RES_DEFERRED (p : Nat) : Fld := ⟨oRGx_IR_RES p, 22, 1⟩
def fRGx_IR_RES_VALID (p : Nat) : Fld := ⟨oRGx_IR_RES p, 23, 1⟩
def oRGx_IR_HIST (p h : Nat) : Nat := 0x14070 + p / 2 * 0x4000 + p % 2 * 0x100 + h
def fRGx_IR_HIST_MIN (p h : Nat) : Fld := ⟨oRGx_IR_HIST p h, 0, 24⟩
def oRGx_MOD_STAT (p : Nat) : Nat := 0x14040 + p / 2 * 0x4000 + p % 2 * 0x100
def fRGx_MOD_STAT_PRESENT (p : Nat) : Fld := ⟨oRGx_MOD_STAT p, 0, 1⟩
def fRGx_MOD_STAT_SUITED (p : Nat) : Fld := ⟨oRGx_MOD_STAT p, 1, 1⟩
def fRGx_MOD_STAT_RX_LOS (p : Nat) : Fld := ⟨oRGx_MOD_STAT p, 2, 1⟩
def fRGx_MOD_STAT_TX_FAULT (p : Nat) : Fld := ⟨oRGx_MOD_STAT p, 3, 1⟩
def fRGx_MOD_STAT_DDM (p : Nat) : Fld := ⟨oRGx_MOD_STAT p, 4, 1⟩
def fRGx_MOD_STAT_RS (p : Nat) : Fld := ⟨oRGx_MOD_STAT p, 5, 1⟩
def fRGx_MOD_STAT_I2C_ERR (p : Nat) : Fld := ⟨oRGx_MOD_STAT p, 6, 1⟩
def oRGx_MOD_ALARM (p : Nat) : Nat := 0x14041 + p / 2 * 0x4000 + p % 2 * 0x100
def fRGx_MOD_ALARM_ALARM (p : Nat) : Fld := ⟨oRGx_MOD_ALARM p, 0, 16⟩
def oRGx_MOD_DDM (p i : Nat) : Nat := 0x14042 + p / 2 * 0x4000 + p % 2 * 0x100 + i
def fRGx_MOD_DDM_DDM (p i : Nat) : Fld := ⟨oRGx_MOD_DDM p i, 0, 16⟩
def oRGx_MOD_ID (p i : Nat) : Nat := 0x14050 + p / 2 * 0x4000 + p % 2 * 0x100 + i
def fRGx_MOD_ID_ID (p i : Nat) : Fld := ⟨oRGx_MOD_ID p i, 0, 24⟩
def oRGx_BYP_CTL (x : Nat) : Nat := 0x14200 + x * 0x4000
def fRGx_BYP_CTL_HOLD_EN (x : Nat) : Fld := ⟨oRGx_BYP_CTL x, 0, 1⟩
def fRGx_BYP_CTL_AUTO_DROP (x : Nat) : Fld := ⟨oRGx_BYP_CTL x, 1, 1⟩
def fRGx_BYP_CTL_PULL (x : Nat) : Fld := ⟨oRGx_BYP_CTL x, 2, 6⟩
def fRGx_BYP_CTL_DUTY (x : Nat) : Fld := ⟨oRGx_BYP_CTL x, 8, 4⟩
def fRGx_BYP_CTL_SETTLE (x : Nat) : Fld := ⟨oRGx_BYP_CTL x, 12, 4⟩
def fRGx_BYP_CTL_DROP_TIME (x : Nat) : Fld := ⟨oRGx_BYP_CTL x, 16, 4⟩
def fRGx_BYP_CTL_SENSE_EN (x : Nat) : Fld := ⟨oRGx_BYP_CTL x, 20, 1⟩
def fRGx_BYP_CTL_SENSE_POL (x : Nat) : Fld := ⟨oRGx_BYP_CTL x, 21, 1⟩
def oRGx_BYP_STAT (x : Nat) : Nat := 0x14201 + x * 0x4000
def fRGx_BYP_STAT_HOLD (x : Nat) : Fld := ⟨oRGx_BYP_STAT x, 0, 1⟩
def fRGx_BYP_STAT_SENSED (x : Nat) : Fld := ⟨oRGx_BYP_STAT x, 1, 1⟩
def fRGx_BYP_STAT_STATE (x : Nat) : Fld := ⟨oRGx_BYP_STAT x, 2, 2⟩
def fRGx_BYP_STAT_DROPS (x : Nat) : Fld := ⟨oRGx_BYP_STAT x, 4, 4⟩
def fRGx_BYP_STAT_LOCKED_OUT (x : Nat) : Fld := ⟨oRGx_BYP_STAT x, 8, 1⟩
def fRGx_BYP_STAT_CFG_REJECT (x : Nat) : Fld := ⟨oRGx_BYP_STAT x, 9, 1⟩
def oRGx_RP_CTL (x : Nat) : Nat := 0x14400 + x * 0x4000
def fRGx_RP_CTL_CUT_EN (x : Nat) : Fld := ⟨oRGx_RP_CTL x, 0, 1⟩
def fRGx_RP_CTL_ERR_THR (x : Nat) : Fld := ⟨oRGx_RP_CTL x, 1, 8⟩
def oRGx_RP_STAT (x : Nat) : Nat := 0x14401 + x * 0x4000
def fRGx_RP_STAT_NUMBERED (x : Nat) : Fld := ⟨oRGx_RP_STAT x, 0, 1⟩
def fRGx_RP_STAT_SEEDING (x : Nat) : Fld := ⟨oRGx_RP_STAT x, 1, 1⟩
def fRGx_RP_STAT_CLOSED (x : Nat) : Fld := ⟨oRGx_RP_STAT x, 2, 1⟩
def fRGx_RP_STAT_CONFLICT (x : Nat) : Fld := ⟨oRGx_RP_STAT x, 3, 1⟩
def fRGx_RP_STAT_RING (x : Nat) : Fld := ⟨oRGx_RP_STAT x, 4, 6⟩
def oRGx_RP_STOMP_RX (p : Nat) : Nat := 0x14410 + p / 2 * 0x4000 + p % 2 * 0x10
def fRGx_RP_STOMP_RX_STOMP_RX (p : Nat) : Fld := ⟨oRGx_RP_STOMP_RX p, 0, 24⟩
def oRGx_RP_CRC_ERR (p : Nat) : Nat := 0x14411 + p / 2 * 0x4000 + p % 2 * 0x10
def fRGx_RP_CRC_ERR_CRC_ERR (p : Nat) : Fld := ⟨oRGx_RP_CRC_ERR p, 0, 24⟩
def oRGx_RP_HDR_ERR (p : Nat) : Nat := 0x14412 + p / 2 * 0x4000 + p % 2 * 0x10
def fRGx_RP_HDR_ERR_HDR_ERR (p : Nat) : Fld := ⟨oRGx_RP_HDR_ERR p, 0, 24⟩
def oRGx_RP_RING_MIS (p : Nat) : Nat := 0x14413 + p / 2 * 0x4000 + p % 2 * 0x10
def fRGx_RP_RING_MIS_RING_MIS (p : Nat) : Fld := ⟨oRGx_RP_RING_MIS p, 0, 24⟩
def oRGx_RP_FLUSH (p : Nat) : Nat := 0x14414 + p / 2 * 0x4000 + p % 2 * 0x10
def fRGx_RP_FLUSH_FLUSH (p : Nat) : Fld := ⟨oRGx_RP_FLUSH p, 0, 24⟩
def oRGx_RP_BLK_ERR (p : Nat) : Nat := 0x14415 + p / 2 * 0x4000 + p % 2 * 0x10
def fRGx_RP_BLK_ERR_BLK_ERR (p : Nat) : Fld := ⟨oRGx_RP_BLK_ERR p, 0, 24⟩
def oRGx_RP_LINK_DELAY (p : Nat) : Nat := 0x14416 + p / 2 * 0x4000 + p % 2 * 0x10
def fRGx_RP_LINK_DELAY_LINK_DELAY (p : Nat) : Fld := ⟨oRGx_RP_LINK_DELAY p, 0, 24⟩
def oRGx_RP_DUP (x : Nat) : Nat := 0x14430 + x * 0x4000
def fRGx_RP_DUP_DUP (x : Nat) : Fld := ⟨oRGx_RP_DUP x, 0, 24⟩
def oRGx_RP_TOO_OLD (x : Nat) : Nat := 0x14431 + x * 0x4000
def fRGx_RP_TOO_OLD_TOO_OLD (x : Nat) : Fld := ⟨oRGx_RP_TOO_OLD x, 0, 24⟩
def oRGx_RP_HOP_DISC (x : Nat) : Nat := 0x14432 + x * 0x4000
def fRGx_RP_HOP_DISC_HOP_DISC (x : Nat) : Fld := ⟨oRGx_RP_HOP_DISC x, 0, 24⟩
def oRGx_RP_RESENT (x : Nat) : Nat := 0x14433 + x * 0x4000
def fRGx_RP_RESENT_RESENT (x : Nat) : Fld := ⟨oRGx_RP_RESENT x, 0, 24⟩
def oRGx_RP_NO_ACK (x : Nat) : Nat := 0x14434 + x * 0x4000
def fRGx_RP_NO_ACK_NO_ACK (x : Nat) : Fld := ⟨oRGx_RP_NO_ACK x, 0, 24⟩
def oRGx_RP_EVT_LOST (x : Nat) : Nat := 0x14435 + x * 0x4000
def fRGx_RP_EVT_LOST_EVT_LOST (x : Nat) : Fld := ⟨oRGx_RP_EVT_LOST x, 0, 24⟩
def oRGx_RP_SWEEP_LOST (x : Nat) : Nat := 0x14436 + x * 0x4000
def fRGx_RP_SWEEP_LOST_SWEEP_LOST (x : Nat) : Fld := ⟨oRGx_RP_SWEEP_LOST x, 0, 24⟩
def oRGx_RP_SLOT_LATE (x : Nat) : Nat := 0x14437 + x * 0x4000
def fRGx_RP_SLOT_LATE_SLOT_LATE (x : Nat) : Fld := ⟨oRGx_RP_SLOT_LATE x, 0, 24⟩

/-! Fields of block RTM. -/

def oRTM_TIME0 : Nat := 0x1c000
def fRTM_TIME0_TIME0 : Fld := ⟨oRTM_TIME0, 0, 24⟩
def oRTM_TIME1 : Nat := 0x1c001
def fRTM_TIME1_TIME1 : Fld := ⟨oRTM_TIME1, 0, 24⟩
def oRTM_TIME2 : Nat := 0x1c002
def fRTM_TIME2_TIME2 : Fld := ⟨oRTM_TIME2, 0, 16⟩
def oRTM_STATUS : Nat := 0x1c003
def fRTM_STATUS_LOCKED : Fld := ⟨oRTM_STATUS, 0, 1⟩
def fRTM_STATUS_GM : Fld := ⟨oRTM_STATUS, 1, 1⟩
def fRTM_STATUS_HOLDOVER : Fld := ⟨oRTM_STATUS, 2, 1⟩
def fRTM_STATUS_PPS_LOCKED : Fld := ⟨oRTM_STATUS, 3, 1⟩
def fRTM_STATUS_KEEPALIVE : Fld := ⟨oRTM_STATUS, 4, 1⟩
def fRTM_STATUS_CFG_REJECT : Fld := ⟨oRTM_STATUS, 5, 1⟩
def fRTM_STATUS_GM_NODE : Fld := ⟨oRTM_STATUS, 6, 12⟩
def oRTM_CTL : Nat := 0x1c004
def fRTM_CTL_GM_PRIO : Fld := ⟨oRTM_CTL, 0, 8⟩
def fRTM_CTL_PPS_IN_EN : Fld := ⟨oRTM_CTL, 8, 1⟩
def fRTM_CTL_PPS_OUT_EN : Fld := ⟨oRTM_CTL, 9, 1⟩
def fRTM_CTL_SYNC_PER : Fld := ⟨oRTM_CTL, 10, 4⟩
def oRTM_OFFSET : Nat := 0x1c005
def fRTM_OFFSET_OFFSET : Fld := ⟨oRTM_OFFSET, 0, 24⟩
def oRTM_STEPS : Nat := 0x1c006
def fRTM_STEPS_STEPS : Fld := ⟨oRTM_STEPS, 0, 24⟩
def oRTM_PPS_W : Nat := 0x1c007
def fRTM_PPS_W_WIDTH : Fld := ⟨oRTM_PPS_W, 0, 10⟩
def oRTM_BOUND : Nat := 0x1c008
def fRTM_BOUND_BOUND : Fld := ⟨oRTM_BOUND, 0, 12⟩

/-! Fields of block SWQ. -/

def oSWQ_STATUS : Nat := 0x20000
def fSWQ_STATUS_CFG_REJECT : Fld := ⟨oSWQ_STATUS, 0, 1⟩
def fSWQ_STATUS_PTR_FROZEN : Fld := ⟨oSWQ_STATUS, 1, 1⟩
def fSWQ_STATUS_SPARE_OUT : Fld := ⟨oSWQ_STATUS, 2, 1⟩
def fSWQ_STATUS_DESC_EMPTY : Fld := ⟨oSWQ_STATUS, 3, 1⟩
def oSWQ_CTL : Nat := 0x20001
def fSWQ_CTL_MODE : Fld := ⟨oSWQ_CTL, 0, 1⟩
def fSWQ_CTL_PATROL_EN : Fld := ⟨oSWQ_CTL, 1, 1⟩
def fSWQ_CTL_PATROL_PER : Fld := ⟨oSWQ_CTL, 2, 4⟩
def oSWQ_CELLS : Nat := 0x20002
def fSWQ_CELLS_FREE : Fld := ⟨oSWQ_CELLS, 0, 14⟩
def fSWQ_CELLS_SPARE : Fld := ⟨oSWQ_CELLS, 14, 10⟩
def oSWQ_DESC : Nat := 0x20003
def fSWQ_DESC_FREE : Fld := ⟨oSWQ_DESC, 0, 17⟩
def oSWQ_TRES : Nat := 0x20004
def fSWQ_TRES_TRANSIT : Fld := ⟨oSWQ_TRES, 0, 12⟩
def fSWQ_TRES_DELIVER : Fld := ⟨oSWQ_TRES, 12, 12⟩
def oSWQ_SHAPE : Nat := 0x20005
def fSWQ_SHAPE_RATE : Fld := ⟨oSWQ_SHAPE, 0, 18⟩
def oSWQ_ARB : Nat := 0x20006
def fSWQ_ARB_W4 : Fld := ⟨oSWQ_ARB, 0, 4⟩
def fSWQ_ARB_W5 : Fld := ⟨oSWQ_ARB, 4, 4⟩
def fSWQ_ARB_W6 : Fld := ⟨oSWQ_ARB, 8, 4⟩
def fSWQ_ARB_W7 : Fld := ⟨oSWQ_ARB, 12, 4⟩
def fSWQ_ARB_BULK : Fld := ⟨oSWQ_ARB, 16, 7⟩
def oSWQ_MIR (k : Nat) : Nat := 0x20010 + k
def fSWQ_MIR_SRC (k : Nat) : Fld := ⟨oSWQ_MIR k, 0, 8⟩
def fSWQ_MIR_EN (k : Nat) : Fld := ⟨oSWQ_MIR k, 8, 1⟩
def oSWQ_SHED (p : Nat) : Nat := 0x20020 + p
def fSWQ_SHED_SHED (p : Nat) : Fld := ⟨oSWQ_SHED p, 0, 24⟩
def oSWQ_DLV_BUSY : Nat := 0x20024
def fSWQ_DLV_BUSY_DLV_BUSY : Fld := ⟨oSWQ_DLV_BUSY, 0, 24⟩
def oSWQ_MIR_SKIP : Nat := 0x20025
def fSWQ_MIR_SKIP_MIR_SKIP : Fld := ⟨oSWQ_MIR_SKIP, 0, 24⟩
def oSWQ_IDLE_SENT : Nat := 0x20026
def fSWQ_IDLE_SENT_IDLE_SENT : Fld := ⟨oSWQ_IDLE_SENT, 0, 24⟩
def oSWQ_UNDERRUN : Nat := 0x20027
def fSWQ_UNDERRUN_UNDERRUN : Fld := ⟨oSWQ_UNDERRUN, 0, 24⟩
def oSWQ_CHECK_ERR : Nat := 0x20028
def fSWQ_CHECK_ERR_CHECK_ERR : Fld := ⟨oSWQ_CHECK_ERR, 0, 24⟩
def oSWQ_RETIRED : Nat := 0x20029
def fSWQ_RETIRED_RETIRED : Fld := ⟨oSWQ_RETIRED, 0, 24⟩
def oSWQ_QCFG (n : Nat) : Nat := 0x20100 + n
def fSWQ_QCFG_MAX (n : Nat) : Fld := ⟨oSWQ_QCFG n, 0, 16⟩
def oSWQ_QCEL (n : Nat) : Nat := 0x20200 + n
def fSWQ_QCEL_MAXC (n : Nat) : Fld := ⟨oSWQ_QCEL n, 0, 14⟩
def fSWQ_QCEL_MINC (n : Nat) : Fld := ⟨oSWQ_QCEL n, 14, 10⟩
def oSWQ_QSTAT (n : Nat) : Nat := 0x20300 + n
def fSWQ_QSTAT_COUNT (n : Nat) : Fld := ⟨oSWQ_QSTAT n, 0, 17⟩
def fSWQ_QSTAT_EMPTY (n : Nat) : Fld := ⟨oSWQ_QSTAT n, 17, 1⟩
def fSWQ_QSTAT_FULL (n : Nat) : Fld := ⟨oSWQ_QSTAT n, 18, 1⟩
def fSWQ_QSTAT_UNDERRUN (n : Nat) : Fld := ⟨oSWQ_QSTAT n, 19, 1⟩
def fSWQ_QSTAT_FROZEN (n : Nat) : Fld := ⟨oSWQ_QSTAT n, 20, 1⟩
def oSWQ_QHWM (n : Nat) : Nat := 0x20400 + n
def fSWQ_QHWM_HWM (n : Nat) : Fld := ⟨oSWQ_QHWM n, 0, 17⟩

/-! Fields of block HIF. -/

def oHIF_STATUS : Nat := 0x38000
def fHIF_STATUS_LINK_UP : Fld := ⟨oHIF_STATUS, 0, 1⟩
def fHIF_STATUS_SPEED : Fld := ⟨oHIF_STATUS, 1, 3⟩
def fHIF_STATUS_WIDTH : Fld := ⟨oHIF_STATUS, 4, 3⟩
def fHIF_STATUS_CFG_REJECT : Fld := ⟨oHIF_STATUS, 7, 1⟩
def fHIF_STATUS_D3 : Fld := ⟨oHIF_STATUS, 8, 1⟩
def oHIF_CTL : Nat := 0x38001
def fHIF_CTL_RD_LIMIT : Fld := ⟨oHIF_CTL, 0, 8⟩
def fHIF_CTL_RO_EN : Fld := ⟨oHIF_CTL, 8, 1⟩
def fHIF_CTL_RDERR_CA : Fld := ⟨oHIF_CTL, 9, 1⟩
def oHIF_VEC : Nat := 0x38002
def fHIF_VEC_DESK : Fld := ⟨oHIF_VEC, 0, 6⟩
def fHIF_VEC_FLT : Fld := ⟨oHIF_VEC, 6, 6⟩
def fHIF_VEC_ERR : Fld := ⟨oHIF_VEC, 12, 6⟩
def fHIF_VEC_PWR : Fld := ⟨oHIF_VEC, 18, 6⟩
def oHIF_IRQ_PEND (i : Nat) : Nat := 0x38004 + i
def fHIF_IRQ_PEND_PEND (i : Nat) : Fld := ⟨oHIF_IRQ_PEND i, 0, 24⟩
def oHIF_ERR_LOG : Nat := 0x38008
def fHIF_ERR_LOG_KIND : Fld := ⟨oHIF_ERR_LOG, 0, 2⟩
def fHIF_ERR_LOG_WHICH : Fld := ⟨oHIF_ERR_LOG, 2, 6⟩
def fHIF_ERR_LOG_CAUSE : Fld := ⟨oHIF_ERR_LOG, 8, 8⟩
def fHIF_ERR_LOG_HOSTERR : Fld := ⟨oHIF_ERR_LOG, 16, 3⟩
def fHIF_ERR_LOG_VALID : Fld := ⟨oHIF_ERR_LOG, 23, 1⟩
def oHIF_RDLIM_CNT : Nat := 0x38010
def fHIF_RDLIM_CNT_RDLIM_CNT : Fld := ⟨oHIF_RDLIM_CNT, 0, 24⟩
def oHIF_DFR_CNT : Nat := 0x38011
def fHIF_DFR_CNT_DFR_CNT : Fld := ⟨oHIF_DFR_CNT, 0, 24⟩
def oHIF_DFR_DROP : Nat := 0x38012
def fHIF_DFR_DROP_DFR_DROP : Fld := ⟨oHIF_DFR_DROP, 0, 24⟩
def oHIF_LATE_RESP : Nat := 0x38013
def fHIF_LATE_RESP_LATE_RESP : Fld := ⟨oHIF_LATE_RESP, 0, 24⟩
def oHIF_CORR_CNT : Nat := 0x38014
def fHIF_CORR_CNT_CORR_CNT : Fld := ⟨oHIF_CORR_CNT, 0, 24⟩
def oHIF_WINA (k : Nat) : Nat := 0x38100 + k * 0x2
def fHIF_WINA_NODE (k : Nat) : Fld := ⟨oHIF_WINA k, 0, 12⟩
def fHIF_WINA_SPACE (k : Nat) : Fld := ⟨oHIF_WINA k, 12, 4⟩
def fHIF_WINA_CQ (k : Nat) : Fld := ⟨oHIF_WINA k, 16, 4⟩
def fHIF_WINA_WR_EN (k : Nat) : Fld := ⟨oHIF_WINA k, 20, 1⟩
def fHIF_WINA_EN (k : Nat) : Fld := ⟨oHIF_WINA k, 21, 1⟩
def oHIF_WINB (k : Nat) : Nat := 0x38101 + k * 0x2
def fHIF_WINB_BASE (k : Nat) : Fld := ⟨oHIF_WINB k, 0, 12⟩
def oHIF_SQ_BASE_LO (s : Nat) : Nat := 0x38200 + s * 0x8
def fHIF_SQ_BASE_LO_BASE_LO (s : Nat) : Fld := ⟨oHIF_SQ_BASE_LO s, 0, 24⟩
def oHIF_SQ_BASE_HI (s : Nat) : Nat := 0x38201 + s * 0x8
def fHIF_SQ_BASE_HI_BASE_HI (s : Nat) : Fld := ⟨oHIF_SQ_BASE_HI s, 0, 24⟩
def oHIF_SQ_CFG (s : Nat) : Nat := 0x38202 + s * 0x8
def fHIF_SQ_CFG_SIZE (s : Nat) : Fld := ⟨oHIF_SQ_CFG s, 0, 4⟩
def fHIF_SQ_CFG_CQ (s : Nat) : Fld := ⟨oHIF_SQ_CFG s, 4, 4⟩
def fHIF_SQ_CFG_EN (s : Nat) : Fld := ⟨oHIF_SQ_CFG s, 8, 1⟩
def oHIF_SQ_TAIL (s : Nat) : Nat := 0x38203 + s * 0x8
def fHIF_SQ_TAIL_TAIL (s : Nat) : Fld := ⟨oHIF_SQ_TAIL s, 0, 12⟩
def oHIF_SQ_HEAD (s : Nat) : Nat := 0x38204 + s * 0x8
def fHIF_SQ_HEAD_HEAD (s : Nat) : Fld := ⟨oHIF_SQ_HEAD s, 0, 12⟩
def oHIF_SQ_STAT (s : Nat) : Nat := 0x38205 + s * 0x8
def fHIF_SQ_STAT_STOPPED (s : Nat) : Fld := ⟨oHIF_SQ_STAT s, 0, 1⟩
def oHIF_CQ_BASE_LO (c : Nat) : Nat := 0x38300 + c * 0x8
def fHIF_CQ_BASE_LO_BASE_LO (c : Nat) : Fld := ⟨oHIF_CQ_BASE_LO c, 0, 24⟩
def oHIF_CQ_BASE_HI (c : Nat) : Nat := 0x38301 + c * 0x8
def fHIF_CQ_BASE_HI_BASE_HI (c : Nat) : Fld := ⟨oHIF_CQ_BASE_HI c, 0, 24⟩
def oHIF_CQ_CFG (c : Nat) : Nat := 0x38302 + c * 0x8
def fHIF_CQ_CFG_SIZE (c : Nat) : Fld := ⟨oHIF_CQ_CFG c, 0, 4⟩
def fHIF_CQ_CFG_VEC (c : Nat) : Fld := ⟨oHIF_CQ_CFG c, 4, 6⟩
def fHIF_CQ_CFG_EN (c : Nat) : Fld := ⟨oHIF_CQ_CFG c, 10, 1⟩
def fHIF_CQ_CFG_THR (c : Nat) : Fld := ⟨oHIF_CQ_CFG c, 11, 5⟩
def fHIF_CQ_CFG_TIMER (c : Nat) : Fld := ⟨oHIF_CQ_CFG c, 16, 8⟩
def oHIF_CQ_HEAD (c : Nat) : Nat := 0x38303 + c * 0x8
def fHIF_CQ_HEAD_HEAD (c : Nat) : Fld := ⟨oHIF_CQ_HEAD c, 0, 12⟩
def oHIF_CQ_TAIL (c : Nat) : Nat := 0x38304 + c * 0x8
def fHIF_CQ_TAIL_TAIL (c : Nat) : Fld := ⟨oHIF_CQ_TAIL c, 0, 12⟩

/-! Fields of block USB. -/

def oUSB_STATUS : Nat := 0x3c000
def fUSB_STATUS_VBUS : Fld := ⟨oUSB_STATUS, 0, 1⟩
def fUSB_STATUS_ATTACHED : Fld := ⟨oUSB_STATUS, 1, 1⟩
def fUSB_STATUS_CONFIGURED : Fld := ⟨oUSB_STATUS, 2, 1⟩
def fUSB_STATUS_SUSPENDED : Fld := ⟨oUSB_STATUS, 3, 1⟩
def fUSB_STATUS_SPEED : Fld := ⟨oUSB_STATUS, 4, 2⟩
def fUSB_STATUS_ADDRESS : Fld := ⟨oUSB_STATUS, 6, 7⟩
def fUSB_STATUS_CFG_REJECT : Fld := ⟨oUSB_STATUS, 13, 1⟩
def fUSB_STATUS_SESSION : Fld := ⟨oUSB_STATUS, 14, 1⟩
def fUSB_STATUS_STREAMING : Fld := ⟨oUSB_STATUS, 15, 1⟩
def oUSB_CTL : Nat := 0x3c001
def fUSB_CTL_CONNECT : Fld := ⟨oUSB_CTL, 0, 1⟩
def fUSB_CTL_LEGACY : Fld := ⟨oUSB_CTL, 1, 1⟩
def fUSB_CTL_GANGED : Fld := ⟨oUSB_CTL, 2, 1⟩
def fUSB_CTL_PGOOD : Fld := ⟨oUSB_CTL, 3, 8⟩
def fUSB_CTL_OC_FILT : Fld := ⟨oUSB_CTL, 11, 4⟩
def fUSB_CTL_AUDIO_EN : Fld := ⟨oUSB_CTL, 15, 1⟩
def fUSB_CTL_REATTACH : Fld := ⟨oUSB_CTL, 16, 1⟩
def oUSB_WAKE_REC : Nat := 0x3c002
def fUSB_WAKE_REC_KIND : Fld := ⟨oUSB_WAKE_REC, 0, 2⟩
def fUSB_WAKE_REC_SRC : Fld := ⟨oUSB_WAKE_REC, 2, 3⟩
def fUSB_WAKE_REC_VALID : Fld := ⟨oUSB_WAKE_REC, 23, 1⟩
def oUSB_PORT (n : Nat) : Nat := 0x3c003 + n
def fUSB_PORT_POWER (m : Nat) : Fld := ⟨oUSB_PORT m, 0, 1⟩
def fUSB_PORT_ENABLED (m : Nat) : Fld := ⟨oUSB_PORT m, 1, 1⟩
def fUSB_PORT_CONNECTED (m : Nat) : Fld := ⟨oUSB_PORT m, 2, 1⟩
def fUSB_PORT_SPEED (m : Nat) : Fld := ⟨oUSB_PORT m, 3, 2⟩
def fUSB_PORT_OC (m : Nat) : Fld := ⟨oUSB_PORT m, 5, 1⟩
def fUSB_PORT_OC_CHG (m : Nat) : Fld := ⟨oUSB_PORT m, 6, 1⟩
def fUSB_PORT_SUSPENDED (m : Nat) : Fld := ⟨oUSB_PORT m, 7, 1⟩
def oUSB_EPBUF (e : Nat) : Nat := 0x3c010 + e
def fUSB_EPBUF_BASE (e : Nat) : Fld := ⟨oUSB_EPBUF e, 0, 10⟩
def fUSB_EPBUF_SIZE (e : Nat) : Fld := ⟨oUSB_EPBUF e, 10, 10⟩
def fUSB_EPBUF_DOUBLE (e : Nat) : Fld := ⟨oUSB_EPBUF e, 20, 1⟩
def oUSB_ISO_DROP : Nat := 0x3c018
def fUSB_ISO_DROP_ISO_DROP : Fld := ⟨oUSB_ISO_DROP, 0, 24⟩
def oUSB_BUS_RESETS : Nat := 0x3c019
def fUSB_BUS_RESETS_BUS_RESETS : Fld := ⟨oUSB_BUS_RESETS, 0, 24⟩
def oUSB_CE_CNT : Nat := 0x3c01a
def fUSB_CE_CNT_CE_CNT : Fld := ⟨oUSB_CE_CNT, 0, 24⟩
def oUSB_FB : Nat := 0x3c01b
def fUSB_FB_FB : Fld := ⟨oUSB_FB, 0, 24⟩

/-! Fields of block DSK. -/

def oDSK_CORE : Nat := 0x40000
def fDSK_CORE_PAIR_A : Fld := ⟨oDSK_CORE, 0, 2⟩
def fDSK_CORE_PAIR_B : Fld := ⟨oDSK_CORE, 2, 2⟩
def fDSK_CORE_SPARE : Fld := ⟨oDSK_CORE, 4, 2⟩
def fDSK_CORE_DEGRADED : Fld := ⟨oDSK_CORE, 6, 1⟩
def fDSK_CORE_STOPPED : Fld := ⟨oDSK_CORE, 7, 1⟩
def fDSK_CORE_TAKEOVER : Fld := ⟨oDSK_CORE, 8, 1⟩
def fDSK_CORE_TAKEOVERS : Fld := ⟨oDSK_CORE, 9, 7⟩
def fDSK_CORE_TRANSIENTS : Fld := ⟨oDSK_CORE, 16, 7⟩
def oDSK_PAIR_LOG : Nat := 0x40001
def fDSK_PAIR_LOG_OFFSET : Fld := ⟨oDSK_PAIR_LOG, 0, 21⟩
def fDSK_PAIR_LOG_VALID : Fld := ⟨oDSK_PAIR_LOG, 23, 1⟩
def oDSK_DESK (d : Nat) : Nat := 0x40010 + d
def fDSK_DESK_STATE (d : Nat) : Fld := ⟨oDSK_DESK d, 0, 2⟩
def fDSK_DESK_SESSION (d : Nat) : Fld := ⟨oDSK_DESK d, 2, 1⟩
def fDSK_DESK_NODE (d : Nat) : Fld := ⟨oDSK_DESK d, 3, 12⟩
def fDSK_DESK_RIGHTS (d : Nat) : Fld := ⟨oDSK_DESK d, 15, 5⟩
def fDSK_DESK_LOCK (d : Nat) : Fld := ⟨oDSK_DESK d, 20, 1⟩
def oDSK_LEDGER : Nat := 0x40020
def fDSK_LEDGER_NEXT : Fld := ⟨oDSK_LEDGER, 0, 16⟩
def fDSK_LEDGER_WRAPS : Fld := ⟨oDSK_LEDGER, 16, 8⟩
def oDSK_ED_ACTIVE : Nat := 0x40030
def fDSK_ED_ACTIVE_EDITION : Fld := ⟨oDSK_ED_ACTIVE, 0, 16⟩
def fDSK_ED_ACTIVE_LATE : Fld := ⟨oDSK_ED_ACTIVE, 16, 1⟩
def oDSK_ED_ARMED : Nat := 0x40031
def fDSK_ED_ARMED_EDITION : Fld := ⟨oDSK_ED_ARMED, 0, 16⟩
def fDSK_ED_ARMED_STATE : Fld := ⟨oDSK_ED_ARMED, 16, 2⟩
def oDSK_ED_TIME (i : Nat) : Nat := 0x40032 + i
def fDSK_ED_TIME_T (i : Nat) : Fld := ⟨oDSK_ED_TIME i, 0, 24⟩
def oDSK_ED_COUNT : Nat := 0x40035
def fDSK_ED_COUNT_COUNT : Fld := ⟨oDSK_ED_COUNT, 0, 17⟩

/-! Fields of block FED. -/

def oFED_STATUS : Nat := 0x8000
def fFED_STATUS_FEEDA : Fld := ⟨oFED_STATUS, 0, 3⟩
def fFED_STATUS_FEEDB : Fld := ⟨oFED_STATUS, 3, 3⟩
def fFED_STATUS_A_ON : Fld := ⟨oFED_STATUS, 6, 1⟩
def fFED_STATUS_B_ON : Fld := ⟨oFED_STATUS, 7, 1⟩
def fFED_STATUS_NODE : Fld := ⟨oFED_STATUS, 8, 3⟩
def fFED_STATUS_PG : Fld := ⟨oFED_STATUS, 11, 1⟩
def fFED_STATUS_WARN : Fld := ⟨oFED_STATUS, 12, 1⟩
def fFED_STATUS_CFG_REJECT : Fld := ⟨oFED_STATUS, 13, 1⟩
def fFED_STATUS_A_FET_FLT : Fld := ⟨oFED_STATUS, 14, 1⟩
def fFED_STATUS_B_FET_FLT : Fld := ⟨oFED_STATUS, 15, 1⟩
def oFED_CTL : Nat := 0x8001
def fFED_CTL_WARN_V : Fld := ⟨oFED_CTL, 0, 8⟩
def oFED_FEED_MEAS (x : Nat) : Nat := 0x8002 + x
def fFED_FEED_MEAS_V (x : Nat) : Fld := ⟨oFED_FEED_MEAS x, 0, 12⟩
def oFED_NODE_MEAS : Nat := 0x8004
def fFED_NODE_MEAS_VNODE : Fld := ⟨oFED_NODE_MEAS, 0, 12⟩
def fFED_NODE_MEAS_SENSE : Fld := ⟨oFED_NODE_MEAS, 12, 12⟩
def oFED_CNT : Nat := 0x8005
def fFED_CNT_A_LOSS : Fld := ⟨oFED_CNT, 0, 8⟩
def fFED_CNT_B_LOSS : Fld := ⟨oFED_CNT, 8, 8⟩
def fFED_CNT_WARNS : Fld := ⟨oFED_CNT, 16, 8⟩
def oFED_FSC_CTL (n : Nat) : Nat := 0x8100 + n * 0x8
def fFED_FSC_CTL_EN (n : Nat) : Fld := ⟨oFED_FSC_CTL n, 0, 1⟩
def fFED_FSC_CTL_PRES_EN (n : Nat) : Fld := ⟨oFED_FSC_CTL n, 1, 1⟩
def fFED_FSC_CTL_SHED (n : Nat) : Fld := ⟨oFED_FSC_CTL n, 2, 1⟩
def fFED_FSC_CTL_SLEEP_OFF (n : Nat) : Fld := ⟨oFED_FSC_CTL n, 3, 1⟩
def fFED_FSC_CTL_UNLATCH (n : Nat) : Fld := ⟨oFED_FSC_CTL n, 4, 1⟩
def oFED_FSC_LIM (n : Nat) : Nat := 0x8101 + n * 0x8
def fFED_FSC_LIM_ILIM (n : Nat) : Fld := ⟨oFED_FSC_LIM n, 0, 9⟩
def oFED_FSC_TMR (n : Nat) : Nat := 0x8102 + n * 0x8
def fFED_FSC_TMR_SOA (n : Nat) : Fld := ⟨oFED_FSC_TMR n, 0, 10⟩
def fFED_FSC_TMR_PRE_T (n : Nat) : Fld := ⟨oFED_FSC_TMR n, 10, 8⟩
def fFED_FSC_TMR_RAMP (n : Nat) : Fld := ⟨oFED_FSC_TMR n, 18, 2⟩
def oFED_FSC_RETRY (n : Nat) : Nat := 0x8103 + n * 0x8
def fFED_FSC_RETRY_RETRY_T (n : Nat) : Fld := ⟨oFED_FSC_RETRY n, 0, 10⟩
def fFED_FSC_RETRY_LATCH_N (n : Nat) : Fld := ⟨oFED_FSC_RETRY n, 10, 4⟩
def fFED_FSC_RETRY_CLEAR_T (n : Nat) : Fld := ⟨oFED_FSC_RETRY n, 14, 6⟩
def oFED_FSC_STAT (n : Nat) : Nat := 0x8104 + n * 0x8
def fFED_FSC_STAT_STATE (n : Nat) : Fld := ⟨oFED_FSC_STAT n, 0, 4⟩
def fFED_FSC_STAT_LAST (n : Nat) : Fld := ⟨oFED_FSC_STAT n, 4, 3⟩
def fFED_FSC_STAT_TRIPS (n : Nat) : Fld := ⟨oFED_FSC_STAT n, 7, 4⟩
def fFED_FSC_STAT_PRESENT (n : Nat) : Fld := ⟨oFED_FSC_STAT n, 11, 1⟩
def fFED_FSC_STAT_HELD (n : Nat) : Fld := ⟨oFED_FSC_STAT n, 12, 2⟩
def fFED_FSC_STAT_CFG_REJECT (n : Nat) : Fld := ⟨oFED_FSC_STAT n, 14, 1⟩
def oFED_FSC_MEAS (n : Nat) : Nat := 0x8105 + n * 0x8
def fFED_FSC_MEAS_VOUT (n : Nat) : Fld := ⟨oFED_FSC_MEAS n, 0, 12⟩
def fFED_FSC_MEAS_SENSE (n : Nat) : Fld := ⟨oFED_FSC_MEAS n, 12, 12⟩
def oFED_FSC_CNT (n : Nat) : Nat := 0x8106 + n * 0x8
def fFED_FSC_CNT_TRIPS_TOTAL (n : Nat) : Fld := ⟨oFED_FSC_CNT n, 0, 12⟩
def fFED_FSC_CNT_REMOVALS (n : Nat) : Fld := ⟨oFED_FSC_CNT n, 12, 12⟩
def oFED_FSC_RSV (n : Nat) : Nat := 0x8107 + n * 0x8

/-! Fields of block PWR. -/

def oPWR_STATUS : Nat := 0x4000
def fPWR_STATUS_STATE : Fld := ⟨oPWR_STATUS, 0, 2⟩
def fPWR_STATUS_BUSY : Fld := ⟨oPWR_STATUS, 2, 1⟩
def fPWR_STATUS_RESULT : Fld := ⟨oPWR_STATUS, 3, 2⟩
def fPWR_STATUS_CFG_REJECT : Fld := ⟨oPWR_STATUS, 5, 1⟩
def fPWR_STATUS_CLK : Fld := ⟨oPWR_STATUS, 6, 1⟩
def fPWR_STATUS_XTAL_OK : Fld := ⟨oPWR_STATUS, 7, 1⟩
def oPWR_REQ : Nat := 0x4001
def fPWR_REQ_STATE : Fld := ⟨oPWR_REQ, 0, 2⟩
def fPWR_REQ_FORCE : Fld := ⟨oPWR_REQ, 2, 1⟩
def fPWR_REQ_FABRIC : Fld := ⟨oPWR_REQ, 3, 1⟩
def fPWR_REQ_GO : Fld := ⟨oPWR_REQ, 4, 1⟩
def oPWR_DRAIN : Nat := 0x4002
def fPWR_DRAIN_LIMIT : Fld := ⟨oPWR_DRAIN, 0, 17⟩
def oPWR_DOM_STAT0 : Nat := 0x4003
def fPWR_DOM_STAT0_DOM0_11 : Fld := ⟨oPWR_DOM_STAT0, 0, 24⟩
def oPWR_DOM_STAT1 : Nat := 0x4004
def fPWR_DOM_STAT1_DOM12_15 : Fld := ⟨oPWR_DOM_STAT1, 0, 8⟩
def oPWR_DOM_OFF : Nat := 0x4005
def fPWR_DOM_OFF_RGB : Fld := ⟨oPWR_DOM_OFF, 0, 1⟩
def fPWR_DOM_OFF_FP : Fld := ⟨oPWR_DOM_OFF, 1, 4⟩
def fPWR_DOM_OFF_ANA : Fld := ⟨oPWR_DOM_OFF, 5, 1⟩
def oPWR_CTL : Nat := 0x4006
def fPWR_CTL_FP_RET : Fld := ⟨oPWR_CTL, 0, 4⟩
def fPWR_CTL_HIF_RET : Fld := ⟨oPWR_CTL, 4, 1⟩
def fPWR_CTL_RET_SPARE : Fld := ⟨oPWR_CTL, 5, 1⟩
def oPWR_WAKE_EN : Nat := 0x4007
def fPWR_WAKE_EN_EN : Fld := ⟨oPWR_WAKE_EN, 0, 8⟩
def fPWR_WAKE_EN_EDGE : Fld := ⟨oPWR_WAKE_EN, 8, 1⟩
def fPWR_WAKE_EN_POL : Fld := ⟨oPWR_WAKE_EN, 9, 1⟩
def oPWR_WAKE_LAST : Nat := 0x4008
def fPWR_WAKE_LAST_SRC : Fld := ⟨oPWR_WAKE_LAST, 0, 4⟩
def fPWR_WAKE_LAST_FROM : Fld := ⟨oPWR_WAKE_LAST, 4, 2⟩
def fPWR_WAKE_LAST_RET_FAIL : Fld := ⟨oPWR_WAKE_LAST, 6, 1⟩
def fPWR_WAKE_LAST_VALID : Fld := ⟨oPWR_WAKE_LAST, 23, 1⟩
def oPWR_WAKE_TIME0 : Nat := 0x4009
def fPWR_WAKE_TIME0_TIME0 : Fld := ⟨oPWR_WAKE_TIME0, 0, 24⟩
def oPWR_WAKE_TIME1 : Nat := 0x400a
def fPWR_WAKE_TIME1_TIME1 : Fld := ⟨oPWR_WAKE_TIME1, 0, 16⟩
def oPWR_TIMER0 : Nat := 0x400b
def fPWR_TIMER0_T0 : Fld := ⟨oPWR_TIMER0, 0, 24⟩
def oPWR_TIMER1 : Nat := 0x400c
def fPWR_TIMER1_T1 : Fld := ⟨oPWR_TIMER1, 0, 16⟩
def fPWR_TIMER1_EN : Fld := ⟨oPWR_TIMER1, 16, 1⟩
def oPWR_RET_STAT : Nat := 0x400d
def fPWR_RET_STAT_BANK_UV : Fld := ⟨oPWR_RET_STAT, 0, 5⟩
def fPWR_RET_STAT_BANK_CANARY : Fld := ⟨oPWR_RET_STAT, 5, 5⟩
def fPWR_RET_STAT_DOM_UV : Fld := ⟨oPWR_RET_STAT, 10, 9⟩
def oPWR_CELL_DISC : Nat := 0x400e
def fPWR_CELL_DISC_CELL_DISC : Fld := ⟨oPWR_CELL_DISC, 0, 24⟩

/-! Fields of block FLT. -/

def oFLT_STATUS : Nat := 0xc000
def fFLT_STATUS_FIRST : Fld := ⟨oFLT_STATUS, 0, 1⟩
def fFLT_STATUS_CFG_REJECT : Fld := ⟨oFLT_STATUS, 1, 1⟩
def fFLT_STATUS_FORCED_ANY : Fld := ⟨oFLT_STATUS, 2, 1⟩
def fFLT_STATUS_WITHDRAWN : Fld := ⟨oFLT_STATUS, 3, 1⟩
def oFLT_FIRST0 : Nat := 0xc001
def fFLT_FIRST0_SOURCE : Fld := ⟨oFLT_FIRST0, 0, 10⟩
def fFLT_FIRST0_SEV : Fld := ⟨oFLT_FIRST0, 10, 2⟩
def fFLT_FIRST0_FORCED : Fld := ⟨oFLT_FIRST0, 12, 1⟩
def fFLT_FIRST0_VALID : Fld := ⟨oFLT_FIRST0, 23, 1⟩
def oFLT_FIRST1 : Nat := 0xc002
def fFLT_FIRST1_TIME0 : Fld := ⟨oFLT_FIRST1, 0, 24⟩
def oFLT_FIRST2 : Nat := 0xc003
def fFLT_FIRST2_TIME1 : Fld := ⟨oFLT_FIRST2, 0, 16⟩
def oFLT_REPEATS : Nat := 0xc004
def fFLT_REPEATS_REPEATS : Fld := ⟨oFLT_REPEATS, 0, 24⟩
def oFLT_LOG_LOST : Nat := 0xc005
def fFLT_LOG_LOST_LOG_LOST : Fld := ⟨oFLT_LOG_LOST, 0, 24⟩
def oFLT_STAT (i : Nat) : Nat := 0xc020 + i
def fFLT_STAT_STAT (i : Nat) : Fld := ⟨oFLT_STAT i, 0, 24⟩
def oFLT_MASK (i : Nat) : Nat := 0xc040 + i
def fFLT_MASK_MASK (i : Nat) : Fld := ⟨oFLT_MASK i, 0, 24⟩
def oFLT_FORCE (i : Nat) : Nat := 0xc060 + i
def fFLT_FORCE_FORCE (i : Nat) : Fld := ⟨oFLT_FORCE i, 0, 24⟩
def oFLT_SEV (i : Nat) : Nat := 0xc080 + i
def fFLT_SEV_SEV (i : Nat) : Fld := ⟨oFLT_SEV i, 0, 24⟩
def oFLT_ATC_CTL : Nat := 0xc0c0
def fFLT_ATC_CTL_AUTO : Fld := ⟨oFLT_ATC_CTL, 0, 6⟩
def fFLT_ATC_CTL_RINGB : Fld := ⟨oFLT_ATC_CTL, 6, 1⟩
def oFLT_ATC_THR : Nat := 0xc0c1
def fFLT_ATC_THR_BANK_CE : Fld := ⟨oFLT_ATC_THR, 0, 10⟩
def fFLT_ATC_THR_ENG_CE : Fld := ⟨oFLT_ATC_THR, 10, 6⟩
def fFLT_ATC_THR_DRIFT : Fld := ⟨oFLT_ATC_THR, 16, 8⟩
def oFLT_ATC_DIFF : Nat := 0xc0c2
def fFLT_ATC_DIFF_DIFF : Fld := ⟨oFLT_ATC_DIFF, 0, 16⟩
def oFLT_ATC_STAT : Nat := 0xc0c3
def fFLT_ATC_STAT_BANK_FENCED : Fld := ⟨oFLT_ATC_STAT, 0, 5⟩
def fFLT_ATC_STAT_RINGB_ACTIVE : Fld := ⟨oFLT_ATC_STAT, 5, 1⟩
def fFLT_ATC_STAT_CONV_IDLE : Fld := ⟨oFLT_ATC_STAT, 6, 3⟩
def fFLT_ATC_STAT_CORE_SPARE : Fld := ⟨oFLT_ATC_STAT, 9, 1⟩
def oFLT_ATC_ENG : Nat := 0xc0c4
def fFLT_ATC_ENG_ENG_IDLE : Fld := ⟨oFLT_ATC_ENG, 0, 20⟩
def oFLT_ATC_LOG : Nat := 0xc0c5
def fFLT_ATC_LOG_KIND : Fld := ⟨oFLT_ATC_LOG, 0, 3⟩
def fFLT_ATC_LOG_UNIT : Fld := ⟨oFLT_ATC_LOG, 3, 9⟩
def fFLT_ATC_LOG_SPARE : Fld := ⟨oFLT_ATC_LOG, 12, 9⟩
def fFLT_ATC_LOG_RESULT : Fld := ⟨oFLT_ATC_LOG, 21, 2⟩
def fFLT_ATC_LOG_VALID : Fld := ⟨oFLT_ATC_LOG, 23, 1⟩
def oFLT_ROWS (i : Nat) : Nat := 0xc0d0 + i
def fFLT_ROWS_LEFT (i : Nat) : Fld := ⟨oFLT_ROWS i, 0, 7⟩

/-! Fields of block CNT. -/

def oCNT_CTL : Nat := 0x10000
def fCNT_CTL_FREEZE : Fld := ⟨oCNT_CTL, 0, 1⟩
def fCNT_CTL_CLEAR_ALL : Fld := ⟨oCNT_CTL, 1, 1⟩
def oCNT_SEL (i : Nat) : Nat := 0x10100 + i
def fCNT_SEL_GROUP (i : Nat) : Fld := ⟨oCNT_SEL i, 0, 4⟩
def fCNT_SEL_INDEX (i : Nat) : Fld := ⟨oCNT_SEL i, 4, 12⟩
def fCNT_SEL_EN (i : Nat) : Fld := ⟨oCNT_SEL i, 16, 1⟩
def fCNT_SEL_SAT (i : Nat) : Fld := ⟨oCNT_SEL i, 17, 1⟩
def fCNT_SEL_CLR (i : Nat) : Fld := ⟨oCNT_SEL i, 18, 1⟩
def oCNT_LO (i : Nat) : Nat := 0x10200 + i * 0x2
def fCNT_LO_LO (i : Nat) : Fld := ⟨oCNT_LO i, 0, 24⟩
def oCNT_HI (i : Nat) : Nat := 0x10201 + i * 0x2
def fCNT_HI_HI (i : Nat) : Fld := ⟨oCNT_HI i, 0, 24⟩

/-! Fields of block TWN. -/

def oTWN_CTL : Nat := 0x48000
def fTWN_CTL_PEER : Fld := ⟨oTWN_CTL, 0, 12⟩
def fTWN_CTL_CLAIM_NUM : Fld := ⟨oTWN_CTL, 12, 4⟩
def fTWN_CTL_CLAIM_EN : Fld := ⟨oTWN_CTL, 16, 1⟩
def fTWN_CTL_START_ACTIVE : Fld := ⟨oTWN_CTL, 17, 1⟩
def fTWN_CTL_ROT_PER : Fld := ⟨oTWN_CTL, 18, 5⟩
def fTWN_CTL_EN : Fld := ⟨oTWN_CTL, 23, 1⟩
def oTWN_CTL2 : Nat := 0x48001
def fTWN_CTL2_GROUP : Fld := ⟨oTWN_CTL2, 0, 6⟩
def oTWN_STAT : Nat := 0x48002
def fTWN_STAT_ROLE : Fld := ⟨oTWN_STAT, 0, 3⟩
def fTWN_STAT_WON : Fld := ⟨oTWN_STAT, 3, 1⟩
def fTWN_STAT_PEER_OK : Fld := ⟨oTWN_STAT, 4, 1⟩
def fTWN_STAT_SEEN : Fld := ⟨oTWN_STAT, 5, 4⟩
def fTWN_STAT_BOTH : Fld := ⟨oTWN_STAT, 9, 1⟩
def fTWN_STAT_CFG_REJECT : Fld := ⟨oTWN_STAT, 10, 1⟩
def fTWN_STAT_CAUSE : Fld := ⟨oTWN_STAT, 11, 3⟩
def fTWN_STAT_HOURS : Fld := ⟨oTWN_STAT, 14, 10⟩
def oTWN_REQ : Nat := 0x48003
def fTWN_REQ_HANDOVER : Fld := ⟨oTWN_REQ, 0, 1⟩
def oTWN_PG (i : Nat) : Nat := 0x48010 + i
def fTWN_PG_GROUPS (i : Nat) : Fld := ⟨oTWN_PG i, 0, 24⟩
def oTWN_DIO (i : Nat) : Nat := 0x48020 + i
def fTWN_DIO_LINES (i : Nat) : Fld := ⟨oTWN_DIO i, 0, 24⟩

/-! Fields of block SEC. -/

def oSEC_STATUS : Nat := 0x44000
def fSEC_STATUS_CFG_REJECT : Fld := ⟨oSEC_STATUS, 0, 1⟩
def fSEC_STATUS_DEBUG_UNLOCKED : Fld := ⟨oSEC_STATUS, 1, 1⟩
def fSEC_STATUS_TRNG_OK : Fld := ⟨oSEC_STATUS, 2, 1⟩
def fSEC_STATUS_SETTINGS_DEFAULTED : Fld := ⟨oSEC_STATUS, 3, 1⟩
def oSEC_UNIT_TAG (i : Nat) : Nat := 0x44001 + i
def fSEC_UNIT_TAG_TAG (i : Nat) : Fld := ⟨oSEC_UNIT_TAG i, 0, 24⟩
def oSEC_CERT_LEN : Nat := 0x44003
def fSEC_CERT_LEN_CERT_LEN : Fld := ⟨oSEC_CERT_LEN, 0, 12⟩
def oSEC_LP_CTL : Nat := 0x44004
def fSEC_LP_CTL_A_EN : Fld := ⟨oSEC_LP_CTL, 0, 1⟩
def fSEC_LP_CTL_B_EN : Fld := ⟨oSEC_LP_CTL, 1, 1⟩
def oSEC_LP_STAT (i : Nat) : Nat := 0x44008 + i
def fSEC_LP_STAT_STATE (i : Nat) : Fld := ⟨oSEC_LP_STAT i, 0, 3⟩
def fSEC_LP_STAT_ENTRY (i : Nat) : Fld := ⟨oSEC_LP_STAT i, 3, 2⟩
def fSEC_LP_STAT_NODE (i : Nat) : Fld := ⟨oSEC_LP_STAT i, 5, 12⟩
def oSEC_LP_WAIT (i : Nat) : Nat := 0x4400c + i
def fSEC_LP_WAIT_WAIT (i : Nat) : Fld := ⟨oSEC_LP_WAIT i, 0, 24⟩
def oSEC_VOL : Nat := 0x44010
def fSEC_VOL_RUNNING : Fld := ⟨oSEC_VOL, 0, 1⟩
def fSEC_VOL_PHASE : Fld := ⟨oSEC_VOL, 1, 2⟩
def fSEC_VOL_ARMED : Fld := ⟨oSEC_VOL, 3, 1⟩
def fSEC_VOL_ARMED_VOL : Fld := ⟨oSEC_VOL, 4, 1⟩
def fSEC_VOL_AUTO_COMMIT : Fld := ⟨oSEC_VOL, 5, 1⟩
def fSEC_VOL_LATE : Fld := ⟨oSEC_VOL, 6, 1⟩
def oSEC_FALLBACK : Nat := 0x44011
def fSEC_FALLBACK_CAUSE : Fld := ⟨oSEC_FALLBACK, 0, 3⟩
def fSEC_FALLBACK_SETTINGS_LOST : Fld := ⟨oSEC_FALLBACK, 3, 1⟩
def fSEC_FALLBACK_VALID : Fld := ⟨oSEC_FALLBACK, 23, 1⟩
def oSEC_ARB (i : Nat) : Nat := 0x44014 + i
def fSEC_ARB_MIN (i : Nat) : Fld := ⟨oSEC_ARB i, 0, 8⟩
def oSEC_KEYSLOT (i : Nat) : Nat := 0x44020 + i
def fSEC_KEYSLOT_PROGRAMMED (i : Nat) : Fld := ⟨oSEC_KEYSLOT i, 0, 1⟩
def fSEC_KEYSLOT_REVOKED (i : Nat) : Fld := ⟨oSEC_KEYSLOT i, 1, 1⟩
def fSEC_KEYSLOT_USE (i : Nat) : Fld := ⟨oSEC_KEYSLOT i, 2, 4⟩

/-! Fields of block GLB. -/

def oGLB_ID0 : Nat := 0x0
def fGLB_ID0_HWTYPE : Fld := ⟨oGLB_ID0, 0, 16⟩
def fGLB_ID0_STEPPING : Fld := ⟨oGLB_ID0, 16, 8⟩
def oGLB_ID1 : Nat := 0x1
def fGLB_ID1_PCI_VID : Fld := ⟨oGLB_ID1, 0, 16⟩
def oGLB_ID2 : Nat := 0x2
def fGLB_ID2_USB_VID : Fld := ⟨oGLB_ID2, 0, 16⟩
def oGLB_FW : Nat := 0x3
def fGLB_FW_FW : Fld := ⟨oGLB_FW, 0, 24⟩
def oGLB_NODE : Nat := 0x4
def fGLB_NODE_NODE : Fld := ⟨oGLB_NODE, 0, 12⟩
def fGLB_NODE_RING : Fld := ⟨oGLB_NODE, 12, 6⟩
def oGLB_NODE2 : Nat := 0x5
def fGLB_NODE2_FAR_RING : Fld := ⟨oGLB_NODE2, 0, 6⟩
def fGLB_NODE2_COUPLER : Fld := ⟨oGLB_NODE2, 6, 1⟩
def fGLB_NODE2_NUMBERED : Fld := ⟨oGLB_NODE2, 7, 1⟩
def oGLB_STRAP : Nat := 0x6
def fGLB_STRAP_BOOT : Fld := ⟨oGLB_STRAP, 0, 2⟩
def fGLB_STRAP_MEDA : Fld := ⟨oGLB_STRAP, 2, 2⟩
def fGLB_STRAP_MEDB : Fld := ⟨oGLB_STRAP, 4, 2⟩
def fGLB_STRAP_FLCLK : Fld := ⟨oGLB_STRAP, 6, 1⟩
def fGLB_STRAP_PCIE : Fld := ⟨oGLB_STRAP, 7, 1⟩
def fGLB_STRAP_LEGACY : Fld := ⟨oGLB_STRAP, 8, 1⟩
def oGLB_STATUS : Nat := 0x7
def fGLB_STATUS_OWNER_REJECT : Fld := ⟨oGLB_STATUS, 0, 1⟩
def fGLB_STATUS_DOMAIN_OFF : Fld := ⟨oGLB_STATUS, 1, 1⟩
def fGLB_STATUS_BOOT_FAIL : Fld := ⟨oGLB_STATUS, 2, 1⟩
def oGLB_BOOT : Nat := 0x8
def fGLB_BOOT_STAGE : Fld := ⟨oGLB_BOOT, 0, 4⟩
def fGLB_BOOT_FAIL : Fld := ⟨oGLB_BOOT, 4, 4⟩
def fGLB_BOOT_RESTARTS : Fld := ⟨oGLB_BOOT, 8, 4⟩
def oGLB_RST : Nat := 0x9
def fGLB_RST_CAUSE : Fld := ⟨oGLB_RST, 0, 3⟩
def oGLB_OWNER_LOG : Nat := 0xa
def fGLB_OWNER_LOG_OFFSET : Fld := ⟨oGLB_OWNER_LOG, 0, 21⟩
def fGLB_OWNER_LOG_FABRIC : Fld := ⟨oGLB_OWNER_LOG, 21, 1⟩
def fGLB_OWNER_LOG_VALID : Fld := ⟨oGLB_OWNER_LOG, 23, 1⟩
def oGLB_OWNER_NODE : Nat := 0xb
def fGLB_OWNER_NODE_NODE : Fld := ⟨oGLB_OWNER_NODE, 0, 12⟩
def oGLB_SCRATCH (i : Nat) : Nat := 0x10 + i
def fGLB_SCRATCH_DATA (i : Nat) : Fld := ⟨oGLB_SCRATCH i, 0, 24⟩

/-- The registers of block STK. -/
def rowsSTK : List RegRow := [
  ⟨0x28001, [], [⟨0, 1, .w1c, .live, 0x0⟩, ⟨1, 1, .ro, .none, 0x0⟩, ⟨2, 1, .w1c, .live, 0x0⟩, ⟨3, 5, .w1c, .live, 0x0⟩]⟩,
  ⟨0x28002, [], [⟨0, 1, .rw, .live, 0x1⟩, ⟨1, 4, .rw, .live, 0xf⟩]⟩,
  ⟨0x28003, [], [⟨0, 16, .ro, .none, 0x0⟩, ⟨16, 3, .ro, .none, 0x0⟩]⟩,
  ⟨0x28004, [], [⟨0, 3, .rw, .live, 0x0⟩, ⟨3, 3, .rw, .live, 0x1⟩, ⟨6, 3, .rw, .live, 0x2⟩, ⟨9, 3, .rw, .live, 0x3⟩, ⟨12, 3, .ro, .none, 0x4⟩, ⟨15, 1, .wo, .live, 0x0⟩]⟩,
  ⟨0x28005, [], [⟨0, 3, .rw, .halted, 0x0⟩, ⟨3, 3, .rw, .halted, 0x4⟩, ⟨6, 1, .wo, .live, 0x0⟩, ⟨7, 1, .wo, .live, 0x0⟩]⟩,
  ⟨0x28006, [], [⟨0, 18, .ro, .none, 0x0⟩, ⟨18, 1, .ro, .none, 0x0⟩, ⟨19, 1, .ro, .none, 0x0⟩, ⟨20, 1, .ro, .none, 0x0⟩]⟩,
  ⟨0x28008, [(8, 0x1)], [⟨0, 22, .rw, .staged, 0x0⟩, ⟨22, 2, .rw, .staged, 0x0⟩]⟩,
  ⟨0x28010, [(5, 0x1)], [⟨0, 24, .rc, .none, 0x0⟩]⟩,
  ⟨0x28018, [], [⟨0, 18, .ro, .none, 0x0⟩, ⟨18, 1, .ro, .none, 0x0⟩, ⟨19, 3, .ro, .none, 0x0⟩, ⟨22, 1, .w1c, .live, 0x0⟩]⟩]

/-- The registers of block CLK. -/
def rowsCLK : List RegRow := [
  ⟨0x100000, [(104, 0x1000)], [⟨0, 2, .rw, .paired, 0x0⟩, ⟨2, 1, .rw, .live, 0x0⟩]⟩,
  ⟨0x100001, [(104, 0x1000)], [⟨0, 5, .rw, .paired, 0x0⟩]⟩,
  ⟨0x100002, [(104, 0x1000)], [⟨0, 3, .ro, .none, 0x1⟩, ⟨3, 1, .ro, .none, 0x0⟩]⟩,
  ⟨0x100003, [(104, 0x1000)], [⟨0, 8, .rw, .halted, 0x0⟩, ⟨8, 8, .rw, .halted, 0x0⟩, ⟨16, 8, .rw, .halted, 0x0⟩]⟩,
  ⟨0x100004, [(104, 0x1000)], [⟨0, 12, .ro, .none, 0x0⟩, ⟨12, 12, .ro, .none, 0x0⟩]⟩,
  ⟨0x100010, [(104, 0x1000)], [⟨0, 3, .rw, .live, 0x4⟩, ⟨3, 4, .rw, .halted, 0x0⟩, ⟨7, 1, .rw, .halted, 0x0⟩]⟩,
  ⟨0x100011, [(104, 0x1000)], [⟨0, 5, .rw, .halted, 0x1f⟩]⟩,
  ⟨0x100012, [(104, 0x1000)], [⟨0, 13, .rw, .live, 0xc8⟩]⟩,
  ⟨0x100013, [(104, 0x1000)], [⟨0, 3, .rw, .live, 0x2⟩, ⟨3, 13, .rw, .live, 0x1f4⟩]⟩,
  ⟨0x100018, [(104, 0x1000), (8, 0x1)], [⟨0, 22, .rw, .staged, 0x0⟩, ⟨22, 2, .rw, .staged, 0x0⟩]⟩,
  ⟨0x100020, [(104, 0x1000)], [⟨0, 1, .ro, .none, 0x0⟩, ⟨1, 3, .ro, .none, 0x1⟩, ⟨4, 1, .ro, .none, 0x0⟩, ⟨5, 1, .ro, .none, 0x0⟩, ⟨6, 5, .ro, .none, 0x1f⟩, ⟨11, 1, .w1c, .live, 0x0⟩]⟩,
  ⟨0x100021, [(104, 0x1000)], [⟨0, 24, .ro, .none, 0x0⟩]⟩,
  ⟨0x100022, [(104, 0x1000)], [⟨0, 8, .w1c, .live, 0x0⟩]⟩,
  ⟨0x100023, [(104, 0x1000)], [⟨0, 24, .ro, .none, 0x0⟩]⟩,
  ⟨0x100024, [(104, 0x1000)], [⟨0, 24, .ro, .none, 0x0⟩]⟩,
  ⟨0x100025, [(104, 0x1000)], [⟨0, 24, .ro, .none, 0x0⟩]⟩,
  ⟨0x100026, [(104, 0x1000)], [⟨0, 24, .ro, .none, 0x0⟩]⟩,
  ⟨0x100027, [(104, 0x1000)], [⟨0, 24, .ro, .none, 0x0⟩]⟩]

/-- The registers of block DIO. -/
def rowsDIO : List RegRow := [
  ⟨0x30000, [], [⟨0, 1, .w1c, .live, 0x0⟩, ⟨1, 1, .w1c, .live, 0x0⟩, ⟨2, 4, .w1c, .live, 0x0⟩, ⟨6, 4, .ro, .none, 0x0⟩]⟩,
  ⟨0x30001, [], [⟨0, 10, .rw, .live, 0x64⟩]⟩,
  ⟨0x30002, [], [⟨0, 12, .rw, .live, 0x0⟩, ⟨12, 1, .wo, .live, 0x0⟩]⟩,
  ⟨0x30010, [(16, 0x1)], [⟨0, 9, .rw, .paired, 0x0⟩, ⟨9, 1, .rw, .paired, 0x0⟩]⟩,
  ⟨0x30020, [(12, 0x1)], [⟨0, 24, .ro, .none, 0x0⟩]⟩,
  ⟨0x30100, [(272, 0x1)], [⟨0, 4, .rw, .paired, 0x0⟩, ⟨4, 2, .rw, .live, 0x0⟩, ⟨6, 2, .rw, .live, 0x3⟩, ⟨8, 1, .rw, .live, 0x0⟩]⟩,
  ⟨0x30300, [(272, 0x1)], [⟨0, 24, .rw, .paired, 0x0⟩]⟩]

/-- The registers of block ANA. -/
def rowsANA : List RegRow := [
  ⟨0x34000, [], [⟨0, 1, .w1c, .live, 0x0⟩, ⟨1, 1, .ro, .none, 0x0⟩, ⟨2, 1, .ro, .none, 0x0⟩, ⟨3, 1, .ro, .none, 0x0⟩]⟩,
  ⟨0x34001, [], [⟨0, 1, .rw, .live, 0x1⟩, ⟨1, 7, .rw, .live, 0xa⟩, ⟨8, 8, .rw, .live, 0x3c⟩, ⟨16, 3, .rw, .live, 0x4⟩]⟩,
  ⟨0x34002, [], [⟨0, 7, .ro, .none, 0x7f⟩, ⟨7, 7, .ro, .none, 0x7f⟩, ⟨14, 10, .ro, .none, 0x0⟩]⟩,
  ⟨0x34040, [(64, 0x1)], [⟨0, 4, .rw, .live, 0x3⟩, ⟨4, 2, .rw, .live, 0x1⟩, ⟨6, 3, .rw, .live, 0x0⟩, ⟨9, 4, .rw, .live, 0x0⟩, ⟨13, 1, .rw, .live, 0x0⟩, ⟨14, 1, .rw, .live, 0x0⟩]⟩,
  ⟨0x34080, [(64, 0x1)], [⟨0, 7, .rw, .live, 0x0⟩]⟩,
  ⟨0x340c0, [(64, 0x1)], [⟨0, 1, .ro, .none, 0x0⟩, ⟨1, 1, .ro, .none, 0x0⟩, ⟨2, 1, .ro, .none, 0x0⟩, ⟨3, 1, .ro, .none, 0x0⟩, ⟨4, 16, .ro, .none, 0x0⟩]⟩,
  ⟨0x34100, [(68, 0x1)], [⟨0, 2, .ro, .none, 0x0⟩, ⟨2, 3, .ro, .none, 0x0⟩]⟩,
  ⟨0x34180, [(68, 0x1)], [⟨0, 24, .rw, .paired, 0x0⟩]⟩,
  ⟨0x34200, [(68, 0x1)], [⟨0, 24, .rw, .paired, 0x400000⟩]⟩,
  ⟨0x34300, [(32, 0x1)], [⟨0, 6, .rw, .halted, 0x0⟩, ⟨6, 1, .rw, .halted, 0x0⟩]⟩]

/-- The registers of block RGx. -/
def rowsRGx : List RegRow := [
  ⟨0x14000, [(2, 0x4000), (2, 0x100)], [⟨0, 2, .rw, .halted, 0x0⟩, ⟨2, 2, .rw, .halted, 0x0⟩, ⟨4, 2, .rw, .halted, 0x0⟩, ⟨6, 1, .rw, .live, 0x0⟩, ⟨7, 1, .wo, .live, 0x0⟩, ⟨8, 4, .rw, .live, 0x2⟩]⟩,
  ⟨0x14001, [(2, 0x4000), (2, 0x100)], [⟨0, 3, .ro, .none, 0x0⟩, ⟨3, 2, .ro, .none, 0x0⟩, ⟨5, 1, .ro, .none, 0x0⟩, ⟨6, 4, .ro, .none, 0x1⟩, ⟨10, 1, .w1c, .live, 0x0⟩]⟩,
  ⟨0x14002, [(2, 0x4000), (2, 0x100)], [⟨0, 24, .ro, .none, 0x0⟩]⟩,
  ⟨0x14003, [(2, 0x4000), (2, 0x100)], [⟨0, 24, .ro, .none, 0x0⟩]⟩,
  ⟨0x14004, [(2, 0x4000), (2, 0x100)], [⟨0, 8, .ro, .none, 0x0⟩]⟩,
  ⟨0x14005, [(2, 0x4000), (2, 0x100)], [⟨0, 24, .rc, .none, 0x0⟩]⟩,
  ⟨0x14006, [(2, 0x4000), (2, 0x100)], [⟨0, 24, .rc, .none, 0x0⟩]⟩,
  ⟨0x14007, [(2, 0x4000), (2, 0x100)], [⟨0, 24, .ro, .none, 0x0⟩]⟩,
  ⟨0x14008, [(2, 0x4000), (2, 0x100)], [⟨0, 24, .ro, .none, 0x0⟩]⟩,
  ⟨0x14010, [(2, 0x4000), (2, 0x100)], [⟨0, 1, .wo, .live, 0x0⟩, ⟨1, 1, .rw, .live, 0x0⟩, ⟨2, 8, .rw, .live, 0xd⟩, ⟨10, 10, .rw, .live, 0x294⟩]⟩,
  ⟨0x14011, [(2, 0x4000), (2, 0x100)], [⟨0, 2, .ro, .none, 0x0⟩, ⟨2, 2, .ro, .none, 0x0⟩, ⟨4, 3, .ro, .none, 0x0⟩]⟩,
  ⟨0x14012, [(2, 0x4000), (2, 0x100), (4, 0x1)], [⟨0, 14, .ro, .none, 0x0⟩, ⟨14, 3, .ro, .none, 0x0⟩, ⟨17, 7, .ro, .none, 0x0⟩]⟩,
  ⟨0x14020, [(2, 0x4000), (2, 0x100)], [⟨0, 1, .wo, .live, 0x0⟩, ⟨1, 8, .rw, .live, 0x3c⟩]⟩,
  ⟨0x14021, [(2, 0x4000), (2, 0x100)], [⟨0, 24, .rw, .live, 0x3e8⟩]⟩,
  ⟨0x14022, [(2, 0x4000), (2, 0x100)], [⟨0, 24, .rw, .live, 0x186a0⟩]⟩,
  ⟨0x14023, [(2, 0x4000), (2, 0x100)], [⟨0, 1, .ro, .none, 0x0⟩, ⟨1, 1, .ro, .none, 0x0⟩, ⟨2, 1, .ro, .none, 0x0⟩]⟩,
  ⟨0x14024, [(2, 0x4000), (2, 0x100)], [⟨0, 20, .ro, .none, 0x0⟩, ⟨20, 1, .ro, .none, 0x0⟩, ⟨21, 1, .ro, .none, 0x0⟩, ⟨22, 1, .ro, .none, 0x0⟩, ⟨23, 1, .ro, .none, 0x0⟩]⟩,
  ⟨0x14070, [(2, 0x4000), (2, 0x100), (24, 0x1)], [⟨0, 24, .ro, .none, 0xffffff⟩]⟩,
  ⟨0x14040, [(2, 0x4000), (2, 0x100)], [⟨0, 1, .ro, .none, 0x0⟩, ⟨1, 1, .ro, .none, 0x0⟩, ⟨2, 1, .ro, .none, 0x0⟩, ⟨3, 1, .ro, .none, 0x0⟩, ⟨4, 1, .ro, .none, 0x0⟩, ⟨5, 1, .ro, .none, 0x0⟩, ⟨6, 1, .ro, .none, 0x0⟩]⟩,
  ⟨0x14041, [(2, 0x4000), (2, 0x100)], [⟨0, 16, .ro, .none, 0x0⟩]⟩,
  ⟨0x14042, [(2, 0x4000), (2, 0x100), (5, 0x1)], [⟨0, 16, .ro, .none, 0x0⟩]⟩,
  ⟨0x14050, [(2, 0x4000), (2, 0x100), (32, 0x1)], [⟨0, 24, .ro, .none, 0x0⟩]⟩,
  ⟨0x14200, [(2, 0x4000)], [⟨0, 1, .rw, .live, 0x0⟩, ⟨1, 1, .rw, .live, 0x1⟩, ⟨2, 6, .rw, .halted, 0x5⟩, ⟨8, 4, .rw, .halted, 0x0⟩, ⟨12, 4, .rw, .halted, 0x3⟩, ⟨16, 4, .rw, .live, 0x4⟩, ⟨20, 1, .rw, .halted, 0x0⟩, ⟨21, 1, .rw, .halted, 0x0⟩]⟩,
  ⟨0x14201, [(2, 0x4000)], [⟨0, 1, .ro, .none, 0x0⟩, ⟨1, 1, .ro, .none, 0x0⟩, ⟨2, 2, .ro, .none, 0x0⟩, ⟨4, 4, .ro, .none, 0x0⟩, ⟨8, 1, .ro, .none, 0x0⟩, ⟨9, 1, .w1c, .live, 0x0⟩]⟩,
  ⟨0x14400, [(2, 0x4000)], [⟨0, 1, .rw, .live, 0x1⟩, ⟨1, 8, .rw, .live, 0xa⟩]⟩,
  ⟨0x14401, [(2, 0x4000)], [⟨0, 1, .ro, .none, 0x0⟩, ⟨1, 1, .ro, .none, 0x0⟩, ⟨2, 1, .ro, .none, 0x0⟩, ⟨3, 1, .w1c, .live, 0x0⟩, ⟨4, 6, .ro, .none, 0x0⟩]⟩,
  ⟨0x14410, [(2, 0x4000), (2, 0x10)], [⟨0, 24, .rc, .none, 0x0⟩]⟩,
  ⟨0x14411, [(2, 0x4000), (2, 0x10)], [⟨0, 24, .rc, .none, 0x0⟩]⟩,
  ⟨0x14412, [(2, 0x4000), (2, 0x10)], [⟨0, 24, .rc, .none, 0x0⟩]⟩,
  ⟨0x14413, [(2, 0x4000), (2, 0x10)], [⟨0, 24, .rc, .none, 0x0⟩]⟩,
  ⟨0x14414, [(2, 0x4000), (2, 0x10)], [⟨0, 24, .rc, .none, 0x0⟩]⟩,
  ⟨0x14415, [(2, 0x4000), (2, 0x10)], [⟨0, 24, .rc, .none, 0x0⟩]⟩,
  ⟨0x14416, [(2, 0x4000), (2, 0x10)], [⟨0, 24, .ro, .none, 0x0⟩]⟩,
  ⟨0x14430, [(2, 0x4000)], [⟨0, 24, .rc, .none, 0x0⟩]⟩,
  ⟨0x14431, [(2, 0x4000)], [⟨0, 24, .rc, .none, 0x0⟩]⟩,
  ⟨0x14432, [(2, 0x4000)], [⟨0, 24, .rc, .none, 0x0⟩]⟩,
  ⟨0x14433, [(2, 0x4000)], [⟨0, 24, .rc, .none, 0x0⟩]⟩,
  ⟨0x14434, [(2, 0x4000)], [⟨0, 24, .rc, .none, 0x0⟩]⟩,
  ⟨0x14435, [(2, 0x4000)], [⟨0, 24, .rc, .none, 0x0⟩]⟩,
  ⟨0x14436, [(2, 0x4000)], [⟨0, 24, .rc, .none, 0x0⟩]⟩,
  ⟨0x14437, [(2, 0x4000)], [⟨0, 24, .rc, .none, 0x0⟩]⟩]

/-- The registers of block RTM. -/
def rowsRTM : List RegRow := [
  ⟨0x1c000, [], [⟨0, 24, .ro, .none, 0x0⟩]⟩,
  ⟨0x1c001, [], [⟨0, 24, .ro, .none, 0x0⟩]⟩,
  ⟨0x1c002, [], [⟨0, 16, .ro, .none, 0x0⟩]⟩,
  ⟨0x1c003, [], [⟨0, 1, .ro, .none, 0x0⟩, ⟨1, 1, .ro, .none, 0x0⟩, ⟨2, 1, .ro, .none, 0x0⟩, ⟨3, 1, .ro, .none, 0x0⟩, ⟨4, 1, .ro, .none, 0x0⟩, ⟨5, 1, .w1c, .live, 0x0⟩, ⟨6, 12, .ro, .none, 0x0⟩]⟩,
  ⟨0x1c004, [], [⟨0, 8, .rw, .staged, 0xff⟩, ⟨8, 1, .rw, .live, 0x0⟩, ⟨9, 1, .rw, .live, 0x0⟩, ⟨10, 4, .rw, .staged, 0x3⟩]⟩,
  ⟨0x1c005, [], [⟨0, 24, .ro, .none, 0x0⟩]⟩,
  ⟨0x1c006, [], [⟨0, 24, .ro, .none, 0x0⟩]⟩,
  ⟨0x1c007, [], [⟨0, 10, .rw, .live, 0x64⟩]⟩,
  ⟨0x1c008, [], [⟨0, 12, .ro, .none, 0x0⟩]⟩]

/-- The registers of block SWQ. -/
def rowsSWQ : List RegRow := [
  ⟨0x20000, [], [⟨0, 1, .w1c, .live, 0x0⟩, ⟨1, 1, .ro, .none, 0x0⟩, ⟨2, 1, .ro, .none, 0x0⟩, ⟨3, 1, .ro, .none, 0x0⟩]⟩,
  ⟨0x20001, [], [⟨0, 1, .rw, .live, 0x0⟩, ⟨1, 1, .rw, .live, 0x1⟩, ⟨2, 4, .rw, .live, 0x7⟩]⟩,
  ⟨0x20002, [], [⟨0, 14, .ro, .none, 0x3ccd⟩, ⟨14, 10, .ro, .none, 0x333⟩]⟩,
  ⟨0x20003, [], [⟨0, 17, .ro, .none, 0x10000⟩]⟩,
  ⟨0x20004, [], [⟨0, 12, .rw, .staged, 0x400⟩, ⟨12, 12, .rw, .staged, 0x800⟩]⟩,
  ⟨0x20005, [], [⟨0, 18, .rw, .staged, 0x0⟩]⟩,
  ⟨0x20006, [], [⟨0, 4, .rw, .live, 0x2⟩, ⟨4, 4, .rw, .live, 0x2⟩, ⟨8, 4, .rw, .live, 0x2⟩, ⟨12, 4, .rw, .live, 0x1⟩, ⟨16, 7, .rw, .live, 0xa⟩]⟩,
  ⟨0x20010, [(8, 0x1)], [⟨0, 8, .rw, .paired, 0x0⟩, ⟨8, 1, .rw, .paired, 0x0⟩]⟩,
  ⟨0x20020, [(4, 0x1)], [⟨0, 24, .rc, .none, 0x0⟩]⟩,
  ⟨0x20024, [], [⟨0, 24, .rc, .none, 0x0⟩]⟩,
  ⟨0x20025, [], [⟨0, 24, .rc, .none, 0x0⟩]⟩,
  ⟨0x20026, [], [⟨0, 24, .rc, .none, 0x0⟩]⟩,
  ⟨0x20027, [], [⟨0, 24, .rc, .none, 0x0⟩]⟩,
  ⟨0x20028, [], [⟨0, 24, .rc, .none, 0x0⟩]⟩,
  ⟨0x20029, [], [⟨0, 24, .ro, .none, 0x0⟩]⟩,
  ⟨0x20100, [(256, 0x1)], [⟨0, 16, .rw, .live, 0x400⟩]⟩,
  ⟨0x20200, [(256, 0x1)], [⟨0, 14, .rw, .live, 0x400⟩, ⟨14, 10, .rw, .live, 0x0⟩]⟩,
  ⟨0x20300, [(256, 0x1)], [⟨0, 17, .ro, .none, 0x0⟩, ⟨17, 1, .ro, .none, 0x1⟩, ⟨18, 1, .ro, .none, 0x0⟩, ⟨19, 1, .w1c, .live, 0x0⟩, ⟨20, 1, .ro, .none, 0x0⟩]⟩,
  ⟨0x20400, [(256, 0x1)], [⟨0, 17, .rc, .none, 0x0⟩]⟩]

/-- The registers of block HIF. -/
def rowsHIF : List RegRow := [
  ⟨0x38000, [], [⟨0, 1, .ro, .none, 0x0⟩, ⟨1, 3, .ro, .none, 0x0⟩, ⟨4, 3, .ro, .none, 0x0⟩, ⟨7, 1, .w1c, .live, 0x0⟩, ⟨8, 1, .ro, .none, 0x0⟩]⟩,
  ⟨0x38001, [], [⟨0, 8, .rw, .live, 0xa⟩, ⟨8, 1, .rw, .live, 0x0⟩, ⟨9, 1, .rw, .live, 0x0⟩]⟩,
  ⟨0x38002, [], [⟨0, 6, .rw, .live, 0x30⟩, ⟨6, 6, .rw, .live, 0x31⟩, ⟨12, 6, .rw, .live, 0x32⟩, ⟨18, 6, .rw, .live, 0x33⟩]⟩,
  ⟨0x38004, [(3, 0x1)], [⟨0, 24, .w1c, .live, 0x0⟩]⟩,
  ⟨0x38008, [], [⟨0, 2, .ro, .none, 0x0⟩, ⟨2, 6, .ro, .none, 0x0⟩, ⟨8, 8, .ro, .none, 0x0⟩, ⟨16, 3, .ro, .none, 0x0⟩, ⟨23, 1, .w1c, .live, 0x0⟩]⟩,
  ⟨0x38010, [], [⟨0, 24, .rc, .none, 0x0⟩]⟩,
  ⟨0x38011, [], [⟨0, 24, .rc, .none, 0x0⟩]⟩,
  ⟨0x38012, [], [⟨0, 24, .rc, .none, 0x0⟩]⟩,
  ⟨0x38013, [], [⟨0, 24, .rc, .none, 0x0⟩]⟩,
  ⟨0x38014, [], [⟨0, 24, .rc, .none, 0x0⟩]⟩,
  ⟨0x38100, [(64, 0x2)], [⟨0, 12, .rw, .paired, 0x0⟩, ⟨12, 4, .rw, .paired, 0x0⟩, ⟨16, 4, .rw, .paired, 0x0⟩, ⟨20, 1, .rw, .paired, 0x0⟩, ⟨21, 1, .rw, .paired, 0x0⟩]⟩,
  ⟨0x38101, [(64, 0x2)], [⟨0, 12, .rw, .paired, 0x0⟩]⟩,
  ⟨0x38200, [(12, 0x8)], [⟨0, 24, .rw, .halted, 0x0⟩]⟩,
  ⟨0x38201, [(12, 0x8)], [⟨0, 24, .rw, .halted, 0x0⟩]⟩,
  ⟨0x38202, [(12, 0x8)], [⟨0, 4, .rw, .halted, 0x0⟩, ⟨4, 4, .rw, .halted, 0x0⟩, ⟨8, 1, .rw, .live, 0x0⟩]⟩,
  ⟨0x38203, [(12, 0x8)], [⟨0, 12, .rw, .live, 0x0⟩]⟩,
  ⟨0x38204, [(12, 0x8)], [⟨0, 12, .ro, .none, 0x0⟩]⟩,
  ⟨0x38205, [(12, 0x8)], [⟨0, 1, .ro, .none, 0x0⟩]⟩,
  ⟨0x38300, [(12, 0x8)], [⟨0, 24, .rw, .halted, 0x0⟩]⟩,
  ⟨0x38301, [(12, 0x8)], [⟨0, 24, .rw, .halted, 0x0⟩]⟩,
  ⟨0x38302, [(12, 0x8)], [⟨0, 4, .rw, .halted, 0x0⟩, ⟨4, 6, .rw, .live, 0x0⟩, ⟨10, 1, .rw, .live, 0x0⟩, ⟨11, 5, .rw, .live, 0x1⟩, ⟨16, 8, .rw, .live, 0x0⟩]⟩,
  ⟨0x38303, [(12, 0x8)], [⟨0, 12, .rw, .live, 0x0⟩]⟩,
  ⟨0x38304, [(12, 0x8)], [⟨0, 12, .ro, .none, 0x0⟩]⟩]

/-- The registers of block USB. -/
def rowsUSB : List RegRow := [
  ⟨0x3c000, [], [⟨0, 1, .ro, .none, 0x0⟩, ⟨1, 1, .ro, .none, 0x0⟩, ⟨2, 1, .ro, .none, 0x0⟩, ⟨3, 1, .ro, .none, 0x0⟩, ⟨4, 2, .ro, .none, 0x0⟩, ⟨6, 7, .ro, .none, 0x0⟩, ⟨13, 1, .w1c, .live, 0x0⟩, ⟨14, 1, .ro, .none, 0x0⟩, ⟨15, 1, .ro, .none, 0x0⟩]⟩,
  ⟨0x3c001, [], [⟨0, 1, .rw, .live, 0x0⟩, ⟨1, 1, .rw, .halted, 0x0⟩, ⟨2, 1, .rw, .halted, 0x0⟩, ⟨3, 8, .rw, .halted, 0x32⟩, ⟨11, 4, .rw, .halted, 0x4⟩, ⟨15, 1, .rw, .halted, 0x1⟩, ⟨16, 1, .wo, .live, 0x0⟩]⟩,
  ⟨0x3c002, [], [⟨0, 2, .ro, .none, 0x0⟩, ⟨2, 3, .ro, .none, 0x0⟩, ⟨23, 1, .w1c, .live, 0x0⟩]⟩,
  ⟨0x3c004, [(4, 0x1)], [⟨0, 1, .ro, .none, 0x0⟩, ⟨1, 1, .ro, .none, 0x0⟩, ⟨2, 1, .ro, .none, 0x0⟩, ⟨3, 2, .ro, .none, 0x0⟩, ⟨5, 1, .ro, .none, 0x0⟩, ⟨6, 1, .w1c, .live, 0x0⟩, ⟨7, 1, .ro, .none, 0x0⟩]⟩,
  ⟨0x3c010, [(6, 0x1)], [⟨0, 10, .rw, .halted, 0x0⟩, ⟨10, 10, .rw, .halted, 0x0⟩, ⟨20, 1, .rw, .halted, 0x0⟩]⟩,
  ⟨0x3c018, [], [⟨0, 24, .rc, .none, 0x0⟩]⟩,
  ⟨0x3c019, [], [⟨0, 24, .ro, .none, 0x0⟩]⟩,
  ⟨0x3c01a, [], [⟨0, 24, .rc, .none, 0x0⟩]⟩,
  ⟨0x3c01b, [], [⟨0, 24, .ro, .none, 0x0⟩]⟩]

/-- The registers of block DSK. -/
def rowsDSK : List RegRow := [
  ⟨0x40000, [], [⟨0, 2, .ro, .none, 0x0⟩, ⟨2, 2, .ro, .none, 0x1⟩, ⟨4, 2, .ro, .none, 0x2⟩, ⟨6, 1, .ro, .none, 0x0⟩, ⟨7, 1, .ro, .none, 0x0⟩, ⟨8, 1, .w1c, .live, 0x0⟩, ⟨9, 7, .ro, .none, 0x0⟩, ⟨16, 7, .ro, .none, 0x0⟩]⟩,
  ⟨0x40001, [], [⟨0, 21, .ro, .none, 0x0⟩, ⟨23, 1, .w1c, .live, 0x0⟩]⟩,
  ⟨0x40010, [(8, 0x1)], [⟨0, 2, .ro, .none, 0x0⟩, ⟨2, 1, .ro, .none, 0x0⟩, ⟨3, 12, .ro, .none, 0x0⟩, ⟨15, 5, .ro, .none, 0x0⟩, ⟨20, 1, .ro, .none, 0x0⟩]⟩,
  ⟨0x40020, [], [⟨0, 16, .ro, .none, 0x0⟩, ⟨16, 8, .ro, .none, 0x0⟩]⟩,
  ⟨0x40030, [], [⟨0, 16, .ro, .none, 0xffff⟩, ⟨16, 1, .ro, .none, 0x0⟩]⟩,
  ⟨0x40031, [], [⟨0, 16, .ro, .none, 0xffff⟩, ⟨16, 2, .ro, .none, 0x0⟩]⟩,
  ⟨0x40032, [(3, 0x1)], [⟨0, 24, .ro, .none, 0x0⟩]⟩,
  ⟨0x40035, [], [⟨0, 17, .ro, .none, 0x0⟩]⟩]

/-- The registers of block FED. -/
def rowsFED : List RegRow := [
  ⟨0x8000, [], [⟨0, 3, .ro, .none, 0x0⟩, ⟨3, 3, .ro, .none, 0x0⟩, ⟨6, 1, .ro, .none, 0x0⟩, ⟨7, 1, .ro, .none, 0x0⟩, ⟨8, 3, .ro, .none, 0x0⟩, ⟨11, 1, .ro, .none, 0x0⟩, ⟨12, 1, .ro, .none, 0x0⟩, ⟨13, 1, .w1c, .live, 0x0⟩, ⟨14, 1, .w1c, .live, 0x0⟩, ⟨15, 1, .w1c, .live, 0x0⟩]⟩,
  ⟨0x8001, [], [⟨0, 8, .rw, .live, 0x40⟩]⟩,
  ⟨0x8002, [(2, 0x1)], [⟨0, 12, .ro, .none, 0x0⟩]⟩,
  ⟨0x8004, [], [⟨0, 12, .ro, .none, 0x0⟩, ⟨12, 12, .ro, .none, 0x0⟩]⟩,
  ⟨0x8005, [], [⟨0, 8, .ro, .none, 0x0⟩, ⟨8, 8, .ro, .none, 0x0⟩, ⟨16, 8, .ro, .none, 0x0⟩]⟩,
  ⟨0x8100, [(16, 0x8)], [⟨0, 1, .rw, .live, 0x0⟩, ⟨1, 1, .rw, .halted, 0x0⟩, ⟨2, 1, .rw, .live, 0x0⟩, ⟨3, 1, .rw, .live, 0x0⟩, ⟨4, 1, .wo, .live, 0x0⟩]⟩,
  ⟨0x8101, [(16, 0x8)], [⟨0, 9, .rw, .paired, 0x64⟩]⟩,
  ⟨0x8102, [(16, 0x8)], [⟨0, 10, .rw, .paired, 0x64⟩, ⟨10, 8, .rw, .live, 0x32⟩, ⟨18, 2, .rw, .live, 0x2⟩]⟩,
  ⟨0x8103, [(16, 0x8)], [⟨0, 10, .rw, .live, 0xa⟩, ⟨10, 4, .rw, .live, 0x5⟩, ⟨14, 6, .rw, .live, 0xa⟩]⟩,
  ⟨0x8104, [(16, 0x8)], [⟨0, 4, .ro, .none, 0x0⟩, ⟨4, 3, .ro, .none, 0x0⟩, ⟨7, 4, .ro, .none, 0x0⟩, ⟨11, 1, .ro, .none, 0x0⟩, ⟨12, 2, .ro, .none, 0x0⟩, ⟨14, 1, .w1c, .live, 0x0⟩]⟩,
  ⟨0x8105, [(16, 0x8)], [⟨0, 12, .ro, .none, 0x0⟩, ⟨12, 12, .ro, .none, 0x0⟩]⟩,
  ⟨0x8106, [(16, 0x8)], [⟨0, 12, .ro, .none, 0x0⟩, ⟨12, 12, .ro, .none, 0x0⟩]⟩,
  ⟨0x8107, [(16, 0x8)], []⟩]

/-- The registers of block PWR. -/
def rowsPWR : List RegRow := [
  ⟨0x4000, [], [⟨0, 2, .ro, .none, 0x0⟩, ⟨2, 1, .ro, .none, 0x0⟩, ⟨3, 2, .ro, .none, 0x0⟩, ⟨5, 1, .w1c, .live, 0x0⟩, ⟨6, 1, .ro, .none, 0x0⟩, ⟨7, 1, .ro, .none, 0x0⟩]⟩,
  ⟨0x4001, [], [⟨0, 2, .rw, .live, 0x0⟩, ⟨2, 1, .rw, .live, 0x0⟩, ⟨3, 1, .rw, .live, 0x0⟩, ⟨4, 1, .wo, .live, 0x0⟩]⟩,
  ⟨0x4002, [], [⟨0, 17, .rw, .live, 0x3e8⟩]⟩,
  ⟨0x4003, [], [⟨0, 24, .ro, .none, 0x555555⟩]⟩,
  ⟨0x4004, [], [⟨0, 8, .ro, .none, 0x55⟩]⟩,
  ⟨0x4005, [], [⟨0, 1, .rw, .live, 0x0⟩, ⟨1, 4, .rw, .live, 0x0⟩, ⟨5, 1, .rw, .live, 0x0⟩]⟩,
  ⟨0x4006, [], [⟨0, 4, .rw, .live, 0xf⟩, ⟨4, 1, .rw, .live, 0x1⟩, ⟨5, 1, .rw, .live, 0x0⟩]⟩,
  ⟨0x4007, [], [⟨0, 8, .rw, .live, 0xff⟩, ⟨8, 1, .rw, .live, 0x0⟩, ⟨9, 1, .rw, .live, 0x0⟩]⟩,
  ⟨0x4008, [], [⟨0, 4, .ro, .none, 0x0⟩, ⟨4, 2, .ro, .none, 0x0⟩, ⟨6, 1, .ro, .none, 0x0⟩, ⟨23, 1, .w1c, .live, 0x0⟩]⟩,
  ⟨0x4009, [], [⟨0, 24, .ro, .none, 0x0⟩]⟩,
  ⟨0x400a, [], [⟨0, 16, .ro, .none, 0x0⟩]⟩,
  ⟨0x400b, [], [⟨0, 24, .rw, .paired, 0x0⟩]⟩,
  ⟨0x400c, [], [⟨0, 16, .rw, .paired, 0x0⟩, ⟨16, 1, .rw, .paired, 0x0⟩]⟩,
  ⟨0x400d, [], [⟨0, 5, .ro, .none, 0x0⟩, ⟨5, 5, .ro, .none, 0x0⟩, ⟨10, 9, .ro, .none, 0x0⟩]⟩,
  ⟨0x400e, [], [⟨0, 24, .rc, .none, 0x0⟩]⟩]

/-- The registers of block FLT. -/
def rowsFLT : List RegRow := [
  ⟨0xc000, [], [⟨0, 1, .ro, .none, 0x0⟩, ⟨1, 1, .w1c, .live, 0x0⟩, ⟨2, 1, .ro, .none, 0x0⟩, ⟨3, 1, .ro, .none, 0x0⟩]⟩,
  ⟨0xc001, [], [⟨0, 10, .ro, .none, 0x0⟩, ⟨10, 2, .ro, .none, 0x0⟩, ⟨12, 1, .ro, .none, 0x0⟩, ⟨23, 1, .w1c, .live, 0x0⟩]⟩,
  ⟨0xc002, [], [⟨0, 24, .ro, .none, 0x0⟩]⟩,
  ⟨0xc003, [], [⟨0, 16, .ro, .none, 0x0⟩]⟩,
  ⟨0xc004, [], [⟨0, 24, .rc, .none, 0x0⟩]⟩,
  ⟨0xc005, [], [⟨0, 24, .rc, .none, 0x0⟩]⟩,
  ⟨0xc020, [(27, 0x1)], [⟨0, 24, .w1c, .live, 0x0⟩]⟩,
  ⟨0xc040, [(27, 0x1)], [⟨0, 24, .ro, .none, 0x0⟩]⟩,
  ⟨0xc060, [(27, 0x1)], [⟨0, 24, .rw, .live, 0x0⟩]⟩,
  ⟨0xc080, [(53, 0x1)], [⟨0, 24, .rw, .staged, 0x0⟩]⟩,
  ⟨0xc0b5, [], [⟨0, 8, .rw, .staged, 0x0⟩]⟩,
  ⟨0xc0c0, [], [⟨0, 6, .rw, .live, 0x3f⟩, ⟨6, 1, .rw, .staged, 0x0⟩]⟩,
  ⟨0xc0c1, [], [⟨0, 10, .rw, .live, 0x100⟩, ⟨10, 6, .rw, .live, 0x8⟩, ⟨16, 8, .rw, .live, 0x20⟩]⟩,
  ⟨0xc0c2, [], [⟨0, 16, .rw, .live, 0x100⟩]⟩,
  ⟨0xc0c3, [], [⟨0, 5, .ro, .none, 0x0⟩, ⟨5, 1, .ro, .none, 0x0⟩, ⟨6, 3, .ro, .none, 0x4⟩, ⟨9, 1, .ro, .none, 0x1⟩]⟩,
  ⟨0xc0c4, [], [⟨0, 20, .ro, .none, 0xd6b5a⟩]⟩,
  ⟨0xc0c5, [], [⟨0, 3, .ro, .none, 0x0⟩, ⟨3, 9, .ro, .none, 0x0⟩, ⟨12, 9, .ro, .none, 0x0⟩, ⟨21, 2, .ro, .none, 0x0⟩, ⟨23, 1, .w1c, .live, 0x0⟩]⟩,
  ⟨0xc0d0, [(10, 0x1)], [⟨0, 7, .ro, .none, 0x40⟩]⟩]

/-- The registers of block CNT. -/
def rowsCNT : List RegRow := [
  ⟨0x10000, [], [⟨0, 1, .rw, .live, 0x0⟩, ⟨1, 1, .wo, .live, 0x0⟩]⟩,
  ⟨0x10100, [(64, 0x1)], [⟨0, 4, .rw, .live, 0x0⟩, ⟨4, 12, .rw, .live, 0x0⟩, ⟨16, 1, .rw, .live, 0x0⟩, ⟨17, 1, .rw, .live, 0x0⟩, ⟨18, 1, .wo, .live, 0x0⟩]⟩,
  ⟨0x10200, [(64, 0x2)], [⟨0, 24, .ro, .none, 0x0⟩]⟩,
  ⟨0x10201, [(64, 0x2)], [⟨0, 24, .ro, .none, 0x0⟩]⟩]

/-- The registers of block TWN. -/
def rowsTWN : List RegRow := [
  ⟨0x48000, [], [⟨0, 12, .rw, .staged, 0x0⟩, ⟨12, 4, .rw, .staged, 0x0⟩, ⟨16, 1, .rw, .staged, 0x0⟩, ⟨17, 1, .rw, .staged, 0x0⟩, ⟨18, 5, .rw, .staged, 0x0⟩, ⟨23, 1, .rw, .staged, 0x0⟩]⟩,
  ⟨0x48001, [], [⟨0, 6, .rw, .staged, 0x0⟩]⟩,
  ⟨0x48002, [], [⟨0, 3, .ro, .none, 0x0⟩, ⟨3, 1, .ro, .none, 0x0⟩, ⟨4, 1, .ro, .none, 0x0⟩, ⟨5, 4, .ro, .none, 0x0⟩, ⟨9, 1, .w1c, .live, 0x0⟩, ⟨10, 1, .w1c, .live, 0x0⟩, ⟨11, 3, .ro, .none, 0x0⟩, ⟨14, 10, .ro, .none, 0x0⟩]⟩,
  ⟨0x48003, [], [⟨0, 1, .wo, .live, 0x0⟩]⟩,
  ⟨0x48010, [(4, 0x1)], [⟨0, 24, .rw, .staged, 0x0⟩]⟩,
  ⟨0x48020, [(12, 0x1)], [⟨0, 24, .rw, .staged, 0x0⟩]⟩]

/-- The registers of block SEC. -/
def rowsSEC : List RegRow := [
  ⟨0x44000, [], [⟨0, 1, .w1c, .live, 0x0⟩, ⟨1, 1, .ro, .none, 0x0⟩, ⟨2, 1, .ro, .none, 0x0⟩, ⟨3, 1, .ro, .none, 0x0⟩]⟩,
  ⟨0x44001, [(2, 0x1)], [⟨0, 24, .ro, .none, 0x0⟩]⟩,
  ⟨0x44003, [], [⟨0, 12, .ro, .none, 0x0⟩]⟩,
  ⟨0x44004, [], [⟨0, 1, .rw, .staged, 0x0⟩, ⟨1, 1, .rw, .staged, 0x0⟩]⟩,
  ⟨0x44008, [(4, 0x1)], [⟨0, 3, .ro, .none, 0x0⟩, ⟨3, 2, .ro, .none, 0x0⟩, ⟨5, 12, .ro, .none, 0x0⟩]⟩,
  ⟨0x4400c, [(4, 0x1)], [⟨0, 24, .rc, .none, 0x0⟩]⟩,
  ⟨0x44010, [], [⟨0, 1, .ro, .none, 0x0⟩, ⟨1, 2, .ro, .none, 0x0⟩, ⟨3, 1, .ro, .none, 0x0⟩, ⟨4, 1, .ro, .none, 0x0⟩, ⟨5, 1, .ro, .none, 0x0⟩, ⟨6, 1, .ro, .none, 0x0⟩]⟩,
  ⟨0x44011, [], [⟨0, 3, .ro, .none, 0x0⟩, ⟨3, 1, .ro, .none, 0x0⟩, ⟨23, 1, .w1c, .live, 0x0⟩]⟩,
  ⟨0x44014, [(9, 0x1)], [⟨0, 8, .ro, .none, 0x0⟩]⟩,
  ⟨0x44020, [(8, 0x1)], [⟨0, 1, .ro, .none, 0x0⟩, ⟨1, 1, .ro, .none, 0x0⟩, ⟨2, 4, .ro, .none, 0x0⟩]⟩]

/-- The registers of block GLB. -/
def rowsGLB : List RegRow := [
  ⟨0x0, [], [⟨0, 16, .ro, .none, 0x9624⟩, ⟨16, 8, .ro, .none, 0xb1⟩]⟩,
  ⟨0x1, [], [⟨0, 16, .ro, .none, 0x1e6d⟩]⟩,
  ⟨0x2, [], [⟨0, 16, .ro, .none, 0x3a2c⟩]⟩,
  ⟨0x3, [], [⟨0, 24, .rw, .live, 0x0⟩]⟩,
  ⟨0x4, [], [⟨0, 12, .rw, .staged, 0xfff⟩, ⟨12, 6, .rw, .staged, 0x0⟩]⟩,
  ⟨0x5, [], [⟨0, 6, .rw, .staged, 0x0⟩, ⟨6, 1, .rw, .staged, 0x0⟩, ⟨7, 1, .ro, .none, 0x0⟩]⟩,
  ⟨0x6, [], [⟨0, 2, .ro, .none, 0x0⟩, ⟨2, 2, .ro, .none, 0x0⟩, ⟨4, 2, .ro, .none, 0x0⟩, ⟨6, 1, .ro, .none, 0x0⟩, ⟨7, 1, .ro, .none, 0x0⟩, ⟨8, 1, .ro, .none, 0x0⟩]⟩,
  ⟨0x7, [], [⟨0, 1, .w1c, .live, 0x0⟩, ⟨1, 1, .w1c, .live, 0x0⟩, ⟨2, 1, .ro, .none, 0x0⟩]⟩,
  ⟨0x8, [], [⟨0, 4, .ro, .none, 0x0⟩, ⟨4, 4, .ro, .none, 0x0⟩, ⟨8, 4, .ro, .none, 0x0⟩]⟩,
  ⟨0x9, [], [⟨0, 3, .ro, .none, 0x0⟩]⟩,
  ⟨0xa, [], [⟨0, 21, .ro, .none, 0x0⟩, ⟨21, 1, .ro, .none, 0x0⟩, ⟨23, 1, .w1c, .live, 0x0⟩]⟩,
  ⟨0xb, [], [⟨0, 12, .ro, .none, 0x0⟩]⟩,
  ⟨0x10, [(2, 0x1)], [⟨0, 24, .rw, .live, 0x0⟩]⟩]

/-- The index of a register within a row's dimensions: `rem` is its distance from the row's base. -/
def matchDims : Nat → List (Nat × Nat) → Option (List Nat)
  | rem, [] => if rem = 0 then some [] else none
  | rem, (c, st) :: ds =>
    if rem / st < c then (matchDims (rem % st) ds).map (rem / st :: ·) else none

/-- The row that holds an offset, and the register's indexes. -/
def findRow (off : Nat) : List RegRow → Option (RegRow × List Nat)
  | [] => none
  | r :: rs =>
    if r.base ≤ off then
      match matchDims (off - r.base) r.dims with
      | some ix => some (r, ix)
      | none => findRow off rs
    else findRow off rs

/-- The blocks of R550, Table 1. -/
inductive Block where
  | glb | pwr | fed | flt | cnt | rga | rgb | rtm | swq | stk | dio | ana | hif | usb | dsk | sec | twn
  /-- clerk n -/
  | clk (n : Nat)
deriving DecidableEq, Repr

/-- The block that an offset of space 2 lies in (R550, Table 1); none outside every block (R551). -/
def blockOf (off : Nat) : Option Block :=
  if off < 0x4000 then some .glb
  else if off < 0x8000 then some .pwr
  else if off < 0xC000 then some .fed
  else if off < 0x1_0000 then some .flt
  else if off < 0x1_4000 then some .cnt
  else if off < 0x1_8000 then some .rga
  else if off < 0x1_C000 then some .rgb
  else if off < 0x2_0000 then some .rtm
  else if off < 0x2_8000 then some .swq
  else if off < 0x3_0000 then some .stk
  else if off < 0x3_4000 then some .dio
  else if off < 0x3_8000 then some .ana
  else if off < 0x3_C000 then some .hif
  else if off < 0x4_0000 then some .usb
  else if off < 0x4_4000 then some .dsk
  else if off < 0x4_8000 then some .sec
  else if off < 0x4_C000 then some .twn
  else if off < 0x10_0000 then none
  else if off < 0x16_8000 then some (.clk ((off - 0x10_0000) / 0x1000))
  else none

/-- The register rows of a block. -/
def blockRows : Block → List RegRow
  | .glb => rowsGLB
  | .pwr => rowsPWR
  | .fed => rowsFED
  | .flt => rowsFLT
  | .cnt => rowsCNT
  | .rga => rowsRGx
  | .rgb => rowsRGx
  | .rtm => rowsRTM
  | .swq => rowsSWQ
  | .stk => rowsSTK
  | .dio => rowsDIO
  | .ana => rowsANA
  | .hif => rowsHIF
  | .usb => rowsUSB
  | .dsk => rowsDSK
  | .sec => rowsSEC
  | .twn => rowsTWN
  | .clk _ => rowsCLK

/-- The row of a register and its indexes; none for a reserved offset (R9), a window or an offset outside every block. -/
def rowOf (off : Nat) : Option (RegRow × List Nat) :=
  match blockOf off with
  | some b => findRow off (blockRows b)
  | none => none

/-- The reset severity of a fault source (R465, Table 1, and 14 Table 8; 632 to 639 stand in neither and take 0, log 13). -/
def resetSeverity (src : Nat) : Nat :=
  if src < 64 then 1
  else if src < 96 then (if src = 79 ∨ src = 95 then 0 else 1)
  else if src < 112 then 1
  else if src < 128 then 0
  else if src < 138 then 1
  else if src < 192 then 0
  else if src < 197 then 2
  else if src < 218 then 1
  else if src < 256 then 0
  else if src < 464 then (if src % 2 = 0 then 2 else 1)
  else if src < 473 then 1
  else if src < 490 then 2
  else if src < 509 then 1
  else if src < 512 then 0
  else if src < 522 then 1
  else if src < 528 then 0
  else if src < 538 then (if src = 535 then 0 else 1)
  else if src < 576 then 0
  else if src < 583 then 1
  else if src < 592 then 0
  else if src < 600 then 1
  else if src < 608 then 0
  else if src < 616 then (if src = 612 then 0 else 1)
  else if src < 620 then 0
  else if src < 624 then 1
  else if src < 626 then 2
  else if src = 626 then 0
  else if src < 632 then 1
  else 0

/-- FLT_SEVj at reset: sources 12j to 12j + 11, two bits each. -/
def resetSevWord (j : Nat) : Nat → Nat
  | 0 => 0
  | m + 1 => resetSevWord j m + (if 12 * j + m < 640 then resetSeverity (12 * j + m) else 0) <<< (2 * m)

/-- USB_EPBUFe at reset (R367, 10 Table 14). -/
def resetEpbuf : Nat → Nat
  | 0 => 0x00_0400
  | 1 => 0x10_0401
  | 2 => 0x10_2003
  | 3 => 0x10_2013
  | 4 => 0x01_0040
  | 5 => 0x00_0423
  | _ => 0

/-- The reset fields of a row, placed at their bits. -/
def rowReset : List FldRow → Nat
  | [] => 0
  | f :: fs => f.reset <<< f.lo + rowReset fs

/-- What a register holds at reset: its row's values, or, where the table gives a rule in place of a number, that rule.
Windows and fields sampled from straps hold 0 (logs 4 and 5). -/
def regReset (off : Nat) : Word :=
  match rowOf off with
  | none => 0
  | some (r, ix) =>
    if r.base = 0x10_0001 then wd (ix.headD 0 % 26)
    else if r.base = 0x3_4080 then wd (ix.headD 0)
    else if r.base = 0x3_4100 then wd (if ix.headD 0 < 64 then 1 else 0)
    else if r.base = 0x3_8302 then wd (rowReset r.flds + ix.headD 0 <<< 4)
    else if r.base = 0x3_C010 then wd (resetEpbuf (ix.headD 0))
    else if r.base = 0xC080 then wd (resetSevWord (ix.headD 0) 12)
    else wd (rowReset r.flds)

/-- The pair that a register's Paired fields belong to (R377; the tables' Chg columns): its two member registers.
Where both members stand in one register the two offsets agree. -/
def pairOf (off : Nat) : Option (Nat × Nat) :=
  match rowOf off with
  | none => none
  | some (r, _) =>
    if r.flds.all (fun f => f.chg != .paired) then none
    else if r.base = 0x10_0000 then some (off, off + 1)
    else if r.base = 0x10_0001 then some (off - 1, off)
    else if r.base = 0x3_0100 then some (off, off + 0x200)
    else if r.base = 0x3_0300 then some (off - 0x200, off)
    else if r.base = 0x3_4180 then some (off, off + 0x80)
    else if r.base = 0x3_4200 then some (off - 0x80, off)
    else if r.base = 0x3_8100 then some (off, off + 1)
    else if r.base = 0x3_8101 then some (off - 1, off)
    else if r.base = 0x8101 then some (off, off + 1)
    else if r.base = 0x8102 then some (off - 1, off)
    else if r.base = 0x400B then some (off, off + 1)
    else if r.base = 0x400C then some (off - 1, off)
    else some (off, off)

/-- The bits of a row's fields that satisfy a test, as a mask. -/
def fldMask (p : FldRow → Bool) : List FldRow → Nat
  | [] => 0
  | f :: fs => (if p f then (2 ^ f.w - 1) <<< f.lo else 0) ||| fldMask p fs

/-- Whether the PCIe host, and a fabric initiator with REGWRITE, may write a register (R11, R550 Table 1, R497). -/
def hostWritable (off : Nat) : Bool :=
  off == 0x7 || off == 0xA || off == 0x10 || off == 0x11 ||
  off == 0x4001 || off == 0x4002 ||
  (0xC020 ≤ off && off < 0xC03B) || (0xC060 ≤ off && off < 0xC07B) || off == 0xC001 ||
  (0x1_0000 ≤ off && off < 0x1_4000) ||
  (0x3_8000 ≤ off && off < 0x3_C000) ||
  off == 0x4_8003

/-- The cluster of a discrete line (R149). -/
def lineCluster (n : Nat) : Nat := if n < 256 then n / 64 else (n - 256) / 4

/-- The power domain that holds a register (R550, Table 1; numbers of 13 Table 1). -/
def offDomain (off : Nat) : Nat :=
  match blockOf off with
  | none => 0
  | some .glb | some .pwr | some .fed | some .flt | some .rtm | some .sec => 0
  | some .rga => 1
  | some .rgb => 2
  | some .cnt | some .swq | some .stk | some .twn => 3
  | some .dsk => 4
  | some .dio =>
    if 0x3_0100 ≤ off ∧ off < 0x3_0210 then 10 + lineCluster (off - 0x3_0100)
    else if 0x3_0300 ≤ off ∧ off < 0x3_0410 then 10 + lineCluster (off - 0x3_0300)
    else 3
  | some .ana => 14
  | some .hif | some .usb => 15
  | some (.clk n) => 10 + n / 26

end Sys2Proof.Machine
end

