-- ==== Sys2Proof/Machine/Ops.lean ====
section
/-! DEFINITION. The named operations that every meaning is written over: registers and fields, fault lines, time, free
values, queues of the switch core, the Ledger, frames a hub originates, events, reports and completion entries. -/

namespace Sys2Proof.Machine

/-! ### Outcomes -/

/-- A meaning's outcome: the next state where the operands name units of the part, and the fault otherwise. -/
def unit (ok : Bool) (t : State) : Host.Outcome State Fault Refusal := if ok then .next t else .fault .noSuchUnit

/-- A conditional update: where the condition does not hold, the state stays (log 15). -/
def when (c : Bool) (f : State → State) (s : State) : State := if c then f s else s

/-! ### Registers and fields -/

/-- A register's contents. -/
def reg (s : State) (off : Nat) : Word := tget regReset s.regs off

/-- A register replaced. -/
def setReg (off : Nat) (v : Word) (s : State) : State := { s with regs := tset regReset off v s.regs }

/-- A field. -/
def getF (s : State) (f : Fld) : Nat := bitsOf (reg s f.off).toNat f.lo f.w

/-- A one-bit field, or whether a field is nonzero. -/
def flag (s : State) (f : Fld) : Bool := getF s f != 0

/-- A field replaced. -/
def setF (f : Fld) (v : Nat) (s : State) : State := setReg f.off (wd (putBits (reg s f.off).toNat f.lo f.w v)) s

/-- A counter field counted up by n, saturating. -/
def addF (f : Fld) (n : Nat) (s : State) : State := setF f (min (2 ^ f.w - 1) (getF s f + n)) s

/-- A counter field counted up by one, saturating. -/
def incF (f : Fld) (s : State) : State := addF f 1 s

/-- A counter field counted up by one, wrapping. -/
def wrapF (f : Fld) (s : State) : State := setF f (getF s f + 1) s

/-! ### Time, output and free values -/

/-- Ring time in us, 40 bits (R47). -/
def usNow (s : State) : Nat := s.ringNs / 1000 % 2 ^ 40

/-- A thing leaves the part. -/
def emit (o : Out) (s : State) : State := { s with out := o :: s.out }

/-- The free value of this moment, taken modulo m (log 3). -/
def freeVal (s : State) (m : Nat) : Nat := Config.freeNat s.draw % m

/-- The next free value is another one. -/
def drawn (s : State) : State := { s with draw := s.draw + 1 }

/-! ### Power domains (R438; condition codes of R463) -/

/-- Condition of domain i: 0 off, 1 on, 2 retained, 3 changing. -/
def domState (s : State) (i : Nat) : Nat :=
  if i < 12 then bitsOf (reg s 0x4003).toNat (2 * i) 2 else bitsOf (reg s 0x4004).toNat (2 * (i - 12)) 2

/-- A domain is on. -/
def domOn (s : State) (i : Nat) : Bool := domState s i == 1

/-- The condition of a domain replaced. -/
def setDom (i v : Nat) (s : State) : State :=
  if i < 12 then setF ⟨0x4003, 2 * i, 2⟩ v s else setF ⟨0x4004, 2 * (i - 12), 2⟩ v s

/-! ### Fault lines (R464 to R466) -/

/-- A momentary condition raises a fault source: its line is sampled in the next Registrar cycle. -/
def raise (src : Nat) (s : State) : State := { s with flt := { s.flt with pulse := insSet src s.flt.pulse } }

/-- A unit is worn: its source is raised, and the unit is noted for the reaction. -/
def wornUnit (src kind u : Nat) (s : State) : State :=
  raise src { s with flt := { s.flt with worn := s.flt.worn ++ [(kind, u)] } }

/-- A wear measure stands at a count against its threshold: once it is passed, the unit's source is raised, once in a clock
hour (R476). -/
def wearStep (src kind u limit count : Nat) (s : State) : State :=
  if limit ≤ count && !s.flt.wornHour.contains (kind, u) then
    wornUnit src kind u { s with flt := { s.flt with wornHour := (kind, u) :: s.flt.wornHour } }
  else s

/-- A fault source's cause begins to persist. -/
def causeOn (src : Nat) (s : State) : State := { s with flt := { s.flt with level := insSet src s.flt.level } }

/-- A fault source's cause ends. -/
def causeOff (src : Nat) (s : State) : State := { s with flt := { s.flt with level := delSet src s.flt.level } }

/-- A cause that begins or ends with a condition. -/
def causeIs (b : Bool) (src : Nat) (s : State) : State := if b then causeOn src s else causeOff src s

/-- The power domain that drives a fault source's line, where one other than AON does (R438, R441, R465). -/
def srcDomain (src : Nat) : Nat :=
  if 64 ≤ src ∧ src < 96 then 1 + (src - 64) / 16
  else if 96 ≤ src ∧ src < 100 then 1 + (src - 96) / 2
  else if 128 ≤ src ∧ src < 138 then 3
  else if 192 ≤ src ∧ src < 212 then 5 + (src - 192) % 5
  else if 256 ≤ src ∧ src < 464 then 10 + (src - 256) / 52
  else if 464 ≤ src ∧ src < 472 then 10 + (src - 464) % 4
  else if 473 ≤ src ∧ src < 512 then 14
  else if 512 ≤ src ∧ src < 528 then 4
  else if 576 ≤ src ∧ src < 608 then 15
  else 0

/-- A source is held active by its force bit (R469). -/
def forced (s : State) (src : Nat) : Bool := bitsOf (reg s (0xC060 + src / 24)).toNat (src % 24) 1 == 1

/-- A source's cause persists: its condition holds in a domain that is not clamped, or it is forced (R441, R464, R469). -/
def causePersists (s : State) (src : Nat) : Bool :=
  (s.flt.level.contains src && domOn s (srcDomain src)) || forced s src

/-- The severity in force of a source (R465). -/
def severity (s : State) (src : Nat) : Nat := bitsOf (reg s (0xC080 + src / 12)).toNat (2 * (src % 12)) 2

/-! ### Event counters (R475) -/

def getCnt (s : State) (k : Nat) : Counter := tget (fun _ => Counter.init) s.cnts k

def setCnt (k : Nat) (c : Counter) (s : State) : State := { s with cnts := tset (fun _ => Counter.init) k c s.cnts }

/-- Counter k counts n occurrences. -/
def bumpCnt (k n : Nat) (s : State) : State :=
  let c := getCnt s k
  let v := c.val + n
  let w := if flag s (fCNT_SEL_SAT k) then min v (2 ^ 48 - 1) else v % 2 ^ 48
  setCnt k { c with val := w } s

/-- Whether a CNT_SEL register's value selects an event. -/
def selects (group index : Nat) (v : Word) : Bool :=
  bitsOf v.toNat 0 4 == group && bitsOf v.toNat 4 12 == index && bitsOf v.toNat 16 1 == 1

/-- n occurrences of an event are counted by every counter that selects it (R475). Counters are selected only by
registers that are listed, for EN resets to 0. -/
def countEv (group index n : Nat) (s : State) : State :=
  if flag s fCNT_CTL_FREEZE then s
  else s.regs.foldl (fun t e =>
    if 0x1_0100 ≤ e.1 && e.1 < 0x1_0140 && selects group index e.2 then bumpCnt (e.1 - 0x1_0100) n t else t) s

/-! ### Arrays of units -/

def getPlace (s : State) (n : Nat) : Place := tget (fun _ => Place.init) s.places n
def setPlace (n : Nat) (p : Place) (s : State) : State := { s with places := tset (fun _ => Place.init) n p s.places }
def getEngine (s : State) (e : Nat) : Engine := tget (fun _ => Engine.init) s.engines e
def setEngine (e : Nat) (x : Engine) (s : State) : State :=
  { s with engines := tset (fun _ => Engine.init) e x s.engines }
def getLine (s : State) (n : Nat) : Line := tget (fun _ => Line.init) s.dio.lines n
def setLine (n : Nat) (l : Line) (s : State) : State :=
  { s with dio := { s.dio with lines := tset (fun _ => Line.init) n l s.dio.lines } }
def getChan (s : State) (n : Nat) : Chan := tget (fun _ => Chan.init) s.ana.chans n
def setChan (n : Nat) (c : Chan) (s : State) : State :=
  { s with ana := { s.ana with chans := tset (fun _ => Chan.init) n c s.ana.chans } }
def getPort (s : State) (p : Nat) : Port := tget (fun _ => Port.init) s.ports p
def setPort (p : Nat) (x : Port) (s : State) : State := { s with ports := tset (fun _ => Port.init) p x s.ports }
def getByp (s : State) (x : Nat) : Bypass := tget (fun _ => Bypass.init) s.byps x
def setByp (x : Nat) (b : Bypass) (s : State) : State := { s with byps := tset (fun _ => Bypass.init) x b s.byps }
def getDesk (s : State) (d : Nat) : Desk := tget (fun _ => Desk.init) s.desks d
def setDesk (d : Nat) (x : Desk) (s : State) : State := { s with desks := tset (fun _ => Desk.init) d x s.desks }
def getFsc (s : State) (n : Nat) : Fsc := tget (fun _ => Fsc.init) s.fed.fscs n
def setFsc (n : Nat) (x : Fsc) (s : State) : State :=
  { s with fed := { s.fed with fscs := tset (fun _ => Fsc.init) n x s.fed.fscs } }
def getFeed (s : State) (x : Nat) : Feed := tget (fun _ => Feed.init) s.fed.feeds x
def setFeed (x : Nat) (f : Feed) (s : State) : State :=
  { s with fed := { s.fed with feeds := tset (fun _ => Feed.init) x f s.fed.feeds } }
def getSq (s : State) (i : Nat) : Sq := tget (fun _ => Sq.init) s.hif.sqs i
def setSq (i : Nat) (x : Sq) (s : State) : State :=
  { s with hif := { s.hif with sqs := tset (fun _ => Sq.init) i x s.hif.sqs } }
def getCq (s : State) (c : Nat) : Cq := tget (fun _ => Cq.init) s.hif.cqs c
def setCq (c : Nat) (x : Cq) (s : State) : State :=
  { s with hif := { s.hif with cqs := tset (fun _ => Cq.init) c x s.hif.cqs } }
def getSlot (s : State) (i : Nat) : KeySlot := tget (fun _ => KeySlot.init) s.sec.slots i
def setSlot (i : Nat) (k : KeySlot) (s : State) : State :=
  { s with sec := { s.sec with slots := tset (fun _ => KeySlot.init) i k s.sec.slots } }
def getVol (s : State) (v : Nat) : Volume := tget (fun _ => Volume.init) s.sec.vols v
def setVol (v : Nat) (x : Volume) (s : State) : State :=
  { s with sec := { s.sec with vols := tset (fun _ => Volume.init) v x s.sec.vols } }

/-- Field x of FED_STATUS that shows a feed's state, and whether it is GOOD. -/
def feedFld (x : Nat) : Fld := if x = 0 then fFED_STATUS_FEEDA else fFED_STATUS_FEEDB
def feedGood (s : State) (x : Nat) : Bool := getF s (feedFld x) == 3

/-- The fault of a feed's FET persists: an open one while its feed is GOOD, a shorted one while its feed is not and the
other is (R415). -/
def fetStands (s : State) (x : Nat) : Bool :=
  ((getFeed s x).fet == 1 && feedGood s x) || ((getFeed s x).fet == 2 && !feedGood s x && feedGood s (1 - x))

/-! ### Entry into a sleeping state (R445, R446) -/

/-- An entry is under way: its last step is still to come (Table 4). -/
def entering (s : State) : Bool := s.pwr.entry.any (fun e => s.clk < e.2.1)

/-- Wake capture of edge-type sources is frozen: 4 AON clock cycles from 50 µs before the entry is complete (Table 4 step
5, R446). -/
def edgesFrozen (s : State) : Bool := s.pwr.entry.any (fun e => e.2.1 ≤ s.clk + 50000 && s.clk + 50000 < e.2.1 + 1954)

/-- An edge-type wake event of a source is captured, but for the frozen cycles (R446). -/
def noteEdge (k : Nat) (s : State) : State :=
  if edgesFrozen s then s else { s with pwr := { s.pwr with wakePend := insSet k s.pwr.wakePend } }

/-! ### Who the hub is -/

/-- The hub is numbered (R23). -/
def numbered (s : State) : Bool := flag s fGLB_NODE2_NUMBERED

def nodeId (s : State) : Nat := getF s fGLB_NODE_NODE
def ringId (s : State) : Nat := getF s fGLB_NODE_RING
def farRing (s : State) : Nat := getF s fGLB_NODE2_FAR_RING
def isCoupler (s : State) : Bool := flag s fGLB_NODE2_COUPLER

/-- The node table entry of a node in the edition in force. -/
def nodeEnt (s : State) (node : Nat) : Option NodeEnt :=
  match s.stw.inForce with
  | none => none
  | some e => e.nodes.find? (fun n => n.node == node)

/-- The steward runs (R373): its domain is on, the firmware has started, and it is neither stopped nor halted. -/
def stwRuns (s : State) : Bool :=
  domOn s 4 && s.stw.booted && !flag s fDSK_CORE_STOPPED && s.stw.haltedAt.isNone && !s.boot.coreReset

/-- A port's link is up. -/
def linkUp (s : State) (p : Nat) : Bool := flag s (fRGx_PHY_STAT_LINK p)

/-- Link protection is enabled on a port's pair (R505). -/
def protectedPort (s : State) (p : Nat) : Bool := if p < 2 then flag s fSEC_LP_CTL_A_EN else flag s fSEC_LP_CTL_B_EN

/-- A port is up for the ring protocol: its link is up and, where protected, keyed (R509). -/
def ringUp (s : State) (p : Nat) : Bool :=
  linkUp s p && (!protectedPort s p || getF s (fSEC_LP_STAT_STATE p) == 2)

/-- The two ports that carry a hub's home ring: pair A, or pair B while it stands in for it (R16, R483). -/
def homePorts (s : State) : List Nat := if flag s fFLT_ATC_STAT_RINGB_ACTIVE then [2, 3] else [0, 1]

/-- The pair that carries the home ring (R16, R483). -/
def homePair (s : State) : Nat := if flag s fFLT_ATC_STAT_RINGB_ACTIVE then 1 else 0

/-- The ring ID of a pair's ring (R17, R21). -/
def pairRing (s : State) (x : Nat) : Nat := if isCoupler s && x != homePair s then farRing s else ringId s

/-- The pair on whose ring a frame of this hub's rings travels. -/
def framePair (s : State) (f : Frame) : Nat := if f.ring = ringId s then homePair s else 1 - homePair s

/-- The pair carries a ring that the hub is numbered on (R23). -/
def pairNumbered (s : State) (x : Nat) : Bool := numbered s && (x == homePair s || isCoupler s)

/-! ### The switch core (R272 to R300) -/

def getQ (s : State) (q : Nat) : List Nat := tget (fun _ => []) s.swq.queues q
def setQ (q : Nat) (l : List Nat) (s : State) : State :=
  { s with swq := { s.swq with queues := tset (fun _ => []) q l s.swq.queues } }
def getItem (s : State) (i : Nat) : Option Item := tget (fun _ => none) s.swq.items i
def setItem (i : Nat) (x : Option Item) (s : State) : State :=
  { s with swq := { s.swq with items := tset (fun _ => none) i x s.swq.items } }

/-- Cell words of an item (R273, R274). -/
def bodyWords : Body → Nat
  | .words l => l.length
  | .frame f => frameCells f.payload.length

/-- The item check of what an item holds: a frame's CRC-32, or that of the item's words, three bytes each (R274, R286). -/
def bodyCheck : Body → Nat
  | .words l => crc32 (l.flatMap (fun w => bytesLE w.toNat 3))
  | .frame f => frameCrc f

/-- Cells of an item. -/
def bodyCells (b : Body) : Nat := (max 1 (bodyWords b) + 63) / 64

/-- Cells of an item number. -/
def cellsOf (s : State) (i : Nat) : Nat :=
  match getItem s i with
  | some x => bodyCells x.body
  | none => 0

/-- Items and cells that a queue holds. -/
def qCount (s : State) (q : Nat) : Nat := (getQ s q).length
def qCells (s : State) (q : Nat) : Nat := (getQ s q).foldl (fun n i => n + cellsOf s i) 0

/-- Cells that all items hold. -/
def cellsUsed (s : State) : Nat :=
  s.swq.items.foldl (fun n e => match e.2 with
    | some x => n + bodyCells x.body
    | none => n) 0

/-- Cells charged to one purpose. -/
def charged (s : State) (c : Charge) : Nat :=
  s.swq.items.foldl (fun n e => match e.2 with
    | some x => x.charge.foldl (fun m p => if p.1 = c then m + p.2 else m) n
    | none => n) 0

/-- The sum of all minima: only listed SWQ_QCEL registers hold one, for MINC resets to 0. -/
def sumMinima (regs : Tab Word) : Nat :=
  regs.foldl (fun n e => if 0x2_0200 ≤ e.1 && e.1 < 0x2_0300 then n + bitsOf e.2.toNat 14 10 else n) 0

/-- A ring port is enabled. -/
def portEn (s : State) (p : Nat) : Bool := flag s (fRGx_PHY_CTL_EN p)

def enabledPorts (s : State) : Nat := ([0, 1, 2, 3].filter (portEn s)).length

/-- The reserves: transit for every enabled ring port, and delivery (R278, R295, R300). -/
def reserves (s : State) : Nat :=
  getF s fSWQ_TRES_TRANSIT * enabledPorts s + getF s fSWQ_TRES_DELIVER

/-- Shared cells still free (R278). -/
def sharedFree (s : State) : Nat :=
  s.swq.cellsIn - sumMinima s.regs - reserves s - charged s .shared

/-- Room left within a queue's minimum. -/
def minRoom (s : State) (q : Nat) : Nat := getF s (fSWQ_QCEL_MINC q) - charged s (.minimum q)

/-- Free descriptors (R273). -/
def descFree (s : State) : Nat := 65536 - s.swq.items.length

/-- The item limit; 0 is treated as 1 (R303). -/
def qMax (s : State) (q : Nat) : Nat := max 1 (getF s (fSWQ_QCFG_MAX q))

/-- What n cells of an item entering queues are charged to (R278); none without room. -/
def chargeFor (s : State) (qs : List Nat) (n : Nat) (transitPort : Option Nat) : Option (List (Charge × Nat)) :=
  let q0 := qs.headD 0
  let m := if qs.length ≤ 1 then min n (minRoom s q0) else if n ≤ minRoom s q0 then n else 0
  let r := n - m
  let t := match transitPort with
    | some p => min r (getF s fSWQ_TRES_TRANSIT - charged s (.transit p))
    | none => 0
  let sh := r - t
  if sharedFree s < sh then none
  else some ((if m = 0 then [] else [(Charge.minimum q0, m)]) ++
    (match transitPort with
      | some p => if t = 0 then [] else [(Charge.transit p, t)]
      | none => []) ++
    (if sh = 0 then [] else [(Charge.shared, sh)]))

/-- A queue has room for an item of n cells within MAX and MAXC, and is not frozen. -/
def qRoom (s : State) (q n : Nat) : Bool :=
  qCount s q < qMax s q && qCells s q + n ≤ getF s (fSWQ_QCEL_MAXC q) && !flag s (fSWQ_QSTAT_FROZEN q)

/-- Every queue named can take the item: its charge, where it can (R280). -/
def canTake (s : State) (qs : List Nat) (b : Body) (transitPort : Option Nat) : Option (List (Charge × Nat)) :=
  let n := bodyCells b
  if qs.all (fun q => qRoom s q n) && descFree s != 0 && domOn s 3 && !s.swq.freeFrozen then
    chargeFor s qs n transitPort
  else none

/-- Cells of the item offered to a queue: of the first push that waits for it, or one. -/
def offeredCells (s : State) (q : Nat) : Nat :=
  match s.swq.waits.find? (fun w => w.qs.contains q) with
  | some w => bodyCells w.body
  | none => 1

/-- A queue is full: at MAX, beyond MAXC with the item offered, above its minimum with no shared cell free, or without a
descriptor (R280). -/
def queueFull (s : State) (q : Nat) : Bool :=
  let n := offeredCells s q
  qMax s q ≤ qCount s q || getF s (fSWQ_QCEL_MAXC q) < qCells s q + n || (chargeFor s [q] n none).isNone || descFree s == 0

/-- An allocation number joins a queue: HWM follows and the push is counted. -/
def joinQ (i : Nat) (s : State) (q : Nat) : State :=
  let s := setQ q (getQ s q ++ [i]) s
  let s := setF (fSWQ_QHWM_HWM q) (max (getF s (fSWQ_QHWM_HWM q)) (qCount s q)) s
  countEv 2 q 1 s

/-- Mirror references of an item that has entered queues (R298). -/
def mirrorTo (i : Nat) (qs : List Nat) (s : State) (k : Nat) : State :=
  if flag s (fSWQ_MIR_EN k) && qs.contains (getF s (fSWQ_MIR_SRC k)) then
    if qRoom s (88 + k) (cellsOf s i) then
      match getItem s i with
      | some x => joinQ i (setItem i (some { x with refs := x.refs + 1 }) s) (88 + k)
      | none => s
    else incF fSWQ_MIR_SKIP_MIR_SKIP s
  else s

/-- The next cell that has not been used since reset and is not retired. -/
def freshCell (q : Swq) : Option Nat :=
  (List.range' q.fresh (q.retired.length + 1)).find? (fun c => c < 15565 && !q.retired.contains c)

/-- The oldest cell of the free list is taken (R275). -/
def takeCell (q : Swq) : List Nat × Swq :=
  match freshCell q with
  | some c => ([c], { q with fresh := c + 1 })
  | none => (q.back.take 1, { q with back := q.back.drop 1 })

/-- The chain of an item of n cells. -/
def takeCells : Nat → Swq → List Nat × Swq
  | 0, q => ([], q)
  | n + 1, q => ((takeCell q).1 ++ (takeCells n (takeCell q).2).1, (takeCells n (takeCell q).2).2)

/-- A cell is on the free list. -/
def cellFree (q : Swq) (c : Nat) : Bool :=
  q.back.contains c || (q.fresh ≤ c && c < 15565 && !q.retired.contains c)

/-- An item enters its queues at one instant (R273, R286, R296). -/
def enterQ (qs : List Nat) (b : Body) (cls : Nat) (transit : Bool) (ch : List (Charge × Nat)) (s : State) : State :=
  let i := s.swq.next
  let t := takeCells (bodyCells b) { s.swq with next := i + 1 }
  let s := { s with swq := t.2 }
  let s := setItem i (some ⟨b, cls, transit, qs.length, i % 256, flag s fSWQ_CTL_MODE, ch, false, t.1, bodyWords b,
    bodyCheck b, .good⟩) s
  let s := qs.foldl (joinQ i) s
  [0, 1, 2, 3, 4, 5, 6, 7].foldl (mirrorTo i qs) s

/-- The moment descriptors run out is noted (R280). -/
def noteDesc (s : State) : State :=
  if descFree s = 0 then (if s.swq.starved.isNone then { s with swq := { s.swq with starved := some s.clk } } else s)
  else { s with swq := { s.swq with starved := none, starveRaised := false } }

/-- A producer's push: taken whole, or its handshake stays incomplete behind earlier waiting pushes (R280, R299). -/
def pushBody (qs : List Nat) (b : Body) (cls : Nat) (s : State) : State :=
  if qs.isEmpty then s
  else
    let wait := { s with swq := { s.swq with waits := s.swq.waits ++ [⟨qs, b, cls, false, none⟩] } }
    if s.swq.waits.any (fun w => w.qs.any qs.contains) then wait
    else
      match canTake s qs b none with
      | some ch => noteDesc (enterQ qs b cls false ch s)
      | none => wait

/-- A push of cell words. -/
def pushWords (q : Nat) (ws : List Word) (s : State) : State := pushBody [q] (.words ws) 7 s

/-- One reference of an item is released; its cells return with the last (R275, R296). -/
def release (i : Nat) (s : State) : State :=
  match getItem s i with
  | some x =>
    if x.refs ≤ 1 then noteDesc (setItem i none { s with swq := { s.swq with back := s.swq.back ++ x.cells } })
    else setItem i (some { x with refs := x.refs - 1 }) s
  | none => s

/-- The oldest item of a queue, where it has one. -/
def frontQ (s : State) (q : Nat) : Option (Nat × Item) :=
  match getQ s q with
  | [] => none
  | i :: _ =>
    match getItem s i with
    | some x => some (i, x)
    | none => none

/-- The oldest item leaves its queue: it is the queue's last item popped, and the pop is counted (R281). -/
def dropFront (q : Nat) (s : State) : State :=
  match getQ s q with
  | [] => s
  | i :: rest =>
    let last := match getItem s i with
      | some x => some x.body
      | none => none
    let s := { s with swq := { s.swq with last := tset (fun _ => none) q last s.swq.last } }
    countEv 3 q 1 (release i (setQ q rest s))

/-- The first waiting push for a queue, where it can now be taken (R280). -/
def resumePush (q : Nat) : List PushWait → List PushWait → State → State
  | _, [], s => s
  | seen, w :: rest, s =>
    if w.qs.contains q && !seen.any (fun v => v.qs.any w.qs.contains) then
      match canTake s w.qs w.body none with
      | some ch => noteDesc (enterQ w.qs w.body w.cls w.transit ch { s with swq := { s.swq with waits := seen ++ rest } })
      | none => s
    else resumePush q (seen ++ [w]) rest s

/-- A queue loses every item it holds (R257, R285). -/
def flushQ (q : Nat) (s : State) : State :=
  let l := getQ s q
  l.foldl (fun t i => release i t) (setQ q [] s)

/-! ### The Ledger (R408) -/

/-- One Ledger entry. -/
def ledger (kind code timeUs : Nat) (body : List Word) (s : State) : State :=
  let i := getF s fDSK_LEDGER_NEXT
  let sq := (65536 * getF s fDSK_LEDGER_WRAPS + i) % 65536
  let e := [wd (code % 65536 + 65536 * (kind % 256))] ++ usWords timeUs ++ [wd sq] ++
    [body.getD 0 0, body.getD 1 0, body.getD 2 0, body.getD 3 0]
  let s := { s with stw := { s.stw with ledger := tset (fun _ => []) i e s.stw.ledger } }
  let s := if i = 65535 then setF fDSK_LEDGER_WRAPS (getF s fDSK_LEDGER_WRAPS + 1) s else s
  setF fDSK_LEDGER_NEXT (i + 1) s

/-! ### Frames a hub originates (R231, R239 to R244) -/

/-- Frame types that the source resends without acknowledgement (R239, R240). -/
def wantsAck (f : Frame) : Bool := f.typ == 0x07 || f.typ == 0x08 || f.typ == 0x0D || f.typ == 0x11

/-- A frame enters the egress queues of its ring's ports whose links are up, local lane (R231, R232). -/
def toEgress (ports : List Nat) (f : Frame) (s : State) : State :=
  pushBody ((ports.filter (ringUp s)).map (fun p => 8 * p + f.cls)) (.frame f) f.cls s

/-- The next SEQ of a class. -/
def seqOf (s : State) (cls : Nat) : Nat := tget (fun _ => 0) s.ring.seqs cls

/-- Whether a class's window lets its next frame go (R242). -/
def windowOpen (s : State) (cls : Nat) : Bool :=
  match s.ring.unacked.find? (fun u => u.frame.cls == cls) with
  | none => true
  | some u => (seqOf s cls + 65536 - u.frame.sq) % 65536 < 64

/-- A beacon takes its SEQ: its 5 ms begin as a port starts to send it, at once where no port of the home ring is up
(R259). -/
def beaconLeaves (sq : Nat) (s : State) : State :=
  { s with ring := { s.ring with
    beaconSeq := sq, beaconBack := [], beaconAt := if (homePorts s).any (ringUp s) then none else some s.clk } }

/-- A frame is given its SEQ and sent by both ports of the home ring; one to be acknowledged is kept (R231, R240). -/
def sendNow (f : Frame) (s : State) : State :=
  let n := seqOf s f.cls
  let f := { f with sq := n, src := nodeId s, entry := nodeId s, ring := ringId s, hops := 0 }
  let s := { s with ring := { s.ring with seqs := tset (fun _ => 0) f.cls ((n + 1) % 65536) s.ring.seqs } }
  let s := if wantsAck f then
    { s with ring := { s.ring with unacked := s.ring.unacked ++ [⟨f, s.clk, 0, 0⟩] } } else s
  toEgress (homePorts s) f (if f.typ = 6 then beaconLeaves n s else s)

/-- A numbered hub that has not stopped originating sends a frame; one whose window is shut waits (R23, R26, R242). -/
def originate (f : Frame) (s : State) : State :=
  if numbered s && !s.ring.stopped then
    if (f.cls == 2 || f.cls == 5 || f.cls == 6) && (!windowOpen s f.cls || s.ring.held.any (fun g => g.cls == f.cls)) then
      { s with ring := { s.ring with held := s.ring.held ++ [f] } }
    else sendNow f s
  else s

/-- A frame of a type, class, destination, AUX and payload; the rest of its header is set as it is sent. -/
def mkFrame (typ cls dest : Nat) (bcast : Bool) (aux : Nat) (payload : List Word) : Frame :=
  { dest := dest, src := 0, cls := cls, typ := typ, sq := 0, ring := 0, hops := 0, west := false, bcast := bcast,
    retry := false, replay := false, far := false, fabric := false, entry := 0, aux := aux % 65536, payload := payload }

/-- Frames that waited for a window go as far as it lets them (R242). -/
def pumpHeld : List Frame → State → State
  | [], s => s
  | f :: rest, s =>
    if windowOpen s f.cls && !(s.ring.held.takeWhile (fun g => g != f)).any (fun g => g.cls == f.cls) then
      pumpHeld rest (sendNow f { s with ring := { s.ring with held := s.ring.held.erase f } })
    else pumpHeld rest s

/-- An EVENT or DFR of classes 3 and 4: event sequence in AUX, kept in the replay store, EVT_MARK owed (R244, R580). -/
def sendEventFrame (typ cls dest : Nat) (bcast : Bool) (payload : List Word) (s : State) : State :=
  if numbered s && !s.ring.stopped then
    let key := 2 * (if bcast then 4096 else dest) + (cls - 3)
    let n := tget (fun _ => 0) s.ring.evNext key
    let sq := seqOf s cls
    let f := { mkFrame typ cls dest bcast n payload with sq := sq, src := nodeId s, entry := nodeId s, ring := ringId s }
    let s := { s with ring := { s.ring with
      evNext := tset (fun _ => 0) key ((n + 1) % 65536) s.ring.evNext
      evMark := tset (fun _ => none) key (some s.clk) s.ring.evMark
      replay := (f :: s.ring.replay).take 256
      seqs := tset (fun _ => 0) cls ((sq + 1) % 65536) s.ring.seqs } }
    toEgress (homePorts s) f s
  else s

/-! ### Completion rings (R320 to R325) -/

/-- Entries of a completion ring. -/
def cqSize (s : State) (c : Nat) : Nat := 2 ^ (getF s (fHIF_CQ_CFG_SIZE c) + 4)

/-- Free entries; a ring whose TAIL equals its HEAD is empty (log 16). -/
def cqFree (s : State) (c : Nat) : Nat :=
  let n := cqSize s c
  n - 1 - (getF s (fHIF_CQ_TAIL_TAIL c) + n - getF s (fHIF_CQ_HEAD_HEAD c) % n) % n

/-- A host address from its two base words: [35:12] and [59:36]. -/
def hostBase (lo hi : Nat) : Nat := 2 ^ 12 * lo + 2 ^ 36 * hi

/-- The sixteen bytes of a completion entry (R320, Table 3). -/
def cqBytes (e : CqEnt) (phase : Bool) : List Nat :=
  [e.typ % 16 + e.sq % 16 * 16, e.cause % 256] ++ bytesLE e.tag 2 ++ bytesLE e.info 4 ++ bytesLE e.time 5 ++
  bytesLE e.sqHead 2 ++ [bit phase]

/-- Waiting entries are written while the ring has a free entry. -/
def cqDrain (c : Nat) : List CqEnt → State → State
  | [], s => { s with hif := { s.hif with cqWait := tset (fun _ => []) c [] s.hif.cqWait } }
  | e :: rest, s =>
    if !flag s (fHIF_CQ_CFG_EN c) then
      { s with hif := { s.hif with cqWait := tset (fun _ => []) c (e :: rest) s.hif.cqWait } }
    else if cqFree s c = 0 then
      let q := getCq s c
      let s := if q.fullSince.isNone then setCq c { q with fullSince := some s.clk } s else s
      { s with hif := { s.hif with cqWait := tset (fun _ => []) c (e :: rest) s.hif.cqWait } }
    else
      let q := getCq s c
      let t := getF s (fHIF_CQ_TAIL_TAIL c)
      let a := hostBase (getF s (fHIF_CQ_BASE_LO_BASE_LO c)) (getF s (fHIF_CQ_BASE_HI_BASE_HI c)) + 16 * t
      let s := emit (.hostWrite a (cqBytes e q.phase) false) s
      let t' := (t + 1) % cqSize s c
      let s := setCq c { q with
        phase := if t' = 0 then !q.phase else q.phase
        irqs := q.irqs + bit e.irq
        irqSince := if e.irq && q.irqSince.isNone then some s.clk else q.irqSince } s
      let s := setF (fHIF_CQ_TAIL_TAIL c) t' s
      let s := if cqFree s c = 0 then setCq c { getCq s c with fullSince := some s.clk } s else s
      cqDrain c rest s

/-- A completion entry enters Q52 + c and is written as soon as the ring has room (R320). -/
def cqPost (c : Nat) (e : CqEnt) (s : State) : State := cqDrain c (tget (fun _ => []) s.hif.cqWait c ++ [e]) s

/-- The bridge has any ring or window enabled (R322). -/
def bridgeOn (s : State) : Bool :=
  [0, 1, 2, 3, 4, 5, 6, 7, 8, 9, 10, 11].any (fun c => flag s (fHIF_CQ_CFG_EN c) || flag s (fHIF_SQ_CFG_EN c)) ||
  s.regs.any (fun e => 0x3_8100 ≤ e.1 && e.1 < 0x3_8180 && e.1 % 2 == 0 && bitsOf e.2.toNat 21 1 == 1)

/-! ### Vectors (R323, R325) -/

/-- A vector is signalled: a message where it may be sent, its pending bit under a mask, Assert_INTA under INTx with the
first bit pending. -/
def signalVec (v : Nat) (s : State) : State :=
  let pend := fun s => setF ⟨0x3_8004 + v / 24, v % 24, 1⟩ 1 s
  if s.hif.msixEn then
    if s.hif.msixMask || (tget (fun k => if k % 4 = 3 then 1 else 0) s.hif.msix (4 * v + 3)).toNat % 2 = 1 then pend s
    else emit (.msi v) s
  else if s.hif.msiEn then emit (.msi 0) s
  else if [0, 1, 2].any (fun i => reg s (oHIF_IRQ_PEND i) != 0) then pend s
  else emit (.pcie 1) (pend s)

/-! ### Reports of failed writes (R118, R119, R230, R322) -/

/-- The five words of a deferred-failure report (R230, Table 5). -/
def dfrWords (tag handle cause us : Nat) : List Word :=
  wd (tag % 65536 + 65536 * (cause % 256)) :: handleWords handle ++ usWords us

/-- A report placed on the initiator's hub: a host completion, or an item of Q80 + tag[15:13] (R119, R322). -/
def placeReport (ws : List Word) (s : State) : State :=
  let w0 := (ws.getD 0 0).toNat
  let tag := w0 % 65536
  if tag / 32768 = 1 && (bridgeOn s || s.hif.hostGone) then
    let c := bitsOf tag 11 4
    if c < 12 && flag s (fHIF_CQ_CFG_EN c) then
      let h := (ws.getD 1 0).toNat + 2 ^ 24 * bitsOf (ws.getD 2 0).toNat 0 8
      let t := (ws.getD 3 0).toNat + 2 ^ 24 * bitsOf (ws.getD 4 0).toNat 0 16
      incF fHIF_DFR_CNT_DFR_CNT (cqPost c ⟨2, 15, w0 / 65536, tag % 2048, h, t, true, 0⟩ s)
    else incF fHIF_DFR_DROP_DFR_DROP s
  else pushWords (80 + tag / 8192) ws s

/-- A deferred-failure report to an initiator's hub (R119). -/
def report (node tag handle cause : Nat) (s : State) : State :=
  let ws := dfrWords tag handle cause (usNow s)
  if node = nodeId s || !numbered s then placeReport ws s else sendEventFrame 0x0A 3 node false ws s

/-! ### Events of the steward (R407) -/

/-- An event on a route: an EVENT frame to each node, or a ring broadcast; on this hub, an item of its delivery queue.
A copy is written to the Ledger. -/
def event (code cls route : Nat) (body : List Word) (s : State) : State :=
  let s := ledger 1 code (usNow s) body s
  let payload := wd (code % 65536 + 65536 * (body.length % 256)) :: body
  let r := match s.stw.inForce with
    | some e => tget (fun _ => Route.mk [] false) e.routes route
    | none => Route.mk [] false
  if r.bcast then sendEventFrame 0x09 cls 0 true payload s
  else r.nodes.foldl (fun t n =>
    if n = nodeId t && numbered t then pushBody [32 + cls] (.frame { mkFrame 0x09 cls n false 0 payload with src := n }) cls t
    else sendEventFrame 0x09 cls n false payload t) s

/-! ### The Attic's record of its actions (R479, Table 12) -/

/-- FLT_ATC_LOG shows an action. -/
def atticLog (w : Swap) (result : Nat) (s : State) : State :=
  setReg oFLT_ATC_LOG (wd (w.kind % 8 + w.unit % 512 * 2 ^ 3 + 2 ^ 12 * (w.spare % 512) + 2 ^ 21 * (result % 4) + 2 ^ 23)) s

/-- An action begins. -/
def atticBegin (w : Swap) (s : State) : State :=
  atticLog w 2 { s with flt := { s.flt with attic := s.flt.attic ++ [w] } }

/-- SPARE_CHANGED (R407, Table 13). -/
def spareChanged (w : Swap) (result : Nat) (s : State) : State :=
  event 0x40 4 0 [wd (w.kind + w.unit * 256), wd w.spare, wd result] s

/-- An action ends; a planned one is reported. -/
def atticEnd (w : Swap) (result : Nat) (s : State) : State :=
  let s := atticLog w result { s with flt := { s.flt with attic := s.flt.attic.erase w } }
  if w.planned then spareChanged w result s else s

/-- The action in progress of a kind that satisfies a test. -/
def atticFind (s : State) (kind : Nat) (ok : Swap → Bool) : Option Swap :=
  s.flt.attic.find? (fun w => w.kind == kind && ok w)

/-- A physical bank is fenced. -/
def bankFenced (s : State) (b : Nat) : Bool := bitsOf (reg s oFLT_ATC_STAT).toNat b 1 == 1

/-! ### The twin's output stages (R485, R486) -/

/-- This hub belongs to a twin pair. -/
def twinOn (s : State) : Bool := flag s fTWN_CTL_EN

def twinRole (s : State) : Nat := getF s fTWN_STAT_ROLE

/-- The output stages of shared groups and lines are enabled: the hub is ACTIVE, or TAKING or RELEASING as Table 9 enables
them, and, with the claim bus, has won the last round. -/
def stagesOn (s : State) : Bool :=
  s.twin.stages && (twinRole s == 1 || twinRole s == 3 || twinRole s == 4) &&
  (!flag s fTWN_CTL_CLAIM_EN || flag s fTWN_STAT_WON)

/-- A discrete line is shared with the twin. -/
def sharedLine (s : State) (n : Nat) : Bool := twinOn s && bitsOf (reg s (oTWN_DIO (n / 24))).toNat (n % 24) 1 == 1

/-- A place's pin group is shared with the twin. -/
def sharedPlace (s : State) (n : Nat) : Bool :=
  let g := getF s (fCLK_PINSEL_GROUP n)
  twinOn s && g < 24 && bitsOf (reg s (oTWN_PG (n / 26))).toNat g 1 == 1

/-- A place of a shared group while the twin's stages are not enabled: its engine is loaded and halted (R486). -/
def standbyPlace (s : State) (n : Nat) : Bool := sharedPlace s n && !s.twin.stages

end Sys2Proof.Machine
end

