-- ==== Sys2Proof/Machine/RegOps.lean ====
section
/-! DEFINITION. Register accesses by ownership, domain, access code and change class (R9 to R12, R374 to R376, R552,
R556). Pairs, and registers whose writes do something of their own, stand in the files of their families. -/

namespace Sys2Proof.Machine

/-- A write ignored under R11: OWNER_REJECT, and the record of the first such write (R556). -/
def ownerReject (w : Writer) (off : Nat) (s : State) : State :=
  let s := setF fGLB_STATUS_OWNER_REJECT 1 s
  if flag s fGLB_OWNER_LOG_VALID then s
  else
    let s := setF fGLB_OWNER_LOG_OFFSET off s
    let s := setF fGLB_OWNER_LOG_VALID 1 s
    match w with
    | .fabric n => setF fGLB_OWNER_NODE_NODE n (setF fGLB_OWNER_LOG_FABRIC 1 s)
    | _ => setF fGLB_OWNER_NODE_NODE 0 (setF fGLB_OWNER_LOG_FABRIC 0 s)

/-- The REGWRITE right of a node in the edition in force (R374). -/
def regRight (s : State) (node : Nat) : Bool :=
  match s.stw.inForce with
  | none => false
  | some e => e.rights.any (fun r => r.1 == node && bitsOf r.2 4 1 == 1)

/-- The domain that holds a register is on. -/
def regDomOn (s : State) (off : Nat) : Bool := domOn s (offDomain off)

/-- Whether an offset lies in a window of a CLK block: data store, scan list, code store (R122, Table 19). -/
def clkWindow (off : Nat) : Option Nat :=
  match blockOf off with
  | some (.clk n) => if 0x200 ≤ off % 0x1000 then some n else none
  | _ => none

/-- The peer windows of link protection (R508, R528 Table 9). -/
def secPeer (off : Nat) : Bool := 0x4_4400 ≤ off && off < 0x4_4800 && off % 0x40 ≤ 32

/-- The windows of SEC: unit public key, unit certificate, peers (R528 Table 9). -/
def secWindow (off : Nat) : Bool :=
  (0x4_4040 ≤ off && off < 0x4_4060) || (0x4_4100 ≤ off && off < 0x4_4400) || secPeer off

/-- An offset that is not reserved: a register's, or a word of a window (R9). -/
def regAt (off : Nat) : Bool := (rowOf off).isSome || (clkWindow off).isSome || secWindow off

/-- A write reaches its register: the domain is on, and the writer may write it. Outside every block, and at a reserved
offset within one, it is ignored (R9, R551);
in a domain that is off it is ignored and recorded (R552); by a writer without ownership it is rejected (R11, R556); by a
fabric node without REGWRITE it fails before it is made (R31). -/
def guardWrite (w : Writer) (off : Nat) (f : State → State) (s : State) : State :=
  if !regAt off then s
  else
    let allowed := match w with
      | .steward => true
      | .host => hostWritable off
      | .fabric _ => hostWritable off
    let denied := match w with
      | .fabric n => !regRight s n
      | _ => false
    if denied then s
    else
      let s := if regDomOn s off then s else setF fGLB_STATUS_DOMAIN_OFF 1 s
      let s := if allowed then s else ownerReject w off s
      if allowed && regDomOn s off then f s else s

/-! ### The scrubber's period (R79) -/

/-- The scrub period in force for the next pass, in ns. -/
def scrubPeriod (s : State) : Nat := 125000000 * (getF s fSTK_SCRUB_CTL_PERIOD + 1)

/-- The scrubber is enabled and a bank of the archive is on. -/
def scrubRuns (s : State) : Bool := flag s fSTK_SCRUB_CTL_EN && [5, 6, 7, 8, 9].any (domOn s)

/-- A new pass begins, and its period with it. -/
def scrubBegin (s : State) : State :=
  { s with stk := { s.stk with scrub := { s.stk.scrub with
    began := some s.clk, period := scrubPeriod s, finished := false, overran := false } } }

/-- A period begins as the scrubber starts to run, and is dropped as it stops (log 217). -/
def scrubWatch (s : State) : State :=
  if scrubRuns s then
    if s.stk.scrub.began.isNone then scrubBegin s else s
  else { s with stk := { s.stk with scrub := { s.stk.scrub with began := none } } }

/-- The engine that serves a place, where one does. -/
def servingEngine (s : State) (n : Nat) : Option Nat :=
  let e := getF s (fCLK_STAT_ENGINE n)
  if e = 0x1F then none else some (26 * (n / 26) + e)

/-- A place has a running serving engine. -/
def placeRuns (s : State) (n : Nat) : Bool :=
  match servingEngine s n with
  | none => false
  | some e => getF s (fCLK_ENG_STAT_STATE e) == 2

/-- An engine runs: RUNNING or SHADOW. -/
def engineRuns (s : State) (e : Nat) : Bool :=
  getF s (fCLK_ENG_STAT_STATE e) == 2 || getF s (fCLK_ENG_STAT_STATE e) == 3

/-- The place an engine is assigned to (R122). -/
def enginePlace (s : State) (e : Nat) : Nat := 26 * (e / 26) + getF s (fCLK_ENG_PLACE_PLACE e)

/-- The block of a register's Halted fields runs (R376, and each register section's own words). -/
def haltedRuns (s : State) (off : Nat) : Bool :=
  match blockOf off with
  | some .stk => flag s fSTK_STATUS_COPY_BUSY
  | some (.clk n) => if off % 0x1000 < 0x10 then engineRuns s n else placeRuns s n
  | some .ana => flag s fUSB_STATUS_STREAMING
  | some .rga => if off % 0x4000 < 0x200 then portEn s (off % 0x4000 / 0x100) else flag s (fRGx_BYP_STAT_HOLD 0)
  | some .rgb => if off % 0x4000 < 0x200 then portEn s (2 + off % 0x4000 / 0x100) else flag s (fRGx_BYP_STAT_HOLD 1)
  | some .hif =>
    if 0x3_8200 ≤ off ∧ off < 0x3_8300 then flag s (fHIF_SQ_CFG_EN ((off - 0x3_8200) / 8))
    else if 0x3_8300 ≤ off then flag s (fHIF_CQ_CFG_EN ((off - 0x3_8300) / 8))
    else false
  | some .usb => flag s fUSB_CTL_CONNECT
  | some .fed =>
    let st := getF s (fFED_FSC_STAT_STATE ((off - 0x8100) / 8))
    st != 0 && st != 6 && st != 9
  | _ => false

/-- The CFG_REJECT bit that a refused write to a register sets. -/
def rejectFld (off : Nat) : Option Fld :=
  match blockOf off with
  | some .stk => some fSTK_STATUS_CFG_REJECT
  | some (.clk n) => some (fCLK_STAT_CFG_REJECT n)
  | some .dio => some fDIO_STATUS_CFG_REJECT
  | some .ana => some fANA_STATUS_CFG_REJECT
  | some .rga =>
    if off % 0x4000 < 0x200 then some (fRGx_PHY_STAT_CFG_REJECT (off % 0x4000 / 0x100))
    else some (fRGx_BYP_STAT_CFG_REJECT 0)
  | some .rgb =>
    if off % 0x4000 < 0x200 then some (fRGx_PHY_STAT_CFG_REJECT (2 + off % 0x4000 / 0x100))
    else some (fRGx_BYP_STAT_CFG_REJECT 1)
  | some .rtm => some fRTM_STATUS_CFG_REJECT
  | some .swq => some fSWQ_STATUS_CFG_REJECT
  | some .hif => some fHIF_STATUS_CFG_REJECT
  | some .usb => some fUSB_STATUS_CFG_REJECT
  | some .fed =>
    if 0x8100 ≤ off ∧ off < 0x8180 then some (fFED_FSC_STAT_CFG_REJECT ((off - 0x8100) / 8))
    else some fFED_STATUS_CFG_REJECT
  | some .pwr => some fPWR_STATUS_CFG_REJECT
  | some .flt => some fFLT_STATUS_CFG_REJECT
  | some .twn => some fTWN_STAT_CFG_REJECT
  | some .sec => some fSEC_STATUS_CFG_REJECT
  | _ => none

/-- A write is refused: the CFG_REJECT bit of its block. An engine's refusals show at the place it is assigned to (R122). -/
def reject (off : Nat) (s : State) : State :=
  match blockOf off with
  | some (.clk n) =>
    if off % 0x1000 < 0x10 ∨ (0x200 ≤ off % 0x1000 ∧ off % 0x1000 < 0x400) ∨ 0x800 ≤ off % 0x1000 then
      setF (fCLK_STAT_CFG_REJECT (enginePlace s n)) 1 s
    else setF (fCLK_STAT_CFG_REJECT n) 1 s
  | _ =>
    match rejectFld off with
    | some f => setF f 1 s
    | none => s

/-- Bits of a register replaced under a mask. -/
def mergeBits (old mask v : Nat) : Nat := (old &&& (0xFFFFFF ^^^ mask)) ||| (v &&& mask)

/-- A write of the bits of a mask at once. -/
def writeBits (off mask v : Nat) (s : State) : State := setReg off (wd (mergeBits (reg s off).toNat mask v)) s

/-- A write of Staged bits: at once without an active edition, and held in the staged copy otherwise (R375). -/
def stageBits (off mask v : Nat) (s : State) : State :=
  if s.stw.inForce.isNone then writeBits off mask v s
  else
    let h := tget (fun _ => (0, 0)) s.staged off
    { s with staged := tset (fun _ => (0, 0)) off (h.1 ||| mask, mergeBits h.2 mask v) s.staged }

/-- Staged bits in effect, or held, of a register. -/
def heldOr (s : State) (off : Nat) : Nat :=
  let h := tget (fun _ => (0, 0)) s.staged off
  mergeBits (reg s off).toNat h.1 h.2

/-- Entries of the edition for Halted fields that were owed are written where their block no longer runs (R381). -/
def applyOwed (s : State) : State :=
  let ready := s.stw.owed.filter (fun e => !haltedRuns s e.1)
  if ready.isEmpty then s
  else
    let s := { s with stw := { s.stw with owed := s.stw.owed.filter (fun e => haltedRuns s e.1) } }
    ready.foldl (fun t e => writeBits e.1 e.2.1 e.2.2 t) s

/-- W1C bits whose cause persists stay set (R10): a source active, the output watchdog, a FET's fault, an over-current, a peer
ACTIVE beside this hub (R161, R340, R415, R474, R492). -/
def causeHolds (s : State) (off : Nat) : Nat :=
  if 0xC020 ≤ off ∧ off < 0xC03B then
    (List.range 24).foldl (fun m i => if causePersists s (24 * (off - 0xC020) + i) then m + 2 ^ i else m) 0
  else if off = 0x3_0000 then (if s.dio.wdogCause then 2 else 0)
  else if off = oFED_STATUS then 2 ^ 14 * bit (fetStands s 0) + 2 ^ 15 * bit (fetStands s 1)
  else if 0x3_C004 ≤ off ∧ off < 0x3_C008 then 2 ^ 6 * bit (flag s (fUSB_PORT_OC (off - 0x3_C003)))
  else if off = oTWN_STAT then 2 ^ 9 * bit (twinRole s == 1 && flag s fTWN_STAT_PEER_OK && s.twin.peerRole == 1)
  else 0

/-- W1C bits written 1 are cleared, where no cause persists (R10). -/
def clearBits (off mask v : Nat) (s : State) : State :=
  let clr := (v &&& mask) &&& (0xFFFFFF ^^^ causeHolds s off)
  setReg off (wd ((reg s off).toNat &&& (0xFFFFFF ^^^ clr))) s

/-- The ordinary write of a register: its Live, Halted, Staged and W1C fields, each by its class (R10, R12, R375, R376).
RO, RC and WO fields and reserved bits take nothing; Paired fields stand in the pair's own write. -/
def writeRow (off : Nat) (flds : List FldRow) (v : Nat) (s : State) : State :=
  let live := fldMask (fun f => f.acc == .rw && (f.chg == .live || f.chg == .none)) flds
  let halt := fldMask (fun f => f.acc == .rw && f.chg == .halted) flds
  let stag := fldMask (fun f => f.acc == .rw && f.chg == .staged) flds
  let w1c := fldMask (fun f => f.acc == .w1c) flds
  let s := if live = 0 then s else writeBits off live v s
  let s := if halt = 0 then s else if haltedRuns s off then reject off s else writeBits off halt v s
  let s := if stag = 0 then s else stageBits off stag v s
  if w1c = 0 then s else clearBits off w1c v s

/-- The engine whose window an offset lies in is HALTED. -/
def storeOpen (s : State) (n : Nat) : Bool := getF s (fCLK_ENG_STAT_STATE n) == 1

/-- The bits of a window's word that are not reserved: a scan list's second words hold a run length (R123). -/
def windowMask (off : Nat) : Nat :=
  if 0x400 ≤ off % 0x1000 ∧ off % 0x1000 < 0x800 ∧ off % 2 = 1 then 0xFF else 0xFFFFFF

/-- A write into a CLK window (R98, R122 Table 19): stores only while the engine is HALTED, a write to the code store
clears CODE_VALID, scan lists are Staged. -/
def writeWindow (n off : Nat) (v : Word) (s : State) : State :=
  let o := off % 0x1000
  if 0x400 ≤ o ∧ o < 0x800 then stageBits off (windowMask off) v.toNat s
  else if storeOpen s n then
    let s := setReg off v s
    if 0x800 ≤ o then setF (fCLK_ENG_STAT_CODE_VALID n) 0 s else s
  else reject off s

/-- A register of the feed block that holds a measured voltage (Tables 11 and 12 of chapter 12): what it measures is no
part of the machine, and its value is free (log 3). -/
def fedMeas (off : Nat) : Bool :=
  (0x8002 ≤ off && off < 0x8005) || (0x8100 ≤ off && off < 0x8180 && off % 8 == 5)

/-- The bits of a DIO_INm whose lines lie in FP domains that are on (R552). -/
def dioInMask (s : State) (m : Nat) : Nat :=
  (List.range 24).foldl (fun a i =>
    if 24 * m + i < 272 && domOn s (10 + lineCluster (24 * m + i)) then a + 2 ^ i else a) 0

/-- What a read of a register returns: WO bits and reserved bits 0 (R9, R10), live counts of the switch core, and, in a
domain that is off, 0 (R552). -/
def readValue (s : State) (off : Nat) : Word :=
  match blockOf off with
  | none => 0
  | some b =>
    if !regDomOn s off then 0
    else
      match clkWindow off with
      | some n => if 0x800 ≤ off % 0x1000 && !storeOpen s n then 0 else reg s off
      | none =>
        if secWindow off then reg s off
        else if off = 0x1_C000 then wd (s.ringNs % 2 ^ 24)
        else if off = 0x1_C001 then s.rtime.latch1
        else if off = 0x1_C002 then s.rtime.latch2
        else if off = 0x2_8006 ∧ s.stk.copy.isSome ∧ bitsOf (reg s off).toNat 18 1 = 0 then
          wd (putBits (reg s off).toNat 0 18 (freeVal s (2 ^ 18)))
        else if fedMeas off then wd (freeVal s (if off = 0x8002 ∨ off = 0x8003 then 2 ^ 12 else 2 ^ 24))
        else if off = 0x4000 then
          let v := match s.pwr.entry with
            | some e => if s.clk < e.2.1 then putBits (reg s off).toNat 0 2 e.2.2 else (reg s off).toNat
            | none => (reg s off).toNat
          wd (if s.pwr.pllAt.any (fun t => s.clk < t + 300000) then putBits v 6 1 0 else v)
        else if off = 0x8000 then
          wd (putBits (reg s off).toNat 12 1 (if getF s fFED_STATUS_NODE = 3 then getF s fFED_STATUS_WARN else 1))
        else if 0x3_0020 ≤ off ∧ off < 0x3_002C then wd ((reg s off).toNat &&& dioInMask s (off - 0x3_0020))
        else if off = 0x2_0002 then
          wd (bitsOf (s.swq.cellsIn - cellsUsed s) 0 14 + 2 ^ 14 * getF s fSWQ_CELLS_SPARE)
        else if off = 0x2_0003 then wd (descFree s)
        else if off = 0x2_0000 then wd (putBits (reg s off).toNat 3 1 (bit (descFree s == 0)))
        else if 0x2_0300 ≤ off ∧ off < 0x2_0400 then
          let q := off - 0x2_0300
          let c := qCount s q + (if 52 ≤ q ∧ q < 64 then (tget (fun _ => []) s.hif.cqWait (q - 52)).length else 0)
          wd (c % 2 ^ 17 + 2 ^ 17 * bit (c == 0) + 2 ^ 18 * bit (queueFull s q) +
            2 ^ 19 * bitsOf (reg s off).toNat 19 2)
        else if off = 0x1_4401 ∨ off = 0x1_8401 then
          let x := (off - 0x1_4401) / 0x4000
          let n := pairNumbered s x
          wd (putBits (putBits (reg s off).toNat 0 1 (bit n)) 4 6 (if n then pairRing s x else 0))
        else if off = 0x1_4201 ∨ off = 0x1_8201 then
          let d := (getByp s ((off - 0x1_4201) / 0x4000)).drops.filter (fun d => s.clk ≤ d + 600000000000)
          wd (putBits (reg s off).toNat 4 4 (min 15 d.length))
        else if off = 0x1_4040 ∨ off = 0x1_4140 ∨ off = 0x1_8040 ∨ off = 0x1_8140 then
          let p := (off - 0x1_4000) / 0x4000 * 2 + off % 0x4000 / 0x100
          wd (putBits (reg s off).toNat 5 1 (bit (getF s (fRGx_PHY_CTL_MEDIUM p) == 1 && getF s (fRGx_PHY_STAT_STATE p) != 4)))
        else if off = 0x4_8002 then
          if getF s fTWN_STAT_ROLE = 0 then reg s off
          else wd (putBits (reg s off).toNat 14 10 (min 1023 (s.ringNs / 3600000000000 - s.twin.hourStart)))
        else if off = 0xC0C3 then
          let n := ((List.range 68).filter (fun v => getF s (fANA_CONV_STATE v) == 0)).length
          wd (putBits (reg s off).toNat 6 3 (min 7 n))
        else if off = 0xC0C4 then
          wd ((List.range 4).foldl (fun a c => a + ((List.range 26).filter (fun i =>
            getF s (fCLK_ENG_CTL_ROLE (26 * c + i)) == 0 && getF s (fCLK_ENG_STAT_STATE (26 * c + i)) != 4)).length * 2 ^ (5 * c)) 0)
        else if 0x3_C004 ≤ off ∧ off < 0x3_C008 then
          wd (putBits (reg s off).toNat 7 1 (bit (flag s fUSB_STATUS_SUSPENDED && flag s (fUSB_PORT_ENABLED (off - 0x3_C003)))))
        else if 0x3_40C0 ≤ off ∧ off < 0x3_4100 then
          wd (putBits (reg s off).toNat 3 1 (bit ((getChan s (off - 0x3_40C0)).excl.any (fun e => e.1 ≤ s.ringNs && s.ringNs < e.2))))
        else if 0x1_0200 ≤ off ∧ off < 0x1_0280 then
          if off % 2 = 0 then wd (getCnt s ((off - 0x1_0200) / 2)).val else wd (getCnt s ((off - 0x1_0200) / 2)).latch
        else
          match findRow off (blockRows b) with
          | none => 0
          | some (r, _) => reg s off &&& wd (fldMask (fun f => f.acc != .wo) r.flds)

/-- What a read does besides: RC fields clear (R10), RTM_TIME0 and CNT_LO latch (R271, R475), a domain that is off is
recorded (R552). -/
def readEffect (off : Nat) (s : State) : State :=
  match blockOf off with
  | none => s
  | some b =>
    if !regDomOn s off then setF fGLB_STATUS_DOMAIN_OFF 1 s
    else if fedMeas off ∨ (off = 0x2_8006 ∧ s.stk.copy.isSome) then drawn s
    else if 0x3_0020 ≤ off ∧ off < 0x3_002C then
      (if dioInMask s (off - 0x3_0020) = (List.range 24).foldl (fun a i => if 24 * (off - 0x3_0020) + i < 272 then a + 2 ^ i else a) 0
        then s else setF fGLB_STATUS_DOMAIN_OFF 1 s)
    else if off = 0x1_C000 then
      { s with rtime := { s.rtime with latch1 := wd (s.ringNs / 2 ^ 24), latch2 := wd (s.ringNs / 2 ^ 48 % 2 ^ 16) } }
    else if 0x1_0200 ≤ off ∧ off < 0x1_0280 ∧ off % 2 = 0 then
      let k := (off - 0x1_0200) / 2
      setCnt k { getCnt s k with latch := (getCnt s k).val / 2 ^ 24 } s
    else
      match clkWindow off with
      | some _ => s
      | none =>
        match findRow off (blockRows b) with
        | none => s
        | some (r, _) =>
          let m := fldMask (fun f => f.acc == .rc) r.flds
          if m = 0 then s else setReg off (wd ((reg s off).toNat &&& (0xFFFFFF ^^^ m))) s

end Sys2Proof.Machine
end

