-- ==== Sys2Proof/Machine/Points.lean ====
section
/-! DEFINITION. The archive's operations: the bank map, reading and writing records, the events of Table 4, errors found
at reads, and host and fabric writes to W0 (chapter 02). -/

namespace Sys2Proof.Machine

/-- Records of one bank (R39). -/
def bankSize : Nat := 262144

/-- The physical bank that a logical bank is placed on (R40). -/
def physBank (s : State) (l : Nat) : Nat := getF s ⟨0x2_8004, 3 * l, 3⟩

/-- The spare bank (R40). -/
def spareBank (s : State) : Nat := getF s fSTK_BANK_MAP_SPARE

/-- The record key of a point: its physical bank and index. -/
def ptKey (s : State) (p : Nat) : Nat := bankSize * physBank s (p / bankSize) + p % bankSize

/-- What an unlisted Stacks record holds: its bank's fill. -/
def recFill (fill : List Rec) (k : Nat) : Rec := fill.getD (k / bankSize) (Rec.empty .none 0)

def getRecK (s : State) (k : Nat) : Rec := tget (recFill s.stk.fill) s.stk.recs k

/-- How many of the 80 bits of a record stand wrong (R39): in the Stacks (`arr` 0) or the Catalogue (1). -/
def flipsAt (s : State) (arr k : Nat) : Nat := tget (fun _ => 0) s.stk.flips (2 * k + arr)

/-- A Stacks record and its check bits written whole (R67). -/
def setRecK (k : Nat) (r : Rec) (s : State) : State :=
  { s with stk := { s.stk with recs := tset (recFill s.stk.fill) k r s.stk.recs, flips := tset (fun _ => 0) (2 * k) 0 s.stk.flips } }
def getCatK (s : State) (k : Nat) : Cat := tget (fun _ => Cat.none) s.stk.cats k

/-- A Catalogue record and its check bits written whole. -/
def setCatK (k : Nat) (c : Cat) (s : State) : State :=
  { s with stk := { s.stk with cats := tset (fun _ => Cat.none) k c s.stk.cats, flips := tset (fun _ => 0) (2 * k + 1) 0 s.stk.flips } }

/-- Bits of a record go wrong before a command's own effect: one more, or two (log 3). -/
def strike (arr k : Nat) (e : Ecc) (s : State) : State :=
  let n := match e with
    | .ok => 0
    | .corrected => 1
    | .uncorrectable => 2
  { s with stk := { s.stk with flips := tset (fun _ => 0) (2 * k + arr) (flipsAt s arr k + n) s.stk.flips } }

/-- What strikes the records of points before a read, whether it reads them or not. -/
def strikes (arr : Nat) (ecc : List (Nat × Ecc)) (s : State) : State := ecc.foldl (fun t e => strike arr (ptKey t e.1) e.2 t) s

/-- A single-bit error is corrected and written back (R77). -/
def mend (arr k : Nat) (s : State) : State :=
  { s with stk := { s.stk with flips := tset (fun _ => 0) (2 * k + arr) 0 s.stk.flips } }

/-- The key of the same record in the bank that dual writes also reach (R81). -/
def dualKey (s : State) (k : Nat) : Option Nat :=
  match s.stk.copy with
  | some (f, d) => if k / bankSize = f then some (bankSize * d + k % bankSize) else none
  | none => none

/-- A Stacks record as it stands. -/
def getPt (s : State) (p : Nat) : Rec := getRecK s (ptKey s p)

/-- A Stacks record replaced, in both banks while dual writes are in force. -/
def putRec (k : Nat) (r : Rec) (s : State) : State :=
  match dualKey s k with
  | some d => setRecK d r (setRecK k r s)
  | none => setRecK k r s

/-- A Catalogue record replaced, in both banks while dual writes are in force. -/
def putCat (k : Nat) (c : Cat) (s : State) : State :=
  match dualKey s k with
  | some d => setCatK d c (setCatK k c s)
  | none => setCatK k c s

/-- The Catalogue record that the hub serves a point by (R77, R85). -/
def catAt (s : State) (p : Nat) : Cat := catServed (getCatK s (ptKey s p))

/-- The alarm-check item of a write that sets CHANGED on a point with an alarm set (R62). -/
def alarmItem (p : Nat) (s : State) : State := if catAlarm (catAt s p) != 0 then pushWords 208 [wd p] s else s

/-- A record write through the archive: counted, and, where it sets CHANGED, followed by its alarm-check item (R62). -/
def storeRec (p : Nat) (new : Rec) (s : State) : State :=
  let old := getPt s p
  let s := countEv 7 1 1 (putRec (ptKey s p) new s)
  if new.changed && (alters old new || !old.changed) then alarmItem p s else s

/-- A record event that follows R58. -/
def writeRec (p : Nat) (new : Rec) (s : State) : State := storeRec p (withChanged (getPt s p) new) s

/-- Mapped points whose loaded Catalogue record satisfies a test (R40, R52). -/
def pointsWhere (s : State) (f : Cat → Bool) : List Nat :=
  s.stk.cats.filterMap (fun e =>
    if e.2.mark == .loaded && f e.2 then
      ([0, 1, 2, 3].find? (fun l => physBank s l == e.1 / bankSize)).map (fun l => bankSize * l + e.1 % bankSize)
    else none)

/-! ### STALE (R48 to R50) -/

/-- The stale limit in force of a scan class, in us; 0 never. -/
def staleLimitUs (s : State) (n : Nat) : Nat :=
  let c := getF s (fSTK_STALE_LIM_COUNT n)
  let u := getF s (fSTK_STALE_LIM_UNIT n)
  c * (if u = 0 then 1000 else if u = 1 then 1000000 else 60000000)

/-- The stale check of a record (R50). -/
def staleCheck (p : Nat) (s : State) : State :=
  let r := getPt s p
  let lim := staleLimitUs s (catClass (catAt s p))
  if lim != 0 && !r.stale && lim < ageOf (usNow s) r then countEv 7 3 1 (writeRec p { r with stale := true } s) else s

/-! ### Errors found at a read (R77) -/

/-- 24 h in ns. -/
def dayNs : Nat := 86400000000000

/-- The row that showed a corrected error, beside those of the last 24 h (R477). -/
def noteRow (b row : Nat) (s : State) : State :=
  { s with stk := { s.stk with ceRows := (b, row, s.clk) :: s.stk.ceRows.filter (fun e => s.clk ≤ e.2.2 + dayNs) } }

/-- A corrected error in a record of a bank, `at_` being 2 × its key + 0 in the Stacks, 1 in the Catalogue: counted, and
counted toward the wear of the bank and of its row (R77, R476, R477). -/
def bankCe (b at_ : Nat) (s : State) : State :=
  let s := noteRow b (Config.archiveRow at_) s
  let s := countEv 7 4 1 (incF (fSTK_CE_CNT_COUNT b) s)
  let n := tget (fun _ => 0) s.stk.ceHour b + 1
  wearStep (192 + b) 1 b (getF s fFLT_ATC_THR_BANK_CE) n
    { s with stk := { s.stk with ceHour := tset (fun _ => 0) b n s.stk.ceHour } }

/-- Where an uncorrectable error was found, and its bank's mark (R77, R87). -/
def ueLast (b idx arr : Nat) (s : State) : State :=
  let s := setReg 0x2_8018 (wd (idx % bankSize + 2 ^ 18 * arr + 2 ^ 19 * b + 2 ^ 22)) s
  setF ⟨0x2_8001, 3 + b, 1⟩ 1 s

/-- Whether a physical bank holds a logical bank (R40). -/
def bankMapped (s : State) (b : Nat) : Bool := b != spareBank s

/-- The alarm-check item of an uncorrectable-error event on a mapped point (R58, R62). -/
def alarmOfKey (b idx : Nat) (s : State) : State :=
  match [0, 1, 2, 3].find? (fun l => physBank s l == b) with
  | some l => alarmItem (bankSize * l + idx) s
  | none => s

/-- A Stacks record is read and its code checked, by its bank and index (R77, Table 4's uncorrectable-error event); `e` is
what strikes it before. -/
def checkRec (b idx : Nat) (e : Ecc) (s : State) : State :=
  let k := bankSize * b + idx
  let s := strike 0 k e s
  if flipsAt s 0 k = 0 then s
  else if flipsAt s 0 k = 1 then bankCe b (2 * k) (mend 0 k s)
  else
    let s := raise (197 + b) (ueLast b idx 0 s)
    alarmOfKey b idx (countEv 7 1 1 (putRec k (Rec.empty .none (usNow s)) s))

/-- A Catalogue record that cannot be corrected: its mark changes, its code stands as it is. -/
def spoilCat (k : Nat) (s : State) : State :=
  { s with stk := { s.stk with cats := tset (fun _ => Cat.none) k { getCatK s k with mark := .bad } s.stk.cats } }

/-- A Catalogue record is read and its code checked: an uncorrectable one is served as unassigned until the steward
rewrites it; a record not loaded is no error (R77, R85). -/
def checkCat (b idx : Nat) (e : Ecc) (s : State) : State :=
  let k := bankSize * b + idx
  let s := strike 1 k e s
  if flipsAt s 1 k = 0 ∨ (getCatK s k).mark = .notLoaded then s
  else if flipsAt s 1 k = 1 then bankCe b (2 * k + 1) (mend 1 k s)
  else
    let s := raise (202 + b) (ueLast b idx 1 s)
    let s := spoilCat k s
    { s with stw := { s.stw with reloads := insSet k s.stw.reloads } }

/-- A point's Catalogue record is read (R77). -/
def touchCat (p : Nat) (e : Ecc) (s : State) : State := checkCat (ptKey s p / bankSize) (ptKey s p % bankSize) e s

/-- A point's records are read before a write that changes the Stacks record in part; an uncorrectable error is carried
out before the write (R67, R77). -/
def preRead (p : Nat) (e : Ecc) (s : State) : State :=
  let s := touchCat p .ok s
  checkRec (ptKey s p / bankSize) (ptKey s p % bankSize) e s

/-- A read of a point reaches the archive: the codes of its records are checked and STALE is evaluated (R50, R68, R77). -/
def touchPt (p : Nat) (e : Ecc) (s : State) : State := countEv 7 2 1 (staleCheck p (preRead p e s))

/-! ### Source writes (R51 Table 4, R56, R57, R63) -/

/-- What a source says of a point. -/
inductive SrcEv where
  | good (v : Int)
  | range (v : Int)
  | comms
  | sensor
  | conv
deriving DecidableEq, Repr

/-- The scaling table of an index in the edition in force; index 0 is the identity (R52, R396). -/
def scaleTab (s : State) (i : Nat) : List (Int × Int) :=
  if i = 0 then []
  else
    match s.stw.inForce with
    | some e => tget (fun _ => []) e.scaling i
    | none => []

/-- A raw value through the point's scaling table and data type (R56). -/
def scaleEv (s : State) (c : Cat) (raw : Int) : SrcEv :=
  let r := scaleFwd (scaleTab s (catScale c)) raw
  if r.2 || !inType (catType c) r.1 then .range (clampType (catType c) r.1) else .good r.1

/-- What a reading says of a point (R148). -/
def readingEv (s : State) (c : Cat) : Reading → SrcEv
  | .value raw => scaleEv s c raw
  | .beyond raw => .range (clampType (catType c) (scaleFwd (scaleTab s (catScale c)) raw).1)
  | .sensorFail => .sensor

/-- Table 4's source events. -/
def srcRec (c : Cat) (ev : SrcEv) (time : Nat) (r : Rec) : Rec :=
  match ev with
  | .good v => goodRec (catType c) (catDeadband c) v time r
  | .range v => withChanged r { r with w0 := ofInt24 v, st := .uncertain, reason := .outOfRange, time := time, stale := false }
  | .comms => withChanged r { r with st := .bad, reason := .commsFail, time := time, stale := false }
  | .sensor => withChanged r { r with st := .bad, reason := .sensorFault, time := time, stale := false }
  | .conv => withChanged r { r with st := .bad, reason := .converterFault, time := time, stale := false }

/-- A good value in the mode every update sets CHANGED, whether it stood or not (R54, R62). -/
def setsAgain (c : Cat) (ev : SrcEv) : Bool :=
  match ev with
  | .good _ => everyUpdate (catType c) (catDeadband c)
  | _ => false

/-- A clerk's write to another source's point raises the fault source of the engine that serves the place (R63, R121). -/
def strayWrite (src : Nat) (s : State) : State :=
  match (if src < 104 then servingEngine s src else none) with
  | some e => raise (256 + 2 * e) s
  | none => s

/-- A source's write to a point (R63, R67, R77): discarded for a record not loaded or uncorrectable, for another source's
point, and while FORCED is 1. -/
def srcWrite (src p : Nat) (ev : SrcEv) (time : Nat) (s : State) : State :=
  let s := preRead p .ok s
  let c := getCatK s (ptKey s p)
  if c.mark != .loaded then s
  else if catSource c != src then strayWrite src s
  else if (getPt s p).forced then countEv 7 0 1 s
  else
    let old := getPt s p
    let new := srcRec c ev time old
    let s := storeRec p new s
    if setsAgain c ev && old.changed && !alters old new then alarmItem p s else s

/-- The steward writes a value it has computed, or taken from a swept record, to a local point of source 0x7E (R63, R75). -/
def stewardWrite (p : Nat) (v : Word) (s : State) : State :=
  srcWrite 0x7E p (.good (wordInt (catType (catAt s p)) v)) (usNow s) s

/-- The deferred-failure event of a write to a point (R51 Table 4). -/
def writeFailed (p : Nat) (s : State) : State :=
  let s := preRead p .ok s
  let r := getPt s p
  writeRec p { r with st := if r.st = .good then .uncertain else r.st, reason := .writeFailed } s

/-! ### Host and fabric writes to W0 (R69, R70) -/

/-- The number of the cause codes (R230, Table 6). -/
def cADDRESS : Nat := 1
def cREAD_ONLY : Nat := 2
def cDENIED : Nat := 3
def cNO_NODE : Nat := 4
def cNO_ACK : Nat := 5
def cFORCED : Nat := 6
def cRANGE : Nat := 7
def cREASSIGNED : Nat := 8
def cUNSUPPORTED : Nat := 9
def cTIMEOUT : Nat := 10
def cREJECTED : Nat := 11
def cCONFIRM : Nat := 12
def cPORT_DOWN : Nat := 13
def cPOWER : Nat := 14
def cABSENT : Nat := 15
def cBULK : Nat := 16

/-- Whether a value stands in a data type's W0 form (R43, Table 2). -/
def inForm (t : Nat) (v : Word) : Bool := inType t (wordInt t v) && ofInt24 (wordInt t v) == v

/-- The first check of R70 that a write of W0 fails. -/
def w0Cause (s : State) (p : Nat) (v : Word) : Option Nat :=
  let c := catAt s p
  if catRoute c = 0 ∨ catRoute c = 3 then some cREAD_ONLY
  else if (getPt s p).forced then some cFORCED
  else if !inForm (catType c) v then some cRANGE
  else if catRoute c = 1 && (scaleBack (scaleTab s (catScale c)) (wordInt (catType c) v)).isNone then some cRANGE
  else none

/-- The raw value sent to the field device for a value in W0 form (R56). -/
def rawOf (s : State) (c : Cat) (v : Word) : Int :=
  (scaleBack (scaleTab s (catScale c)) (wordInt (catType c) v)).getD (wordInt (catType c) v)

/-- A failed posted write to a point: the report, and Table 4's event (R70, R118). -/
def failWrite (p node tag cause : Nat) (s : State) : State :=
  writeFailed p (report node tag (handleOf (nodeId s) p) cause s)

/-- A command item's cell words (R112; the layout is the model's, log 18). -/
def cmdWords (c : Cmd) : List Word :=
  handleWords c.handle ++ [c.value, wd c.node, wd (c.tag % 65536 + 2 ^ 16 * bit c.host + 2 ^ 17 * bit c.force)]

/-- A command item read back from its cell words. -/
def cmdOf (ws : List Word) : Cmd :=
  let g := fun i => (ws.getD i 0).toNat
  { handle := g 0 + 2 ^ 24 * bitsOf (g 1) 0 8, value := ws.getD 2 0, node := g 3, tag := bitsOf (g 4) 0 16,
    host := bitsOf (g 4) 16 1 == 1, force := bitsOf (g 4) 17 1 == 1 }

/-- The direct write of a steward-computed or unassigned point (R51 Table 4). -/
def directWrite (p : Nat) (v : Word) (s : State) : State :=
  let r := getPt s p
  writeRec p { r with w0 := v, st := .good, reason := .none, time := usNow s, stale := false } s

/-- The force of a point (R51 Table 4, R64). -/
def forceRec (p : Nat) (v : Word) (st : PSt) (s : State) : State :=
  let s := preRead p .ok s
  let r := getPt s p
  writeRec p { r with w0 := v, st := st, reason := .none, time := usNow s, stale := false, forced := true } s

/-- The release of a force (R51 Table 4, R65). -/
def releaseRec (p : Nat) (s : State) : State :=
  let s := preRead p .ok s
  let r := getPt s p
  if r.forced then writeRec p { r with st := .uncertain, reason := .none, time := usNow s, stale := false, forced := false } s
  else s

end Sys2Proof.Machine
end

