-- ==== Sys2Proof/Machine/Analog.lean ====
section
/-! DEFINITION. Analog channels: windows, checks, the calibration rotation and steering (05, R165 to R182). -/

namespace Sys2Proof.Machine

/-! ### Channels and converters -/

/-- Output samples per second of a RATE (Table 1). -/
def anaRate (r : Nat) : Nat :=
  [1, 2, 5, 10, 20, 50, 60, 100, 250, 500, 1000, 3000, 6000, 12000, 24000, 48000].getD r 1

/-- RATE and FILTER allowed together (Table 2). -/
def anaAllowed (rate filt : Nat) : Bool :=
  if filt = 0 then 10 ≤ rate else if filt = 3 then false else rate ≤ 12

/-- The ring time, in ns, of sample i of a rate: samples stand at whole multiples of the output period after each whole
second (R167). -/
def sampleAt (rate i : Nat) : Nat := i * 1000000000 / rate

/-- The first sample of a rate at or after a ring time. -/
def sampleFrom (rate t : Nat) : Nat := (t * rate + 999999999) / 1000000000

/-- Output samples per second of a channel. -/
def chanRate (s : State) (n : Nat) : Nat := anaRate (getF s (fANA_CHCFG_RATE n))

/-- Some output periods of a channel, in ns. -/
def periods (s : State) (n k : Nat) : Nat := k * 1000000000 / chanRate s n

/-- Settling time of a channel's filter in output periods, twice its group delay (Table 2). -/
def settlePeriods (s : State) (n : Nat) : Nat :=
  let f := getF s (fANA_CHCFG_FILTER n)
  if f = 0 then 42 else if f = 1 then 3 else 5

/-- Settling time in ns (Table 2). -/
def anaSettle (s : State) (n : Nat) : Nat := periods s n (settlePeriods s n)

/-- Group delay in ns (Table 2). -/
def anaDelay (s : State) (n : Nat) : Nat := settlePeriods s n * 1000000000 / (2 * chanRate s n)

/-- Domain ANA (R438). -/
def anaOn (s : State) : Bool := domOn s 14

def chanEn (s : State) (n : Nat) : Bool := flag s (fANA_CHCFG_EN n)

/-- The converter that serves a channel (R165). -/
def chanConv (s : State) (n : Nat) : Nat := getF s (fANA_CHSEL_CONV n)

/-- A converter's state: 0 idle, 1 serving, 2 checking, 3 fenced (Table 10). -/
def convState (s : State) (v : Nat) : Nat := getF s (fANA_CONV_STATE v)

/-- The channel that a converter serves. -/
def convChan (s : State) (v : Nat) : Option Nat :=
  if convState s v = 1 then (List.range 64).find? (fun n => chanConv s n == v) else none

/-- The lowest-numbered idle converter; a fenced one is not idle. -/
def idleConv (s : State) : Option Nat := (List.range 68).find? (fun v => convState s v == 0)

/-- A code within 24-bit two's complement. -/
def clampCode (r : Int) : Int := if r < -8388608 then -8388608 else if 8388607 < r then 8388607 else r

/-- The modulator is driven beyond ±2.5 V ÷ 2^GAIN by a difference of `pv` picovolts (R166, R172). -/
def overloaded (gain : Nat) (pv : Int) : Bool := decide (2500000000000 < pv.natAbs * 2 ^ gain)

/-- The code of a difference in picovolts: 8,388,608 for +2.5 V ÷ 2^GAIN, clamped to the nearest limit (R166, R172). -/
def adcCode (gain : Nat) (pv : Int) : Int := clampCode (roundDiv (pv * 2 ^ gain * 8388608) 2500000000000)

/-- A code corrected by an OFFSET and a GAIN, halves away from zero (R169). -/
def correctedBy (offset : Int) (scale : Nat) (code : Int) : Int := clampCode (roundDiv ((code - offset) * scale) 4194304)

/-- A code corrected under a converter's calibration (R169). -/
def corrected (s : State) (v : Nat) (code : Int) : Int :=
  correctedBy (sgn24 (reg s (oANA_CALO v))) (reg s (oANA_CALG v)).toNat code

/-- How a channel's samples are taken from now on. -/
def calNow (s : State) (n : Nat) : CalSeg :=
  let v := chanConv s n
  ⟨s.ringNs, getF s (fANA_CHCFG_GAIN n), sgn24 (reg s (oANA_CALO v)), (reg s (oANA_CALG v)).toNat⟩

/-- How a channel's sample of a ring time was taken. -/
def calAt (s : State) (n t : Nat) : CalSeg := ((getChan s n).hist.find? (fun e => t ≤ e.upTo)).getD (calNow s n)

/-- A channel's gain, converter or calibration is about to change: the samples up to now keep theirs (R177). -/
def closeSeg (n : Nat) (s : State) : State :=
  if chanEn s n then setChan n { getChan s n with hist := (getChan s n).hist ++ [calNow s n] } s else s

/-- A converter's calibration is about to change. -/
def closeConv (v : Nat) (s : State) : State :=
  match convChan s v with
  | some n => closeSeg n s
  | none => s

/-- A converter's factory trim for a gain is loaded from OTP (R169). -/
def loadTrim (v g : Nat) (s : State) : State :=
  let s := setReg (oANA_CALG v) (Config.trimGain v g) (setReg (oANA_CALO v) (Config.trimOffset v g) s)
  { s with ana := { s.ana with gains := tset (fun _ => 0) v g s.ana.gains } }

/-- A converter is used at a gain: where the gain changes, its trim for it is loaded (R169). -/
def useGain (v g : Nat) (s : State) : State := if tget (fun _ => 0) s.ana.gains v = g then s else loadTrim v g s

/-- Samples within the settling time from now on are excluded (R173). -/
def excludeChan (n extra : Nat) (s : State) : State :=
  let c := getChan s n
  let old := if chanEn s n then c.excl else c.excl.filter (fun e => s.ringNs < e.2)
  setChan n { c with excl := old ++ [(s.ringNs, s.ringNs + anaSettle s n + extra)] } s

/-- A sample of a ring time is excluded (R173). -/
def excludedAt (s : State) (n t : Nat) : Bool := (getChan s n).excl.any (fun e => e.1 ≤ t && t < e.2)

/-- A channel's window starts at its next sample. -/
def freshWindow (n : Nat) (s : State) : State :=
  let c := getChan s n
  setChan n { c with first := sampleFrom (chanRate s n) s.ringNs, hist := [], excl := c.excl.filter (fun e => s.ringNs < e.2) } s

/-- ANA has come up, or ring time has been stepped: every channel starts a fresh window and excludes its settling time
(R173, R179). -/
def excludeAll (s : State) : State := (List.range 64).foldl (fun t n => excludeChan n 0 (freshWindow n t)) s

/-- Ring time is set to t: what is left of each exclusion goes on, and the sample grid is realigned (R173). -/
def realign (t : Nat) (s : State) : State :=
  let move := fun e : Nat × Nat => (t, t + (e.2 - s.ringNs))
  let s := (List.range 64).foldl (fun u n =>
    setChan n { getChan u n with excl := ((getChan u n).excl.filter (fun e => s.ringNs < e.2)).map move } u) s
  excludeAll { s with ringNs := t, usb := { s.usb with streamAt := sampleFrom 48000 t } }

/-! ### Points (R170 to R172) -/

/-- The points of a channel and quantity (R170). -/
def anaPoints (s : State) (n q : Nat) : List Nat :=
  pointsWhere s (fun c => catSource c == 0x70 && catDevice c == 0 && catObject c == n + 64 * q)

/-- Each point of a channel and quantity is written by what a function says of it. -/
def anaWrite (n q time : Nat) (ev : State → Cat → SrcEv) (s : State) : State :=
  (anaPoints s n q).foldl (fun t p => srcWrite 0x70 p (ev t (catAt t p)) time t) s

/-- All points of a channel take one event. -/
def anaAll (n : Nat) (ev : SrcEv) (s : State) : State :=
  [0, 1, 2].foldl (fun t q => anaWrite n q (usNow t) (fun _ _ => ev) t) s

/-- The converter-check event on every enabled channel (R180). -/
def anaConvAll (s : State) : State := (List.range 64).foldl (fun t n => if chanEn t n then anaAll n .conv t else t) s

/-- Mean of corrected codes, to the nearest integer. -/
def meanOf (l : List Int) : Int := roundDiv l.sum l.length

def minOf (l : List Int) : Int := l.foldl min (l.headD 0)
def maxOf (l : List Int) : Int := l.foldl max (l.headD 0)

/-- What a window says of a point: the scaled value, out of range where a sample was overloaded (R171, R172). -/
def windowEv (overload : Bool) (v : Int) (s : State) (c : Cat) : SrcEv :=
  if overload then .range (clampType (catType c) (scaleFwd (scaleTab s (catScale c)) v).1) else scaleEv s c v

/-- The audio PLL is unlocked or the reference out of tolerance, with the fault of each (R180). -/
def anaUntrue (s : State) : Bool := !flag s fANA_STATUS_PLL_LOCK || !flag s fANA_STATUS_REF_OK

def raiseUntrue (s : State) : State :=
  let s := if flag s fANA_STATUS_PLL_LOCK then s else causeOn 508 s
  if flag s fANA_STATUS_REF_OK then s else causeOn 507 s

/-- A window's samples with their ring times. -/
def windowSamples (s : State) (n : Nat) (volts : List Int) : List (Nat × Int) :=
  ((List.range' (getChan s n).first volts.length).map (sampleAt (chanRate s n))).zip volts

/-- A sample was driven beyond full scale. -/
def sampleOver (s : State) (n : Nat) (e : Nat × Int) : Bool := overloaded (calAt s n e.1).gain e.2

/-- A sample's corrected code. -/
def sampleCode (s : State) (n : Nat) (e : Nat × Int) : Int :=
  let k := calAt s n e.1
  correctedBy k.offset k.scale (adcCode k.gain e.2)

/-- The next window follows without gap. -/
def nextWindow (n len : Nat) (s : State) : State :=
  let c := getChan s n
  let at_ := sampleAt (chanRate s n) (c.first + len)
  setChan n { c with
    first := c.first + len
    hist := c.hist.filter (fun e => at_ ≤ e.upTo)
    excl := c.excl.filter (fun e => at_ < e.2 || s.ringNs < e.2) } s

/-- The points of a window (R171, R172). -/
def windowPoints (n time : Nat) (ovl : Bool) (l : List Int) (s : State) : State :=
  let s := anaWrite n 0 time (windowEv ovl (meanOf l)) s
  let s := anaWrite n 1 time (windowEv ovl (minOf l)) s
  anaWrite n 2 time (windowEv ovl (maxOf l)) s

/-- A window has ended: `volts` are its samples, in picovolts. -/
def windowEnds (n : Nat) (volts : List Int) (s : State) : State :=
  let c := getChan s n
  let all := windowSamples s n volts
  let kept := all.filter (fun e => !excludedAt s n e.1)
  let ovl := kept.any (sampleOver s n)
  let time := (sampleAt (chanRate s n) (c.first + volts.length - 1) - anaDelay s n) / 1000 % 2 ^ 40
  let l := kept.map (sampleCode s n)
  let s := nextWindow n volts.length (setF (fANA_CHSTAT_OVERLOAD n) (bit (all.any (sampleOver s n))) s)
  if c.stopped || flag s (fANA_CHSTAT_OPEN n) || kept.isEmpty then s
  else if anaUntrue s then anaAll n .conv (raiseUntrue s)
  else windowPoints n time ovl l s

/-- The window of a channel has its 2^AVG samples (R171). -/
def windowFull (s : State) (n len : Nat) : Bool :=
  len == 2 ^ getF s (fANA_CHCFG_AVG n) && decide (sampleAt (chanRate s n) ((getChan s n).first + len - 1) ≤ s.ringNs)

/-- ANA_WINDOW_END (R171, R172, R180): `volts` are the differences that the channel's converter measured at the window's
output instants, referred to its input, in picovolts. While the audio PLL is unlocked or the reference out of tolerance,
points take the converter-check event. -/
def execAnaWindowEnd (ch : Nat) (volts : List Int) (s : State) : Host.Outcome State Fault Refusal :=
  unit (ch < 64) (when (anaOn s && chanEn s ch && windowFull s ch volts.length) (windowEnds ch volts) s)

/-- A write of ANA_CHCFGn (R168, R169, R173). -/
def chcfgWrite (n : Nat) (v : Word) (s : State) : State :=
  if !anaAllowed (bitsOf v.toNat 0 4) (bitsOf v.toNat 4 2) then setF fANA_STATUS_CFG_REJECT 1 s
  else
    let fresh := !chanEn s n || bitsOf v.toNat 0 4 != getF s (fANA_CHCFG_RATE n) || bitsOf v.toNat 9 4 != getF s (fANA_CHCFG_AVG n)
    let s := setReg (oANA_CHCFG n) (wd (v.toNat % 2 ^ 15)) (closeSeg n s)
    let s := if fresh then freshWindow n s else s
    let s := useGain (chanConv s n) (getF s (fANA_CHCFG_GAIN n)) s
    let s := match (getChan s n).steerTo with
      | some w => useGain w (getF s (fANA_CHCFG_GAIN n)) s
      | none => s
    excludeChan n 0 s

/-- ANA_CHCFG_WRITE (R168). -/
def execAnaChcfgWrite (by_ : Writer) (ch : Nat) (v : Word) (s : State) : Host.Outcome State Fault Refusal :=
  unit (ch < 64) (guardWrite by_ (oANA_CHCFG ch) (chcfgWrite ch v) s)

/-! ### Checks (R174, R175) -/

/-- Some channel of an open-sensor source's group of four is open. -/
def openGroup (s : State) (g : Nat) : Bool := [0, 1, 2, 3].any (fun i => flag s (fANA_CHSTAT_OPEN (4 * g + i)))

/-- What the comparator says of a source impedance: open above 1 MΩ, never open below 500 kΩ, and between them what it
happens to find (R174). -/
def foundOpen (s : State) (ch ohms : Nat) : Bool :=
  if 1000000 < ohms then true else if ohms < 500000 then false else Config.openReading ch s.clk

/-- OPEN_SENSOR_CHECK (R174): `ohms` is the impedance of the source at the pulse. -/
def execOpenSensorCheck (ch ohms : Nat) (s : State) : Host.Outcome State Fault Refusal :=
  unit (ch < 64) (
    let c := getChan s ch
    if !anaOn s || !flag s (fANA_CHCFG_OPEN_EN ch) || s.clk < c.openDue then s
    else
      let opened := foundOpen s ch ohms
      let s := setChan ch { c with openDue := s.clk + 1000000000 * max 1 (getF s fANA_CTL_OPEN_PER) } s
      let s := excludeChan ch (max 100000 (periods s ch 1)) s
      let s := setF (fANA_CHSTAT_OPEN ch) (bit opened) s
      let s := if opened && chanEn s ch then anaAll ch .sensor s else s
      causeIs (openGroup s (ch / 4)) (490 + ch / 4) s)

/-- The switch of a steer: the new converter supplies the samples after this instant, and the old one becomes idle unless
it is fenced or under check (R177). A converter that has failed meanwhile stops the windows (R175). -/
def steerDone (n : Nat) (s : State) : State :=
  match (getChan s n).steerTo with
  | none => s
  | some w =>
    let u := chanConv s n
    let bad := getF s (fANA_CONV_CAUSE w) != 0
    let s := closeSeg n s
    let s := setF (fANA_CHSEL_CONV n) w (setF (fANA_CHSTAT_STEERING n) 0 s)
    let s := setChan n { getChan s n with steerTo := none, stopped := bad } s
    let s := if bad then raise (473 + w / 4) (if chanEn s n then anaAll n .conv s else s) else s
    let s := if convState s u = 1 then setF (fANA_CONV_STATE u) 0 s else s
    if s.ana.rotChan = some n && s.ana.rotPhase = 1 then
      let s := if convState s u = 0 then setF (fANA_CONV_STATE u) 2 s else s
      { s with ana := { s.ana with rotPhase := 2, rotAt := s.clk } }
    else if s.ana.rotChan = some n && s.ana.rotPhase = 3 then
      setF fANA_ROT_STAT_STANDIN 0x7F { s with ana := { s.ana with rotPhase := 0, rotChan := none } }
    else s

/-- The Registrar fences a converter (R467): state 3; its channel writes no window until it is steered away. -/
def fenceConv (v : Nat) (s : State) : State :=
  let n := convChan s v
  let s := setF (fANA_CONV_STATE v) 3 s
  match n with
  | some n => setChan n { getChan s n with stopped := true } s
  | none => s

/-- A steer begins: the new converter is connected in parallel, with the channel's gain (R177). -/
def steerBegin (n w : Nat) (s : State) : State :=
  let c := getChan s n
  let s := setF (fANA_CONV_STATE w) 1 (setF (fANA_CHSTAT_STEERING n) 1 s)
  let s := useGain w (getF s (fANA_CHCFG_GAIN n)) s
  setChan n { c with steerTo := some w, steerSince := s.clk } s

/-- The Attic judges the switch of a steer it has asked for: accepted, or for a unit that was fenced, the old converter is
fenced; otherwise the channel is steered back, and the spare fenced once it is (R478, R479 Table 5). -/
def atticSteer (ch u w diff : Nat) (s : State) : State :=
  match atticFind s 2 (fun x => (x.spare == w && x.unit == u && !x.back) || (x.spare == u && x.unit == w && x.back)) with
  | some x =>
    if x.back then atticEnd x 1 (fenceConv x.spare s)
    else if !x.planned || diff ≤ getF s fFLT_ATC_DIFF_DIFF then atticEnd x 0 (fenceConv x.unit s)
    else
      let s := { s with flt := { s.flt with attic := s.flt.attic.map (fun y => if y == x then { y with back := true } else y) } }
      steerBegin ch x.unit (raise 628 s)
  | none => s

/-- A failing converter that serves a channel: its points, and the end of its windows; a steer under way switches at once
(R175, R178). -/
def servingFault (n : Nat) (s : State) : State :=
  let s := if chanEn s n then anaAll n .conv s else s
  let s := setChan n { getChan s n with stopped := true } s
  match (getChan s n).steerTo with
  | some w =>
    let u := chanConv s n
    atticSteer n u w 0 (steerDone n s)
  | none => s

/-- CONVERTER_FAULT (R175): cause 1 modulator unstable, 2 filter parity. -/
def execConverterFault (cv : Nat) (cause : Nat) (s : State) : Host.Outcome State Fault Refusal :=
  unit (cv < 68 && (cause == 1 || cause == 2)) (
    if !anaOn s then s
    else
      let s := raise (473 + cv / 4) (setF (fANA_CONV_CAUSE cv) cause s)
      match convChan s cv with
      | some n => servingFault n s
      | none => s)

/-! ### Steering (R177, R178) -/

/-- A write of ANA_CHSELn.CONV (R177, R178). -/
def chselWrite (n w : Nat) (s : State) : State :=
  if 68 ≤ w || convState s w != 0 || flag s (fANA_CHSTAT_STEERING n) then setF fANA_STATUS_CFG_REJECT 1 s
  else steerBegin n w s

/-- STEER_START (R177). -/
def execSteerStart (by_ : Writer) (ch : Nat) (cv : Nat) (s : State) : Host.Outcome State Fault Refusal :=
  unit (ch < 64) (guardWrite by_ (oANA_CHSEL ch) (chselWrite ch (cv % 128)) s)

/-- The largest difference of the corrected codes of two converters at one gain (R177). -/
def steerDiff (s : State) (u w gain : Nat) (pairs : List (Int × Int)) : Nat :=
  pairs.foldl (fun m e => max m (corrected s u (adcCode gain e.1) - corrected s w (adcCode gain e.2)).natAbs) 0

/-- Samples compared in a steer. -/
def steerCmp (s : State) : Nat := max 1 (getF s fANA_CTL_STEER_CMP)

/-- STEER_SWITCH (R177): `pairs` are what the old and the new converter measured at the compared samples, in picovolts. -/
def execSteerSwitch (ch : Nat) (pairs : List (Int × Int)) (s : State) : Host.Outcome State Fault Refusal :=
  unit (ch < 64) (
    let c := getChan s ch
    match c.steerTo with
    | some w =>
      if anaOn s && pairs.length = steerCmp s && c.steerSince + periods s ch (settlePeriods s ch + steerCmp s) ≤ s.clk then
        let u := chanConv s ch
        let diff := steerDiff s u w (getF s (fANA_CHCFG_GAIN ch)) pairs
        atticSteer ch u w diff (steerDone ch (setF (fANA_CHSTAT_DIFF ch) (min diff 0xFFFF) s))
      else s
    | none => s)

/-! ### The calibration rotation (R176) -/

/-- The next converter the rotation takes: the first from `rotNext` on, wrapping after CV67, that is not fenced. -/
def rotConv (s : State) : Option Nat :=
  ((List.range 68).map (fun i => (s.ana.rotNext + i) % 68)).find? (fun v => convState s v != 3)

/-- A rotation step takes converter v. -/
def rotTake (v : Nat) (s : State) : State :=
  let per := 1000000000 * max 1 (getF s fANA_CTL_CHECK_PER)
  let s := causeOff 506 (setF fANA_STATUS_ROT_STALL 0 s)
  let s := if v < s.ana.rotNext then wrapF fANA_ROT_STAT_ROUNDS s else s
  let s := setF fANA_ROT_STAT_CONV v s
  { s with ana := { s.ana with rotNext := v, rotDue := s.clk + per, rotWait := none } }

/-- ROTATION_STEP (R176). A converter that is just being steered to waits until it serves. -/
def execRotationStep (s : State) : Host.Outcome State Fault Refusal :=
  .next (
    if !anaOn s || !flag s fANA_CTL_ROT_EN || s.clk < s.ana.rotDue || s.ana.rotPhase != 0 then s
    else
      match rotConv s with
      | none => s
      | some v =>
        match convChan s v with
        | none =>
          if convState s v != 0 then s
          else
            let s := setF (fANA_CONV_STATE v) 2 (setF fANA_ROT_STAT_STANDIN 0x7F (rotTake v s))
            { s with ana := { s.ana with rotPhase := 2, rotChan := none, rotAt := s.clk } }
        | some n =>
          if flag s (fANA_CHSTAT_STEERING n) then s
          else
            match idleConv s with
            | some w =>
              let s := steerBegin n w (setF fANA_ROT_STAT_STANDIN w (rotTake v s))
              { s with ana := { s.ana with rotPhase := 1, rotChan := some n } }
            | none =>
              let s := setF fANA_STATUS_ROT_STALL 1 s
              if s.ana.rotWait.isNone then { s with ana := { s.ana with rotWait := some s.clk } } else s)

/-- The rotation has finished with a converter: the next one, and a round ends after CV67. -/
def rotNextConv (v : Nat) (s : State) : State :=
  let s := setF fANA_ROT_STAT_CONV 0x7F s
  let s := { s with ana := { s.ana with rotNext := (v + 1) % 68 } }
  if v = 67 then wrapF fANA_ROT_STAT_ROUNDS s else s

/-- A step of the rotation ends with nothing to steer back. -/
def rotIdle (s : State) : State :=
  setF fANA_ROT_STAT_STANDIN 0x7F { s with ana := { s.ana with rotPhase := 0, rotChan := none } }

/-- The corrected code of what converter v measured, in picovolts, at the gain it last used. -/
def checkCode (s : State) (v : Nat) (pv : Int) : Int := corrected s v (adcCode (tget (fun _ => 0) s.ana.gains v) pv)

/-- ROTATION_CHECK_END (R176): what the short and the divided reference measured after 20 ms, in picovolts, and the new
calibration. A converter fenced meanwhile stays so. -/
def execRotationCheckEnd (short ref : Int) (offset gain : Word) (s : State) : Host.Outcome State Fault Refusal :=
  .next (
    if !anaOn s || s.ana.rotPhase != 2 || s.clk < s.ana.rotAt + 20000000 then s
    else
      let v := s.ana.rotNext
      let shortOk := (checkCode s v short).natAbs * 1000 ≤ 8388608
      let refOk := (checkCode s v ref - 4194304).natAbs * 1000 ≤ 5 * 8388608
      if convState s v != 2 then rotIdle (rotNextConv v s)
      else if shortOk && refOk then
        let moved := (sgn24 offset - sgn24 (reg s (oANA_CALO v))).natAbs
        let s := setReg (oANA_CALG v) gain (setReg (oANA_CALO v) offset s)
        let s := wearStep 625 2 v (getF s fFLT_ATC_THR_DRIFT * 16 + 1) moved
          { s with ana := { s.ana with drift := tset (fun _ => 0) v moved s.ana.drift } }
        let s := setF (fANA_CONV_STATE v) 0 (rotNextConv v s)
        match s.ana.rotChan with
        | some n =>
          if flag s (fANA_CHSTAT_STEERING n) then rotIdle s
          else steerBegin n v { s with ana := { s.ana with rotPhase := 3 } }
        | none => rotIdle s
      else
        let s := setF (fANA_CONV_STATE v) 3 (setF (fANA_CONV_CAUSE v) (if shortOk then 4 else 3) s)
        rotIdle (raise (473 + v / 4) (rotNextConv v s)))

/-- ROTATION_STALL (R176): a step has waited 10 × CHECK_PER. -/
def execRotationStall (s : State) : Host.Outcome State Fault Refusal :=
  .next (
    match s.ana.rotWait with
    | some t =>
      if anaOn s && flag s fANA_CTL_ROT_EN && t + 10 * (1000000000 * max 1 (getF s fANA_CTL_CHECK_PER)) ≤ s.clk then
        causeOn 506 s
      else s
    | none => s)

/-- ROT_EN is 0: no step waits (R176). -/
def rotWatch (s : State) : State :=
  if flag s fANA_CTL_ROT_EN then s
  else causeOff 506 (setF fANA_STATUS_ROT_STALL 0 { s with ana := { s.ana with rotWait := none } })

/-- A channel's converter that is fenced stops its windows, and where the Attic replaces converters of itself the channel is
steered to the lowest idle one (R467, R478). -/
def steerAway (n : Nat) (s : State) : State :=
  if convState s (chanConv s n) != 3 then s
  else
    let s := setChan n { getChan s n with stopped := true } s
    if bitsOf (getF s fFLT_ATC_CTL_AUTO) 2 1 = 0 || flag s (fANA_CHSTAT_STEERING n) then s
    else
      match idleConv s with
      | some w => steerBegin n w s
      | none => s

/-- Every channel leaves a converter that is fenced. -/
def steerFenced (s : State) : State := (List.range 64).foldl (fun t n => steerAway n t) s

/-! ### Clock and reference (R180) -/

/-- AUDIO_PLL_UNLOCK (R180). -/
def execAudioPllUnlock (s : State) : Host.Outcome State Fault Refusal :=
  .next (if anaOn s then causeOn 508 (anaConvAll (setF fANA_STATUS_PLL_LOCK 0 s)) else s)

/-- REFERENCE_FAULT (R180). -/
def execReferenceFault (s : State) : Host.Outcome State Fault Refusal :=
  .next (if anaOn s then causeOn 507 (anaConvAll (setF fANA_STATUS_REF_OK 0 s)) else s)

/-- AUDIO_PLL_LOCK (R180). -/
def execAudioPllLock (s : State) : Host.Outcome State Fault Refusal :=
  .next (if anaOn s then causeOff 508 (setF fANA_STATUS_PLL_LOCK 1 s) else s)

/-- REFERENCE_RESTORED (R180). -/
def execReferenceRestored (s : State) : Host.Outcome State Fault Refusal :=
  .next (if anaOn s then causeOff 507 (setF fANA_STATUS_REF_OK 1 s) else s)

end Sys2Proof.Machine
end

