-- ==== Sys2Proof/Machine/Feeds.lean ====
section
/-! DEFINITION. Feeds, the node hot-swap, FEED_WARN_N and the field supply channels (chapter 12). -/

namespace Sys2Proof.Machine

def setFed (f : Fed) (s : State) : State := { s with fed := f }

/-! ### Field supply channels (R421 to R434) -/

/-- The state of a channel, by its code of Table 4. -/
def fscState (s : State) (n : Nat) : Nat := getF s (fFED_FSC_STAT_STATE n)

/-- A channel enters a state. -/
def fscGo (n st : Nat) (s : State) : State :=
  setFsc n { getFsc s n with since := s.clk } (setF (fFED_FSC_STAT_STATE n) st s)

/-- A channel may turn on: EN is 1 and no hold applies. -/
def fscMayOn (s : State) (n : Nat) : Bool := flag s (fFED_FSC_CTL_EN n) && (getFsc s n).holds.isEmpty

/-- A channel in OFF turns on where it may (R423). -/
def fscRest (n : Nat) (s : State) : State := fscGo n (if fscMayOn s n then 1 else 0) s

/-- A shorted pass FET is recognised (R431). -/
def fetShorted (n : Nat) (s : State) : State :=
  raise (48 + n) (setF (fFED_FSC_STAT_LAST n) 4 (fscGo n 9 s))

/-- I_lim as the sense voltage it makes, in µV (R422). -/
def fscLimit (s : State) (n : Nat) : Nat := 250 * getF s (fFED_FSC_LIM_ILIM n)

/-- A limit folded back to at least a quarter of it while the output rises (R416, R422). -/
def foldBack (lim vin vout : Nat) : Nat := max (lim / 4) (min lim (lim * vout / vin))

/-- The limit in force before a channel is ON (R422). -/
def fscFold (s : State) (n : Nat) (m : Sensed) : Nat := foldBack (fscLimit s n) m.vin m.vout

/-- The gate of a channel's pass FET. -/
inductive FscGate where
  | low
  /-- the FET's current is held, at a sense voltage in µV -/
  | held (uv : Nat)
  | enhanced
deriving DecidableEq, Repr

/-- What a channel drives its gate to (Table 4): in RAMP it holds the current at RAMP ÷ 8 of I_lim, or at the fold-back limit
where that is lower (R423 step 3). -/
def fscGate (s : State) (n : Nat) (m : Sensed) : FscGate :=
  match fscState s n with
  | 3 => .held (min (fscLimit s n * max 1 (getF s (fFED_FSC_TMR_RAMP n)) / 8) (fscFold s n m))
  | 4 => .enhanced
  | _ => .low

/-- A channel's pre-charge switch is closed, the 2 ms of a probe apart (Table 4, R429). -/
def fscPrecharges (s : State) (n : Nat) : Bool := fscState s n == 2

/-- FSC_CHECK_END (R423 step 1): V_out below 30 % of V_in, or 100 ms without that. -/
def execFscCheckEnd (n : Nat) (m : Sensed) (s : State) : Host.Outcome State Fault Refusal :=
  unit (n < 16) (when (fscState s n == 1) (fun s =>
    if 10 * m.vout < 3 * m.vin then fscGo n 2 s
    else if (getFsc s n).since + 100000000 ≤ s.clk then fetShorted n s else s) s)

/-- FSC_RAMP_START (R423 step 2): V_out passes 50 % of V_in. -/
def execFscRampStart (n : Nat) (m : Sensed) (s : State) : Host.Outcome State Fault Refusal :=
  unit (n < 16) (when (fscState s n == 2 && m.vin < 2 * m.vout) (fscGo n 3) s)

/-- FSC_ON (R423 step 4): V_out within 2 % of V_in, the gate fully enhanced. -/
def execFscOn (n : Nat) (m : Sensed) (enhanced : Bool) (s : State) : Host.Outcome State Fault Refusal :=
  unit (n < 16) (when (fscState s n == 3 && 49 * m.vin ≤ 50 * m.vout && 50 * m.vout ≤ 51 * m.vin && enhanced) (fscGo n 4) s)

/-- The code of a trip cause in LAST. -/
def tripCode : FscTrip → Nat
  | .shortDuringRamp => 1
  | .overcurrent => 2
  | .fastTrip => 3

/-- A trip counts and leads to RETRY or LATCHED (R426). -/
def tripChannel (n code : Nat) (s : State) : State :=
  let t := min 15 (getF s (fFED_FSC_STAT_TRIPS n) + 1)
  let s := setF (fFED_FSC_STAT_LAST n) code (setF (fFED_FSC_STAT_TRIPS n) t s)
  let s := raise (16 + n) (wrapF (fFED_FSC_CNT_TRIPS_TOTAL n) s)
  let l := getF s (fFED_FSC_RETRY_LATCH_N n)
  if l != 0 && t == l then raise (32 + n) (fscGo n 6 s)
  else
    let s := fscGo n 5 s
    setFsc n { getFsc s n with retryAt := s.clk + 100000000 * max 1 (getF s (fFED_FSC_RETRY_RETRY_T n)) } s

/-- A current has stayed where it is for longer than SOA. -/
def pastSoa (s : State) (n held : Nat) : Bool := 10000 * getF s (fFED_FSC_TMR_SOA n) < held

/-- The pre-charge window of a channel has run out since it entered its state (R424). -/
def preWindowOut (s : State) (n : Nat) : Bool :=
  (getFsc s n).since + 1000000 * max 1 (getF s (fFED_FSC_TMR_PRE_T n)) ≤ s.clk

/-- The condition of a trip cause holds; `held` is for how long, in ns, the current has stood at the limit (R422, R424,
R425). -/
def tripHolds (s : State) (n : Nat) (cause : FscTrip) (m : Sensed) (held : Nat) : Bool :=
  match cause with
  | .shortDuringRamp =>
    (fscState s n == 2 && preWindowOut s n && 2 * m.vout ≤ m.vin) ||
    (fscState s n == 3 && (preWindowOut s n || (fscFold s n m ≤ m.sense && pastSoa s n held)))
  | .overcurrent => fscState s n == 4 && fscLimit s n ≤ m.sense && (pastSoa s n held || 2 * m.vout < m.vin)
  | .fastTrip => (fscState s n == 2 || fscState s n == 3 || fscState s n == 4) && 3 * fscLimit s n ≤ m.sense

/-- FSC_TRIP (R422, R424, R425, R426): a short during PRECHARGE or RAMP, an overcurrent in ON, a fast trip in any of them. -/
def execFscTrip (n : Nat) (cause : FscTrip) (m : Sensed) (held : Nat) (s : State) : Host.Outcome State Fault Refusal :=
  unit (n < 16) (when (tripHolds s n cause m held) (tripChannel n (tripCode cause)) s)

/-- FSC_RETRY_EXPIRY (R426): a held channel enters OFF in place of CHECK (R432). -/
def execFscRetryExpiry (n : Nat) (s : State) : Host.Outcome State Fault Refusal :=
  unit (n < 16) (when (fscState s n == 5 && (getFsc s n).retryAt ≤ s.clk) (fscRest n) s)

/-- FSC_CLEAR_TIMER (R427). -/
def execFscClearTimer (n : Nat) (s : State) : Host.Outcome State Fault Refusal :=
  unit (n < 16) (when (fscState s n == 4 &&
      (getFsc s n).since + 1000000000 * max 1 (getF s (fFED_FSC_RETRY_CLEAR_T n)) ≤ s.clk)
    (setF (fFED_FSC_STAT_TRIPS n) 0) s)

/-- Removal of the field board (R428). A trip less than 1 ms old is taken off TRIPS again; an absence seen in DEBOUNCE runs
on from the first removal (R430). -/
def removeBoard (n : Nat) (s : State) : State :=
  let x := getFsc s n
  let st := fscState s n
  let last := getF s (fFED_FSC_STAT_LAST n)
  let undo := (st == 5 || st == 6) && 1 ≤ last && last ≤ 3 && s.clk < x.since + 1000000
  let s := if undo then setF (fFED_FSC_STAT_TRIPS n) (getF s (fFED_FSC_STAT_TRIPS n) - 1) s else s
  if st = 8 then setF (fFED_FSC_STAT_PRESENT n) 0 (fscGo n 7 s)
  else
    let s := setF (fFED_FSC_STAT_PRESENT n) 0 (setF (fFED_FSC_STAT_LAST n) 5 (wrapF (fFED_FSC_CNT_REMOVALS n) s))
    let s := fscGo n 7 s
    setFsc n { getFsc s n with absentAt := some s.clk } s

/-- A current counts as 1 % of I_lim or above: its threshold lies between 0.5 % and 1.0 % (R428). -/
def someCurrent (s : State) (n sense : Nat) : Bool :=
  if fscLimit s n ≤ 100 * sense then true else if 200 * sense < fscLimit s n then false else Config.smallCurrent n sense

/-- A test shows a board: V_out at 2 V or above, or some current (R428, R430). -/
def showsBoard (s : State) (n : Nat) (m : Sensed) : Bool := 2000 ≤ m.vout || someCurrent s n m.sense

/-- Removal is recognised: PRES_N high while PRES_EN is 1, or, in PRECHARGE, RAMP or ON, 1 ms without voltage and current
(R428). -/
def removalShows (s : State) (n : Nat) (pin : Bool) (m : Sensed) (held : Nat) : Bool :=
  if pin then flag s (fFED_FSC_CTL_PRES_EN n) && fscState s n != 7 && fscState s n != 9
  else 2 ≤ fscState s n && fscState s n ≤ 4 && !showsBoard s n m && 1000000 ≤ held

/-- FSC_REMOVAL (R428), by PRES_N (`pin`) or by voltage and current; a probe's removal is FSC_PROBE's. -/
def execFscRemoval (n : Nat) (pin : Bool) (m : Sensed) (held : Nat) (s : State) : Host.Outcome State Fault Refusal :=
  unit (n < 16) (when (removalShows s n pin m held) (removeBoard n) s)

/-- A sign of reinsertion (R430). -/
def boardSeen (n : Nat) (s : State) : State := setF (fFED_FSC_STAT_PRESENT n) 1 (fscGo n 8 s)

/-- FSC_REINSERTION (R430): PRES_N goes low while PRES_EN is 1; a probe's sign is FSC_PROBE's. -/
def execFscReinsertion (n : Nat) (s : State) : Host.Outcome State Fault Refusal :=
  unit (n < 16) (when (fscState s n == 7 && flag s (fFED_FSC_CTL_PRES_EN n)) (boardSeen n) s)

/-- When the next probe of a channel ends: every 100 ms, in DEBOUNCE every 10 ms, the first one 2 ms after it begins (R429,
Table 7). -/
def probeDue (s : State) (n : Nat) : Nat :=
  let x := getFsc s n
  let period := if fscState s n = 8 then 10000000 else 100000000
  if x.since ≤ x.probed then x.probed + period else x.since + period + 2000000

/-- FSC_PROBE (R429, R430): the end of a probe, made in RETRY, ABSENT and DEBOUNCE while PRES_EN is 0. -/
def execFscProbe (n : Nat) (m : Sensed) (s : State) : Host.Outcome State Fault Refusal :=
  let st := fscState s n
  let here := (st == 5 || st == 7 || st == 8) && !flag s (fFED_FSC_CTL_PRES_EN n) && probeDue s n ≤ s.clk
  unit (n < 16) (when here (fun s =>
    let present := showsBoard s n m
    let s := setFsc n { getFsc s n with probed := s.clk } s
    if st = 7 then (if present then boardSeen n s else s)
    else if present then setF (fFED_FSC_STAT_PRESENT n) 1 s else removeBoard n s) s)

/-- FSC_DEBOUNCE_END (R427, R430). -/
def execFscDebounceEnd (n : Nat) (s : State) : Host.Outcome State Fault Refusal :=
  let x := getFsc s n
  unit (n < 16) (when (fscState s n == 8 && x.since + 100000000 ≤ s.clk) (fun s =>
    let long := match x.absentAt with
      | some t => decide (t + 2000000000 ≤ x.since)
      | none => false
    let s := if long then setF (fFED_FSC_STAT_TRIPS n) 0 s else s
    fscRest n (setFsc n { getFsc s n with absentAt := none } s)) s)

/-- The current with the gate low is above 5 % of I_lim (R431). -/
def offCurrent (s : State) (n : Nat) (m : Sensed) : Bool := fscLimit s n < 20 * m.sense

/-- The output stands at 30 % of V_in or above (R431). -/
def offVoltage (m : Sensed) : Bool := 3 * m.vin ≤ 10 * m.vout

/-- FSC_FET_SHORT (R431): found in OFF, RETRY or LATCHED, after 1 ms of current, or 100 ms of voltage that run from the last
probe or turn-off. -/
def execFscFetShort (n : Nat) (m : Sensed) (held : Nat) (s : State) : Host.Outcome State Fault Refusal :=
  let from_ := max (getFsc s n).since (getFsc s n).probed
  let found := (offCurrent s n m && 1000000 ≤ held) ||
    (offVoltage m && 100000000 ≤ held && from_ + 100000000 ≤ s.clk)
  unit (n < 16) (when ((fscState s n == 0 || fscState s n == 5 || fscState s n == 6) && found) (fetShorted n) s)

/-- A write of EN (R423, R432). -/
def fscEnable (n : Nat) (en : Bool) (s : State) : State :=
  let s := setF (fFED_FSC_CTL_EN n) (bit en) s
  let st := fscState s n
  if en then (if st = 0 then fscRest n s else s)
  else if st = 6 ∨ st = 9 ∨ st = 0 then s
  else fscGo n 0 s

/-- FSC_EN_WRITE (R432). -/
def execFscEnWrite (by_ : Writer) (n : Nat) (en : Bool) (s : State) : Host.Outcome State Fault Refusal :=
  unit (n < 16) (guardWrite by_ (oFED_FSC_CTL n) (fscEnable n en) s)

/-- UNLATCH = 1 (R432): LATCHED, or FET_SHORTED where no off-state test holds. -/
def unlatch (n : Nat) (testHolds : Bool) (s : State) : State :=
  let st := fscState s n
  if st = 6 ∨ (st = 9 ∧ testHolds = false) then fscRest n (setF (fFED_FSC_STAT_TRIPS n) 0 s) else s

/-- FSC_UNLATCH (R432). -/
def execFscUnlatch (by_ : Writer) (n : Nat) (m : Sensed) (s : State) : Host.Outcome State Fault Refusal :=
  unit (n < 16) (guardWrite by_ (oFED_FSC_CTL n) (unlatch n (offCurrent s n m || offVoltage m)) s)

/-- The code of a hold in HELD. -/
def holdCode : FscHold → Nat
  | .feedWarn => 1
  | .powerState => 2
  | .vinLow => 3

/-- The holds of a channel; HELD shows the lowest-numbered one. -/
def setHolds (n : Nat) (l : List Nat) (s : State) : State :=
  setF (fFED_FSC_STAT_HELD n) (l.headD 0) (setFsc n { getFsc s n with holds := l } s)

/-- A hold begins (R432). -/
def holdOn (n code : Nat) (s : State) : State :=
  let s := setHolds n (insSet code (getFsc s n).holds) s
  let st := fscState s n
  if 1 ≤ st ∧ st ≤ 4 then fscGo n 0 s else s

/-- A hold ends; when the last one does, a channel in OFF with EN = 1 enters CHECK (R432). -/
def holdOff (n code : Nat) (s : State) : State :=
  if (getFsc s n).holds.contains code then
    let s := setHolds n (delSet code (getFsc s n).holds) s
    if fscState s n = 0 then fscRest n s else s
  else s

/-- A hold's cause begins: FEED_WARN where SHED is 1, a power state, or V_in below 8.0 V (R432, R433). -/
def holdBegins (s : State) (n vin : Nat) (c : FscHold) : Bool :=
  match c with
  | .feedWarn => s.fed.shedding && flag s (fFED_FSC_CTL_SHED n)
  | .powerState =>
    let st := getF s fPWR_STATUS_STATE
    st == 3 || (st != 0 && flag s (fFED_FSC_CTL_SLEEP_OFF n))
  | .vinLow => vin < 8000

/-- A hold's cause has ended: FEED_WARN or SHED, the return to AWAKE, or V_in above 9.0 V (R432, R433). -/
def holdEnds (s : State) (n vin : Nat) (c : FscHold) : Bool :=
  match c with
  | .feedWarn => !(s.fed.shedding && flag s (fFED_FSC_CTL_SHED n))
  | .powerState => getF s fPWR_STATUS_STATE == 0
  | .vinLow => 9000 < vin

/-- FSC_HOLD_BEGIN (R420, R432, R433). -/
def execFscHoldBegin (n : Nat) (c : FscHold) (vin : Nat) (s : State) : Host.Outcome State Fault Refusal :=
  unit (n < 16) (when (holdBegins s n vin c) (holdOn n (holdCode c)) s)

/-- FSC_HOLD_END (R432, R433). -/
def execFscHoldEnd (n : Nat) (c : FscHold) (vin : Nat) (s : State) : Host.Outcome State Fault Refusal :=
  unit (n < 16) (when (holdEnds s n vin c) (holdOff n (holdCode c)) s)

/-! ### Feeds, FEED_WARN_N and the node hot-swap (R413 to R420) -/

def feedOnFld (x : Nat) : Fld := if x = 0 then fFED_STATUS_A_ON else fFED_STATUS_B_ON
def feedLossFld (x : Nat) : Fld := if x = 0 then fFED_CNT_A_LOSS else fFED_CNT_B_LOSS

/-- The conditions of FEED_WARN_N's release that the state shows: the node ON and a feed GOOD; since when they hold. -/
def noteWarn (s : State) : State :=
  let ok := getF s fFED_STATUS_NODE == 3 && (feedGood s 0 || feedGood s 1)
  if ok then (if s.fed.warnClear.isNone then setFed { s.fed with warnClear := some s.clk } s else s)
  else setFed { s.fed with warnClear := none } s

/-- FEED_WARN_N goes low after the node was ON (R420). -/
def warnLow (s : State) : State :=
  if flag s fFED_STATUS_WARN then s
  else
    let s := setFed { s.fed with warnClear := none, shedding := true } (setF fFED_STATUS_WARN 1 s)
    let s := (List.range 16).foldl (fun t n => if flag t (fFED_FSC_CTL_SHED n) then holdOn n 1 t else t) s
    raise 14 (wrapF fFED_CNT_WARNS s)

/-- The node hot-swap enters a phase. -/
def nodeGo (st : Nat) (s : State) : State := setFed { s.fed with nodeSince := s.clk } (setF fFED_STATUS_NODE st s)

/-- The node starts from OFF once a feed is GOOD (R416). -/
def nodeStart (s : State) : State :=
  if getF s fFED_STATUS_NODE = 0 && (feedGood s 0 || feedGood s 1) then nodeGo 1 s else s

/-- A feed leaves GOOD for another state (R414). -/
def feedLost (x : Nat) (high : Bool) (s : State) : State :=
  let s := wrapF (feedLossFld x) (setF (feedOnFld x) 0 (raise (if high then 10 + x else 8 + x) s))
  let s := if feedGood s (1 - x) then setF (feedOnFld (1 - x)) 1 s
    else if getF s fFED_STATUS_NODE = 3 then warnLow s else s
  noteWarn s

/-- A feed's new state, from its present one (R413, Table 2). -/
def moveFeed (x : Nat) (st : FeedTo) (s : State) : State :=
  let old := getF s (feedFld x)
  match st with
  | .qualifying =>
    if old = 3 then s
    else
      let long := if old = 2 then (getFeed s x).long else old != 1
      setFeed x { getFeed s x with qualSince := s.clk, long := long, band := false } (setF (feedFld x) 2 s)
  | .absent =>
    let s := setF (feedFld x) 0 s
    if old = 3 then feedLost x false s else s
  | .under =>
    let s := setF (feedFld x) 1 s
    if old = 3 then feedLost x false s else s
  | .over =>
    let s := setF (feedFld x) 4 s
    if old = 3 then feedLost x true s else s

/-- A FET's fault ends. -/
def fetOver (x : Nat) (s : State) : State := causeOff (12 + x) (setFeed x { getFeed s x with fet := 0 } s)

/-- FET faults end whose feeds no longer stand as they require. -/
def fetCheck (s : State) : State :=
  [0, 1].foldl (fun t x => if (getFeed t x).fet != 0 && !fetStands t x then fetOver x t else t) s

/-- Where FEEDx_IN, in mV, moves a feed from its state (Table 2); `held` is for how long, in ns, it has stood below 9.0 V,
below 16.5 V or above 63.0 V. -/
def feedTarget (old v held : Nat) : Option FeedTo :=
  if v < 9000 then (if 10000 ≤ held && old != 0 then some .absent else none)
  else if 63000 < v then (if 1000 ≤ held && old != 4 then some .over else none)
  else if 61500 < v then none
  else if 17500 ≤ v then (if old = 2 ∨ old = 3 then none else some .qualifying)
  else if old = 1 then none
  else if old = 3 then (if v < 16500 && 10000 ≤ held then some .under else none)
  else some .under

/-- A QUALIFYING feed between 61.5 V and 63.0 V waits; its time starts again from 0 when it returns (R413). -/
def feedBand (x v : Nat) (s : State) : State :=
  if getF s (feedFld x) = 2 ∧ 61500 < v then setFeed x { getFeed s x with band := true } s
  else if getF s (feedFld x) = 2 ∧ (getFeed s x).band then
    setFeed x { getFeed s x with band := false, qualSince := s.clk } s
  else s

/-- FEED_STATE_CHANGE (R413, R414): FEEDx_IN stands at `v` mV, and has for `held` ns. -/
def execFeedStateChange (x v held : Nat) (s : State) : Host.Outcome State Fault Refusal :=
  unit (x < 2) (match feedTarget (getF s (feedFld x)) v held with
    | some st => fetCheck (moveFeed x st s)
    | none => feedBand x v s)

/-- FEED_QUALIFIED (R413, R414, R416, R418): `vfeed` and `vnode` are the feed and VNODE in mV. A node that leaves ON for a
phase that VNODE calls for has FEED_WARN_N low (R419, R420). -/
def execFeedQualified (x vfeed vnode : Nat) (s : State) : Host.Outcome State Fault Refusal :=
  let f := getFeed s x
  let done := getF s (feedFld x) == 2 && !f.band && f.qualSince + (if f.long then 100000000 else 1000000) ≤ s.clk
  unit (x < 2) (when done (fun s =>
    let s := setF (feedOnFld x) 1 (setF (feedFld x) 3 s)
    let s := if getF s fFED_STATUS_NODE = 3 && 100 * vnode < 95 * vfeed then
      warnLow (nodeGo (if 2 * vnode < vfeed then 1 else 2) s) else nodeStart s
    fetCheck (noteWarn s)) s)

/-- ORING_REVERSE (R414): the common bus more than 15 mV above FEEDx_IN turns the FET off; the FET of a GOOD feed conducts
again once it does not. -/
def execOringReverse (x vin bus : Nat) (s : State) : Host.Outcome State Fault Refusal :=
  unit (x < 2) (when (feedGood s x) (setF (feedOnFld x) (bit (bus ≤ vin + 15))) s)

/-- A FET's fault begins: it persists until its condition ends. -/
def fetFault (x : Nat) (shorted : Bool) (s : State) : State :=
  causeOn (12 + x) (setF (if x = 0 then fFED_STATUS_A_FET_FLT else fFED_STATUS_B_FET_FLT) 1
    (setFeed x { getFeed s x with fet := if shorted then 2 else 1 } s))

/-- The FET of feed x looks open: GOOD, more than 0.5 V above the other feed, and more than 0.5 V above the common bus; all
in mV (R415). -/
def fetOpen (s : State) (x vx vother bus : Nat) : Bool := feedGood s x && vother + 500 < vx && bus + 500 < vx

/-- The FET of feed x looks shorted: not GOOD beside a GOOD one, and within 0.5 V of the common bus (R415). -/
def fetShort (s : State) (x vx bus : Nat) : Bool :=
  !feedGood s x && feedGood s (1 - x) && vx ≤ bus + 500 && bus ≤ vx + 500

/-- ORING_FET_FAULT (R415): the two feeds and the common bus in mV, and for how long, in ns, the condition has held. A fault
is over once neither condition holds. -/
def execOringFetFault (x vx vother bus held : Nat) (s : State) : Host.Outcome State Fault Refusal :=
  unit (x < 2) (
    if fetOpen s x vx vother bus then when (1000000 ≤ held) (fetFault x false) s
    else if fetShort s x vx bus then when (10000000 ≤ held) (fetFault x true) s
    else when ((getFeed s x).fet != 0) (fetOver x) s)

/-- NODE_PHASE_CHANGE (R416): VNODE passes 50 % of the highest GOOD feed, or lies within 1 V of it with the gate fully
enhanced; both in mV. FEED_WARN_N, low while the node is not ON, waits for its release (R419). -/
def execNodePhaseChange (vfeed vnode : Nat) (enhanced : Bool) (s : State) : Host.Outcome State Fault Refusal :=
  .next (match getF s fFED_STATUS_NODE with
    | 1 => when (vfeed < 2 * vnode) (nodeGo 2) s
    | 2 => when (vfeed ≤ vnode + 1000 && vnode ≤ vfeed + 1000 && enhanced)
        (fun s => noteWarn (setF fFED_STATUS_WARN 1 (setF fFED_STATUS_PG 1 (nodeGo 3 s)))) s
    | _ => s)

/-- The node limit in force, as the node sense voltage in µV: folded back until the node is ON (Table 3). -/
def nodeLimit (s : State) (vfeed vnode : Nat) : Nat :=
  if getF s fFED_STATUS_NODE = 3 then 50000 else foldBack 50000 vfeed vnode

/-- A node trip's condition: a window runs out, the current has stayed at the limit for more than 5 ms, or the fast trip
(R417, Table 3). -/
def nodeTrips (s : State) (vfeed vnode sense held : Nat) : Bool :=
  let st := getF s fFED_STATUS_NODE
  let window := (st == 1 && 2 * vnode ≤ vfeed || st == 2) && s.fed.nodeSince + 1000000000 ≤ s.clk
  1 ≤ st && st ≤ 3 && (window || (nodeLimit s vfeed vnode ≤ sense && 5000000 < held) || 150000 ≤ sense)

/-- A node trip that AON has recorded raises source 15 when the steward next runs (R417). -/
def raiseTrip (s : State) : State :=
  if s.fed.tripOwed && stwRuns s then raise 15 (setFed { s.fed with tripOwed := false } s) else s

/-- NODE_TRIP (R417): the highest GOOD feed and VNODE in mV, the node sense voltage in µV, and for how long it has stood at
the limit in ns. -/
def execNodeTrip (vfeed vnode sense held : Nat) (s : State) : Host.Outcome State Fault Refusal :=
  let st := getF s fFED_STATUS_NODE
  .next (when (nodeTrips s vfeed vnode sense held) (fun s =>
    let s := setF fFED_STATUS_PG 0 (nodeGo 4 s)
    let s := setFed { s.fed with retryAt := some (s.clk + 10000000000), tripOwed := true } s
    let s := if st = 3 then warnLow s else s
    noteWarn (raiseTrip s)) s)

/-- NODE_RETRY (R417). -/
def execNodeRetry (s : State) : Host.Outcome State Fault Refusal :=
  .next (match s.fed.retryAt with
  | some t =>
    when (getF s fFED_STATUS_NODE == 4 && t ≤ s.clk)
      (fun s => nodeStart (nodeGo 0 (setFed { s.fed with retryAt := none } s))) s
  | none => s)

/-- WARN_V in mV. -/
def warnLevel (s : State) : Nat := 250 * getF s fFED_CTL_WARN_V

/-- FEED_WARN_ASSERT (R419, R420): FEED_WARN_N goes low, the node being ON: no feed is GOOD, or VNODE has stayed below WARN_V
for 5 µs. -/
def execFeedWarnAssert (vnode held : Nat) (s : State) : Host.Outcome State Fault Refusal :=
  let low := (!feedGood s 0 && !feedGood s 1) || (vnode < warnLevel s && 5000 ≤ held)
  .next (when (getF s fFED_STATUS_NODE == 3 && low) warnLow s)

/-- FEED_WARN_RELEASE (R419): VNODE has stood at `vnode` mV or above for `held` ns. -/
def execFeedWarnRelease (vnode held : Nat) (s : State) : Host.Outcome State Fault Refusal :=
  .next (match s.fed.warnClear with
  | some t =>
    when (flag s fFED_STATUS_WARN && t + 10000000 ≤ s.clk && warnLevel s + 1000 ≤ vnode && 10000000 ≤ held)
      (fun s => (List.range 16).foldl (fun t n => holdOff n 1 t)
        (setFed { s.fed with shedding := false } (setF fFED_STATUS_WARN 0 s))) s
  | none => s)

/-- A write of FED_FSCn_RETRY (R437): a RETRY_T above 600 is ignored with CFG_REJECT. -/
def retryWrite (n : Nat) (v : Word) (s : State) : State :=
  let mask := if 600 < bitsOf v.toNat 0 10 then 0xFFC00 else 0xFFFFF
  let s := writeBits (oFED_FSC_RETRY n) mask v.toNat s
  if mask = 0xFFC00 then setF (fFED_FSC_STAT_CFG_REJECT n) 1 s else s

/-- A write of FED_CTL (R437): WARN_V from 40 to 240. -/
def warnVWrite (v : Word) (s : State) : State :=
  let w := bitsOf v.toNat 0 8
  if 40 ≤ w ∧ w ≤ 240 then setF fFED_CTL_WARN_V w s else setF fFED_STATUS_CFG_REJECT 1 s

/-- A write of FED_FSCn_CTL: EN, the Halted PRES_EN, SHED, SLEEP_OFF and UNLATCH, in that order. Whether an off-state test
of R431 holds at an UNLATCH of a shorted channel is a free value (log 3). -/
def fscCtlWrite (n : Nat) (v : Word) (s : State) : State :=
  let b := fun i => bitsOf v.toNat i 1
  let s := if haltedRuns s (oFED_FSC_CTL n) then setF (fFED_FSC_STAT_CFG_REJECT n) 1 s
    else setF (fFED_FSC_CTL_PRES_EN n) (b 1) s
  let s := setF (fFED_FSC_CTL_SHED n) (b 2) (setF (fFED_FSC_CTL_SLEEP_OFF n) (b 3) s)
  let s := if !s.fed.shedding then s else if b 2 = 1 then holdOn n 1 s else holdOff n 1 s
  let s := if b 0 = getF s (fFED_FSC_CTL_EN n) then s else fscEnable n (b 0 == 1) s
  if b 4 = 1 then unlatch n (freeVal s 2 == 1) (drawn s) else s

end Sys2Proof.Machine
end

