-- ==== Sys2Proof/Machine/Media.lean ====
section
/-! DEFINITION. Ring ports, training, keep-alive, optical modules, cable health and the bypass (06, R184 to R218; R257,
R258, R235, R460). Ports are numbered AE 0, AW 1, BE 2, BW 3; ring pairs 0 and 1. -/

namespace Sys2Proof.Machine

/-! ### Ports -/

def portState (s : State) (p : Nat) : Nat := getF s (fRGx_PHY_STAT_STATE p)

/-- STATE of a port replaced; RTM_STATUS.KEEPALIVE follows the ports (R268). -/
def setPortState (p v : Nat) (s : State) : State :=
  let s := setF (fRGx_PHY_STAT_STATE p) v s
  setF fRTM_STATUS_KEEPALIVE (bit ([0, 1, 2, 3].any (fun p => portState s p == 4))) s

def downCause (p v : Nat) (s : State) : State := setF (fRGx_PHY_STAT_DOWN_CAUSE p) v s
def isCopper (s : State) (p : Nat) : Bool := getF s (fRGx_PHY_CTL_MEDIUM p) == 2
def isOptical (s : State) (p : Nat) : Bool := getF s (fRGx_PHY_CTL_MEDIUM p) == 1

/-- Fault source 64 + 8p + k (R218). -/
def mediaSource (p k : Nat) : Nat := 64 + 8 * p + k

/-- The other port of a pair. -/
def pairMate (p : Nat) : Nat := if p % 2 = 0 then p + 1 else p - 1

/-- A pair is in line (Table 17). -/
def pairInLine (s : State) (x : Nat) : Bool := getF s (fRGx_BYP_STAT_STATE x) == 3

/-- A port may train and run: enabled, with a medium, in a domain that is on, and REFCLK there (R532). -/
def portReady (s : State) (p : Nat) : Bool :=
  portEn s p && (isCopper s p || isOptical s p) && domOn s (1 + p / 2) && s.boot.refclk

/-- A port signals: enabled, with a medium, and either its domain is on or the hub is CELLARED, where its keep-alive
transceiver runs in AON (R184, R438). -/
def portAlive (s : State) (p : Nat) : Bool :=
  portEn s p && (isCopper s p || isOptical s p) && (domOn s (1 + p / 2) || getF s fPWR_STATUS_STATE == 2)

/-- A port is silent on the far end's QUIET (R208). -/
def silent (s : State) (p : Nat) : Bool := (getPort s p).quietUntil.isSome

/-- The conditions of R204 for an insulation measurement. -/
def irAllowed (s : State) (p : Nat) : Bool :=
  isCopper s p && pairInLine s (p / 2) && decide (getF s fPWR_STATUS_STATE ≤ 1)

/-- How long the try in progress has run; none while none runs (R202). -/
def irElapsed (s : State) (p : Nat) : Option Nat :=
  let x := getPort s p
  if flag s (fRGx_IR_STAT_RUNNING p) && x.irRetry.isNone && irAllowed s p then some (s.clk - x.irSince) else none

/-- What xx_IRT drives (R202): 40 V from the guard's 10 ms on for 300 ms, 0 V for 50 ms, and high impedance otherwise. -/
inductive Irt where
  | highZ | volts40 | volts0
deriving DecidableEq, Repr

def irtDrive (s : State) (p : Nat) : Irt :=
  match irElapsed s p with
  | some d => if d < 10000000 then .highZ else if d < 310000000 then .volts40 else if d < 360000000 then .volts0 else .highZ
  | none => .highZ

/-- IR_BUSY: steps 2 to 5 of R202. -/
def irBusy (s : State) (p : Nat) : Bool := irtDrive s p != .highZ

/-- RATES of a port: the copper rates within RATE_MAX, 0 on optical (R190, Table 4). -/
def ownRates (s : State) (p : Nat) : Nat :=
  let mx := getF s (fRGx_PHY_CTL_RATE_MAX p)
  if isOptical s p then 0 else if mx = 0 then 7 else if mx = 1 then 6 else 4

/-- The information field that a port sends (R190, Table 4). -/
def infoField (s : State) (p : Nat) : BitVec 48 :=
  let x := getPort s p
  let node := if numbered s then nodeId s else 0xFFF
  BitVec.ofNat 48 (1 + p % 2 * 2 ^ 4 + ownRates s p * 2 ^ 5 + getF s (fRGx_PHY_CTL_RATE_MAX p) % 4 * 2 ^ 8 +
    2 ^ 10 * bit (x.tdrPhase != 0) + 2 ^ 11 * bit x.shiftSent + 2 ^ 12 * bit x.coeffs + 2 ^ 13 * bit (irBusy s p) +
    2 ^ 14 * bit (x.tdrPhase != 0) + 2 ^ 15 * node + 2 ^ 27 * (if numbered s then ringId s else 0) +
    2 ^ 33 * bit (numbered s))

/-- An information field leaves on a port. -/
def sendInfo (p : Nat) (s : State) : State := emit (.info p (infoField s p)) s

/-- Every 1 ms a port sends its field: in a link control block while the link is up, and in its keep-alive signalling
during detection, where it is not silent (R190). -/
def infoDue (s : State) (p : Nat) : Bool := linkUp s p || (portAlive s p && portState s p == 1 && !silent s p)

def sendInfos (s : State) : State :=
  [0, 1, 2, 3].foldl (fun t p => if infoDue t p then sendInfo p t else t) s

/-- Bits of the accepted information field of the far end. -/
def farInfo (s : State) (p lo w : Nat) : Nat :=
  bitsOf ((reg s (oRGx_PHY_INFO_LO p)).toNat + 2 ^ 24 * (reg s (oRGx_PHY_INFO_HI p)).toNat) lo w

/-- The far ROLE equals the port's own (R191 step 2). -/
def sameRole (s : State) (p : Nat) : Bool := farInfo s p 4 1 == p % 2

/-- The rates that lie in both RATES fields (R191 step 3). -/
def commonRates (s : State) (p : Nat) : Nat := ownRates s p &&& farInfo s p 5 3

/-- The highest of them. -/
def bestRate (s : State) (p : Nat) : Nat :=
  let c := commonRates s p
  if c % 2 = 1 then 0 else if c / 2 % 2 = 1 then 1 else 2

/-! ### Links down and up (R257, R258, R235) -/

/-- Pushes that wait for the queues of a port whose link is down no longer wait for them (R257). -/
def dropWaits (p : Nat) (s : State) : State :=
  let mine := fun q => q / 8 == p && q < 32
  let n := (s.swq.waits.filter (fun w => w.qs.any mine)).length
  let ws := (s.swq.waits.map (fun w => { w with qs := w.qs.filter (fun q => !mine q) })).filter (fun w => !w.qs.isEmpty)
  addF (fRGx_RP_FLUSH_FLUSH p) n { s with swq := { s.swq with waits := ws } }

/-- The egress queues of a port are flushed and counted (R257). -/
def flushPort (p : Nat) (s : State) : State :=
  let n := (List.range 8).foldl (fun n i => n + qCount s (8 * p + i)) 0
  dropWaits p (addF (fRGx_RP_FLUSH_FLUSH p) n ((List.range 8).foldl (fun t i => flushQ (8 * p + i) t) s))

/-- Since when both ports of an inserted pair are down (R215). -/
def notePair (p : Nat) (s : State) : State :=
  let x := p / 2
  let b := getByp s x
  if pairInLine s x && !linkUp s p && !linkUp s (pairMate p) then
    (if b.downSince.isNone then setByp x { b with downSince := some s.clk } s else s)
  else setByp x { b with downSince := none } s

/-- A protected port whose link is down waits to be keyed. -/
def unkeyPort (p : Nat) (s : State) : State := if protectedPort s p then setF (fSEC_LP_STAT_STATE p) 1 s else s

/-- What a port holds of a link that has been up ends with it: coefficients, margin and codeword watches (R193, R196). -/
def forgetLink (p : Nat) (s : State) : State :=
  let x := getPort s p
  causeOff (mediaSource p 3) (setPort p { x with coeffs := false, shiftSent := false, lowSince := none, uncSec := 0,
                                                 uncRun := 0 } s)

/-- A port's link goes down with a cause (R194, R257); `lost` says that fault source k = 0 is raised. -/
def takeDown (p cause : Nat) (lost : Bool) (s : State) : State :=
  let s := downCause p cause s
  if linkUp s p then
    let s := wrapF (fRGx_DOWN_CNT_DOWN_CNT p) (setF (fRGx_PHY_STAT_LINK p) 0 s)
    let s := if lost then causeOn (mediaSource p 0) s else s
    notePair p (flushPort p (unkeyPort p (forgetLink p s)))
  else s

/-- The pair of a port trains through its local loop, or settles (R213). -/
def inSelf (s : State) (p : Nat) : Bool :=
  getF s (fRGx_BYP_STAT_STATE (p / 2)) == 1 || getF s (fRGx_BYP_STAT_STATE (p / 2)) == 2

/-- Detection starts, where the port may signal (R191). -/
def startDetect (p : Nat) (s : State) : State :=
  let s := setPort p { getPort s p with retryAt := none, infoOk := false, infoCand := none } s
  setPortState p (if !portAlive s p then 0 else if inSelf s p then 6 else 1) s

/-! ### Link protection at link-up (R508 to R510) -/

/-- The peer entry of a port that is valid and names a node. -/
def peerEntry (s : State) (p node : Nat) : Option Nat :=
  [0, 1, 2, 3].find? (fun e =>
    let w := (reg s (0x4_4400 + 0x100 * p + 0x40 * e)).toNat
    bitsOf w 12 1 == 1 && bitsOf w 0 12 == node)

/-- A sending port starts a new epoch; a block of 4,096 epochs is reserved by the steward before its first is used, and
without a reservation the port does not come up (R510). -/
def newEpoch (p : Nat) (s : State) : State :=
  let e := s.sec.epochNext
  if e % 4096 = 0 && !stwRuns s then raise 609 (setF (fSEC_LP_STAT_STATE p) 4 s)
  else
    let s := { s with sec := { s.sec with
      epochNext := e + 1
      txEpoch := tset (fun _ => 0) p e s.sec.txEpoch
      txCount := tset (fun _ => 0) p 0 s.sec.txCount } }
    setF (fSEC_LP_STAT_STATE p) 2 s

/-- A protected port whose link has come up is keyed with the peer that the far end's information field names, where both
ends are numbered (R508, R509); while a random source test fails no key is derived (R500). The derivation takes no time
here (log 22). -/
def keyPort (p : Nat) (s : State) : State :=
  if !protectedPort s p then setReg (oSEC_LP_STAT p) 0 s
  else if !flag s fSEC_STATUS_TRNG_OK then setReg (oSEC_LP_STAT p) 1 s
  else
    let s := { s with sec := { s.sec with
      rxEpoch := tset (fun _ => none) p none s.sec.rxEpoch
      rxCount := tset (fun _ => none) p none s.sec.rxCount
      rxNew := tset (fun _ => none) p none s.sec.rxNew } }
    let node := farInfo s p 15 12
    match (if numbered s && farInfo s p 33 1 = 1 then peerEntry s p node else none) with
    | none => raise 608 (setReg (oSEC_LP_STAT p) 3 s)
    | some e => newEpoch p (setF (fSEC_LP_STAT_ENTRY p) e (setF (fSEC_LP_STAT_NODE p) node s))

/-- The pair begins to seed its duplicate windows when both of its ports are up for the first time (R235). -/
def seedPair (x : Nat) (s : State) : State :=
  if ringUp s (2 * x) && ringUp s (2 * x + 1) && !tget (fun _ => false) s.ring.seeded x then
    let s := { s with ring := { s.ring with
      seeded := tset (fun _ => false) x true s.ring.seeded
      seedEnd := tset (fun _ => none) x (some (s.clk + 1000000)) s.ring.seedEnd
      dup := s.ring.dup.filter (fun e => e.1 / 32768 != x) } }
    setF (fRGx_RP_STAT_SEEDING x) 1 s
  else s

/-- A link comes up at a rate, with empty egress queues (R258); the training's coefficients are stored (R196). -/
def comeUp (p rate : Nat) (s : State) : State :=
  let s := setPort p { getPort s p with retryAt := none, coeffs := true } s
  let s := downCause p 0 (setF (fRGx_PHY_STAT_RATE p) rate (setPortState p 3 (setF (fRGx_PHY_STAT_LINK p) 1 s)))
  let s := causeOff (mediaSource p 0) (causeOff (mediaSource p 1) (causeOff (mediaSource p 2) s))
  seedPair (p / 2) (keyPort p (notePair p s))

/-! ### Enabling, training (R191 to R194) -/

/-- A change of EN (R191, R194). -/
def writeEn (p : Nat) (en : Bool) (s : State) : State :=
  let was := portEn s p
  let s := setF (fRGx_PHY_CTL_EN p) (bit en) s
  if en && !was then (if portAlive s p then startDetect p (downCause p 0 s) else s)
  else if !en && was then
    let s := if linkUp s p then raise (mediaSource p 0) (takeDown p 1 false s) else takeDown p 1 false s
    causeOff (mediaSource p 0) (setPortState p 0 (setPort p { getPort s p with retryAt := none, quietUntil := none } s))
  else s

/-- The Registrar fences a port: EN := 0, and its link goes down (R465, R467). -/
def fencePort (p : Nat) (s : State) : State := writeEn p false s

/-- PORT_ENABLE (R191, R194). -/
def execPortEnable (by_ : Writer) (p : Nat) (en : Bool) (s : State) : Host.Outcome State Fault Refusal :=
  unit (p < 4) (guardWrite by_ (oRGx_PHY_CTL p) (writeEn p en) s)

/-- RETRAIN = 1: the link goes down, and training starts from detection (R194). -/
def retrainPort (p : Nat) (s : State) : State :=
  if portEn s p then startDetect p (takeDown p 0 true s) else s

/-- RETRAIN (R194). -/
def execRetrain (by_ : Writer) (p : Nat) (s : State) : Host.Outcome State Fault Refusal :=
  unit (p < 4) (guardWrite by_ (oRGx_PHY_CTL p) (retrainPort p) s)

/-- A medium that would give the two ports of a pair different media (R185). -/
def mixedMedia (s : State) (p m : Nat) : Bool :=
  let mate := getF s (fRGx_PHY_CTL_MEDIUM (pairMate p))
  m != 0 && mate != 0 && m != mate

/-- A measurement that the conditions of R204 no longer allow ends without a result, and is due again. -/
def irHalt (p : Nat) (s : State) : State :=
  if flag s (fRGx_IR_STAT_RUNNING p) && !irAllowed s p then
    setF (fRGx_IR_STAT_RUNNING p) 0 (setPort p { getPort s p with irTries := 0, irRetry := none, irPend := true } s)
  else s

/-- A write of RGx_PHY_CTLj (R185, Table 9): one that would give the pair two media is ignored; Halted fields while EN is 0,
no RATE_MIN faster than RATE_MAX. -/
def phyWrite (p : Nat) (v : Word) (s : State) : State :=
  let n := v.toNat
  if !portEn s p && mixedMedia s p (bitsOf n 0 2) then setF (fRGx_PHY_STAT_CFG_REJECT p) 1 s
  else
    let s := setF (fRGx_PHY_CTL_DEG_MARGIN p) (bitsOf n 8 4) s
    let s :=
      if portEn s p then setF (fRGx_PHY_STAT_CFG_REJECT p) 1 s
      else
        let s := irHalt p (setF (fRGx_PHY_CTL_MEDIUM p) (bitsOf n 0 2) s)
        let s := setF (fRGx_PHY_CTL_RATE_MAX p) (bitsOf n 2 2) s
        if bitsOf n 4 2 < bitsOf n 2 2 then setF (fRGx_PHY_STAT_CFG_REJECT p) 1 s
        else setF (fRGx_PHY_CTL_RATE_MIN p) (bitsOf n 4 2) s
    let s := writeEn p (bitsOf n 6 1 == 1) s
    if bitsOf n 7 1 = 1 then retrainPort p s else s

/-- The wiring check fails: DOWN_CAUSE WIRING, and detection again in 1 s (R191 step 2). -/
def wiringStop (p : Nat) (s : State) : State :=
  let s := setPort p { getPort s p with retryAt := some (s.clk + 1000000000) } s
  raise (mediaSource p 1) (downCause p 4 (setPortState p 1 s))

/-- The qualified rate is below RATE_MIN, or none qualifies: DOWN_CAUSE RATE_LOW, and detection again in 10 s (R191 step 7). -/
def rateLow (p : Nat) (s : State) : State :=
  let s := setPort p { getPort s p with retryAt := some (s.clk + 10000000000) } s
  raise (mediaSource p 2) (downCause p 5 (setPortState p 1 s))

/-- A copper port trains or may train: it is ready, not silent, and waits for no retry. -/
def mayTrain (s : State) (p : Nat) : Bool :=
  portReady s p && isCopper s p && !silent s p && (getPort s p).retryAt.isNone

/-- A rate can qualify in the training in progress: both ends have it, and it is not faster than the rate chosen (R191
steps 3 and 6). -/
def mayQualify (s : State) (p rate : Nat) : Bool :=
  decide (rate < 3) && decide ((getPort s p).trainRate ≤ rate) && bitsOf (commonRates s p) rate 1 == 1

/-- A copper link has qualified at a rate: it comes up, or is too slow for RATE_MIN (R191 step 7). -/
def qualify (p rate : Nat) (s : State) : State :=
  if getF s (fRGx_PHY_CTL_RATE_MIN p) < rate then rateLow p s else comeUp p rate s

/-- TRAINING_COMPLETE (R191): how copper training ends: in the wiring check of a port that detects, or in the training at the
rate chosen or a lower one. -/
def execTrainingComplete (p : Nat) (r : TrainEnd) (s : State) : Host.Outcome State Fault Refusal :=
  unit (p < 4) (
    if mayTrain s p then
      match r with
      | .wiring => when (portState s p == 1 && (getPort s p).infoOk && sameRole s p) (wiringStop p) s
      | .noRate => when (portState s p == 2) (rateLow p) s
      | .up rate margin us =>
        when (portState s p == 2 && mayQualify s p rate && decide (30 ≤ margin)) (fun s =>
          let s := setF (fRGx_PHY_MARGIN_MARGIN p) (min margin 255) s
          qualify p rate (setF (fRGx_TRAIN_TIME_TRAIN_TIME p) (min us 0xFFFFFF) s)) s
    else s)

/-- DETECTION_RETRY (R191): not while the port is silent (R208). -/
def execDetectionRetry (p : Nat) (s : State) : Host.Outcome State Fault Refusal :=
  unit (p < 4) (
    match (getPort s p).retryAt with
    | some t => if t ≤ s.clk && portAlive s p && !silent s p then startDetect p s else s
    | none => s)

/-- A port falls silent on QUIET = 1 (R208): a link that is up goes down without a fault source. -/
def goQuiet (p : Nat) (s : State) : State :=
  let s := if linkUp s p then takeDown p 7 false s else s
  let s := setPort p { getPort s p with quietUntil := some (s.clk + 100000000), retryAt := none } s
  if (getPort s p).tdrPhase = 0 then setPortState p 1 s else s

/-- A silence ends, and detection starts (R208). -/
def endQuiet (p : Nat) (s : State) : State := startDetect p (setPort p { getPort s p with quietUntil := none } s)

/-- What an accepted field does (R191, R208): QUIET begins or ends a silence; in the detection of a copper port whose wiring
is right, the rate is chosen and training begins. -/
def infoAccepted (p : Nat) (s : State) : State :=
  if farInfo s p 10 1 = 1 then (if silent s p then s else goQuiet p s)
  else if silent s p then endQuiet p s
  else if mayTrain s p && portState s p == 1 && !sameRole s p then
    setPortState p 2 (setPort p { getPort s p with trainRate := bestRate s p } s)
  else s

/-- INFO_FIELD_RX (R190): a field is accepted after two identical copies. -/
def execInfoFieldRx (p : Nat) (info : BitVec 48) (s : State) : Host.Outcome State Fault Refusal :=
  unit (p < 4) (
    if !portAlive s p then s
    else if (getPort s p).infoCand = some info.toNat then
      let s := setReg (oRGx_PHY_INFO_HI p) (wd (info.toNat / 2 ^ 24)) (setReg (oRGx_PHY_INFO_LO p) (wd info.toNat) s)
      infoAccepted p (setPort p { getPort s p with infoOk := true } s)
    else setPort p { getPort s p with infoCand := some info.toNat } s)

/-- Once no port of a CELLARED hub is up outside keep-alive, the AON datapath has taken over: SWC, RGA and RGB are retained
(R445 steps 4 and 6). -/
def cellarRest (s : State) : State :=
  if getF s fPWR_STATUS_STATE == 2 && !([0, 1, 2, 3].any (fun p => linkUp s p && portState s p == 3)) then
    [1, 2, 3].foldl (fun t i => if domOn t i then setDom i 2 t else t) s
  else s

/-- The uncorrectable codewords in a row that take a copper link down (Table 6). -/
def lossWords (s : State) (p : Nat) : Nat :=
  if portState s p = 4 then 1 else if getF s (fRGx_PHY_STAT_RATE p) = 2 then 2 else 4

/-- LINK_DOWN (R194, R257): loss of signal or of lock on a link that is up. On copper the codewords that lost the lock are
counted. -/
def execLinkDown (p : Nat) (c : DownCause) (s : State) : Host.Outcome State Fault Refusal :=
  unit (p < 4) (
    if linkUp s p then
      let s := if isCopper s p && c == .lockLost then addF (fRGx_CW_UNCORR_CW_UNCORR p) (lossWords s p) s else s
      let s := takeDown p (match c with | .noSignal => 2 | .lockLost => 3) true s
      let s := if isOptical s p then setF (fRGx_MOD_STAT_RX_LOS p) (bit (c == .noSignal)) s else s
      cellarRest (startDetect p s)
    else s)

/-- An optical port may come up: its transmitter is on, it is not silent, and it has accepted a field (R201). -/
def opticalReady (s : State) (p : Nat) : Bool :=
  portReady s p && isOptical s p && !linkUp s p && portState s p == 1 && (getPort s p).retryAt.isNone &&
    !(getPort s p).txDis && !silent s p && (getPort s p).infoOk

/-- LINK_UP (R258): the link of a port whose training is complete comes up with empty egress queues: copper at the rate
chosen, optical after its wiring check. -/
def execLinkUp (p : Nat) (s : State) : Host.Outcome State Fault Refusal :=
  unit (p < 4) (
    if mayTrain s p && portState s p == 2 && mayQualify s p (getPort s p).trainRate then qualify p (getPort s p).trainRate s
    else if opticalReady s p && !sameRole s p then comeUp p 0 s
    else s)

/-- The watches of R193 follow a report of the link: since when the margin is low, and how many seconds in a row have had an
uncorrectable codeword. -/
def watchLink (margin unc : Nat) (s : State) (p : Nat) : Port :=
  let x := getPort s p
  let sec := s.clk / 1000000000
  let low := isCopper s p && decide (margin < 5 * getF s (fRGx_PHY_CTL_DEG_MARGIN p))
  let x := { x with lowSince := if low then some (x.lowSince.getD s.clk) else none }
  if unc = 0 then (if x.uncSec + 1 < sec then { x with uncRun := 0 } else x)
  else if x.uncRun ≠ 0 ∧ x.uncSec = sec then x
  else { x with uncSec := sec, uncRun := if x.uncRun ≠ 0 ∧ x.uncSec + 1 = sec then x.uncRun + 1 else 1 }

/-- The link is degraded (R193). -/
def degraded (s : State) (x : Port) : Bool :=
  decide (3 ≤ x.uncRun) || (match x.lowSince with
    | some t => decide (t + 1000000000 ≤ s.clk)
    | none => false)

/-- LINK_DEGRADED (R193, Table 11): a report of a link that is up, with its present margin in 0.1 dB and the codewords
corrected and uncorrectable since the last one. The degraded source stands while the condition does; the link stays up. -/
def execLinkDegraded (p margin corrected uncorrectable : Nat) (s : State) : Host.Outcome State Fault Refusal :=
  unit (p < 4) (
    if linkUp s p then
      let s := if isCopper s p then setF (fRGx_PHY_MARGIN_MARGIN p) (min margin 255) s else s
      let s := addF (fRGx_CW_UNCORR_CW_UNCORR p) uncorrectable (addF (fRGx_CW_CORR_CW_CORR p) corrected s)
      let x := watchLink margin uncorrectable s p
      causeIs (degraded s x) (mediaSource p 3) (setPort p x s)
    else s)

/-! ### Keep-alive (R195, R196, R460) -/

/-- SHIFT = 1 is sent (R195, R460). -/
def sendShift (p : Nat) (s : State) : State :=
  if (getPort s p).shiftSent then s else sendInfo p (setPort p { getPort s p with shiftSent := true } s)

/-- The change of a port to keep-alive, at the codeword boundary after each end has seen the other's SHIFT (R195). -/
def toKeepalive (p : Nat) (s : State) : State :=
  let s := setPort p { getPort s p with keptRate := getF s (fRGx_PHY_STAT_RATE p) } s
  setF (fRGx_PHY_STAT_RATE p) 3 (setPortState p 4 s)

/-- A port of a hub that enters CELLARED sends SHIFT, and shifts at once where it has seen the far end's (R195). -/
def beginShift (p : Nat) (s : State) : State :=
  if linkUp s p && portState s p == 3 then
    let s := sendShift p s
    if farInfo s p 11 1 = 1 then toKeepalive p s else s
  else s

/-- KEEPALIVE_SHIFT (R195, R460): the codeword boundary at which a port that has seen SHIFT = 1 changes to keep-alive. -/
def execKeepaliveShift (p : Nat) (s : State) : Host.Outcome State Fault Refusal :=
  unit (p < 4) (
    if linkUp s p && portState s p == 3 && farInfo s p 11 1 == 1 then cellarRest (toKeepalive p (sendShift p s)) else s)

/-- KEEPALIVE_EXIT (R196): where both ends hold coefficients and the fast retrain succeeds, the link is back at its former
rate; otherwise the port trains in full, and the link goes down for it. -/
def execKeepaliveExit (p : Nat) (fast : Bool) (s : State) : Host.Outcome State Fault Refusal :=
  unit (p < 4) (
    if linkUp s p && portState s p == 4 && portReady s p then
      let both := (getPort s p).coeffs && farInfo s p 12 1 == 1
      let s := setPort p { getPort s p with shiftSent := false } s
      if fast && both then setF (fRGx_PHY_STAT_RATE p) (getPort s p).keptRate (setPortState p 3 s)
      else startDetect p (takeDown p 0 true s)
    else s)

/-! ### Optical ports (R198 to R201) -/

/-- Nominal signalling rate of a module in MBd (R199). -/
def moduleRate (id : List Nat) : Nat :=
  if id.getD 12 0 = 0xFF then id.getD 66 0 * 250 else id.getD 12 0 * 100

/-- MODULE_INSERTED (R199): `id` holds bytes 0 to 95 of address A0h. -/
def execModuleInserted (p : Nat) (id : List Nat) (s : State) : Host.Outcome State Fault Refusal :=
  unit (p < 4) (
    if !isOptical s p then s
    else
      let s := (List.range 32).foldl (fun t i =>
        setReg (oRGx_MOD_ID p i) (wd (ofLE [id.getD (3 * i) 0 % 256, id.getD (3 * i + 1) 0 % 256, id.getD (3 * i + 2) 0 % 256])) t) s
      let suited := decide (25000 ≤ moduleRate id)
      let s := setF (fRGx_MOD_STAT_DDM p) (id.getD 92 0 / 64) (setF (fRGx_MOD_STAT_PRESENT p) 1 s)
      let s := setF (fRGx_MOD_STAT_TX_FAULT p) 0 s
      let s := setPort p { getPort s p with txDis := !suited } (setF (fRGx_MOD_STAT_SUITED p) (bit suited) s)
      if suited then (if getF s (fRGx_PHY_STAT_DOWN_CAUSE p) = 6 then startDetect p (downCause p 0 s) else s)
      else raise (mediaSource p 4) (downCause p 6 s))

/-- MODULE_FAULT (R201): MODABS or TXFLT goes high. -/
def execModuleFault (p : Nat) (absent : Bool) (s : State) : Host.Outcome State Fault Refusal :=
  unit (p < 4) (
    if !isOptical s p then s
    else
      let was := flag s (fRGx_MOD_STAT_PRESENT p)
      let s := if absent then setF (fRGx_MOD_STAT_SUITED p) 0 (setF (fRGx_MOD_STAT_PRESENT p) 0 s)
        else setF (fRGx_MOD_STAT_TX_FAULT p) 1 s
      let s := takeDown p 6 true (setPort p { getPort s p with txDis := true } s)
      let s := if portState s p = 0 then s else startDetect p s
      if was || !absent then raise (mediaSource p 4) s else s)

/-- DDM_POLL (R200): the ten bytes from 96 on and the alarm flags, or a transaction that failed. -/
def execDdmPoll (p : Nat) (r : Option (List Nat × Nat)) (s : State) : Host.Outcome State Fault Refusal :=
  unit (p < 4) (
    if !(flag s (fRGx_MOD_STAT_PRESENT p) && flag s (fRGx_MOD_STAT_SUITED p) && flag s (fRGx_MOD_STAT_DDM p)) then s
    else
      match r with
      | none => raise (mediaSource p 4) (setF (fRGx_MOD_STAT_I2C_ERR p) 1 s)
      | some (bs, flags) =>
        let s := [0, 1, 2, 3, 4].foldl (fun t i =>
          setF (fRGx_MOD_DDM_DDM p i) (bs.getD (2 * i) 0 % 256 * 256 + bs.getD (2 * i + 1) 0 % 256) t) s
        let s := setF (fRGx_MOD_ALARM_ALARM p) (flags % 65536) s
        if flags % 65536 = 0 then s else raise (mediaSource p 4) s)

/-- OPTICAL_LINK_UP (R201): RXLOS is low and block lock has held for 1 ms; the wiring check of R191 is made on the field
accepted. -/
def execOpticalLinkUp (p : Nat) (s : State) : Host.Outcome State Fault Refusal :=
  unit (p < 4) (
    if opticalReady s p then
      let s := setF (fRGx_MOD_STAT_RX_LOS p) 0 s
      if sameRole s p then wiringStop p s else comeUp p 0 s
    else s)

/-! ### Insulation measurement (R202 to R206) -/

/-- A guard check has failed: another try after a random 1 s to 10 s, and DEFERRED after three (R202). -/
def guardFailed (p : Nat) (s : State) : State :=
  let x := getPort s p
  if 3 ≤ x.irTries + 1 then
    let s := setPort p { x with irTries := 0, irRetry := none } s
    setF (fRGx_IR_RES_DEFERRED p) 1 (setF (fRGx_IR_STAT_RUNNING p) 0 s)
  else
    let w := 1000000000 + freeVal s 9000000001
    drawn (setPort p { x with irTries := x.irTries + 1, irRetry := some (s.clk + w) } s)

/-- A try begins with its guard check: a far end that measures fails it (R202). -/
def irTry (p : Nat) (s : State) : State :=
  let s := setPort p { getPort s p with irRetry := none, irSince := s.clk } s
  if linkUp s p && farInfo s p 13 1 = 1 then guardFailed p s else s

/-- A measurement starts (R202). -/
def irBegin (p : Nat) (s : State) : State :=
  let s := setPort p { getPort s p with irTries := 0, irLast := s.clk, irPend := false } s
  irTry p (setF (fRGx_IR_STAT_RUNNING p) 1 s)

/-- A measurement is due: at once, or as soon as the conditions hold again (R204). -/
def irDueNow (p : Nat) (s : State) : State :=
  if flag s (fRGx_IR_STAT_RUNNING p) then s
  else if irAllowed s p then irBegin p s
  else setPort p { getPort s p with irPend := true } s

/-- IR_START (R204): on a write of START = 1, when PER minutes have passed, or when a deferred one may run. -/
def execIrStart (p : Nat) (written : Bool) (s : State) : Host.Outcome State Fault Refusal :=
  unit (p < 4) (
    let per := getF s (fRGx_IR_CTL_PER p)
    let due := per != 0 && (getPort s p).irLast + 60000000000 * per ≤ s.clk
    if written || due || (getPort s p).irPend then irDueNow p s else s)

/-- IR_GUARD_RETRY (R202): within the 10 ms of a guard check, the check fails on the pair's common-mode voltage; after a
failed check's wait, the next try begins. -/
def execIrGuardRetry (p : Nat) (s : State) : Host.Outcome State Fault Refusal :=
  unit (p < 4) (
    if !flag s (fRGx_IR_STAT_RUNNING p) then s
    else if !irAllowed s p then irHalt p s
    else
      match (getPort s p).irRetry with
      | some t => if t ≤ s.clk then irTry p s else s
      | none => if s.clk < (getPort s p).irSince + 10000000 then guardFailed p s else s)

/-- The highest valid entry of the history (R206). -/
def irHighest (s : State) (p : Nat) : Option Nat :=
  (List.range 24).foldl (fun m h =>
    let v := getF s (fRGx_IR_HIST_MIN p h)
    if v = 0xFFFFFF then m else some (max v (m.getD 0))) none

/-- IR_COMPLETE (R202, R203, R205, R206): the measured resistance in kΩ, 360 ms after the start of the try. -/
def execIrComplete (p kohm : Nat) (s : State) : Host.Outcome State Fault Refusal :=
  unit (p < 4) (
    if !flag s (fRGx_IR_STAT_RUNNING p) then s
    else if !irAllowed s p then irHalt p s
    else if (getPort s p).irRetry.isSome || s.clk < (getPort s p).irSince + 360000000 then s
    else
      let r := if kohm < 100 then 0 else if 1000000 < kohm then 1000000 else kohm
      let trend := decide (r < getF s (fRGx_IR_TREND_TREND p)) &&
        (match irHighest s p with
          | some m => decide (10 * r < m)
          | none => false)
      let alarm := decide (r < getF s (fRGx_IR_ALARM_ALARM p))
      let s := setReg (oRGx_IR_RES p) (wd (r + 2 ^ 20 * bit (decide (kohm < 100)) + 2 ^ 21 * bit (decide (1000000 < kohm)) + 2 ^ 23)) s
      let s := setF (fRGx_IR_STAT_RUNNING p) 0 (setF (fRGx_IR_STAT_ALARM p) (bit alarm) (setF (fRGx_IR_STAT_TREND p) (bit trend) s))
      let x := getPort s p
      let s := setPort p { x with irMin := min x.irMin r, irTries := 0, irRetry := none } s
      causeIs trend (mediaSource p 6) (causeIs alarm (mediaSource p 5) s))

/-- A port's history shifts by one hour (R206). -/
def irShift (p : Nat) (s : State) : State :=
  let s := (List.range 23).reverse.foldl (fun t h => setReg (oRGx_IR_HIST p (h + 1)) (reg t (oRGx_IR_HIST p h)) t) s
  let s := setReg (oRGx_IR_HIST p 0) (wd (getPort s p).irMin) s
  setPort p { getPort s p with irMin := 0xFFFFFF } s

/-- IR_HOUR_ROLLOVER (R206): a clock hour of ring time ends. -/
def execIrHourRollover (s : State) : Host.Outcome State Fault Refusal :=
  .next ([0, 1, 2, 3].foldl (fun t p => irShift p t) s)

/-! ### Reflectometry (R207 to R210) -/

/-- A run ends: QUIET = 0 is sent, and training starts (R207 step 5). -/
def tdrReturn (p : Nat) (s : State) : State :=
  startDetect p (sendInfo p (setPort p { getPort s p with tdrPhase := 0 } s))

/-- A write of RGx_TDR_CTLj (R207). -/
def tdrWrite (p : Nat) (v : Word) (s : State) : State :=
  let start := bitsOf v.toNat 0 1 == 1
  let force := bitsOf v.toNat 1 1 == 1
  if start && linkUp s p && !force then setF (fRGx_PHY_STAT_CFG_REJECT p) 1 s
  else
    let s := setReg (oRGx_TDR_CTL p) (wd (v.toNat / 2 % 2 ^ 19 * 2)) s
    if !start || (getPort s p).tdrPhase != 0 then s
    else if !pairInLine s (p / 2) then setReg (oRGx_TDR_STAT p) (wd (3 + 2 * 4)) s
    else if !isCopper s p then setReg (oRGx_TDR_STAT p) (wd (3 + 3 * 4)) s
    else
      let s := setReg (oRGx_TDR_STAT p) 1 s
      let s := sendInfo p (setPort p { getPort s p with tdrPhase := 1, tdrSince := s.clk, retryAt := none } s)
      setPortState p 5 (if linkUp s p then takeDown p 7 false s else s)

/-- TDR_START (R207). -/
def execTdrStart (by_ : Writer) (p : Nat) (v : Word) (s : State) : Host.Outcome State Fault Refusal :=
  unit (p < 4) (guardWrite by_ (oRGx_TDR_CTL p) (tdrWrite p (wd (v.toNat / 2 * 2 + 1))) s)

/-- TDR_SILENCE (R207): 1 ms of silence, or 20 ms without it. -/
def execTdrSilence (p : Nat) (quiet : Bool) (s : State) : Host.Outcome State Fault Refusal :=
  unit (p < 4) (
    let x := getPort s p
    if x.tdrPhase != 1 then s
    else if quiet then
      (if x.tdrSince + 1000000 ≤ s.clk then emit (.probe p 1) (setPort p { x with tdrPhase := 2, tdrSince := s.clk } s) else s)
    else if x.tdrSince + 20000000 ≤ s.clk then tdrReturn p (setReg (oRGx_TDR_STAT p) (wd (3 + 1 * 4)) s)
    else s)

/-- A reflection put into a list by distance. -/
def insRefl (r : Nat × Int) : List (Nat × Int) → List (Nat × Int)
  | [] => [r]
  | x :: xs => if r.1 < x.1 then r :: x :: xs else x :: insRefl r xs

/-- The result word of a reflection (R210, Table 13). -/
def reflWord (r : Nat × Int) : Word :=
  let t := if 64 < r.2 then 1 else if r.2 < -64 then 2 else if 0 ≤ r.2 then 3 else 4
  wd (min r.1 16383 + 2 ^ 14 * t + 2 ^ 17 * min r.2.natAbs 127)

/-- Distance in 0.1 m of a round trip of t ns, to the nearest (R209): the velocity is NVP thousandths of 0.299792458 m/ns. -/
def reflDist (s : State) (p t : Nat) : Nat :=
  (t * getF s (fRGx_TDR_CTL_NVP p) * 299792458 + 10 ^ 11) / (2 * 10 ^ 11)

/-- Reflections to report (R207, R209, R210): within the 12 us window, not nearer than 2 m, at THRESH or above, nearest
first, at most 4. -/
def reflections (s : State) (p : Nat) (l : List (Nat × Int)) : List (Nat × Int) :=
  let l := (l.filter (fun r => r.1 ≤ 12000)).map (fun r => (reflDist s p r.1, r.2))
  ((l.filter (fun r => getF s (fRGx_TDR_CTL_THRESH p) ≤ r.2.natAbs && 20 ≤ r.1)).foldl (fun a r => insRefl r a) []).take 4

/-- TDR_COMPLETE (R207, R209, R210): reflections as round-trip time in ns and coefficient in units of 1/128, once the 256
pulses are sent. -/
def execTdrComplete (p : Nat) (refl : List (Nat × Int)) (s : State) : Host.Outcome State Fault Refusal :=
  unit (p < 4) (
    if (getPort s p).tdrPhase != 2 || s.clk < (getPort s p).tdrSince + 4096000 then s
    else
      let l := reflections s p refl
      let s := [0, 1, 2, 3].foldl (fun t k => setReg (oRGx_TDR_RES p k) ((l.map reflWord).getD k 0) t) s
      tdrReturn p (setReg (oRGx_TDR_STAT p) (wd (2 + l.length * 16)) s))

/-- QUIET_RECEIVED (R208). -/
def execQuietReceived (p : Nat) (s : State) : Host.Outcome State Fault Refusal :=
  unit (p < 4) (when (portAlive s p && !silent s p) (goQuiet p) s)

/-- QUIET_TIMEOUT (R208). -/
def execQuietTimeout (p : Nat) (s : State) : Host.Outcome State Fault Refusal :=
  unit (p < 4) (
    match (getPort s p).quietUntil with
    | some t => if t ≤ s.clk then endQuiet p s else s
    | none => s)

/-! ### The bypass (R211 to R217) -/

def bypState (x v : Nat) (s : State) : State := setF (fRGx_BYP_STAT_STATE x) v s

/-- Both ports of a pair. -/
def pairPorts (x : Nat) : List Nat := [2 * x, 2 * x + 1]

/-- What BYPx_HOLD drives (R211, R212): low, high, or high for so many ns of each period of so many. -/
inductive Hold where
  | low | high
  | chop (high period : Nat)
deriving DecidableEq, Repr

/-- The drive of BYPx_HOLD: full for PULL × 10 ms, then at 20 kHz with DUTY sixteenths, or steady with DUTY 0. -/
def holdDrive (s : State) (x : Nat) : Hold :=
  let d := getF s (fRGx_BYP_CTL_DUTY x)
  if !flag s (fRGx_BYP_STAT_HOLD x) then .low
  else if d = 0 ∨ s.clk < (getByp s x).pullUntil then .high
  else .chop (3125 * d) 50000

/-- xx_RS: high outside keep-alive (R197, R198). -/
def rateSelect (s : State) (p : Nat) : Bool := isOptical s p && portState s p != 4 && getF s fPWR_STATUS_STATE != 2

/-- Step 1 of Table 7: both ports are enabled, and train against each other through the local loop. -/
def insertPair (x : Nat) (s : State) : State :=
  let s := bypState x 1 (setByp x { getByp s x with trainAt := s.clk, downSince := none, settleAt := none } s)
  (pairPorts x).foldl (fun t p => setPortState p 6 (downCause p 8 (setF (fRGx_PHY_CTL_EN p) 1 t))) s

/-- Step 2 of Table 7: BYPx_HOLD goes high, with the times of SETTLE and PULL. -/
def energise (x : Nat) (s : State) : State :=
  let s := bypState x 2 (setF (fRGx_BYP_STAT_HOLD x) 1 s)
  setByp x { getByp s x with settleAt := some (s.clk + 5000000 * getF s (fRGx_BYP_CTL_SETTLE x)),
                             pullUntil := s.clk + 10000000 * getF s (fRGx_BYP_CTL_PULL x) } s

/-- Self-training has brought both ports up at their RATE_MAX, within 1 s of its start (R213, R214). -/
def selfTrained (s : State) (x rateE rateW : Nat) : Bool :=
  let at_ := fun p r => portEn s p && domOn s (1 + x) && (isOptical s p || (isCopper s p && r == getF s (fRGx_PHY_CTL_RATE_MAX p)))
  getF s (fRGx_BYP_STAT_STATE x) == 1 && at_ (2 * x) rateE && at_ (2 * x + 1) rateW &&
    decide ((getByp s x).trainAt ≤ s.clk) && decide (s.clk ≤ (getByp s x).trainAt + 1000000000)

/-- BYPx_HOLD goes low: both links of the pair are taken down first (R216). Measurements of the pair end (R204). -/
def releasePair (x : Nat) (s : State) : State :=
  let s := (pairPorts x).foldl (fun t p => setPortState p 0 (takeDown p 8 true t)) s
  let s := bypState x 0 (setF (fRGx_BYP_STAT_HOLD x) 0 (setF (fRGx_BYP_STAT_SENSED x) 0 s))
  (pairPorts x).foldl (fun t p => irHalt p t) (setByp x { getByp s x with settleAt := none, downSince := none } s)

/-- The pair's bypass fault source (R218). -/
def bypSource (x : Nat) : Nat := 71 + 16 * x

/-- A pair is in line, or bypassed for good. -/
def pairSettled (s : State) (x : Nat) : Bool :=
  pairInLine s x || flag s (fRGx_BYP_STAT_LOCKED_OUT x) || !flag s (fRGx_BYP_CTL_HOLD_EN x)

/-- On an unnumbered hub STAGE reaches SERVING once both pairs are in line or bypassed for good (R546). -/
def noteServing (s : State) : State :=
  if getF s fGLB_BOOT_STAGE = 6 && !numbered s && pairSettled s 0 && pairSettled s 1 then setF fGLB_BOOT_STAGE 8 s else s

/-- A pair is locked out (R214, R215). -/
def lockOut (x : Nat) (s : State) : State :=
  noteServing (causeOn (bypSource x) (setF (fRGx_BYP_STAT_LOCKED_OUT x) 1 (releasePair x s)))

/-- A change of HOLD_EN (R213, R214, R216). -/
def writeHoldEn (x : Nat) (en : Bool) (s : State) : State :=
  let was := flag s (fRGx_BYP_CTL_HOLD_EN x)
  let s := setF (fRGx_BYP_CTL_HOLD_EN x) (bit en) s
  if en && !was && !flag s (fRGx_BYP_STAT_LOCKED_OUT x) then insertPair x s
  else if !en && was then noteServing (causeOff (bypSource x) (setF (fRGx_BYP_STAT_LOCKED_OUT x) 0 (releasePair x s)))
  else s

/-- A write of RGx_BYP_CTL: PULL, DUTY, SETTLE and SENSE only while BYPx_HOLD is low (Table 17). -/
def bypWrite (x : Nat) (v : Word) (s : State) : State :=
  let off := oRGx_BYP_CTL x
  let s := writeBits off 0x0F0002 v.toNat s
  let s := if flag s (fRGx_BYP_STAT_HOLD x) then setF (fRGx_BYP_STAT_CFG_REJECT x) 1 s else writeBits off 0x30FFFC v.toNat s
  writeHoldEn x (bitsOf v.toNat 0 1 == 1) s

/-- BYP_HOLD_EN_WRITE (R213). -/
def execBypHoldEnWrite (by_ : Writer) (x : Nat) (v : Word) (s : State) : Host.Outcome State Fault Refusal :=
  unit (x < 2) (guardWrite by_ (oRGx_BYP_CTL x) (bypWrite x v) s)

/-- Ring B's pair trains for a stand-in, which RINGB_STANDIN brings in (R483). -/
def standsIn (s : State) (x : Nat) : Bool := x == 1 && (atticFind s 5 (fun _ => true)).isSome

/-- SELF_TRAIN_DONE (R213, Table 7 step 2): the rates that the East and West ports reached; their links through the local
loop are taken down, and BYPx_HOLD goes high. -/
def execSelfTrainDone (x rateE rateW : Nat) (s : State) : Host.Outcome State Fault Refusal :=
  unit (x < 2) (
    if selfTrained s x rateE rateW && !standsIn s x then
      energise x ((pairPorts x).foldl (fun t p => causeOff (mediaSource p 1) t) s)
    else s)

/-- SELF_TRAIN_FAIL (R214): BYPx_HOLD stays low, and self-training is tried again in 10 s. -/
def execSelfTrainFail (x : Nat) (s : State) : Host.Outcome State Fault Refusal :=
  unit (x < 2) (
    if getF s (fRGx_BYP_STAT_STATE x) != 1 || s.clk < (getByp s x).trainAt then s
    else
      let s := (pairPorts x).foldl (fun t p => raise (mediaSource p 1) t) s
      setByp x { getByp s x with trainAt := s.clk + 10000000000 } s)

/-- BYPASS_SETTLE (R214, Table 7 step 4): `sense` is the level of BYPx_SENSE, which SENSE_POL interprets. -/
def execBypassSettle (x : Nat) (sense : Bool) (s : State) : Host.Outcome State Fault Refusal :=
  unit (x < 2) (
    match (getByp s x).settleAt with
    | some t =>
      if getF s (fRGx_BYP_STAT_STATE x) = 2 && t ≤ s.clk then
        let inLine := sense != flag s (fRGx_BYP_CTL_SENSE_POL x)
        if flag s (fRGx_BYP_CTL_SENSE_EN x) && !inLine then lockOut x s
        else
          let s := bypState x 3 (setF (fRGx_BYP_STAT_SENSED x) (bit inLine) s)
          let s := setByp x { getByp s x with settleAt := none, downSince := some s.clk } s
          noteServing ((pairPorts x).foldl (fun t p => startDetect p (downCause p 0 t)) s)
      else s
    | none => s)

/-- AUTO_DROP (R215). -/
def execAutoDrop (x : Nat) (s : State) : Host.Outcome State Fault Refusal :=
  unit (x < 2) (
    let b := getByp s x
    match b.downSince with
    | some t =>
      if pairInLine s x && flag s (fRGx_BYP_CTL_AUTO_DROP x) && t + 250000000 * getF s (fRGx_BYP_CTL_DROP_TIME x) < s.clk then
        let drops := s.clk :: b.drops.filter (fun d => s.clk ≤ d + 600000000000)
        let s := setF (fRGx_BYP_STAT_DROPS x) (min 15 drops.length) (setByp x { b with drops := drops } s)
        if 3 ≤ drops.length then lockOut x s else insertPair x (releasePair x s)
      else s
    | none => s)

end Sys2Proof.Machine
end

