-- ==== Sys2Proof/Machine/Bindings.lean ====
section
/-! DEFINITION. The bindings: what a field device's response says of each point, which objects are writable, how a poll
groups points, and what a binding does with the pins of its group (chapters 03 and 04, R91 to R93, R124 to R146). -/

namespace Sys2Proof.Machine

/-! ### Parameter words -/

/-- The parameter words of a place: the data store of its serving engine (R98). -/
def placeParams (s : State) (n : Nat) : List Word :=
  match servingEngine s n with
  | some e => (List.range 512).map (fun i => reg s (0x10_0200 + e * 0x1000 + i))
  | none => []

/-- A parameter block with a placement's replacement words (R98). -/
def replaced (params : List Word) (repl : List (Nat × Word)) : List Word :=
  repl.foldl (fun l w => l.set w.1 w.2) (params ++ List.replicate (512 - params.length) 0)

/-- The binding type on a place's serving engine. -/
def placeType (s : State) (n : Nat) : Nat :=
  match servingEngine s n with
  | some e => getF s (fCLK_ENG_BIND_TYPE e)
  | none => 0

/-- The steward general queue of a byte stream, Q209 to Q255 (R131). -/
def streamQueue (s : State) (n : Nat) : Nat := 209 + Config.streamQueue (placeParams s n) % 47

/-! ### Values in responses -/

/-- The low `bits` bits of a number, sign-extended for a signed data type. -/
def extendBits (t bits v : Nat) : Int :=
  let v := v % 2 ^ bits
  if typeSigned t && 2 ^ (bits - 1) ≤ v then (v : Int) - 2 ^ bits else v

/-- Modbus registers that a data type occupies (R129). -/
def regWidth (t : Nat) : Nat := if t = 0 ∨ t = 1 ∨ t = 7 then 2 else 1

/-- What a point's registers say (R129). -/
def regReading (t : Nat) (ws : List Nat) : Reading :=
  let hi := ws.getD 0 0 % 65536
  let v := hi * 65536 + ws.getD 1 0 % 65536
  if t = 7 then .value (v % 2 ^ 24)
  else if t = 0 then (if v < 2 ^ 24 then .value v else .beyond v)
  else if t = 1 then
    let x := extendBits 1 32 v
    if inType 1 x then .value x else .beyond x
  else .value (extendBits t 16 hi)

/-- The registers of a transaction, point by point (R129, R130); a response of another length says nothing (R148). -/
def regReadings (s : State) : List Nat → List Nat → Option (List (Nat × Reading))
  | [], ws => if ws.isEmpty then some [] else none
  | p :: ps, ws =>
    let t := catType (catAt s p)
    let w := regWidth t
    if ws.length < w then none else (regReadings s ps (ws.drop w)).map ((p, regReading t (ws.take w)) :: ·)

/-- The little-endian number of a byte list, and the big-endian one. -/
def leNat (bs : List Nat) : Nat := bs.foldr (fun b a => b % 256 + 256 * a) 0
def beNat (bs : List Nat) : Nat := leNat bs.reverse

/-- The first bit of a signal counted from the most significant bit of byte 0, for a big-endian signal; the bits of a byte
are numbered from its least significant (log 216). -/
def beStart (obj : Nat) : Nat := 8 * (obj % 1024 / 8) + (7 - obj % 8)

/-- A CAN FD signal's length in bits, and the bits of a data field that it reaches to (R126, R133). -/
def sigLen (obj : Nat) : Nat := bitsOf obj 10 5 + 1
def sigEnd (obj : Nat) : Nat := (if bitsOf obj 15 1 = 1 then beStart obj else obj % 1024) + sigLen obj

/-- A signal's value in a data field (R133). -/
def signalOf (t obj : Nat) (bs : List Nat) : Int :=
  extendBits t (sigLen obj)
    (if bitsOf obj 15 1 = 1 then beNat bs / 2 ^ (8 * bs.length - sigEnd obj) else leNat bs / 2 ^ (obj % 1024))

/-- CRC-8 with polynomial 0x07 over a byte list (R137); it starts from 0 (log 216). -/
def crc8Step (c : Nat) : Nat → Nat
  | 0 => c
  | n + 1 => crc8Step (if 128 ≤ c then (c * 2 % 256) ^^^ 0x07 else c * 2 % 256) n

def crc8 (bs : List Nat) : Nat := bs.foldl (fun c b => crc8Step (c ^^^ (b % 256)) 8) 0

/-- What an SPI response says: its first bytes the value in the template's bit order, and, where the template has a check, one
byte more (R137, R138). -/
def spiReading (t : Nat) (x : SpiTemplate) (bs : List Nat) : Option Reading :=
  let v := bs.take x.readLen
  let raw := if x.msbFirst then beNat v else leNat v
  let r := Reading.value (extendBits t (8 * x.readLen) raw)
  match x.check with
  | .none => if bs.length = x.readLen then some r else none
  | .fixed b => if bs.length = x.readLen + 1 && bs.getD x.readLen 0 == b then some r else none
  | .crc8 => if bs.length = x.readLen + 1 && bs.getD x.readLen 0 == crc8 v then some r else none

/-- Bytes of an I2C value (R139). -/
def i2cBytes (t : Nat) : Nat := if t = 0 ∨ t = 1 ∨ t = 7 then 3 else if t = 3 ∨ t = 4 then 2 else 1

/-- An SDI-12 value times 10^e, rounded to the nearest integer (R142). -/
def sdiRaw (e : Nat) (v : Int × Nat) : Int := roundDiv (v.1 * 10 ^ e) (10 ^ v.2)

/-- What an SDI-12 sensor's values say of a point; too few are a sensor failure (R148). -/
def sdiReading (c : Cat) (vs : List (Nat × List (Int × Nat))) : Reading :=
  let l := match vs.find? (fun v => v.1 == catDevice c) with
    | some v => v.2
    | none => []
  match l[catObject c % 32]? with
  | some v => .value (sdiRaw (bitsOf (catObject c) 5 4) v)
  | none => .sensorFail

/-- What a response says of the points of a transaction; none where its form is not the binding's (R148). -/
def readData (s : State) (n : Nat) (pts : List Nat) (d : FieldData) : Option (List (Nat × Reading)) :=
  let one := fun (f : Cat → Option Reading) =>
    match pts with
    | [p] => (f (catAt s p)).map (fun r => [(p, r)])
    | _ => none
  match placeType s n, d with
  | 2, .regs ws => regReadings s pts ws
  | 2, .coils bs => if bs.length = pts.length then some (pts.zip (bs.map (fun b => .value (bit b)))) else none
  | 4, .bytes bs => one (fun c => match Config.spiTemplate (placeParams s n) (catDevice c) with
    | some x => spiReading (catType c) x bs
    | none => none)
  | 5, .bytes bs => one (fun c =>
    if bs.length = i2cBytes (catType c) then some (.value (extendBits (catType c) (8 * bs.length) (beNat bs))) else none)
  | 6, .values vs => some (pts.map (fun p => (p, sdiReading (catAt s p) vs)))
  | 7, .answer b => one (fun c =>
    if catObject c / 2 ^ 14 = 0 && catObject c % 256 == 0xA0 && b == 255 then some .sensorFail else some (.value (b % 256)))
  | _, _ => none

/-! ### Objects (R126, R133, R137) -/

/-- Objects that Table 2 marks writable, under given parameter words. -/
def objectWritable (params : List Word) (typ dev obj : Nat) : Bool :=
  if typ = 2 then obj / 2 ^ 14 == 0 || obj / 2 ^ 14 == 3
  else if typ = 3 then (match Config.canEntry params dev with
    | some e => e.tx
    | none => false)
  else if typ = 4 then (match Config.spiTemplate params dev with
    | some x => x.writable
    | none => false)
  else if typ = 5 then true
  else if typ = 7 then obj / 2 ^ 14 == 0 && obj % 256 == 0xA0
  else false

/-- A CAN FD signal stands in the data field of an entry of the message table, and an SPI object names a template
(R126, R133). -/
def objectHeld (params : List Word) (typ dev obj : Nat) : Bool :=
  if typ = 3 then (match Config.canEntry params dev with
    | some e => decide (sigEnd obj ≤ 8 * e.len)
    | none => false)
  else if typ = 4 then (Config.spiTemplate params dev).isSome
  else true

/-- A message table entry of a place. -/
def canEntryOf (s : State) (n i : Nat) : Option CanEntry := Config.canEntry (placeParams s n) i

/-- A CAN FD point whose entry is for transmitting. -/
def canTransmits (s : State) (n p : Nat) : Bool :=
  match canEntryOf s n (catDevice (catAt s p)) with
  | some e => e.tx
  | none => false

/-! ### Grouping (R103, R130, R142) -/

/-- Points that a binding may poll with the first one: UART counters; registers or coils of one table and device that
follow each other; one entry's signals; one sensor's values, or those of several under C and CC. -/
def follows (s : State) (typ p q : Nat) : Bool :=
  let a := catAt s p
  let b := catAt s q
  let dev := catDevice a == catDevice b
  if typ = 1 then true
  else if typ = 2 then
    dev && catObject a / 2 ^ 14 == catObject b / 2 ^ 14 &&
      catObject b == catObject a + (if 2 ≤ catObject a / 2 ^ 14 then regWidth (catType a) else 1)
  else if typ = 3 then dev
  else if typ = 6 then catObject a / 2 ^ 9 == catObject b / 2 ^ 9 && (dev || catObject a / 2 ^ 13 == 2 || catObject a / 2 ^ 13 == 3)
  else false

/-- What a point adds to a transaction, and what it may hold: 125 registers or 2,000 coils (R130). -/
def pollCost (s : State) (typ p : Nat) : Nat :=
  if typ = 2 then (if 2 ≤ catObject (catAt s p) / 2 ^ 14 then 16 * regWidth (catType (catAt s p)) else 1) else 0

/-- The points that follow point p into its transaction. -/
def groupAfter (s : State) (typ : Nat) : Nat → Nat → List Nat → List Nat
  | _, _, [] => []
  | room, p, q :: t =>
    if q = p + 1 && follows s typ p q && pollCost s typ q ≤ room then q :: groupAfter s typ (room - pollCost s typ q) q t
    else []

/-- The points of the next transaction among those left: consecutive points of one run, at most 125 registers or 2,000
coils. -/
def pollGroup (s : State) (typ : Nat) (run : List Nat) : List Nat → List Nat
  | [] => []
  | p :: t => p :: groupAfter s typ (2000 - pollCost s typ p) p (t.takeWhile run.contains)

/-! ### Pin groups (R91 to R93, R124) -/

/-- What a binding uses a pin for: an output with its idle level where Table 1 gives one, an input, an open-drain line, or
nothing. -/
inductive PinUse where
  | output (idle : Option Bool)
  | input
  | openDrain
  | unused
deriving DecidableEq, Repr

/-- Table 1 of chapter 04, pins A to D as 0 to 3; DE and DIR are low outside a transmission (R125). -/
def pinUse (typ pin : Nat) : PinUse :=
  if typ = 1 ∨ typ = 2 ∨ typ = 6 then
    [.output (some true), .input, .output (some false)].getD pin .unused
  else if typ = 3 then [.output (some true), .input, .output none].getD pin .unused
  else if typ = 4 then [.output none, .output none, .input, .output none].getD pin .unused
  else if typ = 5 then [.openDrain, .openDrain, .output none].getD pin .unused
  else if typ = 7 then [.output (some false), .input, .input].getD pin .unused
  else .unused

/-- How the hub drives a pin of a group. -/
inductive GroupDrive where
  | highZ
  /-- open-drain: pulled low or let go -/
  | openDrain
  | level (high : Bool)
  /-- an output whose level the binding's code sets -/
  | code
deriving DecidableEq, Repr

/-- The place that a pin group is attached to (R91). -/
def groupPlace (s : State) (g : Nat) : Option Nat :=
  ((List.range 26).map (26 * (g / 24) + ·)).find? (fun n => getF s (fCLK_PINSEL_GROUP n) == g % 24)

/-- The engine that a group's outputs and output enables come from: its place's serving engine, not fenced (R92, R93). -/
def groupEngine (s : State) (g : Nat) : Option Nat :=
  match groupPlace s g with
  | some n =>
    (match servingEngine s n with
    | some e => if getF s (fCLK_ENG_STAT_STATE e) = 4 then none else some e
    | none => none)
  | none => none

/-- The engines that a group's pin inputs go to: the serving engine and the shadow engines of its place (R92). -/
def groupReaders (s : State) (g : Nat) : List Nat :=
  match groupPlace s g with
  | some n =>
    ((List.range 26).map (26 * (g / 24) + ·)).filter (fun e =>
      servingEngine s n == some e || (enginePlace s e == n && getF s (fCLK_ENG_STAT_STATE e) == 3))
  | none => []

/-- What the hub drives pin `pin` of group g to: high-impedance in each case of R93 and where the twin's output stage is not
enabled (R486); otherwise by Table 1, an idle level standing while no item is in progress. -/
def groupPin (s : State) (g pin : Nat) : GroupDrive :=
  match groupPlace s g, groupEngine s g with
  | some n, some e =>
    if !domOn s (10 + g / 24) || (sharedPlace s n && !stagesOn s) then .highZ
    else
      match pinUse (getF s (fCLK_ENG_BIND_TYPE e)) pin with
      | .output (some b) => if (getPlace s n).item.isNone then .level b else .code
      | .output none => .code
      | .openDrain => .openDrain
      | .input => .highZ
      | .unused => .highZ
  | _, _ => .highZ

end Sys2Proof.Machine
end

