-- ==== Sys2Proof/Machine/Clerks.lean ====
section
/-! DEFINITION. Clerks: places and engines, scan cycles, the choice of the next item, port down and up, commands, and the
hand-over of engines (chapters 03 and 04). -/

namespace Sys2Proof.Machine

/-! ### Periods and scan lists (R101, R102, R123) -/

/-- The period of scan class k of a place, in ns; 0 not polled. -/
def periodNs (s : State) (n k : Nat) : Nat :=
  let u := getF s (fCLK_PER_UNIT n k)
  getF s (fCLK_PER_COUNT n k) * (if u = 0 then 100000 else if u = 1 then 1000000 else 1000000000)

/-- The runs of a scan list up to the first entry whose VALID is 0: class and points (R123). -/
def scanRuns (s : State) (n : Nat) : Nat → Nat → List (Nat × List Nat)
  | 0, _ => []
  | fuel + 1, e =>
    let a := (reg s (0x10_0000 + n * 0x1000 + 0x400 + 2 * e)).toNat
    let b := (reg s (0x10_0000 + n * 0x1000 + 0x401 + 2 * e)).toNat
    if bitsOf a 23 1 = 0 then []
    else (bitsOf a 20 3, (List.range (b % 256 + 1)).map (· + bitsOf a 0 20)) :: scanRuns s n fuel (e + 1)

/-- Every point of a place's scan list, in order. -/
def scanPoints (s : State) (n : Nat) : List Nat := (scanRuns s n 512 0).flatMap (·.2)

/-- Points that a DALI-2 place does not poll: groups, broadcast and instance events (R145). -/
def daliUnpolled (c : Cat) : Bool :=
  catDevice c / 64 == 1 || catDevice c / 64 == 2 || catObject c / 2 ^ 14 == 2

/-- The points of class k that a cycle polls (R104, R145). -/
def classPoints (s : State) (n k : Nat) : List Nat :=
  let l := ((scanRuns s n 512 0).filter (fun r => r.1 == k)).flatMap (·.2)
  if placeType s n = 7 then l.filter (fun p => !daliUnpolled (catAt s p)) else l

def getCycle (p : Place) (k : Nat) : Cycle := tget (fun _ => Cycle.init) p.cycles k
def setCycle (k : Nat) (c : Cycle) (p : Place) : Place := { p with cycles := tset (fun _ => Cycle.init) k c p.cycles }

/-- The lead class of a place (R105). -/
def leadClass (s : State) (n : Nat) : Option Nat :=
  (List.range 8).find? (fun k => periodNs s n k != 0 && !(classPoints s n k).isEmpty)

/-- The port of a place is up. -/
def placeUp (s : State) (n : Nat) : Bool := flag s (fCLK_STAT_PORT_UP n)

/-! ### Engines (R89, R98, R120) -/

/-- Registers of an engine's role and place. -/
def engRole (s : State) (e : Nat) : Nat := getF s (fCLK_ENG_CTL_ROLE e)

/-- An engine stops: HALTED unless fenced. -/
def engineHalt (e : Nat) (s : State) : State :=
  let s := if getF s (fCLK_ENG_STAT_STATE e) = 4 then s else setF (fCLK_ENG_STAT_STATE e) 1 s
  setEngine e { getEngine s e with halting := false } s

/-- An engine becomes idle: role idle, halted (R120). -/
def engineIdle (e : Nat) (s : State) : State :=
  engineHalt e (setF (fCLK_ENG_CTL_RUN e) 0 (setF (fCLK_ENG_CTL_ROLE e) 0 s))

/-! ### Port-down conditions (R108) -/

/-- The conditions of Table 4 that hold, lowest code first. -/
def downConds (s : State) (n : Nat) : List Nat :=
  let p := getPlace s n
  (if 24 ≤ getF s (fCLK_PINSEL_GROUP n) then [1] else []) ++
  (if (servingEngine s n).isNone then [2] else []) ++
  (if p.rebinding then [3] else []) ++
  (if flag s (fCLK_CFG_FSC_EN n) && getF s (fFED_FSC_STAT_STATE (getF s (fCLK_CFG_FSC n))) != 4 then [4] else []) ++
  (if p.busLost then [5] else [])

/-- DOWN_CAUSE shows the lowest condition that holds (R108); with cause 4 or 5 the bus fault source's cause begins (R121). -/
def showCause (n : Nat) (s : State) : State :=
  let d := if placeUp s n then 0 else (downConds s n).headD 0
  let s := setF (fCLK_STAT_DOWN_CAUSE n) d s
  if d = 4 || d = 5 then causeOn (257 + 2 * n) s else s

/-! ### Commands of a place (R112 to R119) -/

/-- The FP domain of a place's, or an engine's, cluster is on: nothing of a cluster that is off or retained runs (R438). -/
def placeOn (s : State) (n : Nat) : Bool := domOn s (10 + n / 26)

/-- The oldest command of Q96 + n. -/
def headCmd (s : State) (n : Nat) : Option Cmd :=
  match frontQ s (96 + n) with
  | some (_, x) =>
    (match x.body with
    | .words ws => some (cmdOf ws)
    | .frame _ => none)
  | none => none

/-- The point a command names. -/
def cmdPoint (c : Cmd) : Nat := c.handle % 2 ^ 20

/-- The command at the head leaves the queue and counts. -/
def cmdLeaves (n : Nat) (s : State) : State :=
  let p := getPlace s n
  let s := setPlace n { p with upCmds := p.upCmds - 1 } s
  countEv 8 (4 * n + 2) 1 (dropFront (96 + n) s)

/-- The command at the head fails: report, the deferred-failure event, CMD_FAIL (R118). -/
def failCmd (n cause : Nat) (s : State) : State :=
  match headCmd s n with
  | none => s
  | some c =>
    let s := report c.node c.tag c.handle cause (cmdLeaves n s)
    wrapF (fCLK_CMD_FAIL_CMD_FAIL n) (writeFailed (cmdPoint c) s)

/-- The command fails with CONFIRM_LOST and the point takes the sensor-failure event (R146). -/
def failReadback (n : Nat) (s : State) : State :=
  match headCmd s n with
  | none => s
  | some c =>
    let s := report c.node c.tag c.handle cCONFIRM (cmdLeaves n s)
    wrapF (fCLK_CMD_FAIL_CMD_FAIL n) (srcWrite n (cmdPoint c) .sensor (usNow s) s)

/-- Every command queued fails, in queue order (R100, R111). -/
def failAllCmds (n cause : Nat) : Nat → State → State
  | 0, s => s
  | fuel + 1, s => if (headCmd s n).isNone then s else failAllCmds n cause fuel (failCmd n cause s)

/-! ### Port down (R109, R111) -/

/-- The hold time is over: queued commands fail, and the bus fault source's cause begins (R111). -/
def holdExpire (n : Nat) (s : State) : State :=
  let s := setF (fCLK_STAT_HOLDING n) 0 (setF (fCLK_STAT_HOLD_EXPIRED n) 1 s)
  let s := setPlace n { getPlace s n with holdUntil := none } s
  failAllCmds n cPORT_DOWN (qCount s (96 + n)) (causeOn (257 + 2 * n) s)

/-- The COMMS_FAIL event on every point of the scan list, stamped with the time the port went down (R109). -/
def commsFailAll (n : Nat) (s : State) : State :=
  let t := usNow s
  (scanPoints s n).foldl (fun u p => srcWrite n p .comms t u) s

/-- Live writes held for a place's item boundary are applied (R12, R103). -/
def applyLive (n : Nat) (s : State) : State :=
  let p := getPlace s n
  p.live.foldl (fun t e => writeBits e.1 e.2.1 e.2.2 t) (setPlace n { p with live := [] } s)

/-- No item is in progress at a place: what was held for its boundary takes effect (R103). -/
def leaveItem (n : Nat) (s : State) : State :=
  applyLive n (setPlace n { getPlace s n with item := none, ended := false, attempts := 0, confirming := false } s)

/-- The port of a place goes down (R109). -/
def portDown (n : Nat) (s : State) : State :=
  if placeUp s n then
    let s := leaveItem n (setF (fCLK_STAT_PORT_UP n) 0 s)
    let p := getPlace s n
    let hold := 10000000 * getF s (fCLK_HOLD_TIME n)
    let s := setPlace n { p with cycles := [], upCmds := 0, fresh := false, holdUntil := some (s.clk + hold) } s
    let s := setF (fCLK_STAT_HOLDING n) 1 s
    let s := showCause n (commsFailAll n s)
    if hold = 0 then holdExpire n s else s
  else showCause n s

/-- A place whose conditions have changed: down where one holds (R108). -/
def portCheck (n : Nat) (s : State) : State := if (downConds s n).isEmpty then showCause n s else portDown n s

/-- An engine becomes the serving engine of a place that no engine serves (R120). -/
def engineServe (n e : Nat) (s : State) : State :=
  let s := if engineRuns s e then setF (fCLK_ENG_STAT_STATE e) 2 s else s
  let s := setEngine e { getEngine s e with counting := false } (setPlace n { getPlace s n with takeover := none } s)
  showCause n (setF (fCLK_STAT_ENGINE n) (e % 26) s)

/-- An engine no longer serves its place, which goes down; the place is then free for an engine that was to take it over
(R93, R120). -/
def unserve (n : Nat) (s : State) : State :=
  let s := portCheck n (setF (fCLK_STAT_ENGINE n) 0x1F s)
  match (getPlace s n).takeover with
  | some e => engineServe n e s
  | none => s

/-- A ROLE and PLACE pair is applied (R120). -/
def applyEnginePair (e role pl : Nat) (s : State) : State :=
  if role = 3 ∨ 26 ≤ pl then setF (fCLK_STAT_CFG_REJECT e) 1 s
  else
    let old := enginePlace s e
    let n := 26 * (e / 26) + pl
    let served := servingEngine s old == some e
    let s := setF (fCLK_ENG_PLACE_PLACE e) pl (setF (fCLK_ENG_CTL_ROLE e) role s)
    let s := if served && !(role = 1 && old = n) then unserve old s else s
    let s := if (getPlace s old).takeover = some e then setPlace old { getPlace s old with takeover := none } s else s
    if role = 0 then (if engineRuns s e then setF (fCLK_ENG_STAT_STATE e) 1 s else s)
    else if role = 2 then
      let s := setReg (oCLK_ENG_SHADOW e) 0 (if engineRuns s e then setF (fCLK_ENG_STAT_STATE e) 3 s else s)
      setEngine e { getEngine s e with counting := false } s
    else
      match servingEngine s n with
      | none => engineServe n e s
      | some x =>
        if x = e then s
        else setPlace n { getPlace s n with takeover := some e } (if engineRuns s e then setF (fCLK_ENG_STAT_STATE e) 3 s else s)

/-- The place that a held engine pair names. -/
def pairPlace (h : PairHold) : Option Nat :=
  if 0x10_0000 ≤ h.offA && h.offA % 0x1000 == 0 then some (26 * ((h.offA - 0x10_0000) / 0x1000 / 26) + h.valB % 32) else none

/-- A held engine pair whose place has no item in progress. -/
def pairDue (s : State) (h : PairHold) : Bool :=
  match pairPlace h with
  | some n => (getPlace s n).item.isNone
  | none => false

/-- Engine pairs held for an item boundary are applied at it (R103, R377). -/
def drainPairs : Nat → State → State
  | 0, s => s
  | k + 1, s =>
    match s.ready.find? (pairDue s) with
    | some h =>
      drainPairs k (applyEnginePair ((h.offA - 0x10_0000) / 0x1000) (h.valA % 4) (h.valB % 32) { s with ready := s.ready.erase h })
    | none => s

/-- Every held pair whose place is at an item boundary is applied. -/
def settlePairs (s : State) : State := drainPairs s.ready.length s

/-- A place's conditions have changed, and pairs held for it are applied where its item has ended. -/
def portTest (n : Nat) (s : State) : State := settlePairs (portCheck n s)

/-- The Registrar or the Attic fences an engine (R467): FENCED, and the place it serves has no engine. -/
def fenceEngine (e : Nat) (s : State) : State :=
  let n := enginePlace s e
  let serves := servingEngine s n == some e
  let s := setF (fCLK_ENG_STAT_STATE e) 4 s
  let s := setEngine e { getEngine s e with halting := false, counting := false } s
  let s := if (getPlace s n).takeover = some e then setPlace n { getPlace s n with takeover := none } s else s
  if serves then settlePairs (unserve n s) else s

/-- A complete ROLE and PLACE pair: at once, or at the item boundary of a place in the midst of an item (R377). -/
def enginePair (e role pl : Nat) (s : State) : State :=
  if pl < 26 && (getPlace s (26 * (e / 26) + pl)).item.isSome then
    { s with ready := s.ready ++ [⟨oCLK_ENG_CTL e, oCLK_ENG_PLACE e, 3, role, 31, pl, s.clk⟩] }
  else settlePairs (applyEnginePair e role pl s)

/-- At the end of a lead-class cycle, the Attic judges the engine that shadows a place for it: accepted, its pair is
written again with ROLE serve; not accepted, the spare is fenced (R479, Table 5). -/
def atticShadow (n : Nat) (s : State) : State :=
  match atticFind s 0 (fun w => enginePlace s w.spare == n && engRole s w.spare == 2 && (getEngine s w.spare).counting &&
      getF s (fCLK_ENG_STAT_STATE w.spare) == 3) with
  | some w =>
    if 1 ≤ getF s (fCLK_ENG_SHADOW_COMPARED w.spare) && getF s (fCLK_ENG_SHADOW_MISMATCH w.spare) == 0 then
      applyEnginePair w.spare 1 (n % 26) s
    else atticEnd w 1 (raise 628 (fenceEngine w.spare s))
  | none => s

/-! ### Hand-over, and cycles (R94, R104, R110, R120) -/

/-- The engine that is to take over a place serves it: the pins move, the old engine becomes idle, or, where the Attic
replaces it, is fenced (R94, R120, R479). -/
def handOver (n : Nat) (s : State) : State :=
  match (getPlace s n).takeover with
  | some e =>
    if engineRuns s e then
      let was := getF s (fCLK_STAT_ENGINE n)
      let s := match servingEngine s n with
        | some old => engineIdle old s
        | none => s
      let s := engineServe n e s
      (match atticFind s 0 (fun w => w.spare == e && w.unit == 26 * (n / 26) + was) with
      | some w => atticEnd w 0 (fenceEngine w.unit s)
      | none => s)
    else s
  | none => s

/-- A cycle of class k starts with due time d (R104). A start of the lead class is a lead-class cycle boundary: an engine
that waits for it takes over, and shadow engines begin to count (R120). A class without points has nothing to poll. -/
def startCycle (n k d : Nat) (s : State) : State :=
  let s := if leadClass s n = some k then
    let s := handOver n s
    (List.range 26).foldl (fun t i =>
      let e := 26 * (n / 26) + i
      if getF t (fCLK_ENG_STAT_STATE e) = 3 && enginePlace t e = n then setEngine e { getEngine t e with counting := true } t
      else t) s else s
  let l := classPoints s n k
  setPlace n (setCycle k
    (if l.isEmpty then ⟨false, d, [], some (d + periodNs s n k), 0⟩ else ⟨true, d, l, none, 0⟩) (getPlace s n)) s

/-- Fresh cycles of every polled class start at once (R104, R110). -/
def freshCycles (n : Nat) (s : State) : State :=
  (List.range 8).foldl (fun t k =>
    if periodNs t n k != 0 && !(classPoints t n k).isEmpty then startCycle n k t.clk t else t) s

/-- The end of a class's cycle at an item boundary: the next one is due, or, where this one overran, starts at once
(R104). -/
def endCycle (n k : Nat) (s : State) : State :=
  let c := getCycle (getPlace s n) k
  let per := periodNs s n k
  let s := setPlace n (setCycle k ⟨false, c.start, [], if per = 0 then none else some (c.start + per), 0⟩ (getPlace s n)) s
  let s := if leadClass s n = some k then
    atticShadow n (setF (fCLK_LAST_CYCLE_TIME n) (min 0xFFFFFF ((s.clk - c.start) / 100000)) s)
  else s
  if c.start + per < s.clk then
    let s := countEv 8 (4 * n + 3) 1 (wrapF (fCLK_OVERRUN_COUNT n)
      (setF (fCLK_OVR_CLASS_CLASS n) (getF s (fCLK_OVR_CLASS_CLASS n) ||| 2 ^ k) s))
    if per = 0 then s else startCycle n k s.clk s
  else s

/-! ### What a place asks of the field (R116, R135, R146) -/

/-- The frame of a message table entry, with every signal of the place at its present value, or one of them at another
(R135). -/
def sendEntry (n i : Nat) (new : Option (Nat × Int)) (s : State) : State :=
  let pts := (scanPoints s n).filter (fun p => catDevice (catAt s p) == i)
  emit (.can n i (pts.map (fun p =>
    (catObject (catAt s p), match new with
      | some (q, v) => if q = p then v else rawOf s (catAt s p) (getPt s p).w0
      | none => rawOf s (catAt s p) (getPt s p).w0)))) s

/-- A command's write goes out to the field device. -/
def sendCmd (n : Nat) (c : Cmd) (s : State) : State :=
  let p := cmdPoint c
  let raw := rawOf s (catAt s p) c.value
  if placeType s n = 3 then sendEntry n (catDevice (catAt s p)) (some (p, raw)) s else emit (.field n raw) s

/-- The binding image on a place sets the field-write flag; without an image on record it is taken to (R115). -/
def fieldWrites (s : State) (n : Nat) : Bool :=
  match servingEngine s n with
  | none => false
  | some e =>
    match s.stw.library.find? (fun b => b.typ == getF s (fCLK_ENG_BIND_TYPE e) && b.major == getF s (fCLK_ENG_BIND_MAJOR e) &&
        b.minor == getF s (fCLK_ENG_BIND_MINOR e)) with
    | some b => b.flags / 2 % 2 == 1
    | none => true

/-- The first check that a command fails as it starts (R115); a DALI-2 level of 255 is refused unsent (R146). -/
def cmdCause (s : State) (n : Nat) (c : Cmd) : Option Nat :=
  let cat := catAt s (cmdPoint c)
  if catSource cat != n || catRoute cat != 1 then some cREASSIGNED
  else if (getPt s (cmdPoint c)).forced && !c.force then some cFORCED
  else if !objectWritable (placeParams s n) (placeType s n) (catDevice cat) (catObject cat) || !fieldWrites s n then
    some cUNSUPPORTED
  else if placeType s n = 7 && rawOf s cat c.value = 255 then some cREJECTED
  else none

/-! ### Item boundaries and the choice of the next item (R103 to R106) -/

/-- Pushes that began to wait in an item of a place are its own: their handshakes hold it in its item (R106). -/
def tagWaits (n before : Nat) (s : State) : State :=
  let ws := s.swq.waits.take before ++ (s.swq.waits.drop before).map (fun w => { w with place := some n })
  { s with swq := { s.swq with waits := ws } }

/-- A write of a place's item has not been accepted. -/
def waitsOf (s : State) (n : Nat) : Bool := s.swq.waits.any (fun w => w.place == some n)

/-- What ends with an item: the cycle whose last poll it was, or, after the last command queued at port up, the wait of the
fresh cycles; then no item is in progress (R104, R110). -/
def endWork (n : Nat) (s : State) : State :=
  let p := getPlace s n
  let s := match p.item with
    | some (.poll k _) => if (getCycle p k).left.isEmpty && (getCycle p k).started then endCycle n k s else s
    | some .command => if p.fresh && p.upCmds = 0 then freshCycles n (setPlace n { p with fresh := false } s) else s
    | _ => s
  leaveItem n s

/-- An item boundary: held pairs are applied, and an engine asked to halt halts (R98, R103). -/
def atBoundary (n : Nat) (s : State) : State :=
  let s := settlePairs s
  match servingEngine s n with
  | some e => if (getEngine s e).halting then engineHalt e s else s
  | none => s

/-- A byte stream's counter counts (R126). -/
def countStream (n i : Nat) (s : State) : State :=
  let p := getPlace s n
  setPlace n { p with counts := tset (fun _ => 0) i ((tget (fun _ => 0) p.counts i + 1) % 2 ^ 24) p.counts } s

/-- One unit of unsolicited input is processed (R103, R131, R134, R145). -/
def takeUnsolicited (n time : Nat) (u : Unsolicited) (s : State) : State :=
  match u with
  | .canFrame id ext bytes =>
    let hit := fun p => match canEntryOf s n (catDevice (catAt s p)) with
      | some e => !e.tx && e.id == id && e.ext == ext && e.len == bytes.length
      | none => false
    let pts := (scanPoints s n).filter hit
    let s := pts.foldl (fun t p =>
      srcWrite n p (readingEv t (catAt t p) (.value (signalOf (catType (catAt t p)) (catObject (catAt t p)) bytes))) time t) s
    let p := getPlace s n
    setPlace n { p with
      canSeen := pts.foldl (fun l q => insSet q l) p.canSeen
      canMiss := pts.foldl (fun m q => tset (fun _ => 0) q 0 m) p.canMiss } s
  | .daliEvent dev inst info =>
    let pts := (scanPoints s n).filter (fun p =>
      catDevice (catAt s p) == 192 + dev && bitsOf (catObject (catAt s p)) 14 2 == 2 && bitsOf (catObject (catAt s p)) 8 5 == inst)
    pts.foldl (fun t p => srcWrite n p (scaleEv t (catAt t p) (info % 1024)) time t) s
  | .uartFrame bytes =>
    pushWords (streamQueue s n) (bytes.map wd) (countStream n 0 s)

/-- A class that is due: its cycle has started and has points left (R105). -/
def dueClasses (p : Place) : List Nat :=
  (List.range 8).filter (fun k => (getCycle p k).started && !(getCycle p k).left.isEmpty)

/-- The class polled next: the lowest due class, or, where a due class has waited through 7 poll items of other classes,
the class that has been due longest (R105). -/
def pickClass (p : Place) : Option Nat :=
  let d := dueClasses p
  if d.any (fun k => 7 ≤ (getCycle p k).waited) then
    d.foldl (fun b k => match b with
      | none => some k
      | some j => if (getCycle p k).start < (getCycle p j).start then some k else some j) none
  else d.head?

/-- An item begins. -/
def startItem (n : Nat) (it : PlaceItem) (s : State) : State :=
  setPlace n { getPlace s n with
    item := some it, ended := false, itemStart := s.clk, attempts := 0, attemptAt := s.clk, announced := 0,
    confirming := false, lastUnsolicited := it == .unsolicited } s

/-- The points of the next transaction of class k. -/
def nextGroup (s : State) (n k : Nat) : List Nat :=
  let l := (getCycle (getPlace s n) k).left
  let run := match (scanRuns s n 512 0).find? (fun r => r.1 == k && r.2.contains (l.headD 0)) with
    | some r => r.2
    | none => l.take 1
  pollGroup s (placeType s n) run l

/-- The first request of a poll goes out: a transmit entry's frame (R135). -/
def sendPoll (n : Nat) (pts : List Nat) (s : State) : State :=
  match pts with
  | p :: _ => if placeType s n = 3 && canTransmits s n p then sendEntry n (catDevice (catAt s p)) none s else s
  | [] => s

/-- A poll of class k is taken: other due classes have waited through it. -/
def startPoll (n k : Nat) (s : State) : State :=
  let p := getPlace s n
  let p := (dueClasses p).foldl (fun q j =>
    setCycle j { getCycle q j with waited := if j = k then 0 else (getCycle q j).waited + 1 } q) p
  let pts := nextGroup s n k
  sendPoll n pts (startItem n (.poll k pts) (setPlace n { p with sinceCmds := 0 } s))

/-- A command is taken: it goes out to the field device, or fails its first check (R105, R114, R115). -/
def startCmd (n : Nat) (s : State) : State × Bool :=
  let s := startItem n .command (setPlace n { getPlace s n with sinceCmds := (getPlace s n).sinceCmds + 1 } s)
  match headCmd s n with
  | none => (s, false)
  | some c =>
    match cmdCause s n c with
    | some cause => (failCmd n cause s, true)
    | none => (sendCmd n c s, false)

/-- What a place chooses (R105). -/
inductive Choice where
  | unsolicited (time : Nat) (u : Unsolicited) (rest : List (Nat × Unsolicited))
  | command
  | poll (k : Nat)
  | wait
deriving DecidableEq, Repr

/-- The choice of the next item at an item boundary (R105); commands queued when the port came up go first (R110). -/
def nextItem (s : State) (n : Nat) : Choice :=
  let p := getPlace s n
  let burst := if getF s (fCLK_CFG_CMD_BURST n) = 0 then 8 else getF s (fCLK_CFG_CMD_BURST n)
  let cmds := qCount s (96 + n) != 0 && !flag s (fCLK_STAT_HOLDING n)
  if !placeUp s n || !placeRuns s n || p.rebindDue || p.removing then .wait
  else if p.upCmds != 0 && cmds then .command
  else
    match p.unsolicited, p.lastUnsolicited with
    | (t, u) :: rest, false => .unsolicited t u rest
    | l, _ =>
      if cmds && p.sinceCmds < burst then .command
      else
        match pickClass p, l with
        | some k, _ => .poll k
        | none, (t, u) :: rest => .unsolicited t u rest
        | none, [] => if cmds then .command else .wait

/-- The place goes from item boundary to item boundary until an item is in progress or nothing is to be done; unsolicited
input, and a command that fails its first check, are done with as they are chosen. -/
def choose (n : Nat) : Nat → State → State
  | 0, s => s
  | fuel + 1, s =>
    let s := atBoundary n s
    let before := s.swq.waits.length
    let close := fun s =>
      let s := tagWaits n before s
      if waitsOf s n then setPlace n { getPlace s n with ended := true } s else choose n fuel (endWork n s)
    match nextItem s n with
    | .wait => s
    | .poll k => startPoll n k s
    | .unsolicited t u rest =>
      close (takeUnsolicited n t u (startItem n .unsolicited (setPlace n { getPlace s n with unsolicited := rest } s)))
    | .command =>
      let r := startCmd n s
      if r.2 then close r.1 else r.1

/-- Enough choices for everything that waits. -/
def chooseNext (n : Nat) (s : State) : State := choose n ((getPlace s n).unsolicited.length + qCount s (96 + n) + 2) s

/-- The work of a place's item is done: its boundary comes once the archive and the queues have accepted its writes
(R103, R106). `before` counts the pushes that waited before it. -/
def finishItem (n before : Nat) (s : State) : State :=
  let s := tagWaits n before s
  if waitsOf s n then setPlace n { getPlace s n with ended := true } s else chooseNext n (endWork n s)

/-- The last write that an item waited for has been accepted (R106). -/
def releaseItem (n : Nat) (s : State) : State :=
  if (getPlace s n).ended && !waitsOf s n then chooseNext n (endWork n s) else s

/-- Every place whose item has been waiting and waits no longer reaches its boundary. -/
def releaseItems (s : State) : State := (s.places.map (·.1)).foldl (fun t n => releaseItem n t) s

/-- Something for a place to do has come while it waits with no item in progress: it chooses at once (R103, R105). -/
def wakePlace (n : Nat) (s : State) : State :=
  if n < 104 && placeOn s n && (getPlace s n).item.isNone then chooseNext n s else s

/-! ### Port up (R110) -/

/-- The port comes up: queued commands run first, then fresh cycles start (R110). -/
def portUp (n : Nat) (s : State) : State :=
  let s := setF (fCLK_STAT_PORT_UP n) 1 s
  let s := setF (fCLK_STAT_DOWN_CAUSE n) 0 (setF (fCLK_STAT_HOLDING n) 0 (setF (fCLK_STAT_HOLD_EXPIRED n) 0 s))
  let s := causeOff (257 + 2 * n) s
  let c := qCount s (96 + n)
  let s := setPlace n { getPlace s n with holdUntil := none, upCmds := c, fresh := c != 0, failRun := 0 } s
  chooseNext n (if c = 0 then freshCycles n s else s)

/-- No condition of Table 4 holds, the engine runs and the steward has started the place. -/
def canComeUp (s : State) (n : Nat) : Bool :=
  !placeUp s n && (downConds s n).isEmpty && placeRuns s n && (getPlace s n).started && domOn s (10 + n / 26)

/-- Bindings that find their bus lost: CAN FD, I2C and DALI-2 (R136, R138, R140, R147). -/
def hasBusTest (s : State) (n : Nat) : Bool := [3, 5, 7].contains (placeType s n)

/-- PORT_DOWN (R108, R109): a condition begins; `busLost` says that the binding finds its bus lost. -/
def execPortDown (n : Nat) (busLost : Bool) (s : State) : Host.Outcome State Fault Refusal :=
  unit (n < 104) (when (placeOn s n) (fun s =>
    portTest n (if busLost && hasBusTest s n then setPlace n { getPlace s n with busLost := true } s else s)) s)

/-- PORT_UP (R110): the binding's bus test passes. -/
def execPortUp (n : Nat) (s : State) : Host.Outcome State Fault Refusal :=
  unit (n < 104) (when (placeOn s n) (fun s => 
    let s := setPlace n { getPlace s n with busLost := false } s
    if canComeUp s n then portUp n s else showCause n s) s)

/-- HOLD_TIMER_EXPIRY (R111). -/
def execHoldTimerExpiry (n : Nat) (s : State) : Host.Outcome State Fault Refusal :=
  unit (n < 104) (when (placeOn s n) (fun s => match (getPlace s n).holdUntil with
  | some t => if !placeUp s n && t ≤ s.clk then holdExpire n s else s
  | none => s) s)

/-! ### Polls (R104, R107, R134, R143, R148) -/

/-- SCAN_CYCLE_DUE (R104): a cycle starts at its due time. -/
def execScanCycleDue (n k : Nat) (s : State) : Host.Outcome State Fault Refusal :=
  unit (n < 104 && k < 8) (when (placeOn s n) (fun s =>
    let c := getCycle (getPlace s n) k
    match c.due with
    | some d =>
      if placeUp s n && !c.started && d ≤ s.clk && periodNs s n k != 0 then wakePlace n (startCycle n k d s) else s
    | none => s) s)

/-- Shadow engines of a place compare one transaction (R120, R121). -/
def shadowCompare (n : Nat) (differs : Bool) (s : State) : State :=
  (List.range 26).foldl (fun t i =>
    let e := 26 * (n / 26) + i
    if (getEngine t e).counting && getF t (fCLK_ENG_STAT_STATE e) = 3 && enginePlace t e = n then
      let t := incF (fCLK_ENG_SHADOW_COMPARED e) t
      if differs then raise (256 + 2 * e) (incF (fCLK_ENG_SHADOW_MISMATCH e) t) else t
    else t) s

/-- A place's write of a reading to a point (R51, R63). -/
def placeWrite (n time : Nat) (s : State) (v : Nat × Reading) : State := srcWrite n v.1 (readingEv s (catAt s v.1) v.2) time s

/-- A poll transaction completes or has failed: counters, the run of failures, the points left, and the end of the item
(R104, R121, R148). -/
def endPoll (n k : Nat) (pts : List Nat) (failed differs : Bool) (before : Nat) (s : State) : State :=
  let p := getPlace s n
  let run := if failed then p.failRun + 1 else 0
  let c := getCycle p k
  let s := setPlace n (setCycle k { c with left := c.left.filter (fun q => !pts.contains q) } { p with failRun := run }) s
  let s := if failed then countEv 8 (4 * n + 1) 1 (wrapF (fCLK_TXN_FAIL_TXN_FAIL n) s)
    else countEv 8 (4 * n) 1 (wrapF (fCLK_TXN_TXN n) s)
  let s := if run = 8 then raise (257 + 2 * n) s else s
  finishItem n before (shadowCompare n differs s)

/-- The ring time in us of a moment of the hub's own time not later than now. -/
def usAt (s : State) (t : Nat) : Nat := (s.ringNs + 2 ^ 64 - (s.clk - t)) % 2 ^ 64 / 1000 % 2 ^ 40

/-- COMMS_FAIL on every point of a transaction, stamped with the moment its last attempt was found failed (R107). -/
def pollFails (n k : Nat) (pts : List Nat) (differs : Bool) (time : Nat) (s : State) : State :=
  endPoll n k pts true differs s.swq.waits.length (pts.foldl (fun t p => srcWrite n p .comms time t) s)

/-- A CAN FD poll of receive points: a point that had a frame since its last poll is satisfied, the others have missed once
more, and take COMMS_FAIL after 1 + COUNT in a row (R134). -/
def canPoll (n k : Nat) (pts : List Nat) (differs : Bool) (s : State) : State :=
  let lim := 1 + getF s (fCLK_RETRY_COUNT n)
  let p := getPlace s n
  let miss := pts.filter (fun q => !p.canSeen.contains q)
  let bad := miss.filter (fun q => lim ≤ tget (fun _ => 0) p.canMiss q + 1)
  let p := { p with
    canSeen := p.canSeen.filter (fun q => !pts.contains q)
    canMiss := pts.foldl (fun m q =>
      tset (fun _ => 0) q (if miss.contains q && !bad.contains q then tget (fun _ => 0) m q + 1 else 0) m) p.canMiss }
  endPoll n k pts (!bad.isEmpty) differs s.swq.waits.length
    (bad.foldl (fun t q => srcWrite n q .comms (usNow t) t) (setPlace n p s))

/-- Attempts that a transaction or a command makes: 1 + COUNT, and on SDI-12 three after each of as many breaks
(R107, R143). -/
def attemptLimit (s : State) (n : Nat) : Nat :=
  (if placeType s n = 6 then 3 else 1) * (1 + getF s (fCLK_RETRY_COUNT n))

/-- The points that a place's item asks for. -/
def itemPoints (s : State) (n : Nat) : List Nat :=
  match (getPlace s n).item, headCmd s n with
  | some (.poll _ pts), _ => pts
  | some .command, some c => [cmdPoint c]
  | _, _ => []

/-- When the present attempt's response timeout runs out, counted from the end of its request: 16.7 ms on SDI-12, and
CLK_RETRY.TIMEOUT, 0 as 1, elsewhere (R107, R122, R128, R143). -/
def attemptEnds (s : State) (n : Nat) : Nat :=
  let objs := (itemPoints s n).map (fun p => catObject (catAt s p))
  (getPlace s n).attemptAt + Config.requestNs (placeType s n) (placeParams s n) objs +
    (if placeType s n = 6 then 16700000 else 100000 * max 1 (getF s (fCLK_RETRY_TIMEOUT n)))

/-- Another attempt begins. -/
def nextAttempt (n : Nat) (s : State) : State :=
  let p := getPlace s n
  let s := setPlace n { p with attempts := p.attempts + 1, attemptAt := s.clk } s
  match p.item, headCmd s n with
  | some (.poll _ pts), _ => sendPoll n pts s
  | some .command, some c => if p.confirming then s else sendCmd n c s
  | _, _ => s

/-- The last attempt at a command has failed: CONFIRM_LOST in its read-back, and otherwise the given cause (R117). -/
def cmdAttemptsOver (n cause : Nat) (s : State) : State :=
  finishItem n s.swq.waits.length (failCmd n (if (getPlace s n).confirming then cCONFIRM else cause) s)

/-- An attempt has failed: another one follows, or the transaction or command fails (R107, R117). -/
def attemptFails (n : Nat) (differs : Bool) (cause time : Nat) (s : State) : State :=
  let p := getPlace s n
  if p.attempts + 1 < attemptLimit s n then nextAttempt n s
  else
    match p.item with
    | some (.poll k pts) => pollFails n k pts differs time s
    | some .command => cmdAttemptsOver n cause s
    | _ => s

/-- The engine that serves a place meets an illegal microinstruction (R121). -/
def illegalStep (n : Nat) (s : State) : State :=
  match servingEngine s n with
  | some e => raise (256 + 2 * e) s
  | none => s

/-- A byte stream's counters as its points carry them (R126, R131). -/
def streamData (s : State) (n : Nat) (pts : List Nat) : List (Nat × Reading) :=
  pts.map (fun p => (p, .value ((tget (fun _ => 0) (getPlace s n).counts (catObject (catAt s p) % 4) : Nat) : Int)))

/-- A poll's response has come: its points are written with one timestamp, or its form makes the attempt corrupt
(R107, R148). -/
def pollAnswered (n k : Nat) (pts : List Nat) (differs : Bool) (vals : Option (List (Nat × Reading))) (s : State) : State :=
  match vals with
  | some l => endPoll n k pts false differs s.swq.waits.length (l.foldl (placeWrite n (usNow s)) s)
  | none => attemptFails n differs cTIMEOUT (usNow s) s

/-- What becomes of a poll transaction, by its binding (R107, R131, R134, R135, R142, R148). -/
def pollEnds (n k : Nat) (pts : List Nat) (differs : Bool) (r : PollEnd) (s : State) : State :=
  let typ := placeType s n
  if r = .illegal then illegalStep n s
  else if typ = 1 then pollAnswered n k pts differs (some (streamData s n pts)) s
  else if typ = 3 && !canTransmits s n (pts.headD 0) then canPoll n k pts differs s
  else
    match r with
    | .response d => pollAnswered n k pts differs (if typ = 3 then some [] else readData s n pts d) s
    | .corrupt => attemptFails n differs cTIMEOUT (usNow s) s
    | .silent =>
      if typ = 3 || typ = 5 then attemptFails n differs cTIMEOUT (usNow s) s
      else if typ != 4 && attemptEnds s n ≤ s.clk then attemptFails n differs cTIMEOUT (usAt s (attemptEnds s n)) s
      else s
    | .exception c =>
      if typ != 2 || c = 0 then s
      else if c ≤ 3 then pollFails n k pts differs (usNow s) s
      else if c = 4 then pollAnswered n k pts differs (some (pts.map (fun p => (p, .sensorFail)))) s
      else attemptFails n differs cTIMEOUT (usNow s) s
    | .announce sec =>
      let p := getPlace s n
      let ns := 1000000000 * (sec % 1000)
      if typ = 6 then setPlace n { p with announced := p.announced + ns, attemptAt := s.clk + ns } s else s
    | .illegal => s

/-- POLL_TRANSACTION (R107, R148): the present attempt of the poll transaction in progress ends. -/
def execPollTransaction (n : Nat) (r : PollEnd) (shadowDiffers : Bool) (s : State) : Host.Outcome State Fault Refusal :=
  unit (n < 104) (when (placeOn s n) (fun s =>
    let s := wakePlace n s
    match (getPlace s n).item with
    | some (.poll k pts) => if placeUp s n && placeRuns s n && !(getPlace s n).ended then pollEnds n k pts shadowDiffers r s else s
    | _ => s) s)

/-- ATTEMPT_TIMEOUT (R107): the present attempt's response timeout has run out, and it counts as silent. No attempt at a byte
stream, CAN FD or SPI transaction is timed. -/
def execAttemptTimeout (n : Nat) (s : State) : Host.Outcome State Fault Refusal :=
  unit (n < 104) (when (placeOn s n) (fun s =>
    let t := attemptEnds s n
    when (!(itemPoints s n).isEmpty && !(getPlace s n).ended && [2, 5, 6, 7].contains (placeType s n) && t ≤ s.clk)
      (attemptFails n false cTIMEOUT (usAt s t)) s) s)

/-- A unit of unsolicited input that a place's binding can have: a byte-stream frame holds at most 256 bytes (R131). -/
def unsolicitedOk (s : State) (n : Nat) (u : Unsolicited) : Bool :=
  match u with
  | .canFrame _ _ _ => placeType s n == 3
  | .daliEvent _ _ _ => placeType s n == 7
  | .uartFrame bytes => placeType s n == 1 && !bytes.isEmpty && decide (bytes.length ≤ 256)

/-- UNSOLICITED_INPUT (R103, R131, R134, R145): a unit arrives, stamped with the moment of its end, and is processed at an
item boundary. -/
def execUnsolicitedInput (n : Nat) (u : Unsolicited) (s : State) : Host.Outcome State Fault Refusal :=
  unit (n < 104) (when (placeOn s n) (fun s => when (placeUp s n && placeRuns s n && unsolicitedOk s n u) (fun s =>
    let p := getPlace s n
    wakePlace n (setPlace n { p with unsolicited := p.unsolicited ++ [(usNow s, u)] } s)) s) s)

/-- The frame at the front of a byte stream's queue is sent (R131). -/
def sendStream (n : Nat) (s : State) : State :=
  match frontQ s (streamQueue s n) with
  | some (_, x) =>
    (match x.body with
    | .words ws => countStream n 1 (dropFront (streamQueue s n) (emit (.bytes n (ws.map (fun w => w.toNat % 256))) s))
    | .frame _ => s)
  | none => s

/-- What a housekeeping step does, by its binding (R121, R131, R136). -/
def houseWork (n : Nat) (h : House) (s : State) : State :=
  match h with
  | .plain => s
  | .sendFrame => if placeType s n = 1 then sendStream n s else s
  | .charError => if placeType s n = 1 then countStream n 2 s else s
  | .overrun => if placeType s n = 1 then countStream n 3 s else s
  | .errorPassive => if placeType s n = 3 then setPlace n { getPlace s n with passive := (getPlace s n).passive + 1 } s else s
  | .illegal => illegalStep n s

/-- HOUSEKEEPING_STEP (R103): one housekeeping item, which ends at its own boundary. -/
def execHousekeepingStep (n : Nat) (h : House) (s : State) : Host.Outcome State Fault Refusal :=
  unit (n < 104) (when (placeOn s n) (fun s => when (placeUp s n && placeRuns s n && (getPlace s n).item.isNone) (fun s =>
    finishItem n s.swq.waits.length (houseWork n h (startItem n .housekeeping s))) s) s)

/-! ### Commands (R115 to R118, R146) -/

/-- A command confirmed with what the field device reports (R116). -/
def confirmCmd (n : Nat) (c : Cmd) (r : Reading) (s : State) : State :=
  let s := srcWrite n (cmdPoint c) (readingEv s (catAt s (cmdPoint c)) r) (usNow s) (cmdLeaves n s)
  wrapF (fCLK_CMD_DONE_CMD_DONE n) s

/-- The device accepts a write without giving its value: on CAN FD, and for a DALI-2 group or broadcast, that confirms it;
elsewhere the read-back begins (R116, R135, R146). -/
def cmdAccepted (n : Nat) (c : Cmd) (s : State) : State :=
  let cat := catAt s (cmdPoint c)
  let many := catDevice cat / 64 == 1 || catDevice cat / 64 == 2
  if placeType s n = 3 || (placeType s n = 7 && many) then
    finishItem n s.swq.waits.length (confirmCmd n c (.value (rawOf s cat c.value)) s)
  else setPlace n { getPlace s n with confirming := true, attempts := 0, attemptAt := s.clk } s

/-- The device gives the command's value: it is confirmed, or, read back as 0xFF on DALI-2, lost (R116, R146). -/
def cmdValue (n : Nat) (c : Cmd) (d : FieldData) (s : State) : State :=
  match readData s n [cmdPoint c] d with
  | some [(_, .sensorFail)] => finishItem n s.swq.waits.length (failReadback n s)
  | some [(_, r)] => finishItem n s.swq.waits.length (confirmCmd n c r s)
  | _ => attemptFails n false cTIMEOUT (usNow s) s

/-- What becomes of the command in progress (R116, R117, R146, R148). A refusal of the read-back loses the confirmation. -/
def cmdEnds (n : Nat) (c : Cmd) (r : CmdEnd) (s : State) : State :=
  let fails := fun cause => finishItem n s.swq.waits.length (failCmd n (if (getPlace s n).confirming then cCONFIRM else cause) s)
  match r with
  | .value d => cmdValue n c d s
  | .accepted => if (getPlace s n).confirming then s else cmdAccepted n c s
  | .corrupt => attemptFails n false cTIMEOUT (usNow s) s
  | .silent =>
    if placeType s n = 3 || placeType s n = 5 || attemptEnds s n ≤ s.clk then attemptFails n false cTIMEOUT (usNow s) s else s
  | .exception code =>
    if placeType s n != 2 || code = 0 then s
    else if code ≤ 4 then fails cREJECTED
    else attemptFails n false cREJECTED (usNow s) s
  | .rejected => fails cREJECTED
  | .cannotWrite => fails cUNSUPPORTED

/-- COMMAND_ITEM (R111, R115 to R118, R146): the command at the head of Q96 + n. -/
def execCommandItem (n : Nat) (r : CmdEnd) (s : State) : Host.Outcome State Fault Refusal :=
  unit (n < 104) (when (placeOn s n) (fun s =>
    if !placeUp s n then
      if flag s (fCLK_STAT_HOLD_EXPIRED n) then failCmd n cPORT_DOWN s else s
    else
      let s := wakePlace n s
      match (getPlace s n).item, headCmd s n with
      | some .command, some c => if placeRuns s n && !(getPlace s n).ended then cmdEnds n c r s else s
      | _, _ => s) s)

/-! ### Engine faults (R99, R121) -/

/-- An item's limit in ns (R121). -/
def itemLimit (s : State) (n : Nat) : Nat :=
  let objs := (itemPoints s n).map (fun p => catObject (catAt s p))
  let wire := Config.requestNs (placeType s n) (placeParams s n) objs + Config.responseNs (placeType s n) (placeParams s n) objs
  (1 + getF s (fCLK_RETRY_COUNT n)) * (100000 * max 1 (getF s (fCLK_RETRY_TIMEOUT n)) + wire) +
    (getPlace s n).announced + 100000000

/-- ITEM_LIMIT_EXPIRY (R121): the item of the place that the engine serves has passed its limit, waits under R106 not
counted. -/
def execItemLimitExpiry (e : Nat) (s : State) : Host.Outcome State Fault Refusal :=
  unit (e < 104) (when (placeOn s e) (fun s =>
    let n := enginePlace s e
    let p := getPlace s n
    when (servingEngine s n == some e && p.item.isSome && !p.ended && p.itemStart + itemLimit s n < s.clk)
      (raise (256 + 2 * e)) s) s)

/-- ENGINE_STORE_ERROR (R99); corrected errors wear the engine (R476). -/
def execEngineStoreError (e : Nat) (ecc : Ecc) (s : State) : Host.Outcome State Fault Refusal :=
  unit (e < 104) (when (placeOn s e) (fun s => match ecc with
  | .ok => s
  | .corrected =>
    let n := (getEngine s e).ceHour + 1
    wearStep 624 0 e (getF s fFLT_ATC_THR_ENG_CE) n (setEngine e { getEngine s e with ceHour := n } s)
  | .uncorrectable =>
    let n := enginePlace s e
    let s := if servingEngine s n = some e then leaveItem n s else s
    settlePairs (raise (256 + 2 * e) (engineHalt e (setF (fCLK_ENG_CTL_RUN e) 0 s)))) s)

/-! ### Engine and place registers (R91, R98) -/

/-- A write of CLK_ENG_CTL.RUN (R98). -/
def engRunWrite (e : Nat) (run : Bool) (s : State) : State :=
  let n := enginePlace s e
  if run then
    if !flag s (fCLK_ENG_STAT_CODE_VALID e) then setF (fCLK_STAT_CFG_REJECT n) 1 s
    else
      let s := setF (fCLK_ENG_CTL_RUN e) 1 (setEngine e { getEngine s e with halting := false } s)
      if getF s (fCLK_ENG_STAT_STATE e) = 1 then
        wakePlace n (setF (fCLK_ENG_STAT_STATE e) (if engRole s e = 2 || (getPlace s n).takeover = some e then 3 else 2) s)
      else s
  else
    let s := setF (fCLK_ENG_CTL_RUN e) 0 s
    if servingEngine s n = some e && (getPlace s n).item.isSome then setEngine e { getEngine s e with halting := true } s
    else engineHalt e s

/-- CLK_ENG_RUN (R98). -/
def execClkEngRun (by_ : Writer) (e : Nat) (run : Bool) (s : State) : Host.Outcome State Fault Refusal :=
  unit (e < 104) (guardWrite by_ (oCLK_ENG_CTL e) (engRunWrite e run) s)

/-- A write of CLK_ENG_BIND: it completes a load while the engine is HALTED (R98, R376). -/
def engBindWrite (e : Nat) (v : Word) (s : State) : State :=
  if storeOpen s e then setF (fCLK_ENG_STAT_CODE_VALID e) 1 (setReg (oCLK_ENG_BIND e) v s)
  else reject (oCLK_ENG_BIND e) s

/-- CLK_ENG_BIND_WRITE (R98), by the steward. -/
def execClkEngBindWrite (e : Nat) (v : Word) (s : State) : Host.Outcome State Fault Refusal :=
  unit (e < 104) (guardWrite .steward (oCLK_ENG_BIND e) (engBindWrite e v) s)

/-- A pin group of a place's cluster is attached to another place (R91). -/
def groupTaken (s : State) (n g : Nat) : Bool :=
  (List.range 26).any (fun i => 26 * (n / 26) + i != n && getF s (fCLK_PINSEL_GROUP (26 * (n / 26) + i)) == g)

/-- A place is attached to a pin group, or to none; a group taken by another place is refused (R91, R122). -/
def attachGroup (n g : Nat) (s : State) : State :=
  if (24 ≤ g && g != 31) || (g < 24 && groupTaken s n g) then setF (fCLK_STAT_CFG_REJECT n) 1 s
  else setF (fCLK_PINSEL_GROUP n) g s

/-- A write of CLK_PINSEL.GROUP (R91, R122, R376). -/
def pinselWrite (n g : Nat) (s : State) : State :=
  if placeRuns s n then setF (fCLK_STAT_CFG_REJECT n) 1 s else portTest n (attachGroup n (g % 32) s)

/-- CLK_PINSEL_WRITE (R91). -/
def execClkPinselWrite (by_ : Writer) (n : Nat) (g : Nat) (s : State) : Host.Outcome State Fault Refusal :=
  unit (n < 104) (guardWrite by_ (oCLK_PINSEL n) (pinselWrite n g) s)

/-! ### Hand-over and rebinding (R94, R100, R120) -/

/-- ENGINE_HANDOVER (R94, R120): at the lead class's due time the new engine takes the place, and the old becomes idle, or,
where the Attic replaces it, is fenced (R479). -/
def execEngineHandover (n : Nat) (s : State) : Host.Outcome State Fault Refusal :=
  unit (n < 104) (when (placeOn s n) (fun s =>
    match leadClass s n with
    | some k =>
      let c := getCycle (getPlace s n) k
      (match c.due with
      | some d => if !c.started && d ≤ s.clk then handOver n s else s
      | none => s)
    | none => s) s)

/-- The placement that the edition in force gives a place. -/
def placementOf (s : State) (n : Nat) : Option Placement :=
  match s.stw.inForce with
  | none => none
  | some e =>
    match e.places.find? (fun x => x.1 == n) with
    | some x => if x.2.typ = 0 then none else some x.2
    | none => none

/-- Words written into consecutive registers. -/
def writeRun (off : Nat) : List Word → State → State
  | [], s => s
  | w :: t, s => writeRun (off + 1) t (setReg off w s)

/-- The steward loads a binding into an engine: code, parameter block, replacement words, and CLK_ENG_BIND (R98). -/
def loadBinding (e : Nat) (pl : Placement) (s : State) : State :=
  let b := 0x10_0000 + e * 0x1000
  let s := match s.stw.library.find? (fun i => i.typ == pl.typ && i.major == pl.major && i.minor == pl.minor) with
    | some i => writeRun (b + 0x800) (i.code.take 2048) (writeRun (b + 0x200) (i.params.take 512) s)
    | none => s
  let s := pl.params.foldl (fun t w => if w.1 < 512 then setReg (b + 0x200 + w.1) w.2 t else t) s
  let s := setReg (b + 3) (wd (pl.typ % 256 + pl.major % 256 * 2 ^ 8 + 2 ^ 16 * (pl.minor % 256))) s
  setF (fCLK_ENG_STAT_CODE_VALID e) 1 s

/-- PLACE_REBIND (R100): at the item boundary after activation the serving engine halts; the place is down with REBINDING
and reloaded, or, where its binding is removed, left without a pin group with its commands failed. A place that is to take a
group another place still holds lets its own go, and takes it as the rebinding completes (R91). -/
def execPlaceRebind (n : Nat) (s : State) : Host.Outcome State Fault Refusal :=
  unit (n < 104) (when (placeOn s n) (fun s =>
    let p := getPlace s n
    if p.item.isSome then s
    else if p.removing then
      let s := setF (fCLK_PINSEL_GROUP n) 0x1F (setPlace n { p with removing := false, rebindDue := false } s)
      let s := match servingEngine s n with
        | some e => unserve n (engineIdle e s)
        | none => s
      failAllCmds n cREASSIGNED (qCount s (96 + n)) (portTest n s)
    else if p.rebindDue then
      let s := setPlace n { p with rebindDue := false, rebinding := true } s
      let s := match servingEngine s n with
        | some e =>
          let s := engineHalt e (setF (fCLK_ENG_CTL_RUN e) 0 s)
          (match placementOf s n with
          | some pl =>
            applyOwed (setF (fCLK_PINSEL_GROUP n) (if groupTaken s n pl.group then 0x1F else pl.group) (loadBinding e pl s))
          | none => applyOwed s)
        | none => s
      portTest n s
    else s) s)

/-- REBIND_COMPLETE (R100): the reloaded place is started, and up unless its bus is found lost. -/
def execRebindComplete (n : Nat) (busLost : Bool) (s : State) : Host.Outcome State Fault Refusal :=
  unit (n < 104) (when (placeOn s n) (fun s => when (getPlace s n).rebinding (fun s =>
    let s := match placementOf s n with
      | some pl => if getF s (fCLK_PINSEL_GROUP n) = pl.group then s else attachGroup n pl.group s
      | none => s
    let s := setPlace n { getPlace s n with rebinding := false, busLost := busLost && hasBusTest s n } s
    let s := match servingEngine s n with
      | some e => if standbyPlace s n then s else engRunWrite e true s
      | none => s
    if canComeUp s n then portUp n s else portTest n s) s) s)

/-- I2C_BUS_TEST (R140): SDA as the binding would send START, after 9 clocks, and after RST_N; the port goes down with
BUS_LOST where it is low at each, and comes up where it is not. -/
def execI2cBusTest (n : Nat) (low0 low1 low2 : Bool) (s : State) : Host.Outcome State Fault Refusal :=
  unit (n < 104) (when (placeOn s n) (fun s => when (placeType s n = 5 && placeRuns s n && (getPlace s n).i2cDue ≤ s.clk) (fun s =>
    let p := getPlace s n
    if low0 && low1 && low2 then
      portTest n (setPlace n { p with busLost := true, i2cDue := s.clk + 100000000 } s)
    else
      let s := setPlace n { p with busLost := false, i2cDue := 0 } s
      if canComeUp s n then portUp n s else showCause n s) s) s)

end Sys2Proof.Machine
end

