-- ==== Sys2Proof/Machine/Dio.lean ====
section
/-! DEFINITION. Discrete lines: modes, refresh, output commands, the watchdog and spare lines (04, R149 to R163; R548).
A line's function is kept under its own number; while a spare stands in, the spare's pin carries it (R162). -/

namespace Sys2Proof.Machine

/-! ### Lines and pins -/

/-- The function that a pin carries: its own, a replaced line's, or none (R162). -/
def pinLine (s : State) (pin : Nat) : Option Nat :=
  match s.dio.standins.find? (fun x => 256 + x.1 == pin) with
  | some x => some x.2
  | none => if s.dio.standins.any (fun x => x.2 == pin) then none else some pin

/-- The pin that carries a line's function. -/
def linePin (s : State) (n : Nat) : Nat :=
  match s.dio.standins.find? (fun x => x.2 == n) with
  | some x => 256 + x.1
  | none => n

/-- A spare line whose own configuration is not in force, for its pin stands in for another line (R162). -/
def displaced (s : State) (n : Nat) : Bool := 256 ≤ n && s.dio.standins.any (fun x => 256 + x.1 == n)

/-- The sampled level of a pin, before INV (Table 9). -/
def pinLevel (s : State) (pin : Nat) : Bool := getF s ⟨oDIO_IN (pin / 24), pin % 24, 1⟩ == 1

/-- Domain FPc of a line's cluster (R149, R438). -/
def fpDomain (c : Nat) : Nat := 10 + c

def lineOn (s : State) (n : Nat) : Bool := domOn s (fpDomain (lineCluster n))

/-- A cluster's discrete function is fenced. -/
def dioFenced (s : State) (c : Nat) : Bool := getF s ⟨oDIO_STATUS, 6 + c, 1⟩ == 1

def lineMode (s : State) (n : Nat) : Nat := getF s (fDIO_LCFG_MODE n)
def linePar (s : State) (n : Nat) : Nat := getF s (fDIO_LPAR_VALUE n)
def lineInv (s : State) (n : Nat) : Bool := flag s (fDIO_LCFG_INV n)
def isOutput (s : State) (n : Nat) : Bool := lineMode s n == 6 || lineMode s n == 7

/-- A drive as the pin carries it, with INV (R153). -/
def invDrive (inv : Bool) : Drive → Drive
  | .low => if inv then .high else .low
  | .high => if inv then .low else .high
  | .pwm h per => .pwm (if inv then per - h else h) per
  | .highZ => .highZ

/-- What an output line drives: its SAFE state, or what its command drives, which SAFE hold keeps (R160, R548). -/
def lineDrive (s : State) (n : Nat) : Drive :=
  let l := getLine s n
  let k := getF s (fDIO_LCFG_SAFE n)
  if l.safe && k = 0 then .low else if l.safe && k = 1 then .high else if l.safe && k = 3 then .highZ
  else invDrive (lineInv s n) l.drive

/-- What a pin is driven to: high-impedance in mode 0, in a domain that is not on, when another pin carries its line's
function, and where the twin's output stage is not enabled (R159, R162, R486). -/
def pinDrive (s : State) (pin : Nat) : Drive :=
  match pinLine s pin with
  | none => .highZ
  | some n => if lineOn s n && isOutput s n && (!sharedLine s n || stagesOn s) then lineDrive s n else .highZ

/-- A level as the command drives it. -/
def levelDrive (lv : Bool) : Drive := if lv then .high else .low

/-- A duty as the command drives it: high for ⌊duty × period ÷ 65,535⌋ sample steps (R156). -/
def dutyDrive (per duty : Nat) : Drive :=
  if duty = 0 then .low else if duty = 65535 then .high else .pwm (duty * per / 65535) per

/-- The points of a line and quantity (R151). -/
def dioPoints (s : State) (n q : Nat) : List Nat :=
  pointsWhere s (fun c => catSource c == 0x71 && catDevice c == 0 && catObject c == n + 512 * q)

/-- The discrete block writes a line's points. -/
def dioWrite (n q : Nat) (v : Int) (s : State) : State :=
  (dioPoints s n q).foldl (fun t p => srcWrite 0x71 p (scaleEv t (catAt t p) v) (usNow t) t) s

/-- The write of a period that exceeds 24 bits (R154). -/
def dioOverflow (n : Nat) (s : State) : State :=
  (dioPoints s n 2).foldl (fun t p => srcWrite 0x71 p (.range 0xFFFFFF) (usNow t) t) s

/-! ### Configuration (R152, R153, R548) -/

/-- A reserved mode, or a parameter outside Table 4's range. -/
def badPair (mode par : Nat) : Bool :=
  8 ≤ mode || (mode == 2 && (par == 0 || 100000 < par)) || (mode == 4 && 16 ≤ par) || (mode == 6 && 65536 ≤ par) ||
  (mode == 7 && par < 1250)

/-- Whether EDGE selects an edge to a level, as it is after INV. -/
def edgeSelected (s : State) (n : Nat) (lv : Bool) : Bool :=
  let e := getF s (fDIO_LCFG_EDGE n)
  e == 2 || (e == 0 && lv) || (e == 1 && !lv)

/-- The shortest pulse that mode 3 accepts, in ns; VALUE 0 means 500 (R152). -/
def shortestPulse (s : State) (n : Nat) : Nat := 8 * (if linePar s n = 0 then 500 else linePar s n)

/-- In mode 3 a new level counts once the pin has held it for the shortest accepted pulse (R153). -/
def countFilter (n : Nat) (s : State) : State :=
  let l := getLine s n
  let lv := pinLevel s (linePin s n)
  match l.lastEdge with
  | some t =>
    if lineMode s n = 3 && lv != l.level && t + shortestPulse s n ≤ s.clk then
      setLine n { l with
        level := lv, count := if edgeSelected s n (lv != lineInv s n) then (l.count + 1) % 2 ^ 24 else l.count } s
    else s
  | none => s

/-- A mode and parameter are applied to a line; entering mode 6 or 7 from another mode follows R548. -/
def enterMode (n mode par : Nat) (s : State) : State :=
  let s := countFilter n s
  let old := lineMode s n
  let s := setF (fDIO_LPAR_VALUE n) par (setF (fDIO_LCFG_MODE n) mode s)
  if mode = old then s
  else
    let l := getLine s n
    let l := { l with level := pinLevel s (linePin s n), since := s.clk, lastEdge := none, period := none,
                      periodWritten := 0, deadUntil := 0, drive := .highZ, confirmed := false, pwmPer := 0, pwmAt := 0 }
    setLine n { l with safe := mode == 6 || mode == 7 } s

/-- A MODE and VALUE pair is applied, or ignored as a whole (R152). -/
def applyLine (n mode par : Nat) (s : State) : State :=
  if badPair mode par then setF fDIO_STATUS_CFG_REJECT 1 s else enterMode n mode par s

/-- A line is not at an item boundary: a command is applying or settling on it (R158, R164). -/
def lineBusy (s : State) (n : Nat) : Bool := !(getLine s n).cmds.isEmpty

/-- A line's function has come to another pin: its level is that pin's, written in mode 1; what mode 4 or 5 counts is no
edge, and modes 2 and 3 take the level as a new one (R162; log 219). -/
def resample (n : Nat) (s : State) : State :=
  let l := getLine s n
  let lv := pinLevel s (linePin s n)
  if lv = l.level then s
  else if lineMode s n = 1 then dioWrite n 0 (bit (lv != lineInv s n)) (setLine n { l with level := lv } s)
  else if lineMode s n = 2 || lineMode s n = 3 then setLine n { l with lastEdge := some s.clk } s
  else setLine n { l with level := lv } s

/-- A spare may not stand in for a line: outside its cluster, itself (log 219), or one that another spare replaces (R162). -/
def badSpare (s : State) (k line : Nat) : Bool :=
  272 ≤ line || lineCluster line != k / 4 || line == 256 + k ||
    s.dio.standins.any (fun x => x.1 != k && x.2 == line)

/-- A spare's LINE and EN, applied together between two samples (R162): a bad LINE is ignored, and with EN = 1 the pair with
it. -/
def applySpare (k line : Nat) (en : Bool) (s : State) : State :=
  let back := s.dio.standins.filter (fun x => x.1 != k)
  let was := (s.dio.standins.filter (fun x => x.1 == k)).map (·.2)
  let bad := badSpare s k line && line != getF s (fDIO_SPARE_LINE k)
  let s := if bad || (en && badSpare s k line) then setF fDIO_STATUS_CFG_REJECT 1 s else s
  if en && badSpare s k line then s
  else
    let s := if bad then s else setF (fDIO_SPARE_LINE k) line s
    let s := setF (fDIO_SPARE_EN k) (bit en) { s with dio := { s.dio with standins := if en then back ++ [(k, line)] else back } }
    (was ++ (if en then [line] else [256 + k])).foldl (fun t n => resample n t) s

/-- A pair held for a line's item boundary belongs to the line. -/
def readyOf (n : Nat) (h : PairHold) : Bool :=
  h.offA == oDIO_LCFG n || (0x3_0010 ≤ h.offA && h.offA < 0x3_0020 && h.valA % 512 == n)

/-- Live fields of a line take effect: what counted under the old ones is counted first, and in mode 1 a change of INV is a
change of the level (R153). -/
def applyLineLive (n mask v : Nat) (s : State) : State :=
  let s := countFilter n s
  let old := lineInv s n
  let s := writeBits (oDIO_LCFG n) mask v s
  if lineMode s n = 1 && lineInv s n != old then dioWrite n 0 (bit ((getLine s n).level != lineInv s n)) s else s

/-- Live writes and pairs held for a line's item boundary are applied (R12, R377). -/
def lineBoundary (n : Nat) (s : State) : State :=
  let live := (getLine s n).live
  let s := live.foldl (fun t h => applyLineLive n h.1 h.2 t) (setLine n { getLine s n with live := [] } s)
  let mine := s.ready.filter (readyOf n)
  let s := { s with ready := s.ready.filter (fun h => !readyOf n h) }
  mine.foldl (fun t h =>
    if h.offA = oDIO_LCFG n then applyLine n (h.valA % 16) h.valB t
    else applySpare (h.offA - 0x3_0010) (h.valA % 512) (h.valA / 512 % 2 == 1) t) s

/-- A complete MODE and VALUE pair: at once, or at the line's item boundary (R152, R377). -/
def linePairWrite (n mode par : Nat) (s : State) : State :=
  if lineBusy s n then
    { s with ready := s.ready ++ [⟨oDIO_LCFG n, oDIO_LPAR n, 0xF, mode, 0xFFFFFF, par, s.clk⟩] }
  else applyLine n mode par s

/-- A write of a spare's register: LINE and EN at once, or at the line's item boundary (R162, R377). -/
def spareWrite (k : Nat) (v : Word) (s : State) : State :=
  let line := bitsOf v.toNat 0 9
  if lineBusy s line then { s with ready := s.ready ++ [⟨oDIO_SPARE k, oDIO_SPARE k, 0x3FF, v.toNat, 0, 0, s.clk⟩] }
  else applySpare k line (bitsOf v.toNat 9 1 == 1) s

/-- A write of the Live fields of DIO_LCFGn, at once or at the line's item boundary; EDGE = 0b11 is ignored with CFG_REJECT
(R12, R153). -/
def lineLive (n : Nat) (v : Word) (s : State) : State :=
  let bad := bitsOf v.toNat 4 2 == 3
  let mask := if bad then 0x1C0 else 0x1F0
  let s := if bad then setF fDIO_STATUS_CFG_REJECT 1 s else s
  if lineBusy s n then setLine n { getLine s n with live := (getLine s n).live ++ [(mask, v.toNat)] } s
  else applyLineLive n mask v.toNat s

/-- An output line's level or duty is set from W0 of its output point (R452, R489). -/
def driveFromPoint (n : Nat) (s : State) : State :=
  match dioPoints s n (if lineMode s n = 7 then 5 else 4) with
  | p :: _ =>
    let s := touchPt p .ok s
    let raw := (rawOf s (catAt s p) (getPt s p).w0).toNat
    let l := getLine s n
    if lineMode s n = 6 then
      setLine n { l with cmdVal := bit (raw != 0), drive := levelDrive (raw != 0), safe := false, confirmed := true } s
    else if lineMode s n = 7 then
      setLine n { l with
        cmdVal := min raw 65535, drive := dutyDrive (linePar s n) (min raw 65535), safe := false, confirmed := true,
        pwmPer := linePar s n, pwmAt := s.clk } s
    else s
  | [] => s

/-- A line that the edition load configured is started (R545). -/
def startLine (n : Nat) (s : State) : State :=
  let l := getLine s n
  match l.cfg with
  | some (m, p) => enterMode n m p (setLine n { l with cfg := none } s)
  | none => s

/-! ### Edges (R152 to R155) -/

/-- The event item of an edge: taken by Q200 + c, held in the cluster's 64-item buffer, or lost (R155). -/
def edgeItem (n : Nat) (lv : Bool) (s : State) : State :=
  let c := lineCluster n
  let q := 200 + c
  if 64 ≤ (s.swq.waits.filter (fun w => w.qs == [q])).length then
    let s := { s with dio := { s.dio with lost := insSet c s.dio.lost } }
    raise (468 + c) (setF ⟨oDIO_STATUS, 2 + c, 1⟩ 1 s)
  else
    let w0 := wd (n % 512 + bit lv * 2 ^ 9 + bit (s.dio.lost.contains c) * 2 ^ 10)
    let ws := w0 :: [wd s.ringNs, wd (s.ringNs / 2 ^ 24), wd (s.ringNs / 2 ^ 48 % 2 ^ 16)]
    pushWords q ws { s with dio := { s.dio with lost := delSet c s.dio.lost } }

/-- A period in the units of mode 4's scale (Table 4). -/
def periodUnits (s : State) (n ns : Nat) : Nat := ns / (8 * 2 ^ (linePar s n % 16))

/-- An edge of mode 4 completes a period (Table 4, R154). -/
def periodEdge (n : Nat) (l : Line) (s : State) : State :=
  match l.lastEdge with
  | none => setLine n { l with lastEdge := some s.clk } s
  | some t =>
    let u := periodUnits s n (s.clk - t)
    let l := { l with lastEdge := some s.clk, period := some u }
    if l.periodWritten + 1000000 ≤ s.clk ∨ l.periodWritten = 0 then
      let s := setLine n { l with periodWritten := s.clk } s
      if u < 2 ^ 24 then dioWrite n 2 u s else dioOverflow n s
    else setLine n l s

/-- A change of the sampled level of a line that works, by its mode; modes 2 and 3 wait for it to last (R152, R153). -/
def edgeByMode (n : Nat) (raw : Bool) (s : State) : State :=
  let l := getLine s n
  let m := lineMode s n
  let lv := raw != lineInv s n
  let sel := edgeSelected s n lv
  if m = 1 then dioWrite n 0 (bit lv) (setLine n { l with level := raw } s)
  else if m = 2 ∨ m = 3 then setLine n { l with lastEdge := some s.clk } s
  else if m = 4 then (if sel then periodEdge n { l with level := raw } s else setLine n { l with level := raw } s)
  else if m = 5 then
    if sel && l.deadUntil ≤ s.clk then
      let s := setLine n { l with level := raw, count := (l.count + 1) % 2 ^ 24, deadUntil := s.clk + 8 * linePar s n } s
      edgeItem n lv s
    else setLine n { l with level := raw } s
  else setLine n { l with level := raw } s

/-- DISCRETE_EDGE (R153 to R155): the sampled level of a pin has changed; in mode 3 the level before it counts first where it
has lasted. A fenced cluster writes no point (R468). -/
def execDiscreteEdge (line : Nat) (level : Bool) (s : State) : Host.Outcome State Fault Refusal :=
  unit (line < 272) (
    if !lineOn s line || pinLevel s line = level then s
    else
      let s := match pinLine s line with
        | some n => countFilter n s
        | none => s
      let s := setF ⟨oDIO_IN (line / 24), line % 24, 1⟩ (bit level) s
      match pinLine s line with
      | none => s
      | some n => if dioFenced s (lineCluster n) then s else edgeByMode n level s)

/-- DEBOUNCE_STABLE (R152): a mode 2 pin has held a new level for the stable time. -/
def execDebounceStable (line : Nat) (level : Bool) (s : State) : Host.Outcome State Fault Refusal :=
  unit (line < 272) (
    match pinLine s line with
    | none => s
    | some n =>
      let l := getLine s n
      let held := match l.lastEdge with
        | some t => t + 10000 * linePar s n ≤ s.clk
        | none => false
      if lineOn s n && lineMode s n == 2 && pinLevel s line == level && held && level != l.level &&
          !dioFenced s (lineCluster n) then
        dioWrite n 0 (bit (level != lineInv s n)) (setLine n { l with level := level } s)
      else s)

/-! ### Refresh (R154, R158) -/

/-- A line's refresh by its mode. -/
def refreshLine (differ : List Nat) (s : State) (n : Nat) : State :=
  let s := countFilter n s
  let l := getLine s n
  let m := lineMode s n
  if m = 0 || displaced s n || !lineOn s n || dioFenced s (lineCluster n) then s
  else if m = 1 ∨ m = 2 then dioWrite n 0 (bit (l.level != lineInv s n)) s
  else if m = 3 then dioWrite n 1 l.count s
  else if m = 5 then dioWrite n 3 l.count s
  else if m = 4 then
    if 2 ^ 24 ≤ periodUnits s n (s.clk - l.lastEdge.getD l.since) then dioOverflow n s
    else
      match l.period with
      | some u => if u < 2 ^ 24 then dioWrite n 2 u s else dioOverflow n s
      | none => s
  else if m = 6 && linePar s n != 0 && !lineBusy s n && !l.safe then
    if differ.contains n then
      let s := raise (464 + lineCluster n) s
      { s with dio := { s.dio with differ := insSet n s.dio.differ } }
    else if l.confirmed then dioWrite n 4 l.cmdVal s else s
  else s

/-- DIO_REFRESH (R154, R158): `differ` are the lines whose pin, read back, differs from the commanded level. -/
def execDioRefresh (differ : List Nat) (s : State) : Host.Outcome State Fault Refusal :=
  .next (
    if s.dio.refreshDue ≤ s.clk then
      let per := 1000000 * max 1 (getF s fDIO_CTL_REFRESH)
      let s := { s with dio := { s.dio with refreshDue := s.clk + per, differ := [] } }
      (List.range 272).foldl (refreshLine differ) s
    else s)

/-! ### Output commands (R157) -/

/-- The first ground on which a command to a line fails at once (R157); a line in an input mode has no output to write. -/
def lineCause (s : State) (n : Nat) : Option Nat :=
  if lineMode s n = 0 || displaced s n || !lineOn s n || dioFenced s (lineCluster n) || (sharedLine s n && twinRole s == 2) then
    some cPORT_DOWN
  else if !isOutput s n then some cUNSUPPORTED
  else if s.dio.wdogCause then some cPORT_DOWN
  else none

/-- The command at the head leaves a line. -/
def popCmd (n : Nat) (s : State) : State :=
  let l := getLine s n
  setLine n { l with cmds := l.cmds.tail, settling := false } s

/-- A command to a line fails: report and deferred-failure event (R118). -/
def failLineCmd (n : Nat) (c : Cmd) (cause : Nat) (s : State) : State :=
  lineBoundary n (writeFailed (c.handle % 2 ^ 20) (report c.node c.tag c.handle cause (popCmd n s)))

/-- A command to a line is confirmed: its point is written as a good value (R157). -/
def confirmLineCmd (n : Nat) (c : Cmd) (s : State) : State :=
  let s := popCmd n s
  let l := getLine s n
  let s := setLine n { l with confirmed := true } s
  let p := c.handle % 2 ^ 20
  lineBoundary n (srcWrite 0x71 p (scaleEv s (catAt s p) l.cmdVal) (usNow s) s)

/-- A write that has passed R70 enters a line's command path (R157). -/
def enterLineCmd (n : Nat) (c : Cmd) (s : State) : State :=
  match lineCause s n with
  | some cause => writeFailed (c.handle % 2 ^ 20) (report c.node c.tag c.handle cause s)
  | none =>
    let l := getLine s n
    setLine n { l with cmds := l.cmds ++ [c] } s

/-- DIO_COMMAND (R157): the command at the head of a line's path is applied to the pin, or fails at once. -/
def execDioCommand (line : Nat) (s : State) : Host.Outcome State Fault Refusal :=
  unit (line < 272) (
    let l := getLine s line
    match l.cmds with
    | [] => s
    | c :: _ =>
      if l.settling then s
      else
        match lineCause s line with
        | some cause => failLineCmd line c cause s
        | none =>
          let raw := (rawOf s (catAt s (c.handle % 2 ^ 20)) c.value).toNat
          if lineMode s line = 7 then
            setLine line { l with cmdVal := min raw 65535, settling := true } s
          else
            let l := { l with cmdVal := bit (raw != 0), drive := levelDrive (raw != 0), safe := false }
            if linePar s line = 0 then confirmLineCmd line c (setLine line l s)
            else setLine line { l with settling := true, settleAt := s.clk + 1000 * linePar s line } s)

/-- DIO_READBACK (R157): after the settle time the pin is read back. -/
def execDioReadback (line : Nat) (pin : Bool) (s : State) : Host.Outcome State Fault Refusal :=
  unit (line < 272) (
    let l := getLine s line
    match l.cmds with
    | [] => s
    | c :: _ =>
      if l.settling && lineMode s line == 6 && l.settleAt ≤ s.clk then
        if bit (pin != lineInv s line) = l.cmdVal then confirmLineCmd line c s else failLineCmd line c cREJECTED s
      else s)

/-- PWM_PERIOD_BOUNDARY (R156, R157): at the end of the period in force the commanded duty, or a new period, takes effect, and
a mode 7 command that has been applied is confirmed. -/
def execPwmPeriodBoundary (line : Nat) (s : State) : Host.Outcome State Fault Refusal :=
  unit (line < 272) (
    let l := getLine s line
    if lineMode s line = 7 && lineOn s line && l.pwmAt + 8 * l.pwmPer ≤ s.clk && (!l.safe || l.settling) then
      let per := linePar s line
      let s := setLine line { l with drive := dutyDrive per l.cmdVal, safe := false, pwmPer := per, pwmAt := s.clk } s
      match l.cmds with
      | c :: _ => if l.settling then confirmLineCmd line c s else s
      | [] => s
    else s)

/-! ### Safe states (R160, R468) -/

/-- Every command of a line fails, oldest first. -/
def failLineCmds (n cause : Nat) : Nat → State → State
  | 0, s => s
  | k + 1, s =>
    match (getLine s n).cmds with
    | c :: _ => failLineCmds n cause k (failLineCmd n c cause s)
    | [] => s

/-- An output line takes its safe state; a command applying or settling on it fails, as every command to it then does (R157,
R161; log 220). -/
def takeSafe (n : Nat) (s : State) : State :=
  failLineCmds n cPORT_DOWN (getLine s n).cmds.length (setLine n { getLine s n with safe := true } s)

/-- Every output line of the lines that satisfy a test takes its safe state. -/
def safeLines (f : Nat → Bool) (s : State) : State :=
  (List.range 272).foldl (fun t n => if f n && isOutput t n then takeSafe n t else t) s

/-- The Registrar fences a cluster's discrete function (R160, R467). -/
def fenceDio (c : Nat) (s : State) : State :=
  safeLines (fun n => lineCluster n == c) (setF ⟨oDIO_STATUS, 6 + c, 1⟩ 1 s)

/-! ### The output watchdog (R161) -/

/-- A write of DIO_WDOG: KICK = 1 restarts the watchdog; KICK = 1 or TIME = 0 ends its cause. -/
def wdogWrite (v : Word) (s : State) : State :=
  let off := getF s fDIO_WDOG_TIME == 0
  let t := bitsOf v.toNat 0 12
  let kick := bitsOf v.toNat 12 1 == 1
  let s := setF fDIO_WDOG_TIME t s
  let s := if kick || off then { s with dio := { s.dio with wdogAt := s.clk } } else s
  if kick || t == 0 then causeOff 472 { s with dio := { s.dio with wdogCause := false } } else s

/-- DIO_WDOG_KICK (R161): the steward writes none while it is stopped or halted. -/
def execDioWdogKick (by_ : Writer) (v : Word) (s : State) : Host.Outcome State Fault Refusal :=
  .next (when (by_ != .steward || stwRuns s) (guardWrite by_ oDIO_WDOG (wdogWrite v)) s)

/-- DIO_WDOG_EXPIRY (R161). -/
def execDioWdogExpiry (s : State) : Host.Outcome State Fault Refusal :=
  .next (
    let t := getF s fDIO_WDOG_TIME
    if t != 0 && !s.dio.wdogCause && s.dio.wdogAt + 10000000 * t ≤ s.clk then
      let s := causeOn 472 (setF fDIO_STATUS_WDOG_EXPIRED 1 { s with dio := { s.dio with wdogCause := true } })
      safeLines (fun _ => true) s
    else s)

/-! ### Configuration commands -/

/-- DIO_LINE_CONFIG (R152): the two registers of a line's pair are written together. -/
def execDioLineConfig (by_ : Writer) (line : Nat) (cfg par : Word) (s : State) : Host.Outcome State Fault Refusal :=
  unit (line < 272)
    (guardWrite by_ (oDIO_LCFG line) (fun s => linePairWrite line (cfg.toNat % 16) par.toNat (lineLive line cfg s)) s)

/-- DIO_SPARE_STANDIN (R162). -/
def execDioSpareStandin (by_ : Writer) (k : Nat) (line : Nat) (s : State) : Host.Outcome State Fault Refusal :=
  unit (k < 16) (guardWrite by_ (oDIO_SPARE k) (spareWrite k (wd (line % 512 + 512))) s)

/-- DIO_SPARE_RETURN (R162): EN = 0, with LINE as it stands. -/
def execDioSpareReturn (by_ : Writer) (k : Nat) (s : State) : Host.Outcome State Fault Refusal :=
  unit (k < 16) (guardWrite by_ (oDIO_SPARE k) (fun s => spareWrite k (wd (getF s (fDIO_SPARE_LINE k))) s) s)

end Sys2Proof.Machine
end

