-- ==== Sys2Proof/Machine/Commands.lean ====
section
/-! DEFINITION. How a value comes into the command path of a point's source: from a host or fabric write (R113, R157), and from
a force (R64). -/

namespace Sys2Proof.Machine

/-- A value for a command-route point enters its source's command path; while the place's cluster does not run, or the place
stands by in a twin, it fails at once (R113, R157, R440, R486), and a place that waits takes it at once (R105). A route
without a source for it, which R53 keeps out of an edition, fails as unsupported. -/
def sendCommand (p : Nat) (c : Cmd) (s : State) : State :=
  let n := catSource (catAt s p)
  if n < 104 then
    (if !placeOn s n || standbyPlace s n then failWrite p c.node c.tag cPORT_DOWN s
    else wakePlace n (pushWords (96 + n) (cmdWords c) s))
  else if n = 0x71 then enterLineCmd (catObject (catAt s p) % 512) c s
  else failWrite p c.node c.tag cUNSUPPORTED s

/-- A command-route write of a host or fabric initiator. -/
def commandWrite (p node tag : Nat) (host : Bool) (v : Word) (s : State) : State :=
  sendCommand p ⟨handleOf (nodeId s) p, v, node, tag, host, false⟩ s

/-- The forced value of a command-route point goes to its source as a command, in the same way as a host write: outside the
range of the point's scaling table it fails (R64, R70). The spec names no initiator for it: the hub's own node and tag 0
stand in its item, so that a failure is reported to Q80 (log 218). -/
def forceCommand (p : Nat) (v : Word) (s : State) : State :=
  let c := catAt s p
  if catRoute c != 1 then s
  else if (scaleBack (scaleTab s (catScale c)) (wordInt (catType c) v)).isNone then failWrite p (nodeId s) 0 cRANGE s
  else sendCommand p ⟨handleOf (nodeId s) p, v, nodeId s, 0, false, true⟩ s

end Sys2Proof.Machine
end

