-- ==== Sys2Proof/Machine/Field.lean ====
section
/-! DEFINITION. The start of field service, at the first LOCKED or 10 s after the Archivist's start (R545, R546). -/

namespace Sys2Proof.Machine

/-- A channel that the edition load enabled is started. -/
def startChan (n : Nat) (s : State) : State := excludeChan n 0 (freshWindow n (setF (fANA_CHCFG_EN n) 1 s))

/-- A bound place is started: its serving engine runs, but for a standby twin's shared place (R486, R545). -/
def startPlace (n : Nat) (s : State) : State :=
  let s := setPlace n { getPlace s n with started := true } s
  match servingEngine s n with
  | some e => if (placementOf s n).isNone || standbyPlace s n then s else engRunWrite e true s
  | none => s

/-- The steward starts places, discrete lines and analog channels (R545). -/
def startField (s : State) : State :=
  if s.boot.fieldStarted then s
  else
    let s := { s with boot := { s.boot with fieldStarted := true } }
    let s := (List.range 104).foldl (fun t n => startPlace n t) s
    let s := (s.dio.lines.map (·.1)).foldl (fun t n => startLine n t) s
    let s := s.ana.enWait.foldl (fun t n => startChan n t) s
    { s with ana := { s.ana with enWait := [] } }

/-- The first LOCKED: class 0 may be originated, STAGE reaches SERVING on a numbered hub, and field service starts
(R543, R545, R546). -/
def firstLock (s : State) : State :=
  if s.rtime.everLocked then s
  else
    let s := { s with rtime := { s.rtime with everLocked := true } }
    let s := if numbered s then setF fGLB_BOOT_STAGE 8 s else s
    if s.boot.startedAt.isSome then startField s else s

end Sys2Proof.Machine
end

