-- ==== Sys2Proof/Machine/Session.lean ====
section
/-! DEFINITION. The desks' words, sessions and doorbells (R382 to R389), the words of a staging transfer (R395), and the
notification of desk 1 (R350). -/

namespace Sys2Proof.Machine

/-- Words paired with rising indices. -/
def indexed (i : Nat) : List Word → List (Nat × Word)
  | [] => []
  | w :: t => (i, w) :: indexed (i + 1) t

/-- Image words from an offset on reach the staging transfer, within its length (R395). -/
def stageWords (g : Staging) (off : Nat) (ws : List Word) : Staging :=
  (indexed off ws).foldl (fun g e =>
    if e.1 < (g.length + 2) / 3 then { g with words := tset (fun _ => 0) e.1 e.2 g.words } else g) g

/-! ### Sessions (Table 4 of chapter 11) -/

/-- A session opens on a desk, with the next session number of 16 bits: no number returns until 65,535 others have been
issued (R388). -/
def openSession (d node rights : Nat) (s : State) : State :=
  let n := s.stw.nextSession
  let s := { s with stw := { s.stw with nextSession := (n + 1) % 65536 } }
  let s := setDesk d { getDesk s d with sessionId := n, lastCmd := s.clk, discard := false } s
  let s := setF (fDSK_DESK_SESSION d) 1 (setF (fDSK_DESK_NODE d) node (setF (fDSK_DESK_RIGHTS d) rights s))
  if d = 1 then setF fUSB_STATUS_SESSION 1 s else s

/-- A session closes: a command in progress runs on and its response is discarded, its staging transfer and staged data
are abandoned, and its lock is released (R389). -/
def closeSession (d : Nat) (s : State) : State :=
  if !flag s (fDSK_DESK_SESSION d) then s
  else
    let x := getDesk s d
    let s := setDesk d { x with sessionId := 0, window := [], discard := getF s (fDSK_DESK_STATE d) == 1 } s
    let s := setF (fDSK_DESK_SESSION d) 0 (setF (fDSK_DESK_NODE d) 0 (setF (fDSK_DESK_RIGHTS d) 0 s))
    let s := setF (fDSK_DESK_LOCK d) 0 s
    let s := if d = 1 then setF fUSB_STATUS_SESSION 0 s else s
    let st := match s.stw.staging with
      | some g => if g.desk = d then none else some g
      | none => none
    { s with stw := { s.stw with staging := st, lock := if s.stw.lock = some d then none else s.stw.lock } }

/-! ### The notification of desk 1 (R350) -/

/-- The two bits of a notification: a desk 1 response is ready, and Q65 holds items. -/
def notifBits (s : State) : Nat := bit (getF s (fDSK_DESK_STATE 1) == 2) + 2 * bit (qCount s 65 != 0)

/-- A notification is queued where either bit has gone from 0 to 1; on a suspended bus it is a remote-wake cause
(R350, R361). -/
def noteNotif (s : State) : State :=
  let b := notifBits s
  let up := b &&& (3 ^^^ s.usb.lastNotif)
  let s := { s with usb := { s.usb with lastNotif := b } }
  if up = 0 || !flag s fUSB_STATUS_CONFIGURED then s
  else
    let u := { s.usb with notif := [b] }
    { s with usb := if flag s fUSB_STATUS_SUSPENDED && u.wakePending.isNone
        then { u with wakePending := some (1, s.clk) } else u }

/-! ### Doorbells and desk words (R383 to R385) -/

/-- The condition under which the first ring of a desk opens its session (Table 4). -/
def ringOpens (s : State) (d : Nat) : Bool :=
  (d == 0 && flag s fHIF_STATUS_LINK_UP) || (d == 1 && flag s fUSB_STATUS_CONFIGURED) ||
  (d == 6 && s.sec.debugUntil.isSome) || d == 7

/-- RING = 1 (R385): BUSY, and an item in Q72 + d; while BUSY the ring is ignored, REJECT is set and source 519 raised. A
desk without a session opens one where Table 4 lets it, and is otherwise not rung. -/
def ringDesk (d : Nat) (s : State) : State :=
  if getF s (fDSK_DESK_STATE d) = 1 then raise 519 (setDesk d { getDesk s d with reject := true } s)
  else
    let s := if !flag s (fDSK_DESK_SESSION d) && ringOpens s d then openSession d 0 (if d = 7 then 0 else 15) s else s
    if !flag s (fDSK_DESK_SESSION d) then s
    else
      let x := getDesk s d
      let s := setDesk d { x with
        lastCmd := s.clk
        prepared := none
        rights := getF s (fDSK_DESK_RIGHTS d)
        node := getF s (fDSK_DESK_NODE d)
        sess := x.sessionId } s
      noteNotif (pushWords (72 + d) [wd d] (setF (fDSK_DESK_STATE d) 1 s))

/-- A word of the command area written by the owner (R385). -/
def cmdAreaWrite (d i : Nat) (v : Word) (s : State) : State :=
  if getF s (fDSK_DESK_STATE d) = 1 then raise 519 (setDesk d { getDesk s d with reject := true } s)
  else setDesk d { getDesk s d with cmd := tset (fun _ => 0) i v (getDesk s d).cmd } s

/-- A word of a desk's first 0x400 words read (R382, Table 3). -/
def deskWord (s : State) (d o : Nat) : Word :=
  let x := getDesk s d
  if o < 0x40 then tget (fun _ => 0) x.cmd o
  else if o < 0x80 then tget (fun _ => 0) x.resp (o - 0x40)
  else if o = 0x81 then
    wd (getF s (fDSK_DESK_STATE d) + 4 * bit (flag s (fDSK_DESK_SESSION d)) + 8 * bit x.reject)
  else if o = 0x82 then wd x.sessionId
  else 0

/-- A word of a desk's first 0x400 words written by its owner; writes to the response area and to RO words are ignored
(R383, R385). -/
def deskWordWrite (d o : Nat) (v : Word) (s : State) : State :=
  if o < 0x40 then cmdAreaWrite d o v s
  else if o = 0x80 then (if v.toNat % 2 = 1 then ringDesk d s else s)
  else if o = 0x81 then (if bitsOf v.toNat 3 1 = 1 then setDesk d { getDesk s d with reject := false } s else s)
  else s

/-- A word of a desk's staging window written by its owner (R383). -/
def windowWrite (d i : Nat) (v : Word) (s : State) : State :=
  setDesk d { getDesk s d with window := tset (fun _ => 0) i v (getDesk s d).window } s

/-- An item of Q64 taken by the steward: on a staging transfer of desk 1 its first word gives the image word offset
(R395). -/
def pipeItem (b : Body) (s : State) : State :=
  match s.stw.staging, b with
  | some g, .words (w :: ws) =>
    if g.desk = 1 then { s with stw := { s.stw with staging := some (stageWords g w.toNat ws) } } else s
  | _, _ => s

end Sys2Proof.Machine
end

