-- ==== Sys2Proof/Machine/Bridge.lean ====
section
/-! DEFINITION. The PCI Express host bridge's rings, reads and errors (09, R314 to R333), but for the rows that need the
read and write servers or a desk session. -/

namespace Sys2Proof.Machine

/-- The bridge's domain is on. -/
def hifOn (s : State) : Bool := domOn s 15

/-- This hub's unit tag. -/
def unitTag (s : State) : Nat := (reg s (oSEC_UNIT_TAG 0)).toNat + 2 ^ 24 * (reg s (oSEC_UNIT_TAG 1)).toNat

/-! ### Errors (R312, R330, R331, Table 6) -/

/-- An error is recorded and the error vector signalled; a later record replaces an earlier one (log 21). -/
def errLog (kind which cause hostErr : Nat) (s : State) : State :=
  let s := setReg oHIF_ERR_LOG (wd (kind % 4 + which % 64 * 4 + cause % 256 * 2 ^ 8 + 2 ^ 16 * (hostErr % 8) + 2 ^ 23)) s
  signalVec (getF s fHIF_VEC_ERR) s

/-! ### Cell words of an item (R274) -/

/-- Bytes packed three to a word, least significant first. -/
def packWords : List Nat → List Word
  | a :: b :: c :: rest => wd (a + b * 256 + 65536 * c) :: packWords rest
  | [] => []
  | l => [wd (ofLE l)]

/-- The cell words that hold an item: its own words, or a frame's six header words and its payload units (R274). -/
def bodyCellWords : Body → List Word
  | .words l => l
  | .frame f =>
    packWords (bytesLE (headerBits f) 14 ++ bytesLE (frameHchk f) 2) ++ packWords (payloadBytes f.payload)

/-! ### Descriptors (R315 to R319) -/

def sqSize (s : State) (q : Nat) : Nat := 2 ^ (getF s (fHIF_SQ_CFG_SIZE q) + 4)

/-- The fields of a descriptor (R316, Table 2). -/
def descFields (bs : List Nat) : Desc :=
  { id := 0, op := leAt bs 0 1 % 16, irq := bitsOf (leAt bs 0 1) 4 1 == 1, wait := bitsOf (leAt bs 0 1) 5 1 == 1,
    htag := leAt bs 2 2 % 1024, addr := leAt bs 4 6, count := leAt bs 10 2, haddr := leAt bs 16 8, hlen := leAt bs 24 4,
    queue := leAt bs 1 1, issued := false, left := leAt bs 10 2, fin := none, sqHead := 0 }

/-- A descriptor has no reserved OP, no field out of range and no nonzero reserved byte (R316, R319). -/
def descValid (bs : List Nat) : Bool :=
  let d := descFields bs
  let common := bitsOf (leAt bs 0 1) 6 2 == 0 && leAt bs 2 2 < 1024 && leAt bs 12 4 == 0 && leAt bs 28 4 == 0 &&
    d.haddr % 4 == 0
  let fabric := d.queue == 0 && d.hlen == 0 && !d.wait && 1 ≤ d.count
  let nothing := d.addr == 0 && d.count == 0
  common &&
    (if d.op = 1 then fabric && decide (d.count ≤ 1024)
     else if d.op = 2 then fabric && decide (d.count ≤ 679)
     else if d.op = 3 then nothing && decide (4 ≤ d.hlen) && decide (d.hlen ≤ 65536) && d.hlen % 4 == 0
     else if d.op = 4 then nothing && d.queue == 0 && d.hlen == 0 && !d.wait
     else false)

/-- Queues that a FETCH may pop (R317). -/
def fetchable (q : Nat) : Bool := q == 32 || (80 ≤ q && q ≤ 95) || (200 ≤ q && q ≤ 203)

/-- The write tag of a DMA WRITE (R316, Table 2). -/
def dmaTag (s : State) (q htag : Nat) : Nat := 32768 + getF s (fHIF_SQ_CFG_CQ q) * 2048 + htag % 1024

/-- The write tag of a BAR2 write (R316, Table 2). -/
def winTag (s : State) (k : Nat) : Nat := 32768 + getF s (fHIF_WINA_CQ k) * 2048 + 1024 + k % 64

/-- A fabric address's parts (R28): node, space and word offset. -/
def addrNode (a : Nat) : Nat := bitsOf a 36 12
def addrSpace (a : Nat) : Nat := bitsOf a 32 4
def addrOff (a : Nat) : Nat := bitsOf a 0 32

/-- The handle by which a failed write is reported (R230): the point, or the target node and the offset divided by 4. -/
def targetHandle (addr : Nat) : Nat :=
  if addrSpace addr = 0 then handleOf (addrNode addr) (addrOff addr / 4 % 2 ^ 20)
  else 2 ^ 20 * addrNode addr + addrOff addr / 4 % 2 ^ 20

/-- Reads of host memory outstanding: of descriptors, and of the data of WRITEs (R326). -/
def hostReadsOut (s : State) : Nat :=
  (List.range 12).foldl (fun n q =>
    n + ((getSq s q).fetched + sqSize s q - getF s (fHIF_SQ_HEAD_HEAD q) % sqSize s q) % sqSize s q +
      ((getSq s q).descs.filter (fun d => d.op == 2 && d.issued && d.fin.isNone)).length) 0

/-- A read of host memory may be issued: at most 128 are outstanding (R326). -/
def mayRead (s : State) : Bool := decide (hostReadsOut s < 128)

/-- The oldest descriptor of Q40 + q starts (R317 to R319): an invalid one ends ERR at once, and a WRITE fetches its data,
where a read may be issued. -/
def startDesc (q : Nat) (bs : List Nat) (s : State) : State :=
  let d := descFields bs
  let size := sqSize s q
  let head := (getF s (fHIF_SQ_HEAD_HEAD q) + size - qCount s (40 + q) % size) % size
  let fin := if !descValid bs then some (3, 9, 0) else if d.op = 3 && !fetchable d.queue then some (3, 3, 0) else none
  let d := { d with id := s.hif.nextDesc, fin := fin, sqHead := head }
  let s := { s with hif := { s.hif with nextDesc := s.hif.nextDesc + 1 } }
  let s := if descValid bs then s else raise 582 s
  let x := getSq s q
  let go := fin.isNone && d.op == 2 && mayRead s
  let s := setSq q { x with descs := x.descs ++ [{ d with issued := go }] } s
  if go then emit (.hostRead d.haddr (4 * d.count)) s else s

/-- Descriptors start in ring order, at most 16 in progress (R318). -/
def startDescs (q : Nat) : Nat → State → State
  | 0, s => s
  | n + 1, s =>
    if flag s (fHIF_SQ_CFG_EN q) && (getSq s q).descs.length < 16 && !flag s (fSWQ_QSTAT_FROZEN (40 + q)) then
      match frontQ s (40 + q) with
      | some (_, x) => startDescs q n (startDesc q ((bodyCellWords x.body).map (fun w => w.toNat % 256)) (dropFront (40 + q) s))
      | none => s
    else s

/-- The completion entry of a descriptor that has ended: DONE, ERR, or, for a WRITE whose host read failed, DFR (R320,
R331). -/
def descEntry (s : State) (q : Nat) (d : Desc) (e : Nat × Nat × Nat) : CqEnt :=
  if e.1 = 2 then ⟨2, 15, e.2.1, dmaTag s q d.htag % 2048, e.2.2, usNow s, true, 0⟩
  else ⟨e.1, q, e.2.1, d.htag, e.2.2, usNow s, d.irq, d.sqHead⟩

/-- Completion entries are written in ring order (R318); a ring whose CQ is 12 to 15 has no completion ring (log 20). -/
def retireDescs (q : Nat) : Nat → State → State
  | 0, s => s
  | n + 1, s =>
    match (getSq s q).descs with
    | d :: rest =>
      match d.fin with
      | some e =>
        let c := getF s (fHIF_SQ_CFG_CQ q)
        let s := setSq q { getSq s q with descs := rest } s
        let s := if c < 12 then cqPost c (descEntry s q d e) s else s
        retireDescs q n (if e.1 = 2 then incF fHIF_DFR_CNT_DFR_CNT s else s)
      | none => s
    | [] => s

/-- Descriptors from the last one fetched up to TAIL are asked for, while reads may be issued (R315, R326). -/
def fetchUpTo (q : Nat) : Nat → State → State
  | 0, s => s
  | n + 1, s =>
    let x := getSq s q
    if x.fetched = getF s (fHIF_SQ_TAIL_TAIL q) % sqSize s q || !mayRead s then s
    else
      let a := hostBase (getF s (fHIF_SQ_BASE_LO_BASE_LO q)) (getF s (fHIF_SQ_BASE_HI_BASE_HI q)) + 32 * x.fetched
      fetchUpTo q n (emit (.hostRead a 32) (setSq q { x with fetched := (x.fetched + 1) % sqSize s q } s))

/-- A submission ring runs. -/
def sqRuns (s : State) (q : Nat) : Bool := flag s (fHIF_SQ_CFG_EN q) && !flag s (fHIF_SQ_STAT_STOPPED q) && hifOn s

/-- The data of WRITEs that wait for a read are asked for, in ring order (R326). -/
def issueWrites (q : Nat) (s : State) : State :=
  (getSq s q).descs.foldl (fun t d =>
    if d.op = 2 && !d.issued && d.fin.isNone && mayRead t then
      emit (.hostRead d.haddr (4 * d.count)) (setSq q { getSq t q with descs := (getSq t q).descs.map (fun e =>
        if e.id = d.id then { e with issued := true } else e) } t)
    else t) s

/-- Reads that waited for one of the 128 go out, ring by ring. -/
def pumpReads (s : State) : State :=
  (List.range 12).foldl (fun t q =>
    let t := issueWrites q t
    if sqRuns t q then fetchUpTo q 128 t else t) s

/-- A ring goes on: ended descriptors retire, waiting ones start, and reads that waited go out. -/
def runRing (q : Nat) (s : State) : State :=
  pumpReads (retireDescs q 16 (startDescs q 16 (retireDescs q 16 s)))

/-- One descriptor of a ring replaced. -/
def setDesc (q : Nat) (d : Desc) (s : State) : State :=
  let x := getSq s q
  setSq q { x with descs := x.descs.map (fun e => if e.id = d.id then d else e) } s

/-- A descriptor ends, and its ring goes on. -/
def endDesc (q : Nat) (d : Desc) (typ cause info : Nat) (s : State) : State :=
  runRing q (setDesc q { d with fin := some (typ, cause, info) } s)

/-! ### Words and failures of reads (R312, R317) -/

def getRead (s : State) (id : Nat) : Option Bar2Read := tget (fun _ => none) s.hif.reads id
def setRead (id : Nat) (r : Option Bar2Read) (s : State) : State :=
  { s with hif := { s.hif with reads := tset (fun _ => none) id r s.hif.reads } }

/-- Words of a READ descriptor reach the host's buffer. -/
def toBuffer (haddr : Nat) (ws : List (Nat × Word)) (s : State) : State :=
  ws.foldl (fun t e => emit (.hostWrite (haddr + 4 * e.1) (dwordBytes e.2) (flag t fHIF_CTL_RO_EN)) t) s

/-- Words arrive for whoever waits for them (R312, R317); after RD_LIMIT they are discarded and counted, and after a link
reset they count in HIF_DFR_DROP (R332). -/
def readArrive (who : ReadFor) (at_ : Nat) (ws : List Word) (s : State) : State :=
  match who with
  | .bar2 id =>
    match getRead s id with
    | some r => setRead id (some { r with words := r.words ++ indexed at_ ws, left := r.left - ws.length }) s
    | none => incF fHIF_LATE_RESP_LATE_RESP s
  | .dma q id =>
    match (getSq s q).descs.find? (fun d => d.id == id) with
    | some d =>
      if d.fin.isSome then s
      else
        let s := toBuffer d.haddr (indexed at_ ws) s
        let d := { d with left := d.left - ws.length }
        if d.left = 0 then endDesc q d 1 0 d.count s else setDesc q d s
    | none => incF fHIF_DFR_DROP_DFR_DROP s

/-- A read fails with a cause; the first cause seen stands (R312, R317). -/
def readFails (who : ReadFor) (cause : Nat) (s : State) : State :=
  match who with
  | .bar2 id =>
    match getRead s id with
    | some r => setRead id (some { r with failed := some (r.failed.getD cause) }) s
    | none => incF fHIF_LATE_RESP_LATE_RESP s
  | .dma q id =>
    match (getSq s q).descs.find? (fun d => d.id == id) with
    | some d => if d.fin.isSome then s else endDesc q d 3 cause 0 s
    | none => incF fHIF_DFR_DROP_DFR_DROP s

/-- A BAR2 read's TLP is completed with 0xFF, or with Completer Abort (R312). -/
def failTlp (id kind cause : Nat) (r : Bar2Read) (s : State) : State :=
  let s := setRead id none s
  let s := if flag s fHIF_CTL_RDERR_CA then emit (.completion false []) s
    else emit (.completion true (List.replicate r.count (BitVec.ofNat 32 0xFFFFFFFF))) s
  errLog kind r.win cause 0 s

/-- The dwords of a finished read, in address order. -/
def readDwords (r : Bar2Read) : List (BitVec 32) :=
  (List.range r.count).map (fun i =>
    match r.words.find? (fun e => e.1 == i) with
    | some e => e.2.setWidth 32
    | none => 0)

/-- BAR2_READ_COMPLETE (R312). -/
def execBar2ReadComplete (id : Nat) (s : State) : Host.Outcome State Fault Refusal :=
  .next (match getRead s id with
  | none => s
  | some r =>
    match r.failed with
    | some c => failTlp id 2 c r s
    | none => if r.left = 0 then emit (.completion true (readDwords r)) (setRead id none s) else s)

/-- RD_LIMIT in ns: 0 is treated as 1 and values above 50 as 50 (Table 6). -/
def rdLimit (s : State) : Nat := 1000000 * min 50 (max 1 (getF s fHIF_CTL_RD_LIMIT))

/-- RD_LIMIT_EXPIRY (R312). -/
def execRdLimitExpiry (id : Nat) (s : State) : Host.Outcome State Fault Refusal :=
  .next (match getRead s id with
  | none => s
  | some r =>
    if r.began + rdLimit s ≤ s.clk && r.failed.isNone && r.left != 0 then
      raise 580 (incF fHIF_RDLIM_CNT_RDLIM_CNT (failTlp id 1 0 r s))
    else s)

/-! ### Doorbells and configuration of rings (R314, R315, R320) -/

/-- A write of HIF_SQs_TAIL (R315). -/
def tailWrite (q : Nat) (v : Word) (s : State) : State :=
  let s := setF (fHIF_SQ_TAIL_TAIL q) v.toNat s
  if sqRuns s q then fetchUpTo q 128 s else s

/-- A submission ring is disabled, and starts anew when it is enabled: its indices return to 0 (log 19). -/
def sqEnable (q : Nat) (en : Bool) (s : State) : State :=
  let was := flag s (fHIF_SQ_CFG_EN q)
  let s := setF (fHIF_SQ_CFG_EN q) (bit en) s
  if en && !was then
    let s := setF (fHIF_SQ_STAT_STOPPED q) 0 (setF (fHIF_SQ_HEAD_HEAD q) 0 (setF (fHIF_SQ_TAIL_TAIL q) 0 s))
    setSq q { getSq s q with fetched := 0 } (flushQ (40 + q) s)
  else s

/-- A completion ring is disabled, and starts anew when it is enabled: PHASE 1, indices 0 (R320, log 19). -/
def cqEnable (c : Nat) (en : Bool) (s : State) : State :=
  let was := flag s (fHIF_CQ_CFG_EN c)
  let s := setF (fHIF_CQ_CFG_EN c) (bit en) s
  if en && !was then
    let s := setF (fHIF_CQ_TAIL_TAIL c) 0 (setF (fHIF_CQ_HEAD_HEAD c) 0 (setCq c Cq.init s))
    cqDrain c (tget (fun _ => []) s.hif.cqWait c) s
  else s

/-- A write of HIF_SQs_CFG: SIZE and CQ are Halted, and SIZE above 8 is refused (Table 8). -/
def sqCfgWrite (q : Nat) (v : Word) (s : State) : State :=
  let n := v.toNat
  let s := if flag s (fHIF_SQ_CFG_EN q) ∨ 8 < bitsOf n 0 4 then setF fHIF_STATUS_CFG_REJECT 1 s
    else setF (fHIF_SQ_CFG_SIZE q) (bitsOf n 0 4) s
  let s := if flag s (fHIF_SQ_CFG_EN q) then s else setF (fHIF_SQ_CFG_CQ q) (bitsOf n 4 4) s
  sqEnable q (bitsOf n 8 1 == 1) s

/-- A write of HIF_CQc_CFG: SIZE is Halted, and SIZE above 8 is refused (Table 9, log 20). -/
def cqCfgWrite (c : Nat) (v : Word) (s : State) : State :=
  let n := v.toNat
  let s := if flag s (fHIF_CQ_CFG_EN c) ∨ 8 < bitsOf n 0 4 then setF fHIF_STATUS_CFG_REJECT 1 s
    else setF (fHIF_CQ_CFG_SIZE c) (bitsOf n 0 4) s
  let s := setF (fHIF_CQ_CFG_VEC c) (bitsOf n 4 6) s
  let s := setF (fHIF_CQ_CFG_THR c) (bitsOf n 11 5) (setF (fHIF_CQ_CFG_TIMER c) (bitsOf n 16 8) s)
  cqEnable c (bitsOf n 10 1 == 1) s

/-- A write of HIF_CQc_HEAD (R320): released entries make room for those that wait. -/
def cqHeadWrite (c : Nat) (v : Word) (s : State) : State :=
  let s := setF (fHIF_CQ_HEAD_HEAD c) v.toNat s
  let s := if cqFree s c = 0 then s else setCq c { getCq s c with fullSince := none, fullRaised := false } s
  cqDrain c (tget (fun _ => []) s.hif.cqWait c) s

/-- Pending bits cleared by the host; INTA is deasserted with the last (R325). -/
def irqPendWrite (i : Nat) (v : Word) (s : State) : State :=
  let any := fun s => [0, 1, 2].any (fun i => flag s (fHIF_IRQ_PEND_PEND i))
  let was := any s
  let s := setReg (oHIF_IRQ_PEND i) (wd ((reg s (oHIF_IRQ_PEND i)).toNat &&& (0xFFFFFF ^^^ v.toNat))) s
  if was && !any s && !s.hif.msixEn && !s.hif.msiEn then emit (.pcie 0) s else s

/-- SQ_TAIL_DOORBELL (R315). -/
def execSqTailDoorbell (sq : Nat) (v : Word) (s : State) : Host.Outcome State Fault Refusal :=
  unit (sq < 12) (guardWrite .host (oHIF_SQ_TAIL sq) (tailWrite sq v) s)

/-- CQ_HEAD_DOORBELL (R320). -/
def execCqHeadDoorbell (c : Nat) (v : Word) (s : State) : Host.Outcome State Fault Refusal :=
  unit (c < 12) (guardWrite .host (oHIF_CQ_HEAD c) (cqHeadWrite c v) s)

/-- DESCRIPTOR_FETCHED (R315, R316): the descriptor at HEAD enters Q40 + s as 32 words of a byte each (log 18), where the
queue has room, and starts. -/
def execDescriptorFetched (sq : Nat) (bytes : List Nat) (s : State) : Host.Outcome State Fault Refusal :=
  unit (sq < 12) (
    let h := getF s (fHIF_SQ_HEAD_HEAD sq)
    let item := Body.words ((List.range 32).map (fun i => wd (bytes.getD i 0 % 256)))
    if sqRuns s sq && h != (getSq s sq).fetched && (canTake s [40 + sq] item none).isSome then
      runRing sq (setF (fHIF_SQ_HEAD_HEAD sq) ((h + 1) % sqSize s sq) (pushBody [40 + sq] item 7 s))
    else s)

/-! ### FETCH, FENCE and failed host reads (R317, R331) -/

/-- Whole items leave a queue while they fit: dwords written so far, and items taken. -/
def fetchItems (q haddr room : Nat) : Nat → Nat → Nat → State → Nat × Nat × State
  | 0, dw, items, s => (dw, items, s)
  | n + 1, dw, items, s =>
    match frontQ s q with
    | none => (dw, items, s)
    | some (_, x) =>
      let ws := bodyCellWords x.body
      if flag s (fSWQ_QSTAT_FROZEN q) ∨ room < dw + 1 + ws.length then (dw, items, s)
      else
        let head := wd (ws.length % 65536 + 65536 * (q % 256))
        let bs := (head :: ws).flatMap dwordBytes
        fetchItems q haddr room n (dw + 1 + ws.length) (items + 1)
          (dropFront q (emit (.hostWrite (haddr + 4 * dw) bs (flag s fHIF_CTL_RO_EN)) s))

/-- The oldest FETCH of a ring that has not ended. -/
def waitingFetch (s : State) (q : Nat) : Option Desc :=
  (getSq s q).descs.find? (fun d => d.op == 3 && d.fin.isNone)

/-- A FETCH runs; with WAIT = 1 it waits for an item (R317). -/
def runFetch (q : Nat) (s : State) : State :=
  match waitingFetch s q with
  | none => s
  | some d =>
    if (d.wait && qCount s d.queue == 0) || flag s (fSWQ_QSTAT_FROZEN d.queue) || !hifOn s || !domOn s 3 then s
    else
      let r := fetchItems d.queue d.haddr (d.hlen / 4) (qCount s d.queue) 0 0 s
      endDesc q d 1 0 (r.2.1 % 65536 + 65536 * (r.1 % 65536)) r.2.2

/-- DMA_FETCH (R317). -/
def execDmaFetch (sq : Nat) (s : State) : Host.Outcome State Fault Refusal := unit (sq < 12) (runFetch sq s)

/-- FETCH_WAIT_RESUME (R317): a FETCH with WAIT = 1 finds an item present. -/
def execFetchWaitResume (sq : Nat) (s : State) : Host.Outcome State Fault Refusal :=
  unit (sq < 12) (
    match waitingFetch s sq with
    | some d => if d.wait && qCount s d.queue != 0 then runFetch sq s else s
    | none => s)

/-- DMA_FENCE (R317): the descriptors before it have all completed. -/
def execDmaFence (sq : Nat) (s : State) : Host.Outcome State Fault Refusal :=
  unit (sq < 12) (
    match (getSq s sq).descs with
    | d :: _ => if d.op = 4 && d.fin.isNone && hifOn s then endDesc sq d 1 0 0 s else s
    | [] => s)

/-- DMA_HOST_READ_FAIL (R331): a descriptor's fetch, or the data of the oldest descriptor that has not ended, with HOSTERR 1
to 4 (Table 6). -/
def execDmaHostReadFail (sq : Nat) (descriptor : Bool) (hostErr : Nat) (s : State) : Host.Outcome State Fault Refusal :=
  unit (sq < 12) (
    if !hifOn s || hostErr = 0 || 4 < hostErr then s
    else if descriptor then
      if sqRuns s sq && getF s (fHIF_SQ_HEAD_HEAD sq) != (getSq s sq).fetched then
        raise 579 (errLog 3 sq 0 hostErr (setF (fHIF_SQ_STAT_STOPPED sq) 1 s))
      else s
    else
      match (getSq s sq).descs.find? (fun d => d.fin.isNone && d.op != 4 && (d.op != 2 || d.issued)) with
      | none => s
      | some d =>
        let s := raise 579 (errLog 3 sq 0 hostErr s)
        if d.op = 2 then endDesc sq d 2 0 (targetHandle d.addr) s else endDesc sq d 3 0 0 s)

/-! ### Interrupts (R323, R325) -/

/-- CQ_SIGNAL (R323): THR entries, or TIMER since the first of them. -/
def execCqSignal (c : Nat) (s : State) : Host.Outcome State Fault Refusal :=
  unit (c < 12) (
    let q := getCq s c
    let timed := match q.irqSince with
      | some t => decide (t + 10000 * getF s (fHIF_CQ_CFG_TIMER c) ≤ s.clk)
      | none => false
    if q.irqs != 0 && (max 1 (getF s (fHIF_CQ_CFG_THR c)) ≤ q.irqs || timed) && hifOn s then
      signalVec (getF s (fHIF_CQ_CFG_VEC c)) (setCq c { q with irqs := 0, irqSince := none } s)
    else s)

/-- CQ_FULL_TIMEOUT (R321). -/
def execCqFullTimeout (c : Nat) (s : State) : Host.Outcome State Fault Refusal :=
  unit (c < 12) (
    let q := getCq s c
    match q.fullSince with
    | some t =>
      if t + 100000000 ≤ s.clk && !q.fullRaised && cqFree s c == 0 then
        raise 581 (setCq c { q with fullRaised := true } s)
      else s
    | none => s)

/-- The MSI-X table's dword: masks stand set until they are cleared (log 10). -/
def msixDword (s : State) (i : Nat) : BitVec 32 := tget (fun k => if k % 4 = 3 then 1 else 0) s.hif.msix i
def setMsix (i : Nat) (v : BitVec 32) (s : State) : State :=
  { s with hif := { s.hif with msix := tset (fun k => if k % 4 = 3 then 1 else 0) i v s.hif.msix } }

/-- A pending message that nothing masks any longer is sent (R325). -/
def sendPending (v : Nat) (s : State) : State :=
  let pend : Fld := ⟨0x3_8004 + v / 24, v % 24, 1⟩
  if s.hif.msixEn && !s.hif.msixMask && (msixDword s (4 * v + 3)).toNat % 2 = 0 && flag s pend then
    emit (.msi v) (setF pend 0 s)
  else s

/-- MSIX_UNMASK (R325): the vector's mask bit is cleared. -/
def execMsixUnmask (vec : Nat) (s : State) : Host.Outcome State Fault Refusal :=
  unit (vec < 64) (
    let d := (msixDword s (4 * vec + 3)).toNat
    if hifOn s then sendPending vec (setMsix (4 * vec + 3) (BitVec.ofNat 32 (d / 2 * 2)) s) else s)

/-! ### Errors of the link (R330), PERST (R532) -/

/-- PCIE_ERROR (R330): reported through AER; correctable errors are counted, and the 101st of one second raises source
578. -/
def execPcieError (kind : PcieError) (s : State) : Host.Outcome State Fault Refusal :=
  .next (when (hifOn s) (fun s =>
    match kind with
    | .correctable =>
      let s := emit (.pcie 2) (incF fHIF_CORR_CNT_CORR_CNT s)
      let fresh := decide (s.hif.corrSince + 1000000000 ≤ s.clk)
      let n := if fresh then 1 else s.hif.corrSec + 1
      let since := if fresh then s.clk else s.hif.corrSince
      let s := { s with hif := { s.hif with corrSec := n, corrSince := since } }
      if n = 101 then raise 578 s else s
    | .uncorrectable _ => raise 577 (emit (.pcie 3) s)) s)

/-- Link training starts (R532). -/
def trainPcie (s : State) : State :=
  if s.hif.perst && flag s fGLB_STRAP_PCIE && !s.boot.coreReset && hifOn s then emit (.pcie 5) s else s

/-- PCIE_PERST_RELEASE (R532). -/
def execPciePerstRelease (s : State) : Host.Outcome State Fault Refusal :=
  .next (if s.hif.perst then s else trainPcie { s with hif := { s.hif with perst := true } })

end Sys2Proof.Machine
end

