-- ==== Sys2Proof/Machine/Blocks.lean ====
section
/-! DEFINITION. What leaves a ring port, as the 64-bit blocks of the line (06 R187; 07 R220 to R225; 15 R506). The model's
frames, information fields and delay blocks spell these blocks; the Reed-Solomon parity of R187 and the symbols on the
medium are left out (log 198). -/

namespace Sys2Proof.Machine

/-- A block of the line: its header, 0 data and 1 control, and its 64 bits (R187, R220). -/
structure LineBlock where
  control : Bool
  bits : Nat
deriving DecidableEq, Repr

/-- A control block of a type, with bits [63:8] (R220). -/
def ctlBlock (typ rest : Nat) : LineBlock := ⟨true, typ % 256 + 256 * (rest % 2 ^ 56)⟩

/-- IDLE, START and LINK (Table 1). -/
def idleBlock : LineBlock := ctlBlock 0x1E 0
def startBlock : LineBlock := ctlBlock 0x33 0
def linkBlock (info : BitVec 48) : LineBlock := ctlBlock 0x4B info.toNat

/-- DLY_REQ and DLY_RESP (Table 1). -/
def dlyReqBlock (sq : Nat) : LineBlock := ctlBlock 0x55 (sq % 2 ^ 16)
def dlyRespBlock (sq turnaround : Nat) : LineBlock := ctlBlock 0x66 (sq % 2 ^ 16 + 2 ^ 16 * (turnaround % 2 ^ 32))

/-- END_GOOD, or END_STOMP with the inverse of the CRC; HALF where the last data block holds four frame bytes (Table 1). -/
def endBlock (good : Bool) (crc : Nat) (half : Bool) : LineBlock :=
  if good then ctlBlock 0x87 (crc % 2 ^ 32 + 2 ^ 32 * bit half)
  else ctlBlock 0x99 ((2 ^ 32 - 1 - crc % 2 ^ 32) + 2 ^ 32 * bit half)

/-- A control block whose type Table 1 does not give (R222). -/
def reservedBlock (b : LineBlock) : Bool :=
  b.control && !([0x1E, 0x33, 0x87, 0x99, 0x4B, 0x55, 0x66].contains (b.bits % 256))

/-- Data blocks of eight bytes, the first byte in bits [7:0], the last block filled up with 0. -/
def dataBlocks : Nat → List Nat → List LineBlock
  | 0, _ => []
  | n + 1, bs => if bs.isEmpty then [] else ⟨false, ofLE (bs.take 8)⟩ :: dataBlocks n (bs.drop 8)

/-- The sixteen header bytes of a frame, HCHK included (R223, R224). -/
def headerBytes (f : Frame) : List Nat := bytesLE (headerBits f + 2 ^ 112 * frameHchk f) 16

/-- The public key of the peer entry that port p has in use: words 1 to 32 of its window (R508, 15 Table 9). -/
def peerKey (s : State) (p : Nat) : List Nat :=
  let base := 0x4_4400 + 0x100 * p + 0x40 * getF s (fSEC_LP_STAT_ENTRY p)
  (List.range 32).flatMap (fun i => bytesLE (reg s (base + 1 + i)).toNat 3)

/-- The info of a direction key: ring ID, sending node, receiving node, active edition number, epoch (R508). -/
def keyInfo (ring sender receiver edition epoch : Nat) : List Nat :=
  bytesLE ring 1 ++ bytesLE sender 2 ++ bytesLE receiver 2 ++ bytesLE edition 2 ++ bytesLE epoch 4

/-- What port p sends under in an epoch: the 32 bytes of the direction key, and the 4 bytes of its salt (R508). -/
def sendKey (s : State) (p epoch : Nat) : List Nat :=
  Config.hkdf36 (Config.ecdhZ (peerKey s p)) (keyInfo (pairRing s (p / 2)) (nodeId s) (getF s (fSEC_LP_STAT_NODE p))
    (getF s fDSK_ED_ACTIVE_EDITION) epoch)

/-- The nonce of a frame: the salt, the epoch, the frame count (R506). -/
def gcmNonce (key : List Nat) (epoch count : Nat) : List Nat := key.drop 32 ++ bytesLE epoch 4 ++ bytesLE count 4

/-- The bytes of a frame behind START: header and payload, and, on a protected hop, the counter block, the payload encrypted
under the key and the tag, whose additional data are the counter block and the header (R221, R225, R506). -/
def wireBytes (key : Nat → List Nat) (f : Frame) : Option (Nat × Nat) → List Nat
  | none => headerBytes f ++ payloadBytes f.payload
  | some (epoch, count) =>
    let cnt := bytesLE (epoch % 2 ^ 32 + 2 ^ 32 * (count % 2 ^ 32)) 8
    let k := key epoch
    let secret := Config.gcmCipher (k.take 32) (gcmNonce k epoch count) (payloadBytes f.payload)
    let tag := Config.gcmTag (k.take 32) (gcmNonce k epoch count) (cnt ++ headerBytes f) secret
    cnt ++ headerBytes f ++ secret ++ bytesLE tag 16

/-- The CRC-32 of the END block: over the payload, or over the ciphertext and the tag (R225, R506). -/
def wireCrc (key : Nat → List Nat) (f : Frame) (shield : Option (Nat × Nat)) : Nat :=
  crc32 ((wireBytes key f shield).drop (if shield.isNone then 16 else 24))

/-- A frame on the line: START, its data blocks, END (R221). -/
def frameBlocks (key : Nat → List Nat) (f : Frame) (fin : EndCode) (shield : Option (Nat × Nat)) : List LineBlock :=
  let bs := wireBytes key f shield
  startBlock :: dataBlocks bs.length bs ++ [endBlock (fin == .good) (wireCrc key f shield) (bs.length % 8 == 4)]

/-- The port and the blocks of what leaves on the ring, in the state in which it leaves. -/
def ringBlocks (s : State) : Out → Option (Nat × List LineBlock)
  | .frame p f fin shield => some (p, frameBlocks (sendKey s p) f fin shield)
  | .dly p resp sq t => some (p, [if resp then dlyRespBlock sq t else dlyReqBlock sq])
  | .info p i => some (p, [linkBlock i])
  | _ => none

/-- One bit through the self-synchronising scrambler x^58 + x^39 + 1: its 58 last line bits, the newest in bit 0 (R187,
R220). -/
def scrambleBit (reg : Nat) (b : Bool) : Nat × Bool :=
  let o := b != (Nat.testBit reg 38 != Nat.testBit reg 57)
  ((2 * reg + bit o) % 2 ^ 58, o)

/-- The payload bits of a block, least significant first, through the scrambler: the line bits and the register after. -/
def scramble : Nat → Nat → Nat → Nat × Nat
  | 0, reg, _ => (0, reg)
  | n + 1, reg, v =>
    let r := scrambleBit reg (v % 2 == 1)
    let t := scramble n r.1 (v / 2)
    (bit r.2 + 2 * t.1, t.2)

/-- A block on the line: its header (two bits on optical, one on copper) and its scrambled payload. -/
def lineBlock (optical : Bool) (reg : Nat) (b : LineBlock) : Nat × Nat :=
  let r := scramble 64 reg b.bits
  (if optical then (if b.control then 1 else 2) + 4 * r.1 else bit b.control + 2 * r.1, r.2)

end Sys2Proof.Machine
end

