-- ==== Sys2Proof/Machine/Switch.lean ====
section
/-! DEFINITION. The switch core's commands: pushing and popping, the cell patrol, limits and rebuilding (chapter 08;
R484). -/

namespace Sys2Proof.Machine

/-- Places that wait with no item in progress take a command that has come to their queues (R105). -/
def wakeQueues (qs : List Nat) (s : State) : State :=
  (qs.filter (fun q => 96 ≤ q && q < 200)).foldl (fun t q => wakePlace (q - 96) t) s

/-- Queues that take items of cell words from a producer of Table 1: not the ring's egress and delivery queues, but for the
loss items of Q35 and Q36, nor the unused USB queues (R345), nor the mirrors' (R298). -/
def takesWords (q : Nat) : Bool :=
  q == 35 || q == 36 || (40 ≤ q && q < 66) || (72 ≤ q && q < 88) || (96 ≤ q && q < 256)

/-- An item is pushed whose length and queues are as R273, R277 and R296 have them. -/
def pushOk (qs : List Nat) (words : List Word) : Bool :=
  1 ≤ words.length && words.length ≤ 1023 && qs.length ≤ 4 && decide qs.Nodup && qs.all takesWords

/-- QUEUE_PUSH (R273, R280, R288, R296, R299): an item of 1 to 1,023 cell words is offered to its queues. -/
def execQueuePush (qs : List Nat) (words : List Word) (s : State) : Host.Outcome State Fault Refusal :=
  unit (qs.all (fun q => q < 256)) (when (pushOk qs words) (fun s => wakeQueues qs (pushBody qs (.words words) 7 s)) s)

/-- QUEUE_PUSH_RESUME (R106, R280): the first push that waits for the queue completes where there is room; a place whose item
waited for it reaches its boundary. -/
def execQueuePushResume (q : Nat) (s : State) : Host.Outcome State Fault Refusal :=
  unit (q < 256) (releaseItems (wakeQueues [q] (resumePush q [] s.swq.waits s)))

/-- The class 0 egress queues (R282). -/
def isShelf (q : Nat) : Bool := q == 0 || q == 8 || q == 16 || q == 24

/-- Queues that hold an item. -/
def queuesWith (s : State) (i : Nat) : List Nat := (s.swq.queues.filter (fun e => e.2.contains i)).map (·.1)

/-- Every queue whose items a pointer reaches is frozen (R285). -/
def freezeFor (i q : Nat) (s : State) : State :=
  let s := (insSet q (queuesWith s i)).foldl (fun t n => setF (fSWQ_QSTAT_FROZEN n) 1 t) s
  causeOn 128 (setF fSWQ_STATUS_PTR_FROZEN 1 s)

/-! ### Leaving a port (R231, R264, R297, R506) -/

/-- The correction of a TIME_SYNC, in 1/256 ns, moved by some amount (48 bits). -/
def moveCorr (f : Frame) (d : Int) : Frame :=
  let c := ((((pw f 3 + 2 ^ 24 * pw f 4 : Nat) : Int) + d) % 2 ^ 48).toNat
  { f with payload := f.payload.take 3 ++ [wd c, wd (c / 2 ^ 24)] ++ f.payload.drop 5 }

/-- Header fields that an egress writes as the frame leaves: WEST; a TIME_SYNC's origin time or residence (R264, R297). -/
def leaving (s : State) (p : Nat) (transit : Bool) (f : Frame) : Frame :=
  let f := { f with west := p % 2 == 1 }
  if f.typ = 2 then
    if transit then moveCorr f (256 * s.clk)
    else
      let t := s.ringNs
      { f with payload := [wd t, wd (t / 2 ^ 24), wd (t / 2 ^ 48 % 2 ^ 16 + 2 ^ 16 * (pw f 2 / 2 ^ 16))] ++ f.payload.drop 3 }
  else f

/-- Line time of some bytes on a port, in ns, at its rate. -/
def lineNs (s : State) (p bytes : Nat) : Nat :=
  let r := getF s (fRGx_PHY_STAT_RATE p)
  let per100 := if r = 3 then 10000 else if isOptical s p then 4 else if r = 0 then 40 else if r = 1 then 100 else 1000
  bytes * 8 * per100 / 100

/-- Bytes that link protection adds to a frame (R507). -/
def shieldBytes (s : State) (p : Nat) : Nat := if protectedPort s p then 24 else 0

/-- Line bytes of a frame on a port (R220, R221, R507). -/
def frameLine (s : State) (p : Nat) (f : Frame) : Nat := lineBytes f + shieldBytes s p

/-- A frame goes out on a port: it is in progress for its line time, counted, and, on a protected hop, under the next frame
count (R236, R475, R506). -/
def sendOut (p : Nat) (transit : Bool) (f : Frame) (fin : EndCode) (s : State) : State :=
  let shield := if protectedPort s p then
    some (tget (fun _ => 0) s.sec.txEpoch p, tget (fun _ => 0) s.sec.txCount p) else none
  let s := emit (.frame p (leaving s p transit f) fin shield) s
  let s := setPort p { getPort s p with txUntil := s.clk + lineNs s p (frameLine s p f) } s
  let s := if protectedPort s p then
    { s with sec := { s.sec with txCount := tset (fun _ => 0) p (tget (fun _ => 0) s.sec.txCount p + 1) s.sec.txCount } } else s
  countEv 6 (8 * p + f.cls) 1 s

/-! ### Popping (R281 to R287) -/

/-- An item that fails its check is counted and taken out: a ring egress sends it stomped, every other consumer discards
it (R286). -/
def badItem (q src : Nat) (s : State) : State :=
  let s := raise src (incF fSWQ_CHECK_ERR_CHECK_ERR s)
  let s := match frontQ s q with
    | some (_, x) =>
      (match x.body with
      | .frame f => if q < 32 then sendOut (q / 8) x.transit f .stomp s else s
      | .words _ => s)
    | none => s
  dropFront q s

/-- A pop of a queue that holds no item: the idle cell, or a copy of the item last popped, one cell word of 0 where there
is none (R281, R282). -/
def emptyPop (q : Nat) (s : State) : State :=
  if isShelf q then incF fSWQ_IDLE_SENT_IDLE_SENT s
  else
    let last := (tget (fun _ => none) s.swq.last q).getD (.words [0])
    emit (.popped q last) (incF fSWQ_UNDERRUN_UNDERRUN (setF (fSWQ_QSTAT_UNDERRUN q) 1 s))

/-! ### Replays asked for once a delivery queue has room (R245, R300, R580) -/

/-- Distance from one event sequence to another. -/
def evDist (a b : Nat) : Nat := (b + 65536 - a) % 65536

/-- Rising numbers gathered into runs of first and last. -/
def runsOf : List Nat → List (Nat × Nat)
  | [] => []
  | n :: t =>
    match runsOf t with
    | (a, b) :: r => if a = (n + 1) % 65536 then (n, b) :: r else (n, n) :: (a, b) :: r
    | [] => [(n, n)]

/-- Event sequences missing from `first` up to the highest known. -/
def missingFrom (st : Stream) (first : Nat) : List Nat :=
  ((List.range (evDist first st.upTo)).map (fun i => (first + i) % 65536)).filter
    (fun n => !st.held.any (fun f => f.aux == n))

/-- A stream's state replaced; streams are keyed 4 × SRC + 2 × broadcast + class − 3. -/
def setStream (key : Nat) (st : Stream) (s : State) : State :=
  { s with ring := { s.ring with streams := tset (fun _ => none) key (some st) s.ring.streams } }

/-- A receiver asks for missing numbers, one request for each run, and its wait begins (R245). -/
def openGap (key : Nat) (st : Stream) (first : Nat) (s : State) : State :=
  let ms := missingFrom st first
  if ms.isEmpty then setStream key st s
  else
    let s := setStream key { st with gapAt := some (st.gapAt.getD s.clk) } s
    (runsOf ms).foldl (fun t r =>
      originate (mkFrame 0x08 2 (key / 4) false 0 [wd (key % 2 + key / 2 % 2 * 2), wd r.1, wd r.2]) t) s

/-- Streams of a delivery queue that miss frames it had no room for ask for them (R300, R580). -/
def stalledReplays (q : Nat) (s : State) : State :=
  if q = 35 ∨ q = 36 then
    s.ring.streams.foldl (fun t e =>
      match e.2 with
      | some st => if e.1 % 2 + 35 = q && st.gapAt.isNone && st.next != st.upTo then openGap e.1 st st.next t else t
      | none => t) s
  else s

/-- What a check can find in a cell of SERVICE or of PROTECT mode: only the first holds tags, only the second SECDED words
(R286, R287). -/
def findsIn (service : Bool) : ItemCheck → ItemCheck
  | .tagMismatch => if service then .tagMismatch else .ok
  | .doubleBit => if service then .ok else .doubleBit
  | .pointerCopies => .pointerCopies
  | .checkMismatch => .checkMismatch
  | .ok => .ok

/-- A pop of one item, by what its consumer's checks find; one of a frozen queue waits (R281 to R287, R296). -/
def popChecked (q : Nat) (chk : ItemCheck) (s : State) : State :=
  if !domOn s 3 then s
  else if flag s (fSWQ_QSTAT_FROZEN q) then { s with swq := { s.swq with popWaits := s.swq.popWaits ++ [q] } }
  else
    match frontQ s q with
    | none => emptyPop q s
    | some (i, x) =>
      if x.refs = 0 ∨ 12 < x.refs then raise 134 (dropFront q s)
      else
        match (if x.check = bodyCheck x.body then findsIn x.service chk else .checkMismatch) with
        | .pointerCopies => freezeFor i q s
        | .tagMismatch => stalledReplays q (badItem q 129 s)
        | .checkMismatch => stalledReplays q (badItem q 130 s)
        | .doubleBit => stalledReplays q (raise 131 (badItem q 130 s))
        | .ok =>
          let s := match x.body with
            | .frame f => if q < 32 then sendOut (q / 8) x.transit f x.fin s else emit (.popped q x.body) s
            | .words _ =>
              let s := emit (.popped q x.body) s
              if q = 64 then pipeItem x.body s else s
          stalledReplays q (dropFront q s)

/-- The steward copies values of a swept frame that it takes from Q32 into local points of its own, as listed: record of the
frame, point (R75). -/
def stewardCopies (copies : List (Nat × Nat)) (f : Frame) (s : State) : State :=
  if stwRuns s && f.typ = 1 then copies.foldl (fun t c => stewardWrite c.2 (f.payload.getD (3 + 3 * c.1) 0) t) s else s

/-- QUEUE_POP (R281 to R288, R296); what the steward does with an item of Q32 follows it (R75). -/
def execQueuePop (q : Nat) (chk : ItemCheck) (copies : List (Nat × Nat)) (s : State) : Host.Outcome State Fault Refusal :=
  unit (q < 256) (
    let t := popChecked q chk s
    match frontQ s q with
    | some (_, x) =>
      (match x.body with
      | .frame f => if q = 32 && chk = .ok && x.refs ≠ 0 && x.refs ≤ 12 && x.check = bodyCheck x.body && !flag s (fSWQ_QSTAT_FROZEN q)
          && domOn s 3 then stewardCopies copies f t else t
      | .words _ => t)
    | none => t)

/-- A free cell is retired, and a spare cell takes its place where one is left: CELLS.SPARE counts the spares, the first of
which is cell 15,565 (R276). -/
def retireCell (c : Nat) (s : State) : State :=
  let n := getF s fSWQ_CELLS_SPARE
  let s := { s with swq := { s.swq with back := s.swq.back.filter (· != c), retired := s.swq.retired ++ [c] } }
  let s := raise 132 (incF fSWQ_RETIRED_RETIRED s)
  if n = 0 then { s with swq := { s.swq with cellsIn := s.swq.cellsIn - 1 } }
  else
    let s := { s with swq := { s.swq with back := s.swq.back ++ [16384 - n] } }
    let s := setF fSWQ_CELLS_SPARE (n - 1) s
    if n = 1 then raise 133 (setF fSWQ_STATUS_SPARE_OUT 1 s) else s

/-- The two copies of a free-list link disagree: no cell is allocated until the steward has rebuilt it (R285). -/
def freezeFree (s : State) : State :=
  causeOn 128 (setF fSWQ_STATUS_PTR_FROZEN 1 { s with swq := { s.swq with freeFrozen := true } })

/-- The number of the present patrol period of (PATROL_PER + 1) × 250 ms, and the cells visited in it (R276). -/
def patrolPeriod (s : State) : Nat := s.clk / ((getF s fSWQ_CTL_PATROL_PER + 1) * 250000000)

def visitedNow (s : State) : List Nat := if s.swq.patrolAt = patrolPeriod s then s.swq.patrolled else []

/-- CELL_PATROL_VISIT (R276): one free cell is tested; one that shows an error is retired. The visit compares the two copies
of the cell's free-list link (R285). A cell is visited once in a patrol period. -/
def execCellPatrolVisit (cell : Nat) (bad linkBad : Bool) (s : State) : Host.Outcome State Fault Refusal :=
  unit (cell < 16384) (when (flag s fSWQ_CTL_PATROL_EN && cellFree s.swq cell && domOn s 3 && !(visitedNow s).contains cell)
    (fun s =>
      let s := { s with swq := { s.swq with patrolAt := patrolPeriod s, patrolled := visitedNow s ++ [cell] } }
      if linkBad then freezeFree s else if bad then retireCell cell s else s) s)

/-- DESCRIPTOR_STARVE (R280): no descriptor has been free for 1 ms. -/
def execDescriptorStarve (s : State) : Host.Outcome State Fault Refusal :=
  .next (match s.swq.starved with
  | some t =>
    if t + 1000000 ≤ s.clk && !s.swq.starveRaised then
      raise 135 { s with swq := { s.swq with starveRaised := true } }
    else s
  | none => s)

/-- Reserves that a SWQ_TRES word gives. -/
def tresCells (s : State) (v : Nat) : Nat := bitsOf v 0 12 * enabledPorts s + bitsOf v 12 12

/-- The sum of minima with one register's word replaced. -/
def minimaWith (s : State) (off : Nat) (v : Word) : Nat := sumMinima (tset regReset off v s.regs)

/-- Minima and reserves fit the cells in service less 1,024 (R279). -/
def fitsCells (s : State) (minima res : Nat) : Bool := minima + res + 1024 ≤ s.swq.cellsIn

/-- A write of SWQ_QCELn or SWQ_TRES under its check (R279). -/
def limitWrite (off : Nat) (v : Word) (s : State) : State :=
  if off = 0x2_0004 then
    if fitsCells s (sumMinima s.regs) (tresCells s v.toNat) then stageBits off 0xFFFFFF v.toNat s
    else setF fSWQ_STATUS_CFG_REJECT 1 s
  else if 0x2_0200 ≤ off ∧ off < 0x2_0300 then
    let res := max (tresCells s (reg s 0x2_0004).toNat) (tresCells s (heldOr s 0x2_0004))
    if fitsCells s (minimaWith s off v) res then setReg off v s else setF fSWQ_STATUS_CFG_REJECT 1 s
  else s

/-- SWQ_LIMIT_WRITE (R279). -/
def execSwqLimitWrite (by_ : Writer) (off : Nat) (v : Word) (s : State) : Host.Outcome State Fault Refusal :=
  .next (guardWrite by_ off (limitWrite off v) s)

/-- Frozen queues, by the listed status registers. -/
def frozenQs (s : State) : List Nat :=
  (s.regs.filter (fun e => 0x2_0300 ≤ e.1 && e.1 < 0x2_0400 && bitsOf e.2.toNat 20 1 == 1)).map (fun e => e.1 - 0x2_0300)

/-- A frozen queue keeps its first n items, and is released (R484). -/
def rebuildQ (kept : List (Nat × Nat)) (s : State) (q : Nat) : State :=
  let n := match kept.find? (fun e => e.1 == q) with
    | some e => e.2
    | none => 0
  let l := getQ s q
  let s := (l.drop n).foldl (fun t i => release i t) (setQ q (l.take n) s)
  setF (fSWQ_QSTAT_FROZEN q) 0 s

/-- Items of frozen queues that a rebuild does not keep. -/
def lostItems (kept : List (Nat × Nat)) (s : State) : Nat :=
  (frozenQs s).foldl (fun n q =>
    n + (qCount s q - (match kept.find? (fun e => e.1 == q) with
      | some e => e.2
      | none => 0))) 0

/-- QUEUE_REBUILD (R484): `kept` gives, by queue, how many items the steward could follow. -/
def execQueueRebuild (kept : List (Nat × Nat)) (s : State) : Host.Outcome State Fault Refusal :=
  .next (when (stwRuns s && flag s fSWQ_STATUS_PTR_FROZEN) (fun s =>
    let lost := lostItems kept s
    let s := (frozenQs s).foldl (rebuildQ kept) s
    let s := ledger 2 128 (usNow s) [wd (128 + bitsOf (reg s 0xC08A).toNat 16 2 * 2 ^ 10), wd lost] s
    let waits := s.swq.popWaits
    let s := causeOff 128 (setF fSWQ_STATUS_PTR_FROZEN 0 { s with swq := { s.swq with freeFrozen := false, popWaits := [] } })
    waits.foldl (fun t q => popChecked q .ok t) s) s)

end Sys2Proof.Machine
end

