-- ==== Sys2Proof/Machine/Ring.lean ====
section
/-! DEFINITION. Frames on the ring: checks, stripping, delivery, forwarding, crossing and egress (07 R220 to R256; 08 R292
to R300; R449, R461, R506, R511). -/

namespace Sys2Proof.Machine

/-! ### Pairs and rings -/

/-- The pair has seeded, and does not seed now: it delivers and originates (R235, R543). -/
def seedDone (s : State) (x : Nat) : Bool :=
  tget (fun _ => false) s.ring.seeded x && !flag s (fRGx_RP_STAT_SEEDING x)

/-- Edges of the ring tree: home and far ring of every coupler (R18). -/
def ringEdges (s : State) : List (Nat × Nat) :=
  match s.stw.inForce with
  | none => []
  | some e => e.nodes.filterMap (fun n => if n.coupler then some (n.ring, n.far) else none)

/-- Rings reached from a list of rings without entering `avoid`. -/
def ringReach (edges : List (Nat × Nat)) (avoid : Nat) : Nat → List Nat → List Nat
  | 0, l => l
  | n + 1, l =>
    ringReach edges avoid n (edges.foldl (fun l e =>
      let l := if l.contains e.1 && e.2 != avoid then insSet e.2 l else l
      if l.contains e.2 && e.1 != avoid then insSet e.1 l else l) l)

/-- Rings on the other side of this coupler, seen from pair x: its other ring and those reached through it (R253). -/
def beyond (s : State) (x : Nat) : List Nat := ringReach (ringEdges s) (pairRing s x) 64 [pairRing s (1 - x)]

/-- A unicast frame received on pair x crosses to the other ring (R253). -/
def crosses (s : State) (x dest : Nat) : Bool :=
  isCoupler s && numbered s &&
    (match nodeEnt s dest with
      | some n => (beyond s x).contains n.ring
      | none => false)

/-! ### Types and classes (R228) -/

/-- CLASS is allowed for TYPE (Table 3). -/
def classAllowed (typ cls : Nat) : Bool :=
  if typ = 1 then cls == 0
  else if typ = 2 ∨ typ = 3 then cls == 1
  else if 4 ≤ typ ∧ typ ≤ 8 then cls == 2
  else if typ = 10 then cls == 3
  else if typ = 9 ∨ typ = 11 ∨ typ = 12 then cls == 3 || cls == 4
  else if 13 ≤ typ ∧ typ ≤ 16 then cls == 5
  else if typ = 17 then cls == 6
  else if 18 ≤ typ ∧ typ ≤ 20 then cls == 7
  else false

/-- An order of night mode: a POWER_STATE event with ORDER = 1 (R458). -/
def isOrder (f : Frame) : Bool :=
  f.typ == 9 && f.cls == 4 && pw f 0 % 65536 == 0x30 && bitsOf (pw f 1) 2 1 == 1

/-- Frames that the AON datapath carries on a port in keep-alive (R461). -/
def aonFrame (f : Frame) : Bool := f.cls == 1 || f.cls == 2 || isOrder f

/-! ### Duplicate windows (R233, R234) -/

/-- What a window says of a SEQ. -/
inductive DupRes where
  | fresh (w : Window)
  | duplicate
  | tooOld
deriving DecidableEq, Repr

/-- A SEQ against a window of 64 numbers; an empty window takes any. -/
def dupCheck (w : Option Window) (sq : Nat) : DupRes :=
  match w with
  | none => .fresh ⟨sq, 1⟩
  | some w =>
    let d := (sq + 65536 - w.h) % 65536
    let e := (w.h + 65536 - sq) % 65536
    if 1 ≤ d ∧ d ≤ 32767 then .fresh ⟨sq, (w.bits * 2 ^ min d 64 + 1) % 2 ^ 64⟩
    else if e ≤ 63 then (if bitsOf w.bits e 1 = 1 then .duplicate else .fresh { w with bits := w.bits + 2 ^ e })
    else .tooOld

def dupKey (x : Nat) (f : Frame) : Nat := 32768 * x + 8 * (f.src % 4096) + f.cls % 8
def getDup (s : State) (k : Nat) : Option Window := tget (fun _ => none) s.ring.dup k
def setDup (k : Nat) (w : Window) (s : State) : State :=
  { s with ring := { s.ring with dup := tset (fun _ => none) k (some w) s.ring.dup } }

/-- A SEQ enters the crossing window of a key where it is new to it: none where it is not. -/
def crossFresh (k sq : Nat) (s : State) : Option State :=
  match dupCheck (tget (fun _ => none) s.ring.cross k) sq with
  | .fresh w => some { s with ring := { s.ring with cross := tset (fun _ => none) k (some w) s.ring.cross } }
  | _ => none

/-- A coupler's crossing window, by the pair the frame came from: whether the frame may cross (R234). A RETRY or REPLAY frame
keeps its SEQ, so of each sending the first copy crosses and the one from the other direction does not (log 23). -/
def crossCheck (x : Nat) (f : Frame) (s : State) : Option State :=
  let k := dupKey x f
  if f.retry || f.replay then
    let others := s.ring.recross.filter (fun e => !(e.1 == k && e.2.1 == f.sq))
    if s.ring.recross.contains (k, f.sq, !f.west) then none
    else
      let s := (crossFresh k f.sq s).getD s
      some { s with ring := { s.ring with recross := (k, f.sq, f.west) :: others } }
  else crossFresh k f.sq s

/-- The other copy of a repeated frame that has crossed is taken off the ring (R234). -/
def dropRecross (x : Nat) (f : Frame) (s : State) : State :=
  if f.retry || f.replay then
    { s with ring := { s.ring with recross := s.ring.recross.filter (fun e => e != (dupKey x f, f.sq, !f.west)) } }
  else s

/-! ### Egress (R292, R293) -/

/-- Frames that the token bucket does not meter (R293). -/
def unmetered (f : Frame) : Bool :=
  f.cls ≤ 1 || f.typ == 4 || f.typ == 5 || f.typ == 6 || f.typ == 11 || f.typ == 16

/-- A local-lane frame is ready to send (R235, R293, R543). -/
def localReady (s : State) (p : Nat) (x : Item) (f : Frame) : Bool :=
  numbered s && !s.ring.stopped && seedDone s (p / 2) && (f.cls != 0 || s.rtime.everLocked) &&
  (unmetered f || x.paid || getF s fSWQ_SHAPE_RATE == 0 || 8 * frameLine s p f ≤ s.swq.tokens)

/-- The oldest frame of a queue's lane, with its item. -/
def laneFront (s : State) (q : Nat) (transit : Bool) : Option (Nat × Item × Frame) :=
  (getQ s q).findSome? (fun i =>
    match getItem s i with
    | some x =>
      (match x.body with
        | .frame f => if x.transit = transit then some (i, x, f) else none
        | .words _ => none)
    | none => none)

/-- The frame that class c offers at port p: transit before local, only where ready; the AON datapath's frames on a port
in keep-alive (R292, R460). -/
def offered (s : State) (p c : Nat) : Option (Nat × Item × Frame) :=
  let ok := fun f => portState s p != 4 || aonFrame f
  let q := 8 * p + c
  if flag s (fSWQ_QSTAT_FROZEN q) then none
  else
    match laneFront s q true with
    | some e => if ok e.2.2 then some e else none
    | none =>
      match laneFront s q false with
      | some e => if ok e.2.2 && localReady s p e.2.1 e.2.2 then some e else none
      | none => none

def getArb (s : State) (p : Nat) : Arb := tget (fun _ => Arb.init) s.swq.arb p
def setArb (p : Nat) (a : Arb) (s : State) : State :=
  { s with swq := { s.swq with arb := tset (fun _ => Arb.init) p a s.swq.arb } }

/-- Weight of a class in the round; 0 counts as 1. -/
def arbWeight (s : State) (c : Nat) : Nat := max 1 (bitsOf (reg s oSWQ_ARB).toNat (4 * (c - 4)) 4)

/-- Class 7 has not yet taken its share of the 1 ms window (R292). -/
def bulkOpen (s : State) (p : Nat) : Bool :=
  let a := getArb s p
  let used := if s.clk / 1000000 = a.winStart then a.bulkNs else 0
  decide (100 * used < 1000000 * max 1 (getF s fSWQ_ARB_BULK))

/-- Classes 4 to 7 have a frame that may take part in the round. -/
def inRound (s : State) (p c : Nat) : Bool := (offered s p c).isSome && (c != 7 || bulkOpen s p)

/-- The class that the weighted round serves next, and how many frames it has then had. -/
def wrrNext (s : State) (p : Nat) : Option (Nat × Nat) :=
  let a := getArb s p
  if inRound s p a.cls && a.given < arbWeight s a.cls then some (a.cls, a.given + 1)
  else
    (([a.cls + 1, a.cls + 2, a.cls + 3, a.cls + 4].map (fun c => 4 + (c - 4) % 4)).find? (fun c => inRound s p c)).map
      (fun c => (c, 1))

/-- The class that a port serves at this frame boundary (R292). -/
def arbitrate (s : State) (p : Nat) : Option (Nat × Option Nat) :=
  match [0, 1, 2, 3].find? (fun c => (offered s p c).isSome) with
  | some c => some (c, none)
  | none => (wrrNext s p).map (fun r => (r.1, some r.2))

/-- An item leaves the middle of a queue: the queue's last item popped, counted (R281). -/
def takeFromQ (q i : Nat) (s : State) : State :=
  let last := (getItem s i).map (·.body)
  let s := { s with swq := { s.swq with last := tset (fun _ => none) q last s.swq.last } }
  countEv 3 q 1 (release i (setQ q ((getQ s q).filter (fun j => j != i)) s))

/-- A frame in its slot's cycle (R250): the slot's start in ns of ring time. -/
def slotStart (s : State) (f : Frame) : Option Nat :=
  match s.stw.inForce with
  | none => none
  | some e =>
    match e.shelf.entries.find? (fun n => n.node == f.src && n.group == f.dest % 64) with
    | none => none
    | some n =>
      let cyc := e.shelf.cycle * 1000
      let now := s.ringNs / cyc
      some ((now - (now + 2 ^ 24 - pw f 2) % 2 ^ 24) * cyc + n.offset * 1000)

/-- The first frame of a local sweep leaves: late beyond 2 us and one maximal frame after its slot (R251). -/
def slotLate (p : Nat) (x : Item) (f : Frame) (s : State) : State :=
  if f.typ != 1 || x.paid || pw f 1 != 0 then s
  else
    match slotStart s f with
    | some t => if t + 2000 + lineNs s p (2080 + shieldBytes s p) < s.ringNs then raise 107 (incF (fRGx_RP_SLOT_LATE_SLOT_LATE (p / 2)) s) else s
    | none => s

/-- The last sending of a frame that waits for its acknowledgement (R240), and the sending of the beacon that is expected
back (R259). -/
def noteSent (f : Frame) (s : State) : State :=
  { s with ring := { s.ring with
    unacked := s.ring.unacked.map (fun u =>
      if u.frame.cls = f.cls ∧ u.frame.sq = f.sq ∧ u.frame.src = f.src then { u with sentAt := s.clk } else u)
    beaconAt := if f.typ = 6 ∧ f.src = nodeId s ∧ f.sq = s.ring.beaconSeq then some (s.ring.beaconAt.getD s.clk)
      else s.ring.beaconAt } }

/-- A frame of class c leaves port p. -/
def serve (p c i : Nat) (x : Item) (f : Frame) (s : State) : State :=
  let s := if x.transit then s else slotLate p x f s
  let charge := !x.transit && !x.paid && !unmetered f && getF s fSWQ_SHAPE_RATE != 0
  let s := if charge then { s with swq := { s.swq with tokens := s.swq.tokens - 8 * frameLine s p f } } else s
  let s := setItem i (some { x with paid := true }) s
  let s := if x.transit then s else noteSent f s
  let a := getArb s p
  let w := s.clk / 1000000
  let used := if w = a.winStart then a.bulkNs else 0
  let s := setArb p { a with winStart := w, bulkNs := if c = 7 then used + lineNs s p (frameLine s p f) else used } s
  takeFromQ (8 * p + c) i (sendOut p x.transit f .good s)

/-- A port's frame boundary (R282, R292). -/
def egress (p : Nat) (s : State) : State :=
  if !ringUp s p || !domOn s 3 then s
  else
    match arbitrate s p with
    | none => incF fSWQ_IDLE_SENT_IDLE_SENT s
    | some (c, g) =>
      match offered s p c with
      | none => s
      | some (i, x, f) =>
        let s := match g with
          | some n => setArb p { getArb s p with cls := c, given := n } s
          | none => s
        serve p c i x f s

/-- EGRESS_FRAME_END (R292): the frame in progress, if any, has left, and the port is at a frame boundary. -/
def execEgressFrameEnd (p : Nat) (s : State) : Host.Outcome State Fault Refusal :=
  unit (p < 4) (when ((getPort s p).txUntil ≤ s.clk) (egress p) s)

/-! ### Transit (R232, R236, R237, R295) -/

/-- A transit frame enters a port's queue, or is shed (R295). -/
def toTransit (p : Nat) (f : Frame) (s : State) : State :=
  if !ringUp s p then s
  else
    match canTake s [8 * p + f.cls] (.frame f) (some p) with
    | some ch => noteDesc (enterQ [8 * p + f.cls] (.frame f) f.cls true ch s)
    | none => raise 136 (incF (fSWQ_SHED_SHED p) s)

/-- A response that crosses back takes the space that was reserved with its request's credit (R255). -/
def toTransitSure (p : Nat) (f : Frame) (s : State) : State :=
  if !ringUp s p then s
  else
    match canTake s [8 * p + f.cls] (.frame f) (some p) with
    | some ch => noteDesc (enterQ [8 * p + f.cls] (.frame f) f.cls true ch s)
    | none => if domOn s 3 then noteDesc (enterQ [8 * p + f.cls] (.frame f) f.cls true [] s) else s

/-- A good frame goes on to the other port of its pair, with one more link crossed (R227, R236, R461). -/
def forward (p : Nat) (f : Frame) (s : State) : State :=
  let e := pairMate p
  if 1023 < f.hops + 1 then raise 106 (incF (fRGx_RP_HOP_DISC_HOP_DISC (p / 2)) s)
  else
    let f := { f with hops := f.hops + 1 }
    if !ringUp s e then s
    else if portState s e = 4 then
      if aonFrame f then sendOut e true f .good s else incF fPWR_CELL_DISC_CELL_DISC s
    else if domOn s 3 then toTransit e f s
    else sendOut e true f .good s

/-- A frame may be cut through to port e: the egress would send it next, and is not the faster side (R236). -/
def cutOk (s : State) (p : Nat) (f : Frame) : Bool :=
  let e := pairMate p
  flag s (fRGx_RP_CTL_CUT_EN (p / 2)) && ringUp s e && decide ((getPort s e).txUntil ≤ s.clk) && portState s e != 4 && portState s p != 4 && domOn s 3 &&
  decide (f.hops + 1 ≤ 1023) && decide (lineNs s p 100 ≤ lineNs s e 100) && (laneFront s (8 * e + f.cls) true).isNone &&
    (laneFront (toTransit e f s) (8 * e + f.cls) true).isSome &&
    (match arbitrate (toTransit e f s) e with
      | some (c, _) => c == f.cls
      | none => false)

/-- A frame is forwarded: cut through at once, or stored (R236). -/
def passOn (p : Nat) (f : Frame) (s : State) : State :=
  let s' := forward p f s
  if cutOk s p f then egress (pairMate p) s' else s'

/-! ### Crossing (R227, R234, R253 to R255) -/

/-- A coupler injects a frame onto the ring of pair y by both its ports (R227); a read response into reserved space. -/
def inject (y : Nat) (f : Frame) (s : State) : State :=
  let f := { f with ring := pairRing s y, entry := nodeId s, hops := 0, far := true }
  if 14 ≤ f.typ ∧ f.typ ≤ 16 then toTransitSure (2 * y + 1) f (toTransitSure (2 * y) f s)
  else toTransit (2 * y + 1) f (toTransit (2 * y) f s)

/-- The oldest READ_REQ that waits for a credit toward pair y crosses, where one is free (R255). -/
def takeCredit (y : Nat) (s : State) : State :=
  if y = homePair s then
    match s.ring.waitHome with
    | (f, _) :: rest =>
      if s.ring.credHome < 64 then
        inject y f { s with ring := { s.ring with waitHome := rest, credHome := s.ring.credHome + 1 } }
      else s
    | [] => s
  else
    match s.ring.waitFar with
    | (f, _) :: rest =>
      if s.ring.credFar < 64 then
        inject y f { s with ring := { s.ring with waitFar := rest, credFar := s.ring.credFar + 1 } }
      else s
    | [] => s

/-- A response that crosses back from pair x returns the credit of a request toward it (R255). -/
def returnCredit (x : Nat) (s : State) : State :=
  takeCredit x (if x = homePair s then { s with ring := { s.ring with credHome := s.ring.credHome - 1 } }
    else { s with ring := { s.ring with credFar := s.ring.credFar - 1 } })

/-- A frame taken off the ring of pair x crosses to the other, once (R234, R255). -/
def cross (x : Nat) (f : Frame) (s : State) : State :=
  match crossCheck x f s with
  | none => dropRecross x f s
  | some s =>
    let y := 1 - x
    if f.typ = 13 then
      takeCredit y (if y = homePair s then { s with ring := { s.ring with waitHome := s.ring.waitHome ++ [(f, s.clk)] } }
        else { s with ring := { s.ring with waitFar := s.ring.waitFar ++ [(f, s.clk)] } })
    else
      let s := if f.typ = 14 ∨ f.typ = 15 ∨ f.typ = 16 then returnCredit x s else s
      inject y f s

/-- A broadcast that a coupler forwards away from the ring it came from (R252, R254). -/
def crossBcast (f : Frame) (s : State) : State :=
  if isCoupler s && numbered s then cross (framePair s f) f s else s

/-! ### Delivery (R233, R239, R300, R449) -/

/-- An item for local delivery enters its queue, behind the others, in the delivery reserve where it is full (R300). -/
def deliverQ (q : Nat) (b : Body) (cls : Nat) (s : State) : Option State :=
  match canTake s [q] b none with
  | some ch => some (noteDesc (enterQ [q] b cls false ch s))
  | none =>
    let n := bodyCells b
    if charged s .deliver + n ≤ getF s fSWQ_TRES_DELIVER && descFree s != 0 && domOn s 3 && !s.swq.freeFrozen &&
        !flag s (fSWQ_QSTAT_FROZEN q) then
      some (noteDesc (enterQ [q] b cls false [(.deliver, n)] s))
    else none

/-- A read response is always taken: its space was reserved before the read (R300). -/
def deliverSure (q : Nat) (b : Body) (cls : Nat) (s : State) : State :=
  match deliverQ q b cls s with
  | some s => s
  | none => noteDesc (enterQ [q] b cls false [] s)

/-- A frame for local delivery that is not taken (R300). -/
def notTaken (s : State) : State := raise 137 (incF fSWQ_DLV_BUSY_DLV_BUSY s)

/-- The ACK of a frame (R239). -/
def sendAck (f : Frame) (s : State) : State := originate (mkFrame 0x04 2 f.src false f.sq [wd f.cls]) s

/-- A frame waits to be handled, oldest first. -/
def toRx (f : Frame) (s : State) : State := { s with ring := { s.ring with rx := s.ring.rx ++ [f] } }

/-- The edition in force subscribes this hub to a node's group (R252). -/
def subscribed (s : State) (node group : Nat) : Bool :=
  match s.stw.inForce with
  | some e => e.subs.any (fun u => u.1 == nodeId s && u.2.contains (node, group))
  | none => false

/-- A frame is placed for local delivery, and acknowledged where its type is (R239, R277); none where it is not taken. -/
def place (f : Frame) (s : State) : Option State :=
  if f.typ = 3 && domOn s 3 then deliverQ 33 (.frame f) 1 s
  else if f.typ = 7 ∨ f.typ = 8 then (deliverQ 34 (.frame f) 2 s).map (sendAck f)
  else if f.typ = 13 then deliverQ 37 (.frame f) 5 s
  else if 14 ≤ f.typ ∧ f.typ ≤ 16 then some (deliverSure 37 (.frame f) 5 s)
  else if f.typ = 17 then (deliverQ 38 (.frame f) 6 s).map (sendAck f)
  else if 18 ≤ f.typ then deliverQ 39 (.frame f) 7 s
  else if f.typ = 1 then some (if subscribed s f.src (f.dest % 64) || isCoupler s then toRx f s else s)
  else some (toRx f s)

/-- SHELVED or CELLARED (R449). -/
def asleep (s : State) : Bool := getF s fPWR_STATUS_STATE == 1 || getF s fPWR_STATUS_STATE == 2

/-- Frames that a sleeping hub takes: class 1, beacons for the CLOSED test, orders (R449, R461). -/
def takenAsleep (f : Frame) : Bool := f.cls == 1 || f.typ == 6 || isOrder f

/-- A unicast frame that reaches a sleeping hub is wake source 3 (R448). -/
def wakeByFrame (f : Frame) (s : State) : State :=
  if !f.bcast && (f.cls == 2 || (getF s fPWR_STATUS_STATE == 1 && (f.cls == 3 || f.cls == 5 || f.cls == 6))) then
    noteEdge 3 s
  else s

/-- Both copies of these are handled: a TIME_SYNC's, of which the one with fewer HOPS counts, and a neighbour's beacon. -/
def bothCopies (f : Frame) : Bool := f.typ == 2 || (f.typ == 6 && f.hops == 0)

/-- While its pair seeds, every SEQ received enters the window of its SRC and CLASS (R235). -/
def seedSeq (x : Nat) (f : Frame) (s : State) : State :=
  if flag s (fRGx_RP_STAT_SEEDING x) then
    match dupCheck (getDup s (dupKey x f)) f.sq with
    | .fresh w => setDup (dupKey x f) w s
    | _ => s
  else s

/-- The ring ports recognise an order in every state (R459). -/
def noteOrder (f : Frame) (s : State) : State :=
  if isOrder f then
    { s with pwr := { s.pwr with orders := s.pwr.orders ++ [(f.ring, pw f 1 % 4, bitsOf (pw f 1) 3 1)] } }
  else s

/-- A frame that reached this hub for local delivery on pair x (R233, R235, R239, R300, R449, R580). -/
def deliver (x : Nat) (f : Frame) (s : State) : State :=
  let k := dupKey x f
  if !seedDone s x then s
  else if asleep s && !takenAsleep f then wakeByFrame f s
  else if f.replay && (f.cls == 3 || f.cls == 4) then toRx f s
  else
    match dupCheck (getDup s k) f.sq with
    | .tooOld => incF (fRGx_RP_TOO_OLD_TOO_OLD x) s
    | .duplicate =>
      let s := incF (fRGx_RP_DUP_DUP x) s
      if bothCopies f then toRx f s
      else if f.retry && (f.typ == 7 || f.typ == 8 || f.typ == 17) then sendAck f s
      else if f.retry && f.typ == 13 then (place f s).getD (notTaken s)
      else s
    | .fresh w =>
      if asleep s && isOrder f then setDup k w (noteOrder f s)
      else
        match place f s with
        | some s => setDup k w (noteOrder f s)
        | none => notTaken s

/-! ### Copies that come back (R232, R243) -/

/-- Why a unicast frame found nobody (R243). -/
def noneCause (s : State) (dest : Nat) : Nat := if (nodeEnt s dest).isNone then 4 else 15

/-- Frames that waited for a class's window go (R242). -/
def pump (s : State) : State := pumpHeld s.ring.held s

/-- An operation of the frame fails with a cause (R240, R243): a WRITE is reported to its initiator, a read completes with
the error, and NO_ACK on a RESPONSE closes its session (R388, 11 Table 4). -/
def failOp (u : Unacked) (cause : Nat) (s : State) : State :=
  let f := u.frame
  let s := { s with ring := { s.ring with unacked := s.ring.unacked.filter (fun v => v != u) } }
  let s :=
    if f.typ = 17 then
      placeReport (dfrWords f.aux (targetHandle (pw f 0 + 2 ^ 24 * pw f 1)) cause (usNow s)) s
    else if f.typ = 13 then
      match tget (fun _ => none) s.ring.readTags f.aux with
      | some r =>
        readFails r.who cause { s with ring := { s.ring with readTags := tset (fun _ => none) f.aux none s.ring.readTags } }
      | none => s
    else if f.typ = 7 && cause = 5 && pw f 0 % 4 = 2 && flag s (fDSK_DESK_SESSION (pw f 0 / 4 % 8)) &&
        (getDesk s (pw f 0 / 4 % 8)).sessionId = f.aux then
      raise 520 (closeSession (pw f 0 / 4 % 8) s)
    else s
  pump s

/-- The unacknowledged frame of a class and SEQ. -/
def findUnacked (s : State) (cls sq : Nat) : Option Unacked :=
  s.ring.unacked.find? (fun u => u.frame.cls == cls && u.frame.sq == sq)

/-- A copy that comes back to the hub named by ENTRY (R232, R243). -/
def comeBack (f : Frame) (s : State) : State :=
  if f.typ = 6 && f.src = nodeId s then toRx f s
  else if f.bcast || !(f.cls == 2 || f.cls == 5 || f.cls == 6) then s
  else
    let way := bit f.west
    if f.src = nodeId s then
      match findUnacked s f.cls f.sq with
      | none => s
      | some u =>
        if u.returned != 0 && u.returned != way + 1 then failOp u (noneCause s f.dest) s
        else { s with ring := { s.ring with unacked := s.ring.unacked.map (fun v =>
          if v = u then { v with returned := way + 1 } else v) } }
    else
      let key := (f.src * 2 + way, f.cls, f.sq)
      let other := (f.src * 2 + (1 - way), f.cls, f.sq)
      if s.ring.injBack.contains other then
        let s := { s with ring := { s.ring with injBack := s.ring.injBack.filter (fun k => k != other) } }
        originate (mkFrame 0x05 2 f.src false f.sq [wd (f.cls + noneCause s f.dest * 256)]) s
      else { s with ring := { s.ring with injBack := key :: s.ring.injBack } }

/-! ### Frames received (R226, R236 to R238, R506, R511) -/

/-- Authentication of a frame on a protected port (R511): passed, failed, or discarded while a new epoch's key is not
ready. -/
def authCheck (p : Nat) (r : RxFrame) (s : State) : Option (Bool × State) :=
  if !protectedPort s p then some (true, s)
  else
    let cur := tget (fun _ => none) s.sec.rxEpoch p
    let isNew := match cur with
      | none => true
      | some e => decide (e < r.epoch)
    if isNew then none
    else
      let past := match cur with
        | some e => decide (r.epoch < e)
        | none => false
      let seen := match tget (fun _ => none) s.sec.rxCount p with
        | some n => decide (r.count ≤ n)
        | none => false
      if past || seen || !r.tagOk then some (false, raise 111 s)
      else some (true, { s with sec := { s.sec with rxCount := tset (fun _ => none) p (some r.count) s.sec.rxCount } })

/-- A frame of a new epoch is discarded and counted, and the epoch's key is derived (R511). -/
def awaitKey (p epoch : Nat) (s : State) : State :=
  let s := incF (fSEC_LP_WAIT_WAIT p) s
  let n := match tget (fun _ => none) s.sec.rxNew p with
    | some e => max e epoch
    | none => epoch
  { s with sec := { s.sec with rxNew := tset (fun _ => none) p (some n) s.sec.rxNew } }

/-- A stomped or CRC-failed frame is counted, and toward the second's threshold (R238). -/
def countErr (p kind : Nat) (s : State) : State :=
  let s := if kind = 0 then incF (fRGx_RP_STOMP_RX_STOMP_RX p) s else incF (fRGx_RP_CRC_ERR_CRC_ERR p) s
  let fresh := decide (s.ring.errSince + 1000000000 ≤ s.clk)
  let tab := if fresh then [] else s.ring.errSec
  let told := if fresh then [] else s.ring.errRaised
  let k := 2 * p + kind
  let n := tget (fun _ => 0) tab k + 1
  let past := decide (getF s (fRGx_RP_CTL_ERR_THR (p / 2)) < n) && !told.contains k
  let s := { s with ring := { s.ring with
    errSec := tset (fun _ => 0) k n tab, errSince := if fresh then s.clk else s.ring.errSince,
    errRaised := if past then k :: told else told } }
  if past then raise (96 + p) s else s

/-- A frame that ends badly: counted, and stomped onward where it was being cut through (R222, R237, R238). -/
def badFrame (p : Nat) (r : RxFrame) (goesOn : Bool) (s : State) : State :=
  let cut := goesOn && cutOk s p r.frame
  let s := match r.fin with
    | .stomp => countErr p 0 s
    | .badBlock => incF (fRGx_RP_BLK_ERR_BLK_ERR p) s
    | .cut => s
    | .good => countErr p 1 s
  if cut then sendOut (pairMate p) true { r.frame with hops := r.frame.hops + 1 } .stomp s else s

/-- Where a frame goes (R232, R253): it has come back, is for this hub, crosses, or goes on. -/
inductive Way where
  | back | here | over | on_ | hereOn
deriving DecidableEq, Repr

def wayOf (s : State) (x : Nat) (f : Frame) : Way :=
  if !numbered s then .on_
  else if f.entry = nodeId s then .back
  else if f.bcast then .hereOn
  else if f.dest = nodeId s then .here
  else if crosses s x f.dest then .over
  else .on_

/-- A TIME_SYNC is stamped as it arrives: the ingress link's delay is added, and the time it waits begins (R264). -/
def stamped (s : State) (p : Nat) (f : Frame) : Frame :=
  if f.typ = 2 then moveCorr f (16 * getF s (fRGx_RP_LINK_DELAY_LINK_DELAY p) - 256 * s.clk) else f

/-- A frame received on port p (R226, R232, R236 to R238). -/
def receive (p : Nat) (r : RxFrame) (s : State) : State :=
  let x := p / 2
  let s := addF (fRGx_RP_BLK_ERR_BLK_ERR p) r.strays s
  match authCheck p r s with
  | none => awaitKey p r.epoch s
  | some (auth, s) =>
    let f := r.frame
    if r.hchk != frameHchk f || !classAllowed f.typ f.cls then incF (fRGx_RP_HDR_ERR_HDR_ERR p) s
    else if numbered s && f.ring != pairRing s x then raise 105 (incF (fRGx_RP_RING_MIS_RING_MIS p) s)
    else if portState s p = 4 && !aonFrame f then incF fPWR_CELL_DISC_CELL_DISC s
    else
      let way := wayOf s x f
      let goesOn := way == .on_ || way == .hereOn
      if r.fin != .good || r.crc != frameCrc f || !auth then badFrame p r goesOn s
      else
        let s := countEv 5 (8 * p + f.cls) 1 s
        let s := seedSeq x f s
        let f := stamped s p f
        match way with
        | .back => comeBack f s
        | .here => deliver x f s
        | .over => cross x f s
        | .on_ => passOn p f s
        | .hereOn => deliver x f (passOn p f s)

/-- FRAME_TRANSIT (R226 to R243, R449, R461). -/
def execFrameTransit (p : Nat) (f : RxFrame) (s : State) : Host.Outcome State Fault Refusal :=
  unit (p < 4) (if ringUp s p then receive p f s else s)

/-- EPOCH_ROLLOVER (R510): the frame count would pass 2^32 − 1. -/
def execEpochRollover (p : Nat) (s : State) : Host.Outcome State Fault Refusal :=
  unit (p < 4) (
    if ringUp s p && protectedPort s p && 2 ^ 32 - 1 ≤ tget (fun _ => 0) s.sec.txCount p then newEpoch p s else s)

/-- EPOCH_KEY_READY (R500, R511). -/
def execEpochKeyReady (p : Nat) (s : State) : Host.Outcome State Fault Refusal :=
  unit (p < 4) (
    match tget (fun _ => none) s.sec.rxNew p with
    | none => s
    | some e => if !flag s fSEC_STATUS_TRNG_OK then s else { s with sec := { s.sec with
        rxEpoch := tset (fun _ => none) p (some e) s.sec.rxEpoch
        rxCount := tset (fun _ => none) p none s.sec.rxCount
        rxNew := tset (fun _ => none) p none s.sec.rxNew } })

end Sys2Proof.Machine
end

