-- ==== Sys2Proof/Machine/RingOps.lean ====
section
/-! DEFINITION. What a hub does with the frames it takes, and the ring protocol's timers (07 R239 to R260; R119, R322,
R406, R544, R580). -/

namespace Sys2Proof.Machine

/-! ### Taking frames -/

/-- The oldest waiting frame that satisfies a test leaves the list. -/
def takeRx (ok : Frame → Bool) (s : State) : Option (Frame × State) :=
  match s.ring.rx.find? ok with
  | some f => some (f, { s with ring := { s.ring with rx := s.ring.rx.erase f } })
  | none => none

/-- The oldest frame of a type in a queue is popped. -/
def takeQ (q : Nat) (ok : Frame → Bool) (s : State) : Option (Frame × State) :=
  if flag s (fSWQ_QSTAT_FROZEN q) || !domOn s 3 then none
  else
    match (getQ s q).findSome? (fun i =>
      match getItem s i with
      | some x =>
        (match x.body with
          | .frame f => if ok f then some (i, f) else none
          | .words _ => none)
      | none => none) with
    | some (i, f) => some (f, takeFromQ q i s)
    | none => none

/-- A handler of the oldest frame of a type. -/
def onRx (typ : Nat) (h : Frame → State → State) (s : State) : State :=
  match takeRx (fun f => f.typ == typ) s with
  | some (f, t) => h f t
  | none => s

def onQ (q typ : Nat) (h : Frame → State → State) (s : State) : State :=
  match takeQ q (fun f => f.typ == typ) s with
  | some (f, t) => h f t
  | none => s

/-! ### Acknowledgement, refusal, resending (R239 to R243) -/

/-- ACK (R240). -/
def takeAck (f : Frame) (s : State) : State :=
  match findUnacked s (pw f 0 % 8) f.aux with
  | some u => pump { s with ring := { s.ring with unacked := s.ring.unacked.filter (fun v => v != u) } }
  | none => s

/-- ACK (R240). -/
def execAck (s : State) : Host.Outcome State Fault Refusal := .next (onRx 4 takeAck s)

/-- A NAK's cause byte other than NO_SUCH_NODE is NODE_ABSENT (R243). -/
def takeNak (f : Frame) (s : State) : State :=
  match findUnacked s (pw f 0 % 8) f.aux with
  | some u => failOp u (if bitsOf (pw f 0) 8 8 = 4 then 4 else 15) s
  | none => s

/-- NAK (R243). -/
def execNak (s : State) : Host.Outcome State Fault Refusal := .next (onRx 5 takeNak s)

/-- T_ack toward a frame's destination, in ns, as the steward computed it at activation (R241). -/
def tAck (s : State) (f : Frame) : Nat :=
  tget (fun _ => 200000) s.ring.tack (match nodeEnt s f.dest with
    | some n => n.ring
    | none => ringId s)

/-- A frame is sent again, by both ports, with RETRY = 1 (R240). -/
def resend (u : Unacked) (counts : Bool) (s : State) : State :=
  let f := { u.frame with retry := true }
  let u' := { u with frame := f, sentAt := s.clk, resends := u.resends + bit counts, returned := 0 }
  let s := { s with ring := { s.ring with unacked := s.ring.unacked.map (fun v => if v = u then u' else v) } }
  toEgress (homePorts s) f s

/-- A read that waits to be reissued (R256) is not resent. -/
def reissueOwed (s : State) (f : Frame) : Bool :=
  f.typ == 13 &&
    (match tget (fun _ => none) s.ring.readTags f.aux with
      | some r => r.retryDue.isSome
      | none => false)

/-- ACK_TIMEOUT (R240). -/
def execAckTimeout (cls sq : Nat) (s : State) : Host.Outcome State Fault Refusal :=
  .next (match findUnacked s cls sq with
  | none => s
  | some u =>
    if s.clk < u.sentAt + tAck s u.frame || reissueOwed s u.frame then s
    else if u.resends < 3 then resend u true (incF (fRGx_RP_RESENT_RESENT (homePair s)) s)
    else raise 102 (failOp u 5 (incF (fRGx_RP_NO_ACK_NO_ACK (homePair s)) s)))

/-! ### Remote reads (R239, R256, R312) -/

/-- One READ_REQ of at most 682 words; its tag names it. -/
def sendRead (who : ReadFor) (addr at_ count : Nat) (s : State) : State :=
  let tag := s.ring.nextTag
  let f := mkFrame 13 5 (addrNode addr) false tag [wd addr, wd (addr / 2 ^ 24), wd count]
  let s := { s with ring := { s.ring with
    nextTag := (tag + 1) % 65536
    readTags := tset (fun _ => none) tag (some ⟨who, f, at_, count, none⟩) s.ring.readTags } }
  originate f s

/-- The requests of a read of n words (R312, R317). -/
def sendReads (who : ReadFor) (addr at_ : Nat) : Nat → Nat → State → State
  | 0, _, s => s
  | fuel + 1, n, s =>
    if n = 0 then s
    else
      let m := min n 682
      sendReads who (addr + m) (at_ + m) fuel (n - m) (sendRead who addr at_ m s)

/-- The unacknowledged READ_REQ of a tag. -/
def readUnacked (s : State) (tag : Nat) : Option Unacked :=
  s.ring.unacked.find? (fun u => u.frame.typ == 13 && u.frame.aux == tag)

/-- A response to a tag ends its request; a later one for the same tag is discarded (R239). -/
def closeTag (f : Frame) (h : ReadOut → State → State) (s : State) : State :=
  match tget (fun _ => none) s.ring.readTags f.aux with
  | none => s
  | some r =>
    let s := { s with ring := { s.ring with
      readTags := tset (fun _ => none) f.aux none s.ring.readTags
      unacked := match readUnacked s f.aux with
        | some u => s.ring.unacked.filter (fun v => v != u)
        | none => s.ring.unacked } }
    h r (pump s)

/-- READ_RESP (R239). -/
def execReadResp (s : State) : Host.Outcome State Fault Refusal :=
  .next (onQ 37 14 (fun f => closeTag f (fun r => readArrive r.who r.wordsAt (f.payload.take r.count))) s)

/-- READ_ERR (R31, R239). -/
def execReadErr (s : State) : Host.Outcome State Fault Refusal :=
  .next (onQ 37 15 (fun f => closeTag f (fun r => readFails r.who (pw f 0 % 256))) s)

/-- A READ_RETRY: the read waits a random 1 us to 16 us (R256). -/
def takeRetry (f : Frame) (s : State) : State :=
  match tget (fun _ => none) s.ring.readTags f.aux with
  | none => s
  | some r =>
    let due := s.clk + 1000 + freeVal s 15001
    drawn { s with ring := { s.ring with
      readTags := tset (fun _ => none) f.aux (some { r with retryDue := some due }) s.ring.readTags } }

/-- READ_RETRY (R256). -/
def execReadRetry (s : State) : Host.Outcome State Fault Refusal := .next (onQ 37 16 takeRetry s)

/-- READ_REISSUE (R256): under its original SEQ with RETRY = 1, and not as a resend. -/
def execReadReissue (tag : Nat) (s : State) : Host.Outcome State Fault Refusal :=
  .next (match tget (fun _ => none) s.ring.readTags tag with
  | some r =>
    (match r.retryDue, readUnacked s tag with
      | some t, some u =>
        if t ≤ s.clk then
          resend u false { s with ring := { s.ring with
            readTags := tset (fun _ => none) tag (some { r with retryDue := none }) s.ring.readTags } }
        else s
      | _, _ => s)
  | none => s)

/-- COUPLER_CREDIT_WAIT (R256): of two READ_REQs that wait in opposite directions, the one named for 10 us, the one with
the lower SRC is answered with READ_RETRY. -/
def execCouplerCreditWait (toFar : Bool) (s : State) : Host.Outcome State Fault Refusal :=
  .next (match s.ring.waitFar, s.ring.waitHome with
  | (f, tf) :: rf, (h, th) :: rh =>
    if (if toFar then tf else th) + 10000 ≤ s.clk && isCoupler s then
      let low := if f.src < h.src then f else h
      let s := if f.src < h.src then { s with ring := { s.ring with waitFar := rf } }
        else { s with ring := { s.ring with waitHome := rh } }
      originate (mkFrame 16 5 low.src false low.aux [0]) s
    else s
  | _, _ => s)

/-! ### Events of classes 3 and 4 (R244, R245, R580) -/

/-- The key of a frame's stream. -/
def streamKey (f : Frame) : Nat := 4 * f.src + 2 * bit f.bcast + (f.cls - 3)

/-- One event frame is delivered: a DFR to the report path, another frame to Q35 or Q36, where it waits for room (R119,
R322, R580). -/
def deliverEvt (f : Frame) (s : State) : State :=
  if f.typ = 10 then placeReport f.payload s else pushBody [32 + f.cls] (.frame f) f.cls s

/-- Pushes that wait for a delivery queue: the hold of R580. -/
def waitingOn (s : State) (q : Nat) : Nat := (s.swq.waits.filter (fun w => w.qs.contains q)).length

/-- The highest number known, extended. -/
def reachTo (n : Nat) (st : Stream) : Stream :=
  if evDist st.next st.upTo < evDist st.next n then { st with upTo := n } else st

/-- Held frames that follow are delivered in order; a filled gap closes (R245). -/
def drainStream (key : Nat) : Nat → Stream → State → State
  | 0, st, s => setStream key st s
  | n + 1, st, s =>
    match st.held.find? (fun f => f.aux == st.next) with
    | some f =>
      drainStream key n { st with next := (st.next + 1) % 65536, held := st.held.erase f } (deliverEvt f s)
    | none => setStream key (if st.next = st.upTo then { st with gapAt := none } else st) s

/-- The frame next in sequence: delivered, or behind frames that wait, or not taken where the queue and the hold are full
(R300, R580). -/
def takeNext (key : Nat) (st : Stream) (f : Frame) (s : State) : State :=
  let q := 32 + f.cls
  let past := { reachTo ((st.next + 1) % 65536) st with next := (st.next + 1) % 65536 }
  let refused := setStream key (reachTo ((st.next + 1) % 65536) st) (notTaken s)
  if f.typ = 10 then drainStream key 65 past (deliverEvt f s)
  else if st.gapAt.isSome then drainStream key 65 past (deliverEvt f s)
  else if waitingOn s q != 0 then
    (if st.held.length + waitingOn s q < 64 then drainStream key 65 past (deliverEvt f s) else refused)
  else
    match deliverQ q (.frame f) f.cls s with
    | some t => drainStream key 65 past t
    | none => refused

/-- A wait ends: what is held is delivered, with a loss item in place of each missing frame (R245, R407 LOST). -/
def endWait (key : Nat) (st : Stream) (s : State) : State :=
  let cls := key % 2 + 3
  let n := evDist st.next st.upTo
  let nums := (List.range n).map (fun i => (st.next + i) % 65536)
  let s := nums.foldl (fun t k =>
    match st.held.find? (fun f => f.aux == k) with
    | some f => deliverEvt f t
    | none => pushBody [32 + cls] (.words [wd (0xFFFF + 2 * 65536), wd (key / 4 % 4096 + key % 2 * 4096), wd k]) cls t) s
  let lost := (nums.filter (fun k => !st.held.any (fun f => f.aux == k))).length
  let s := setStream key { st with next := st.upTo, held := [], gapAt := none } s
  if lost = 0 then s else raise 103 (addF (fRGx_RP_EVT_LOST_EVT_LOST (homePair s)) lost s)

/-- An EVENT or DFR against its stream (R245, R580). -/
def eventIn (f : Frame) (s : State) : State :=
  let key := streamKey f
  match tget (fun _ => none) s.ring.streams key with
  | none =>
    if f.replay then incF (fRGx_RP_DUP_DUP (homePair s)) s else takeNext key ⟨f.aux, [], none, f.aux⟩ f s
  | some st =>
    let rel := evDist st.next f.aux
    let held := st.held.any (fun g => g.aux == f.aux)
    if f.replay && (st.gapAt.isNone || held || evDist st.next st.upTo ≤ rel) then incF (fRGx_RP_DUP_DUP (homePair s)) s
    else if 32768 ≤ rel || held then s
    else if rel = 0 then takeNext key st f s
    else
      let first := if st.gapAt.isSome then st.upTo else st.next
      let st' := reachTo ((f.aux + 1) % 65536) { st with held := st.held ++ [f] }
      if st.gapAt.isNone && waitingOn s (32 + f.cls) != 0 then
        (if st.held.length < 64 then setStream key st' s
          else setStream key (reachTo ((f.aux + 1) % 65536) st) (notTaken s))
      else if 64 < st'.held.length then endWait key st' s
      else if evDist first st'.upTo < 32768 then openGap key st' first s
      else setStream key st' s

/-- EVENT (R245). -/
def execEvent (s : State) : Host.Outcome State Fault Refusal := .next (onRx 9 eventIn s)

/-- DFR (R119, R245, R322). -/
def execDfr (s : State) : Host.Outcome State Fault Refusal := .next (onRx 10 eventIn s)

/-- An EVT_MARK: an item of Q35 or Q36, and a gap where its stream lacks numbers up to the one it carries (R245, R277). -/
def markIn (f : Frame) (s : State) : State :=
  let key := streamKey f
  let n := (f.aux + 1) % 65536
  match deliverQ (32 + f.cls) (.frame f) f.cls s with
  | none =>
    (match tget (fun _ => none) s.ring.streams key with
      | some st => setStream key (if evDist st.next n < 32768 then reachTo n st else st) (notTaken s)
      | none => notTaken s)
  | some s =>
    match tget (fun _ => none) s.ring.streams key with
    | none => setStream key ⟨n, [], none, n⟩ s
    | some st =>
      if 32768 ≤ evDist st.next n then s
      else openGap key (reachTo n st) (if st.gapAt.isSome then st.upTo else st.next) s

/-- EVT_MARK (R245). -/
def execEvtMark (s : State) : Host.Outcome State Fault Refusal := .next (onRx 11 markIn s)

/-- A REPLAY_GONE: an item of Q35 or Q36, and the end of the wait of the stream that w0 names (R245). -/
def goneIn (f : Frame) (s : State) : State :=
  match deliverQ (32 + f.cls) (.frame f) f.cls s with
  | none => notTaken s
  | some s =>
    let key := 4 * f.src + pw f 0 / 2 % 2 * 2 + pw f 0 % 2
    match tget (fun _ => none) s.ring.streams key with
    | some st => if st.gapAt.isSome then endWait key st s else s
    | none => s

/-- REPLAY_GONE (R245). -/
def execReplayGone (s : State) : Host.Outcome State Fault Refusal := .next (onRx 12 goneIn s)

/-- REPLAY_WAIT_EXPIRY (R245): 5 ms after the gap opened. -/
def execReplayWaitExpiry (src : Nat) (bcast : Bool) (cls : Nat) (s : State) : Host.Outcome State Fault Refusal :=
  .next (
    let key := 4 * src + 2 * bit bcast + (cls - 3)
    match tget (fun _ => none) s.ring.streams key with
    | some st =>
      (match st.gapAt with
        | some t => if t + 5000000 ≤ s.clk then endWait key st s else s
        | none => s)
    | none => s)

/-- Frames of the replay store that belong to a stream (R580). -/
def replayOf (s : State) (dest : Nat) (bcast : Bool) (cls : Nat) : List Frame :=
  s.ring.replay.filter (fun f => f.cls == cls && f.bcast == bcast && (bcast || f.dest == dest))

/-- The source's answer to a REPLAY_REQ: the missing frames it holds as first sent, with REPLAY = 1, and REPLAY_GONE for
numbers it no longer holds (R245, R580). -/
def answerReplay (f : Frame) (s : State) : State :=
  let cls := pw f 0 % 2 + 3
  let bcast := pw f 0 / 2 % 2 == 1
  let store := replayOf s f.src bcast cls
  let n := evDist (pw f 1 % 65536) (pw f 2 % 65536)
  let s := store.reverse.foldl (fun t g =>
    if evDist (pw f 1 % 65536) g.aux ≤ n then toEgress (homePorts t) { g with replay := true } t else t) s
  let first := match store.getLast? with
    | some g => g.aux
    | none => tget (fun _ => 0) s.ring.evNext (2 * (if bcast then 4096 else f.src) + (cls - 3))
  let missing := !store.any (fun g => g.aux == pw f 1 % 65536)
  if missing then originate (mkFrame 12 cls f.src false first [wd (pw f 0 % 4)]) s else s

/-- REPLAY_REQ (R245). -/
def execReplayReq (s : State) : Host.Outcome State Fault Refusal :=
  .next (when (stwRuns s) (onQ 34 8 answerReplay) s)

/-- EVT_MARK_TIMER (R244): 1 ms after the last EVENT or DFR to a destination. -/
def execEvtMarkTimer (dest : Option Nat) (cls : Nat) (s : State) : Host.Outcome State Fault Refusal :=
  .next (
    let key := 2 * dest.getD 4096 + (cls - 3)
    match tget (fun _ => none) s.ring.evMark key with
    | some t =>
      if t + 1000000 ≤ s.clk then
        let last := (tget (fun _ => 0) s.ring.evNext key + 65535) % 65536
        let s := { s with ring := { s.ring with evMark := tset (fun _ => none) key none s.ring.evMark } }
        originate (mkFrame 11 cls (dest.getD 0) dest.isNone last [0]) s
      else s
    | none => s)

/-! ### Sweeps (R246, R250 to R252) -/

def getSweep (s : State) (k : Nat) : Option SweepTrack := tget (fun _ => none) s.ring.sweeps k
def setSweep (k : Nat) (x : SweepTrack) (s : State) : State :=
  { s with ring := { s.ring with sweeps := tset (fun _ => none) k (some x) s.ring.sweeps } }

/-- The shelf entry of a node and group, with the shelf list's cycle in ns. -/
def shelfEnt (s : State) (node group : Nat) : Option (ShelfEnt × Nat) :=
  match s.stw.inForce with
  | none => none
  | some e =>
    (e.shelf.entries.find? (fun n => n.node == node && n.group == group)).map (fun n => (n, max 1 e.shelf.cycle * 1000))

/-- The start, in ns of ring time, of an entry's first sweep after some moment (R250). -/
def nextSlot (n : ShelfEnt) (cyc now : Nat) : Nat :=
  let per := cyc * 2 ^ n.divider
  let base := n.phase * cyc + n.offset * 1000
  if now < base then base else base + ((now - base) / per + 1) * per

/-- Frames of a sweep that have not been received are counted (R246). -/
def countLost (n : ShelfEnt) (t : SweepTrack) (s : State) : State :=
  addF (fRGx_RP_SWEEP_LOST_SWEEP_LOST (homePair s)) (n.frames - t.got.length) s

/-- A frame of a sweep has been received; where it opens its entry's next sweep, what the last one lacks is counted
(R246). A sweep of which nothing has come yet is noted with the cycle number 2^24. -/
def trackSweep (f : Frame) (s : State) : State :=
  let k := 64 * f.src + f.dest % 64
  let at_ := pw f 1 % 2 ^ 20
  match shelfEnt s f.src (f.dest % 64) with
  | none => s
  | some (n, cyc) =>
    let due := match slotStart s f with
      | some t => t + cyc * 2 ^ n.divider
      | none => nextSlot n cyc s.ringNs
    match getSweep s k with
    | none => setSweep k ⟨pw f 2, [at_], due⟩ s
    | some t =>
      if t.cycle = pw f 2 then setSweep k { t with got := insSet at_ t.got } s
      else if t.cycle = 2 ^ 24 && s.ringNs < t.due then setSweep k { t with cycle := pw f 2, got := [at_] } s
      else setSweep k ⟨pw f 2, [at_], due⟩ (countLost n t s)

/-- The ring set of a shelf entry holds a ring across the coupler (R252, Table 7). -/
def sweepCrosses (s : State) (f : Frame) : Bool :=
  match s.stw.inForce with
  | none => false
  | some e =>
    match e.shelf.entries.find? (fun n => n.node == f.src && n.group == f.dest % 64) with
    | none => false
    | some n =>
      n.ringSet != 0 &&
        (beyond s (framePair s f)).any
          (fun r => bitsOf (e.shelf.sets.getD (n.ringSet - 1) 0) r 1 == 1)

/-- The record of word i of a payload on. -/
def recAt (f : Frame) (i : Nat) : Rec := recOf (f.payload.getD i 0) (f.payload.getD (i + 1) 0) (f.payload.getD (i + 2) 0)

/-- A standby twin keeps the latest swept copy of every shared point: its peer's sweep of the twin group, in the order of
this hub's own point list of that group (R485, R486). -/
def twinCopy (f : Frame) (s : State) : State :=
  if twinOn s && f.src = getF s fTWN_CTL_PEER && f.dest % 64 = getF s fTWN_CTL2_GROUP && twinRole s = 2 then
    let ps : List Nat := match s.stw.inForce with
      | some e =>
        (match e.groups.find? (fun g => g.1 == f.dest % 64) with
        | some g => g.2
        | none => [])
      | none => []
    let n := (f.payload.length - 3) / 3
    (List.range n).foldl (fun t i =>
      match ps[pw f 1 % 2 ^ 20 + i]? with
      | some p => { t with twin := { t.twin with copies := tset (fun _ => none) p (some (recAt f (3 + 3 * i))) t.twin.copies } }
      | none => t) s
  else s

/-- A received SWEEP (R252). -/
def sweepIn (f : Frame) (s : State) : State :=
  let s := if isCoupler s && sweepCrosses s f then crossBcast f s else s
  if subscribed s f.src (f.dest % 64) then
    match deliverQ 32 (.words (wd (f.src % 4096) :: f.payload)) 0 s with
    | some s => twinCopy f (trackSweep f s)
    | none => notTaken s
  else s

/-- SWEEP (R252). -/
def execSweep (s : State) : Host.Outcome State Fault Refusal := .next (onRx 1 sweepIn s)

/-- SWEEP_LOST_CHECK (R246): at the start of an entry's next sweep; the first check begins the count. -/
def execSweepLostCheck (node group : Nat) (s : State) : Host.Outcome State Fault Refusal :=
  .next (
    let k := 64 * node + group
    match shelfEnt s node group with
    | none => s
    | some (n, cyc) =>
      if !subscribed s node group then s
      else
        let fresh : SweepTrack := ⟨2 ^ 24, [], nextSlot n cyc s.ringNs⟩
        match getSweep s k with
        | some t => if t.due ≤ s.ringNs then setSweep k fresh (countLost n t s) else s
        | none => setSweep k fresh s)

/-- A swept record is read: checked, its words taken, and CHANGED cleared (R59, R74, R77). -/
def sweepRecord (p : Nat) (s : State) : List Word × State :=
  let s := touchPt p .ok s
  let r := getPt s p
  (recWords r, putRec (ptKey s p) { r with changed := false } s)

def sweepRecords : List Nat → State → List Word × State
  | [], s => ([], s)
  | p :: ps, s =>
    let a := sweepRecord p s
    let b := sweepRecords ps a.2
    (a.1 ++ b.1, b.2)

/-- The frames of a sweep, at most 224 records each (R74, R250). -/
def sweepFrames (group cycle : Nat) : Nat → Nat → List Nat → State → State
  | 0, _, _, s => s
  | n + 1, at_, ps, s =>
    let l := ps.take 224
    if l.isEmpty then s
    else
      let r := sweepRecords l s
      let f := mkFrame 1 0 group true 0 ([wd (group + (l.length - 1) * 64), wd at_, wd cycle] ++ r.1)
      sweepFrames group cycle n (at_ + l.length) (ps.drop 224) (originate f r.2)

/-- SWEEP_SLOT (R250): entry i of the shelf list sweeps, once in each of its cycles, from the first slot after LOCKED on
(R543). -/
def execSweepSlot (i : Nat) (ecc : List (Nat × Ecc)) (s : State) : Host.Outcome State Fault Refusal :=
  .next (match s.stw.inForce with
  | none => s
  | some e =>
    match e.shelf.entries[i]? with
    | none => s
    | some n =>
      let cyc := max 1 e.shelf.cycle * 1000
      let c := s.ringNs / cyc
      let due := c % 2 ^ n.divider == n.phase && decide (n.offset * 1000 ≤ s.ringNs % cyc)
      let own := numbered s && n.node == nodeId s && seedDone s (homePair s) && s.rtime.everLocked && !s.ring.stopped
      if due && own && !asleep s && tget (fun _ => 0) s.ring.swept i ≤ c then
        let s := { s with ring := { s.ring with swept := tset (fun _ => 0) i (c + 1) s.ring.swept } }
        let ps := match e.groups.find? (fun g => g.1 == n.group) with
          | some g => g.2
          | none => []
        sweepFrames n.group c ((ps.length + 223) / 224) 0 ps (strikes 0 ecc s)
      else s)

/-! ### Beacons (R259, R260, R26, R406, R461) -/

/-- The beacon's payload (R229): unit tag, active edition, CLOSED. -/
def beaconPayload (s : State) : List Word :=
  [reg s (oSEC_UNIT_TAG 0), reg s (oSEC_UNIT_TAG 1),
    wd (getF s fDSK_ED_ACTIVE_EDITION + 65536 * bit (flag s (fRGx_RP_STAT_CLOSED (homePair s))))]

/-- Some home port is in keep-alive, where beacons leave every 1 s (R461). -/
def homeKeptAlive (s : State) : Bool := (homePorts s).any (fun p => portState s p == 4)

/-- A frame of the AON datapath, originated while the switch core sleeps (R461). -/
def originateAon (f : Frame) (s : State) : State :=
  if domOn s 3 then originate f s
  else if numbered s && !s.ring.stopped then
    let n := seqOf s f.cls
    let f := { f with sq := n, src := nodeId s, entry := nodeId s, ring := ringId s }
    let s := { s with ring := { s.ring with seqs := tset (fun _ => 0) f.cls ((n + 1) % 65536) s.ring.seqs } }
    let s := if f.typ = 6 then
      { s with ring := { s.ring with beaconSeq := n, beaconBack := [], beaconAt := some s.clk } } else s
    (homePorts s).foldl (fun t p => if ringUp t p then sendOut p false f .good t else t) s
  else s

/-- BEACON_TIMER (R259, R461). -/
def execBeaconTimer (s : State) : Host.Outcome State Fault Refusal :=
  .next (
    if numbered s && !s.ring.stopped && seedDone s (homePair s) && s.ring.beaconDue ≤ s.clk then
      let n := s.ring.beaconCount + 1
      let f := { mkFrame 6 2 0 true 0 (beaconPayload s) with fabric := n % 100 == 0 }
      let s := { s with ring := { s.ring with
        beaconCount := n % 100
        beaconDue := s.clk + (if homeKeptAlive s then 1000000000 else 10000000) } }
      originateAon f s
    else s)

/-- CLOSED of the home pair's ring, and fault source 100 or 101 while it is open (R259). -/
def setClosed (closed : Bool) (s : State) : State :=
  causeIs (!closed) (100 + homePair s) (setF (fRGx_RP_STAT_CLOSED (homePair s)) (bit closed) s)

/-- BEACON_RETURN_TIMEOUT (R259, R461). -/
def execBeaconReturnTimeout (x : Nat) (s : State) : Host.Outcome State Fault Refusal :=
  unit (x < 2) (
    match s.ring.beaconAt with
    | some t =>
      let lim := if getF s fPWR_STATUS_STATE = 2 then 500000000 else 5000000
      if x = homePair s && t + lim ≤ s.clk && s.ring.beaconBack != [0, 1] then
        setClosed false { s with ring := { s.ring with beaconAt := none } }
      else s
    | none => s)

/-- An own beacon comes back: by both directions in time, the ring is closed; with another unit tag, a second hub has this
node ID (R259, R260, R26). -/
def ownBeacon (f : Frame) (s : State) : State :=
  if [wd (pw f 0), wd (pw f 1)] != (beaconPayload s).take 2 then
    raise 104 (setF (fRGx_RP_STAT_CONFLICT (framePair s f)) 1 { s with ring := { s.ring with stopped := true } })
  else
    match s.ring.beaconAt with
    | some _ =>
      if f.sq = s.ring.beaconSeq then
        let back := insSet (bit f.west) s.ring.beaconBack
        let s := { s with ring := { s.ring with beaconBack := back } }
        if back = [0, 1] then setClosed true s else s
      else s
    | none => s

/-- A neighbour's beacon shows its edition on the port it came by (R406). -/
def neighbourEdition (f : Frame) (s : State) : State :=
  let p := 2 * framePair s f + bit (!f.west)
  let ed := pw f 2 % 65536
  let old := tget (fun _ => none) s.ring.nbrEd p
  let since := match old with
    | some (_, _, t) => t
    | none => s.clk
  let v := if ed = getF s fDSK_ED_ACTIVE_EDITION then none else some (f.src, ed, since)
  let tab := tset (fun _ => none) p v s.ring.nbrEd
  { s with ring := { s.ring with nbrEd := tab, nbrRaised := s.ring.nbrRaised && !tab.isEmpty } }

/-- A received BEACON (R254, R259, R260). -/
def beaconIn (f : Frame) (s : State) : State :=
  if f.src = nodeId s then ownBeacon f s
  else
    let s := if f.hops = 0 then neighbourEdition f s else s
    if f.fabric then crossBcast f s else s

/-- BEACON (R259). -/
def execBeacon (s : State) : Host.Outcome State Fault Refusal := .next (onRx 6 beaconIn s)

/-- EDITION_MISMATCH_CHECK (R406). -/
def execEditionMismatchCheck (p : Nat) (s : State) : Host.Outcome State Fault Refusal :=
  unit (p < 4) (
    match tget (fun _ => none) s.ring.nbrEd p with
    | some (node, ed, t) =>
      if t + 1000000000 ≤ s.clk && !s.ring.nbrRaised && stwRuns s then
        let s := raise 518 { s with ring := { s.ring with nbrRaised := true } }
        Sys2Proof.Machine.event 0x21 3 0 [wd node, wd ed] s
      else s
    | none => s)

/-! ### Seeding (R235, R543, R544) -/

/-- SEEDING_END (R235): delivery and origination begin; on the home pair of a numbered hub, STAGE reaches RING and the
steward turns PROTECT off (R544, R546). -/
def execSeedingEnd (x : Nat) (s : State) : Host.Outcome State Fault Refusal :=
  unit (x < 2) (
    match tget (fun _ => none) s.ring.seedEnd x with
    | some t =>
      if t ≤ s.clk then
        let s := { s with ring := { s.ring with seedEnd := tset (fun _ => none) x none s.ring.seedEnd } }
        let s := setF (fRGx_RP_STAT_SEEDING x) 0 s
        if x = homePair s && numbered s && stwRuns s then
          let s := setF fSWQ_CTL_MODE 1 s
          if getF s fGLB_BOOT_STAGE = 6 then
            setF fGLB_BOOT_STAGE (if s.rtime.everLocked then 8 else 7) s
          else s
        else s
      else s
    | none => s)

/-! ### Bulk transfers (R247, R395) -/

def getBulkIn (s : State) (k : Nat) : Option BulkIn := tget (fun _ => none) s.ring.bulkIn k
def setBulkIn (k : Nat) (b : Option BulkIn) (s : State) : State :=
  { s with ring := { s.ring with bulkIn := tset (fun _ => none) k b s.ring.bulkIn } }
def getBulkOut (s : State) (k : Nat) : Option BulkOut := tget (fun _ => none) s.ring.bulkOut k
def setBulkOut (k : Nat) (b : Option BulkOut) (s : State) : State :=
  { s with ring := { s.ring with bulkOut := tset (fun _ => none) k b s.ring.bulkOut } }

/-- The open transfer of a desk whose session a node holds, by its transfer ID (R388, R395). -/
def bulkTarget (s : State) (f : Frame) : Option Staging :=
  match s.stw.staging with
  | some g =>
    if g.id = f.aux && 2 ≤ g.desk && g.desk ≤ 5 && flag s (fDSK_DESK_SESSION g.desk) && getF s (fDSK_DESK_NODE g.desk) == f.src
    then some g else none
  | none => none

/-- The BULK_ACK of a transfer: the next offset expected. -/
def sendBulkAck (src tid : Nat) (b : BulkIn) (s : State) : State :=
  originate (mkFrame 19 7 src false tid [wd b.expect]) (setBulkIn (65536 * src + tid) (some { b with since := 0, owed := false }) s)

/-- A BULK_DATA frame (R247): taken at the expected offset, discarded elsewhere. -/
def bulkDataIn (f : Frame) (s : State) : State :=
  match bulkTarget s f with
  | none => s
  | some g =>
    let k := 65536 * f.src + f.aux
    let b := (getBulkIn s k).getD ⟨0, 0, 0, false⟩
    let ws := f.payload.drop 1
    let hit := pw f 0 == b.expect
    let s := if hit then { s with stw := { s.stw with staging := some (stageWords g b.expect ws) } } else s
    let b := { b with expect := if hit then b.expect + ws.length else b.expect, since := b.since + 1, last := s.clk, owed := true }
    if b.since = 16 then sendBulkAck f.src f.aux b s else setBulkIn k (some b) s

/-- BULK_DATA (R247). -/
def execBulkData (s : State) : Host.Outcome State Fault Refusal := .next (when (stwRuns s) (onQ 39 18 bulkDataIn) s)

/-- BULK_ACK_TIMER (R247): 1 ms after the last frame received. -/
def execBulkAckTimer (src tid : Nat) (s : State) : Host.Outcome State Fault Refusal :=
  .next (match getBulkIn s (65536 * src + tid) with
  | some b => if b.owed && b.last + 1000000 ≤ s.clk then sendBulkAck src tid b s else s
  | none => s)

/-- The next sixteen frames of a transfer leave, in ascending offset order. -/
def bulkSend (tid : Nat) : Nat → State → State
  | 0, s => s
  | n + 1, s =>
    match getBulkOut s tid with
    | none => s
    | some b =>
      let l := (b.words.drop b.sent).take 681
      if l.isEmpty then s
      else bulkSend tid n (originate (mkFrame 18 7 b.dest false tid (wd b.sent :: l))
        (setBulkOut tid (some { b with sent := b.sent + l.length }) s))

/-- A BULK_ACK moves its transfer on, and ends it with the last word. -/
def bulkAckIn (f : Frame) (s : State) : State :=
  match getBulkOut s f.aux with
  | none => s
  | some b =>
    if b.dest != f.src then s
    else if b.words.length ≤ pw f 0 then setBulkOut f.aux none s
    else if b.acked < pw f 0 then
      bulkSend f.aux 16 (setBulkOut f.aux (some { b with acked := pw f 0, progress := s.clk, started := s.clk }) s)
    else s

/-- BULK_ACK (R247). -/
def execBulkAck (s : State) : Host.Outcome State Fault Refusal := .next (when (stwRuns s) (onQ 39 19 bulkAckIn) s)

/-- A transfer of words to a node begins: nothing is acknowledged yet (log 197). -/
def bulkOpenOut (tid dest : Nat) (words : List Word) (s : State) : State :=
  bulkSend tid 16 (setBulkOut tid (some ⟨dest, words, 0, 0, s.clk, s.clk⟩) s)

/-- BULK_PROGRESS_TIMEOUT (R247): the sender starts again from the acknowledged offset. Where `opened` names a transfer and
none stands under the ID, the steward starts it: from offset 0 (log 197). -/
def execBulkProgressTimeout (tid : Nat) (opened : Option (Nat × List Word)) (s : State) : Host.Outcome State Fault Refusal :=
  .next (match getBulkOut s tid with
  | some b =>
    if max b.progress b.started + 5000000 ≤ s.clk then
      bulkSend tid 16 (setBulkOut tid (some { b with sent := b.acked, started := s.clk }) s)
    else s
  | none =>
    match opened with
    | some (dest, words) => when (stwRuns s && tid < 65536 && !words.isEmpty) (bulkOpenOut tid (dest % 4096) words) s
    | none => s)

/-- BULK_TIMEOUT (R247). -/
def execBulkTimeout (tid : Nat) (s : State) : Host.Outcome State Fault Refusal :=
  .next (match getBulkOut s tid with
  | some b =>
    if b.progress + 1000000000 ≤ s.clk then originate (mkFrame 20 7 b.dest false tid [16]) (setBulkOut tid none s) else s
  | none => s)

/-- A BULK_ABORT fails the transfer at either end. -/
def bulkAbortIn (f : Frame) (s : State) : State :=
  let s := match getBulkOut s f.aux with
    | some b => if b.dest = f.src then setBulkOut f.aux none s else s
    | none => s
  setBulkIn (65536 * f.src + f.aux) none s

/-- BULK_ABORT (R247). -/
def execBulkAbort (s : State) : Host.Outcome State Fault Refusal := .next (when (stwRuns s) (onQ 39 20 bulkAbortIn) s)

end Sys2Proof.Machine
end

