-- ==== Sys2Proof/Machine/RingTime.lean ====
section
/-! DEFINITION. Ring time: the grandmaster, TIME_SYNC, holdover, PPS and link delays (07 R261 to R269; R543, R545). -/

namespace Sys2Proof.Machine

/-! ### The grandmaster (R262) -/

/-- A candidate comes before another: PPS_LOCKED, then the lower priority, then the lower node ID. -/
def candBefore (a b : Candidate) : Bool :=
  if a.pps != b.pps then a.pps
  else if a.prio != b.prio then a.prio < b.prio
  else a.node < b.node

/-- Announces heard in the last 375 ms. -/
def heardCands (s : State) : List Candidate := s.rtime.cands.filter (fun c => s.clk < c.heard + 375000000)

/-- The best of some candidates. -/
def bestCand : List Candidate → Option Candidate
  | [] => none
  | c :: t =>
    match bestCand t with
    | some d => if candBefore d c then some d else some c
    | none => some c

/-- This hub as a candidate. -/
def ownCand (s : State) : Candidate :=
  ⟨nodeId s, getF s fRTM_CTL_GM_PRIO, flag s fRTM_STATUS_PPS_LOCKED, s.clk⟩

/-- This hub may be grandmaster. -/
def eligible (s : State) : Bool := numbered s && getF s fRTM_CTL_GM_PRIO != 255 && !s.ring.stopped

def setLocked (b : Bool) (s : State) : State :=
  let s := setF fRTM_STATUS_LOCKED (bit b) s
  if b then firstLock s else s

/-- The grandmaster is the best candidate heard, or this hub where none is heard and it is eligible (R262). -/
def chosenGm (s : State) : Option Nat :=
  match bestCand (heardCands s) with
  | some c => some c.node
  | none => if eligible s then some (nodeId s) else none

/-- Another hub is the grandmaster and has not been heard: it is lost (R266). -/
def gmLost (s : State) : Bool :=
  match s.rtime.gm with
  | some g => !flag s fRTM_STATUS_GM && !(heardCands s).any (fun c => c.node == g)
  | none => false

/-- RTM_STATUS shows the grandmaster. -/
def showGm (gm : Option Nat) (s : State) : State :=
  match gm with
  | some n => setF fRTM_STATUS_GM_NODE n s
  | none => s

/-- The grandmaster is chosen anew (R262); a lost one raises 108 (R266). A grandmaster is LOCKED to itself (log 25). -/
def selectGm (s : State) : State :=
  let gm := chosenGm s
  if gm = s.rtime.gm then s
  else
    let me := gm == some (nodeId s)
    let s := when (gmLost s) (raise 108) s
    let s := { s with rtime := { s.rtime with gm := gm, source := none, otherAt := none, syncDue := s.clk } }
    when me (fun s => setLocked true (setF fRTM_STATUS_HOLDOVER 0 s)) (showGm gm (setF fRTM_STATUS_GM (bit me) s))

/-- A grandmaster that an activation makes ineligible, or renumbers, is one no longer (R262). -/
def recheckGm (s : State) : State :=
  if flag s fRTM_STATUS_GM && (s.rtime.gm != some (nodeId s) || !eligible s) then selectGm s else s

/-- A received TIME_ANNOUNCE enters the selection, and a coupler forwards it (R254, R262). -/
def announceIn (f : Frame) (s : State) : State :=
  let w := pw f 0
  let c : Candidate := ⟨bitsOf w 0 12, bitsOf w 12 8, bitsOf w 20 1 == 1, s.clk⟩
  let s := { s with rtime := { s.rtime with cands := c :: s.rtime.cands.filter (fun d => d.node != c.node) } }
  crossBcast f (selectGm s)

/-- TIME_ANNOUNCE (R262): from Q33, or from AON while the switch core sleeps (R461). -/
def execTimeAnnounce (s : State) : Host.Outcome State Fault Refusal :=
  .next (if (getQ s 33).isEmpty then onRx 3 announceIn s else onQ 33 3 announceIn s)

/-- TIME_ANNOUNCE_TIMER (R262). -/
def execTimeAnnounceTimer (s : State) : Host.Outcome State Fault Refusal :=
  .next (
    let own := ownCand s
    if eligible s && seedDone s (homePair s) && s.rtime.announceDue ≤ s.clk && (heardCands s).all (fun c => candBefore own c) then
      let s := selectGm s
      let s := { s with rtime := { s.rtime with
        announceDue := s.clk + 125000000, announceSeq := (s.rtime.announceSeq + 1) % 65536 } }
      let w := wd (own.node + 2 ^ 12 * own.prio + 2 ^ 20 * bit own.pps)
      originateAon (mkFrame 3 1 0 true s.rtime.announceSeq [w]) s
    else s)

/-- GRANDMASTER_TIMEOUT (R262, R266): no announce from the grandmaster in 375 ms. -/
def execGrandmasterTimeout (s : State) : Host.Outcome State Fault Refusal :=
  .next (match s.rtime.gm with
  | none => s
  | some g =>
    if g = nodeId s && numbered s then s
    else if (heardCands s).any (fun c => c.node == g) then s
    else selectGm s)

/-! ### TIME_SYNC (R264 to R266) -/

/-- Sync interval in ns; at least every 125 ms in keep-alive (R264, R461). -/
def syncInterval (s : State) : Nat :=
  let n := 125000 * (2 ^ getF s fRTM_CTL_SYNC_PER)
  if homeKeptAlive s then min n 125000000 else n

/-- The grandmaster's ring, where the node table names it. -/
def gmRing (s : State) : Option Nat :=
  match s.rtime.gm with
  | some g => (nodeEnt s g).map (·.ring)
  | none => none

/-- The pair of a coupler away from the grandmaster (R265). -/
def awayPair (s : State) : Nat :=
  let x := homePair s
  match gmRing s with
  | some r => if (beyond s x).contains r then x else 1 - x
  | none => 1 - x

/-- A TIME_SYNC on the ring of pair x; its origin time is written as it leaves (R264). -/
def sendSync (x crossed gm prio : Nat) (s : State) : State :=
  let f := mkFrame 2 1 0 true s.rtime.syncSeq [0, 0, wd (2 ^ 16 * crossed), 0, 0, wd (gm % 4096 + 2 ^ 12 * (prio % 256))]
  if x = homePair s then originateAon f s
  else
    let n := seqOf s 1
    let f := { f with sq := n, src := nodeId s, entry := nodeId s, ring := pairRing s x }
    let s := { s with ring := { s.ring with seqs := tset (fun _ => 0) 1 ((n + 1) % 65536) s.ring.seqs } }
    if domOn s 3 then toEgress [2 * x, 2 * x + 1] f s
    else [2 * x, 2 * x + 1].foldl (fun t p => if ringUp t p then sendOut p false f .good t else t) s

/-- TIME_SYNC_TIMER (R264, R265): the grandmaster on each of its rings, a coupler on its ring away from it. -/
def execTimeSyncTimer (s : State) : Host.Outcome State Fault Refusal :=
  .next (
    if numbered s && !s.ring.stopped && seedDone s (homePair s) && s.rtime.syncDue ≤ s.clk then
      let me := s.rtime.gm == some (nodeId s)
      let due := fun s => { s with rtime := { s.rtime with
        syncDue := s.clk + syncInterval s, syncSeq := (s.rtime.syncSeq + 1) % 65536 } }
      let x := homePair s
      if me then
        let p := getF s fRTM_CTL_GM_PRIO
        let s := sendSync x 0 (nodeId s) p s
        due (if isCoupler s then sendSync (1 - x) 0 (nodeId s) p s else s)
      else if isCoupler s then
        match s.rtime.prevSync, s.rtime.gm with
        | some (n, p), some g => due (sendSync (awayPair s) (n + 1) g p s)
        | _, _ => s
      else s
    else s)

/-- A step of ring time (R266): counted, and the analog channels' windows are cut (R173). -/
def stepTime (t : Nat) (s : State) : State :=
  realign (t % 2 ^ 64) (wrapF fRTM_STEPS_STEPS s)

/-- An offset of ring time from its source, in ns, saturating (Table 16). -/
def setOffset (d : Int) (s : State) : State :=
  setF fRTM_OFFSET_OFFSET (ofInt24 (if d < -8388608 then -8388608 else if 8388607 < d then 8388607 else d)).toNat s

/-- The frequency of ring time is steered against an offset of d ns that was measured over some ns: a sixteenth of it is
learned, and a quarter more is steered off in the next such time (log 26). -/
def steerTime (d : Int) (ns : Nat) (s : State) : State :=
  let per := d * 2 ^ 20 * 1000 / (ns : Int)
  let fr := s.rtime.freq - per / 16
  { s with rtime := { s.rtime with freq := fr, steer := fr - per / 4 } }

/-- Ring time runs at the frequency last learned (R266). -/
def holdFreq (s : State) : State := { s with rtime := { s.rtime with steer := s.rtime.freq } }

/-- Ring time meets its source: stepped beyond 1 us, its frequency steered within it (R266). -/
def meet (target : Int) (s : State) : State :=
  let d := (s.ringNs : Int) - target
  let s := setOffset d s
  let s := setF fRTM_STATUS_HOLDOVER 0 { s with rtime := { s.rtime with syncLast := s.clk } }
  if 1000 < d.natAbs then
    let s := holdFreq (stepTime target.toNat s)
    let s := if s.rtime.offSince.isNone then { s with rtime := { s.rtime with offSince := some s.clk } } else s
    setLocked false s
  else
    let s := steerTime d (syncInterval s) { s with rtime := { s.rtime with offSince := none, offRaised := false } }
    setLocked true s

/-- A TIME_SYNC from the coupler with the lower node ID, by its copy with the fewer HOPS (R265, R266). -/
def syncIn (f : Frame) (s : State) : State :=
  if s.rtime.gm = some (nodeId s) || (isCoupler s && framePair s f == awayPair s) then s
  else
    let follow := match s.rtime.source with
      | none => true
      | some n => decide (f.src ≤ n)
    let seen := tget (fun _ => none) s.rtime.syncSeen f.src
    let better := match seen with
      | some v => v / 1024 != f.aux || decide (f.hops < v % 1024)
      | none => true
    if !follow then { s with rtime := { s.rtime with otherAt := some s.clk } }
    else if !better then s
    else
      let g := moveCorr f (256 * s.clk)
      let corr := ofLE [pw g 3 % 256, pw g 3 / 256 % 256, pw g 3 / 65536, pw g 4 % 256, pw g 4 / 256 % 256, pw g 4 / 65536]
      let corrNs := ((BitVec.ofNat 48 corr).toInt) / 256
      let origin : Nat := pw f 0 + 2 ^ 24 * pw f 1 + 2 ^ 48 * (pw f 2 % 65536)
      let s := { s with rtime := { s.rtime with
        source := some f.src
        prevSync := some (pw f 2 / 65536, bitsOf (pw f 5) 12 8)
        syncSeen := tset (fun _ => none) f.src (some (f.aux * 1024 + f.hops)) s.rtime.syncSeen } }
      meet ((origin : Int) + corrNs) s

/-- TIME_SYNC (R266). -/
def execTimeSync (s : State) : Host.Outcome State Fault Refusal := .next (onRx 2 syncIn s)

/-- SYNC_HOLDOVER (R265, R266): three sync intervals without a usable frame. Where the other coupler's frames come, the hub
turns to them; otherwise it holds its last frequency. -/
def execSyncHoldover (s : State) : Host.Outcome State Fault Refusal :=
  .next (
    let wait := 3 * syncInterval s
    let other := match s.rtime.otherAt with
      | some t => decide (s.clk < t + wait)
      | none => false
    if numbered s && s.rtime.gm != some (nodeId s) && s.rtime.gm.isSome && s.rtime.syncLast + wait ≤ s.clk then
      if other then { s with rtime := { s.rtime with source := none, otherAt := none, syncLast := s.clk } }
      else setLocked false (holdFreq (setF fRTM_STATUS_HOLDOVER 1 { s with rtime := { s.rtime with source := none } }))
    else s)

/-- OFFSET_ALARM (R266). -/
def execOffsetAlarm (s : State) : Host.Outcome State Fault Refusal :=
  .next (match s.rtime.offSince with
  | some t =>
    if t + 10000000000 ≤ s.clk && !s.rtime.offRaised then raise 109 { s with rtime := { s.rtime with offRaised := true } } else s
  | none => s)

/-! ### PPS (R269) -/

/-- PPS_IN_EDGE (R269): ring time is steered so that whole seconds fall on the edges; the first one steps it beyond 1 us. -/
def execPpsInEdge (s : State) : Host.Outcome State Fault Refusal :=
  .next (
    if flag s fRTM_CTL_PPS_IN_EN && s.rtime.gm == some (nodeId s) && numbered s then
      let r := s.ringNs % 1000000000
      let t := if r < 500000000 then s.ringNs - r else s.ringNs + (1000000000 - r)
      let d := (s.ringNs : Int) - (t : Int)
      let s := setOffset d { s with rtime := { s.rtime with ppsLast := some s.clk, ppsMissed := 0 } }
      if 1000 < d.natAbs && !flag s fRTM_STATUS_PPS_LOCKED then setF fRTM_STATUS_PPS_LOCKED 1 (holdFreq (stepTime t s))
      else setF fRTM_STATUS_PPS_LOCKED 1 (steerTime d 1000000000 s)
    else s)

/-- PPS_MISSED (R269): three edges missed in a row. -/
def execPpsMissed (s : State) : Host.Outcome State Fault Refusal :=
  .next (match s.rtime.ppsLast with
  | some t =>
    if flag s fRTM_STATUS_PPS_LOCKED && flag s fRTM_CTL_PPS_IN_EN && flag s fRTM_STATUS_GM && t + 3000000000 ≤ s.clk then
      raise 110 (holdFreq (setF fRTM_STATUS_PPS_LOCKED 0 { s with rtime := { s.rtime with ppsMissed := 3 } }))
    else s
  | none => s)

/-- PPS_OUT_PULSE (R269): at a whole second of ring time, PPS_OUT goes high for WIDTH ms. -/
def execPpsOutPulse (s : State) : Host.Outcome State Fault Refusal :=
  .next (
    let free := match s.rtime.ppsHigh with
      | some t => decide (t ≤ s.clk)
      | none => true
    if flag s fRTM_CTL_PPS_OUT_EN && s.ringNs % 1000000000 < 1000 && free then
      emit .pps { s with rtime := { s.rtime with ppsHigh := some (s.clk + 1000000 * max 1 (getF s fRTM_PPS_W_WIDTH)) } }
    else s)

/-! ### Link delay (R263) -/

/-- DLY_REQ (R263): answered with the turnaround time. -/
def execDlyReq (p sq turnaround : Nat) (s : State) : Host.Outcome State Fault Refusal :=
  unit (p < 4) (if linkUp s p then emit (.dly p true (sq % 65536) (turnaround % 2 ^ 32)) s else s)

/-- DLY_RESP (R263): half of what the turnaround leaves of t4 − t1, averaged over 16. -/
def execDlyResp (p sq turnaround elapsed : Nat) (s : State) : Host.Outcome State Fault Refusal :=
  unit (p < 4) (
    let x := getPort s p
    match x.dlyOut with
    | some (n, _) =>
      if n = sq then
        let l := ((elapsed - turnaround) * 8 :: x.delays).take 16
        let s := setPort p { x with dlyOut := none, delays := l } s
        setF (fRGx_RP_LINK_DELAY_LINK_DELAY p) (min 0xFFFFFF (l.foldl (· + ·) 0 / l.length)) s
      else s
    | none => s)

/-- DELAY_MEASURE_TIMER (R263): every 1 ms. -/
def execDelayMeasureTimer (p : Nat) (s : State) : Host.Outcome State Fault Refusal :=
  unit (p < 4) (
    let x := getPort s p
    if linkUp s p && x.dlyDue ≤ s.clk then
      let n := (x.dlySeq + 1) % 65536
      emit (.dly p false n 0) (setPort p { x with dlySeq := n, dlyOut := some (n, s.clk), dlyDue := s.clk + 1000000 } s)
    else s)

end Sys2Proof.Machine
end

