-- ==== Sys2Proof/Machine/Stacks.lean ====
section
/-! DEFINITION. The archive's commands: scrubber, bank copy, bank map, Catalogue reload, stale limits and the alarm check
(chapter 02; R397). -/

namespace Sys2Proof.Machine

/-! ### Scrubber (R79) -/

/-- What a visit does to a Stacks record of a mapped bank besides the check of its code: the stale check, and CHANGED
cleared in group 0 (R50, R60). Both ask the point's Catalogue record. -/
def scrubPoint (p : Nat) (s : State) : State :=
  let s := staleCheck p (touchCat p .ok s)
  if catGroup (catAt s p) = 0 then putRec (ptKey s p) { getPt s p with changed := false } s else s

/-- The logical bank on a physical bank. -/
def logicalOf (s : State) (b : Nat) : Option Nat := [0, 1, 2, 3].find? (fun l => physBank s l == b)

/-- The scrubber moves to its next record: Stacks, then Catalogue of each bank in turn (log 8). -/
def scrubAdvance (s : State) : State :=
  let q := s.stk.scrub
  let put := fun (q : ScrubPos) (s : State) =>
    setF fSTK_SCRUB_STAT_BANK q.bank { s with stk := { s.stk with scrub := q } }
  if q.index + 1 < bankSize then put { q with index := q.index + 1 } s
  else if !q.cat then put { q with index := 0, cat := true } s
  else if q.bank + 1 < 5 then put { q with index := 0, cat := false, bank := q.bank + 1 } s
  else
    let s := wrapF fSTK_SCRUB_STAT_PASS_CNT s
    let s := put { q with index := 0, cat := false, bank := 0, finished := true } s
    if q.overran then scrubBegin s else s

/-- The scrubber leaves a bank whose domain is not on (log 217). -/
def scrubLeave (s : State) : State :=
  scrubAdvance { s with stk := { s.stk with scrub := { s.stk.scrub with index := bankSize - 1, cat := true } } }

/-- SCRUB_VISIT (R79, R77, R50, R60). -/
def execScrubVisit (ecc : Ecc) (s : State) : Host.Outcome State Fault Refusal :=
  let q := s.stk.scrub
  .next (when (scrubRuns s && !q.finished) (fun s => if !domOn s (5 + q.bank) then scrubLeave s else
    let s := countEv 7 5 1 s
    let s := if q.cat then checkCat q.bank q.index ecc s else checkRec q.bank q.index ecc s
    let s := match logicalOf s q.bank with
      | some l =>
        if q.cat then s
        else
          scrubPoint (bankSize * l + q.index) s
      | none => s
    scrubAdvance s) s)

/-- SCRUB_PASS_END (R79): the period that began with the pass in progress is over (log 217). -/
def execScrubPassEnd (s : State) : Host.Outcome State Fault Refusal :=
  let q := s.stk.scrub
  let passed := match q.began with
    | some b => decide (b + q.period ≤ s.clk)
    | none => false
  .next (when (scrubRuns s && passed) (fun s =>
    if q.finished then scrubBegin s
    else if q.overran then s
    else raise 217 (setF fSTK_STATUS_SCRUB_OVERRUN 1 { s with stk := { s.stk with scrub := { q with overran := true } } })) s)

/-! ### Catalogue reload (R77, R85) -/

/-- The Catalogue record that an edition gives a point; a point outside every run is unassigned. -/
def editionCat (e : Edition) (p : Nat) : Cat :=
  match e.cats.find? (fun r => r.1 ≤ p && p < r.1 + r.2.length) with
  | some r => r.2.getD (p - r.1) ⟨0x7F, 0, 0, .loaded⟩
  | none => ⟨0x7F, 0, 0, .loaded⟩

/-- CATALOGUE_RELOAD (R77, R85): the steward rewrites the record from the active edition. -/
def execCatalogueReload (p : Nat) (s : State) : Host.Outcome State Fault Refusal :=
  unit (p < 4 * bankSize) (when (stwRuns s && (getCatK s (ptKey s p)).mark != .loaded) (fun s =>
    match s.stw.inForce with
    | none => s
    | some e =>
      let s := { s with stw := { s.stw with reloads := delSet (ptKey s p) s.stw.reloads } }
      putCat (ptKey s p) (editionCat e p) s) s)

/-! ### Bank copy (R81 to R86, R579) -/

/-- A copy is stopped: dual writes end, the destination is undefined, its fault source is raised (R86). -/
def copyAbort (s : State) : State :=
  match s.stk.copy with
  | none => s
  | some (_, d) =>
    let s := setF fSTK_STATUS_COPY_BUSY 0 s
    let s := setF fSTK_COPY_STAT_DUAL 0 (setF fSTK_COPY_STAT_DONE 0 (setF fSTK_COPY_STAT_ABORTED 1 s))
    let s := raise (207 + d) { s with stk := { s.stk with copy := none, undef := insSet d s.stk.undef } }
    match atticFind s 1 (fun w => w.spare == d) with
    | some w => atticEnd w 1 s
    | none => s

/-- A copy starts, or is refused (R81); a fenced bank is never the destination (R478). -/
def copyStart (src dst : Nat) (s : State) : State :=
  if s.stk.copy.isSome || dst != spareBank s || bankFenced s dst || !(List.range 4).any (fun l => physBank s l == src) then
    setF fSTK_STATUS_CFG_REJECT 1 s
  else
    let s := setF fSTK_STATUS_COPY_BUSY 1 s
    let s := setReg 0x2_8006 (wd (2 ^ 19)) s
    { s with stk := { s.stk with copy := some (src, dst), undef := insSet dst s.stk.undef } }

/-- A write of STK_COPY_CTL: SRC and DST as Halted fields, then START, then ABORT (R81, R86, R376). -/
def copyCtlWrite (v : Word) (s : State) : State :=
  let s := if s.stk.copy.isSome then setF fSTK_STATUS_CFG_REJECT 1 s else writeBits 0x2_8005 0x3F v.toNat s
  let s := if v.toNat / 64 % 2 = 1 then copyStart (v.toNat % 8) (v.toNat / 8 % 8) s else s
  if v.toNat / 128 % 2 = 1 then copyAbort s else s

/-- STK_COPY_START (R81). -/
def execStkCopyStart (by_ : Writer) (v : Word) (s : State) : Host.Outcome State Fault Refusal :=
  .next (guardWrite by_ oSTK_COPY_CTL (copyCtlWrite v) s)

/-- STK_COPY_ABORT (R86). -/
def execStkCopyAbort (by_ : Writer) (v : Word) (s : State) : Host.Outcome State Fault Refusal :=
  .next (guardWrite by_ oSTK_COPY_CTL (copyCtlWrite v) s)

/-- Two bits of a record of bank f go wrong before the copy reads it. -/
def copyStrike (f : Nat) (s : State) (b : Bool × Nat) : State :=
  if b.2 < bankSize then strike (bit b.1) (bankSize * f + b.2) .uncorrectable s else s

/-- Keys of one bank. -/
def inBank (b k : Nat) : Bool := k / bankSize == b

/-- Every record of bank f is read (R77, R579): those whose code is wrong are found. -/
def copyReads (f : Nat) (s : State) : State :=
  (s.stk.flips.filter (fun e => inBank f (e.1 / 2))).foldl (fun t e =>
    if e.1 % 2 = 1 then checkCat f (e.1 / 2 % bankSize) .ok t else checkRec f (e.1 / 2 % bankSize) .ok t) s

/-- The destination takes the source's records: its fill and every listed record (R81, R82). -/
def copyRecs (f d : Nat) (s : State) : State :=
  let fill := s.stk.fill.set d (s.stk.fill.getD f (Rec.empty .none 0))
  let base := tclear (inBank d) s.stk.recs
  let recs := s.stk.recs.foldl (fun t e =>
    if inBank f e.1 then tset (recFill fill) (bankSize * d + e.1 % bankSize) e.2 t else t) base
  { s with stk := { s.stk with fill := fill, recs := recs, flips := tclear (fun k => inBank d (k / 2)) s.stk.flips } }

/-- The destination takes the source's Catalogue records; one found bad there is marked not loaded (R579). -/
def copyCats (f d : Nat) (s : State) : State :=
  let base := tclear (inBank d) s.stk.cats
  let cats := s.stk.cats.foldl (fun t e =>
    if inBank f e.1 then
      tset (fun _ => Cat.none) (bankSize * d + e.1 % bankSize)
        (if e.2.mark = .bad then { e.2 with mark := .notLoaded } else e.2) t
    else t) base
  { s with stk := { s.stk with cats := cats } }

/-- The bank map of a written word. -/
def mapOf (v : Word) (l : Nat) : Nat := bitsOf v.toNat (3 * l) 3

/-- Logical banks that a write would move. -/
def mapMoves (s : State) (v : Word) : List Nat := (List.range 4).filter (fun l => mapOf v l != physBank s l)

/-- A write of STK_BANK_MAP is refused (R84). -/
def mapRefused (s : State) (v : Word) : Bool :=
  let nocopy := bitsOf v.toNat 15 1 == 1
  let dup := (List.range 4).any (fun i => (List.range 4).any (fun j => i != j && mapOf v i == mapOf v j))
  let moves := mapMoves s v
  dup ||
  (if nocopy then
    s.stk.copy.isSome || moves.length != 1 || moves.any (fun l => mapOf v l != spareBank s)
  else
    moves.any (fun l => match s.stk.copy with
      | some (f, d) => !(flag s fSTK_COPY_STAT_DONE && physBank s l == f && mapOf v l == d)
      | none => true))

/-- The bank map takes its new banks, and the bank left becomes the spare. -/
def mapApply (v : Word) (s : State) : State :=
  let left := match mapMoves s v with
    | l :: _ => physBank s l
    | [] => spareBank s
  setF fSTK_BANK_MAP_SPARE left (writeBits 0x2_8004 0xFFF v.toNat s)

/-- A bank taken into use without data: every Stacks record as Table 4 states with reason RETENTION_LOST, every Catalogue
record not loaded (R85). -/
def bankFresh (b : Nat) (s : State) : State :=
  { s with stk := { s.stk with
    fill := s.stk.fill.set b (Rec.empty .retentionLost (usNow s))
    recs := tclear (inBank b) s.stk.recs
    cats := tclear (inBank b) s.stk.cats
    flips := tclear (fun k => inBank b (k / 2)) s.stk.flips
    undef := delSet b s.stk.undef } }

/-- A write of STK_BANK_MAP (R84, R85). -/
def bankMapWrite (v : Word) (s : State) : State :=
  if mapRefused s v then setF fSTK_STATUS_CFG_REJECT 1 s
  else if mapMoves s v = [] then s
  else if bitsOf v.toNat 15 1 = 1 then
    let d := spareBank s
    bankFresh d (mapApply v s)
  else
    let s := mapApply v s
    let s := setF fSTK_STATUS_COPY_BUSY 0 (setF fSTK_COPY_STAT_DUAL 0 s)
    { s with stk := { s.stk with copy := none } }

/-- STK_BANK_MAP with one logical bank moved. -/
def mapWith (s : State) (l b : Nat) : Word := wd (putBits (bitsOf (reg s 0x2_8004).toNat 0 12) (3 * l) 3 b)

/-- The Attic's move of a bank switches over once the copy is done; the unit is then fenced, and no copy's destination
(R81, R478, R479 Table 5). -/
def bankSwapped (f d : Nat) (s : State) : State :=
  match atticFind s 1 (fun w => w.unit == f && w.spare == d), logicalOf s f with
  | some w, some l =>
    let s := bankMapWrite (mapWith s l d) s
    atticEnd w 0 (setF ⟨oFLT_ATC_STAT, f, 1⟩ 1 s)
  | _, _ => s

/-- BANK_COPY_DONE (R81, R82, R579): `bad` lists the records found uncorrectable, Catalogue or Stacks, by index. -/
def execBankCopyDone (bad : List (Bool × Nat)) (s : State) : Host.Outcome State Fault Refusal :=
  .next (match s.stk.copy with
  | none => s
  | some (f, d) =>
    if flag s fSTK_COPY_STAT_DONE then s
    else
      let s := copyReads f (bad.foldl (copyStrike f) s)
      let s := copyCats f d (copyRecs f d s)
      let s := { s with stk := { s.stk with undef := delSet d s.stk.undef } }
      bankSwapped f d (setF fSTK_COPY_STAT_NEXT 0 (setF fSTK_COPY_STAT_DONE 1 s)))

/-- STK_BANK_MAP_WRITE (R84). -/
def execStkBankMapWrite (by_ : Writer) (v : Word) (s : State) : Host.Outcome State Fault Refusal :=
  .next (guardWrite by_ oSTK_BANK_MAP (bankMapWrite v) s)

/-- BANK_MAP_NOCOPY (R85): the write with NOCOPY = 1. -/
def execBankMapNocopy (by_ : Writer) (v : Word) (s : State) : Host.Outcome State Fault Refusal :=
  .next (guardWrite by_ oSTK_BANK_MAP (bankMapWrite (v ||| wd (2 ^ 15))) s)

/-! ### Stale limits (R49) -/

/-- A write of STK_STALE_LIMn: Staged, or refused with UNIT 0b11. -/
def staleLimWrite (n : Nat) (v : Word) (s : State) : State :=
  if v.toNat / 2 ^ 22 = 3 then setF fSTK_STATUS_CFG_REJECT 1 s else stageBits (oSTK_STALE_LIM n) 0xFFFFFF v.toNat s

/-- STK_STALE_LIM_WRITE (R49). -/
def execStkStaleLimWrite (by_ : Writer) (n : Nat) (v : Word) (s : State) : Host.Outcome State Fault Refusal :=
  unit (n < 8) (guardWrite by_ (oSTK_STALE_LIM n) (staleLimWrite n v) s)

/-! ### Alarm check (R62, R397) -/

def getAlarm (s : State) (p : Nat) : AlarmSt := tget (fun _ => AlarmSt.init) s.stk.alarms p
def setAlarm (p : Nat) (a : AlarmSt) (s : State) : State :=
  { s with stk := { s.stk with alarms := tset (fun _ => AlarmSt.init) p a s.stk.alarms } }

/-- The body of an alarm event (R407, Table 13). -/
def alarmBody (s : State) (p kind : Nat) : List Word :=
  let h := handleOf (nodeId s) p
  [wd h, wd (h / 2 ^ 24 % 256 + kind * 256)] ++ recWords (getPt s p)

/-- One limit of a set against a record in a state other than NO_VALUE (R397): its events and the limits entered. -/
def limitCheck (p i : Nat) (l : Limit) (s : State) : State :=
  let r := getPt s p
  let a := getAlarm s p
  let v := wordInt (catType (catAt s p)) r.w0
  let high := l.kind == 1 || l.kind == 2
  let enter := if high then decide (l.limit < v) else decide (v < l.limit)
  let leave := if high then decide (v < l.limit - l.hyst) else decide (l.limit + l.hyst < v)
  if l.kind = 0 || r.st = .noValue then s
  else if !a.entered.contains i && enter then
    event 0x0001 l.cls l.route (alarmBody s p l.kind) (setAlarm p { a with entered := insSet i a.entered } s)
  else if a.entered.contains i && leave then
    event 0x0002 l.cls l.route (alarmBody s p l.kind) (setAlarm p { a with entered := delSet i a.entered } s)
  else s

/-- The limits of a set in order. -/
def limitChecks (p : Nat) : Nat → List Limit → State → State
  | _, [], s => s
  | i, l :: t, s => limitChecks p (i + 1) t (limitCheck p i l s)

/-- The quality alarm of a set: QUALITY_ALARM once for each change of quality byte [7:5] that matches. -/
def qualityCheck (p : Nat) (e : AlarmSet) (s : State) : State :=
  let r := getPt s p
  let a := getAlarm s p
  let hit := (e.onBad && r.st = .bad) || (e.onNoValue && r.st = .noValue) || (e.onStale && r.stale)
  let q := qualityByte r / 32
  let s := setAlarm p { a with qmatch := hit, qlast := some q } s
  if hit && !(a.qmatch && a.qlast == some q) then event 0x0003 e.qcls e.qroute (alarmBody s p 0) s else s

/-- ALARM_CHECK (R62, R397): the steward takes one item from Q208. -/
def execAlarmCheck (s : State) : Host.Outcome State Fault Refusal :=
  .next (when (stwRuns s) (fun s =>
    match frontQ s 208 with
    | none => s
    | some (_, x) =>
      let p := match x.body with
        | .words (w :: _) => w.toNat % (4 * bankSize)
        | _ => 0
      let s := touchPt p .ok (dropFront 208 s)
      let set := match s.stw.inForce with
        | some e => tget (fun _ => none) e.alarms (catAlarm (catAt s p))
        | none => none
      match set with
      | none => s
      | some e => qualityCheck p e (limitChecks p 0 e.limits s)) s)

end Sys2Proof.Machine
end

