-- ==== Sys2Proof/Machine/Desk.lean ====
section
/-! DEFINITION. The steward's takeovers (R368 to R373), desk commands and their responses, sessions over CONTROL frames, the
configuration lock, staging, forcing, ring time and group lists (R382 to R395). -/

namespace Sys2Proof.Machine

def setStw (x : Steward) (s : State) : State := { s with stw := x }

/-- A word of the shared memory replaced. -/
def setShared (i : Nat) (v : Word) (s : State) : State :=
  setStw { s.stw with shared := tset (fun _ => 0) i v s.stw.shared } s

/-- A restart point (R372): counted in word 1 of the Archivist status block (R409), and the AON watchdog restarts (R537). -/
def restartPoint (s : State) : State :=
  let n := (tget (fun _ => 0) s.stw.shared 1).toNat
  let s := setShared 1 (wd (n + 1)) s
  setStw { s.stw with kickAt := s.clk } s

/-! ### Takeover (R370 to R372) -/

/-- LOCKSTEP_MISMATCH (R370). -/
def execLockstepMismatch (s : State) : Host.Outcome State Fault Refusal :=
  .next (when (domOn s 4 && !s.boot.coreReset && !flag s fDSK_CORE_STOPPED && s.stw.haltedAt.isNone) (fun s =>
    let s := setStw { s.stw with haltedAt := some s.clk } s
    raise 512 (incF fDSK_CORE_TAKEOVERS (setF fDSK_CORE_TAKEOVER 1 s))) s)

/-- A pair restarts from the last restart point, and the event names the core fenced and whether the mismatch was transient
(R371, R407). -/
def restartPair (fenced transient : Nat) (s : State) : State :=
  event 0x70 3 0 [wd (fenced + 4 * transient)] (setStw { s.stw with haltedAt := none, kickAt := s.clk } s)

/-- The spare core joins in place of a core that is fenced (R371, R479). -/
def joinSpare (second : Bool) (s : State) : State :=
  let f := if second then fDSK_CORE_PAIR_B else fDSK_CORE_PAIR_A
  let c := getF s f
  let s := setF f (getF s fDSK_CORE_SPARE) s
  let s := setF fDSK_CORE_DEGRADED 1 (setF fDSK_CORE_SPARE 3 s)
  let s := setF fFLT_ATC_STAT_CORE_SPARE 0 s
  setStw { s.stw with fencedCores := insSet c s.stw.fencedCores } s

/-- CORE_SELFTEST_END (R371). -/
def execCoreSelftestEnd (failA failB : Bool) (s : State) : Host.Outcome State Fault Refusal :=
  .next (when s.stw.haltedAt.isSome (fun s =>
    if !failA && !failB then restartPair 3 1 (raise 513 (incF fDSK_CORE_TRANSIENTS s))
    else if (failA && failB) || flag s fDSK_CORE_DEGRADED then
      raise 514 (setF fDSK_CORE_STOPPED 1 (setStw { s.stw with haltedAt := none } s))
    else
      let c := getF s (if failB then fDSK_CORE_PAIR_B else fDSK_CORE_PAIR_A)
      restartPair c 0 (joinSpare failB s)) s)

/-- RESTART_POINT (R372). -/
def execRestartPoint (s : State) : Host.Outcome State Fault Refusal := .next (when (stwRuns s) restartPoint s)

/-! ### Commands and responses (R384 to R392) -/

/-- Command word 0 of a desk. -/
def cmdWord (s : State) (d i : Nat) : Nat := (tget (fun _ => 0) (getDesk s d).cmd i).toNat

def cmdOp (s : State) (d : Nat) : Nat := bitsOf (cmdWord s d 0) 0 8
def cmdLen (s : State) (d : Nat) : Nat := bitsOf (cmdWord s d 0) 8 6

/-- The arguments of a desk's command, a1 first. -/
def cmdArgs (s : State) (d : Nat) : List Nat := (List.range (cmdLen s d)).map (fun i => cmdWord s d (i + 1))

/-- Argument i, from 1. -/
def argN (a : List Nat) (i : Nat) : Nat := a.getD (i - 1) 0

/-- A 64-bit ring time of three arguments. -/
def timeArg (a : List Nat) (i : Nat) : Nat := argN a i + 2 ^ 24 * argN a (i + 1) + 2 ^ 48 * bitsOf (argN a (i + 2)) 0 16

/-- A handle of two arguments. -/
def handleArg (a : List Nat) (i : Nat) : Nat := argN a i + 2 ^ 24 * bitsOf (argN a (i + 1)) 0 8

/-- The response words of a command (R384). -/
def respWords (op ctag status detail : Nat) (results : List Word) : List Word :=
  wd (op % 256 + results.length % 64 * 256 + 16384 * (ctag % 1024)) :: wd (status % 256 + detail % 65536 * 256) :: results

/-- The steward ends a command: its response is prepared, at a restart point (R372). -/
def answer (d status detail : Nat) (results : List Word) (s : State) : State :=
  let r := respWords (cmdOp s d) (bitsOf (cmdWord s d 0) 14 10) status detail results
  restartPoint (setDesk d { getDesk s d with prepared := some r } s)

/-- A command ends OK with results. -/
def answerOk (d : Nat) (results : List Word) (s : State) : State := answer d 0 0 results s

/-- The boot ROM in recovery serves an opcode on a desk (R538). -/
def romServes (s : State) (d op : Nat) : Bool :=
  getF s fGLB_BOOT_STAGE == 14 && d < 2 && [0x01, 0x10, 0x11, 0x12, 0x13, 0x7F].contains op

/-- A desk's command waits in Q72 + d, and the steward or the boot ROM is there to take it. -/
def cmdWaits (s : State) (d : Nat) : Bool :=
  getF s (fDSK_DESK_STATE d) == 1 && (getDesk s d).prepared.isNone && (frontQ s (72 + d)).isSome &&
  !flag s (fSWQ_QSTAT_FROZEN (72 + d)) && domOn s 3

/-- The desk whose doorbell is taken next: in round robin from the one taken last (R387). -/
def nextDesk (s : State) : Option Nat :=
  ((List.range 8).map (fun i => (s.stw.deskTurn + 1 + i) % 8)).find? (fun d => cmdWaits s d && (stwRuns s || d < 2))

/-- A desk's doorbell is taken. -/
def takeDoorbell (d : Nat) (s : State) : State := dropFront (72 + d) (setStw { s.stw with deskTurn := d } s)

/-- A command of one opcode, on the desk whose turn it is: its length, its right (any bit of the mask, 0 for none) and the lock are checked in that order,
and then it runs. -/
def deskCmd (d op : Nat) (lenOk : Nat → Bool) (right : Nat) (lock : Bool) (run : List Nat → State → State) (s : State) :
    Host.Outcome State Fault Refusal :=
  unit (d < 8) (
    if nextDesk s == some d && cmdOp s d == op && (stwRuns s || romServes s d op) then
      let rom := !stwRuns s
      let s := takeDoorbell d s
      if !lenOk (cmdLen s d) then answer d 2 0 [] s
      else if right != 0 && (getDesk s d).rights &&& right = 0 then answer d 4 0 [] s
      else if lock && !rom && s.stw.lock != some d then answer d 5 0 [] s
      else run (cmdArgs s d) s
    else s)

/-- Opcodes of R392. -/
def knownOp (op : Nat) : Bool :=
  [0x01, 0x02, 0x03, 0x04, 0x10, 0x11, 0x12, 0x13, 0x20, 0x21, 0x22, 0x23, 0x24, 0x30, 0x31, 0x40, 0x41, 0x50, 0x60, 0x61,
    0x62, 0x63, 0x68, 0x69, 0x70, 0x71, 0x7F].contains op

/-- IDENTIFY (R392); in recovery it reports firmware 0.0.0 and edition 0xFFFF (R538). -/
def execIdentify (d : Nat) (s : State) : Host.Outcome State Fault Refusal :=
  deskCmd d 0x01 (· == 0) 1 false (fun _ s =>
    let rom := !stwRuns s
    answerOk d [reg s (oSEC_UNIT_TAG 0), reg s (oSEC_UNIT_TAG 1),
      wd (getF s fGLB_ID0_HWTYPE + 65536 * getF s fGLB_ID0_STEPPING), if rom then 0 else reg s oGLB_FW,
      if rom then 0xFFFF else wd (getF s fDSK_ED_ACTIVE_EDITION),
      wd ((if numbered s then nodeId s else 0xFFF) + ringId s * 4096 + 2 ^ 18 * bit (numbered s))] s) s

/-- SESSION_CLOSE (R389): the session closes and the command is answered. -/
def execSessionClose (d : Nat) (s : State) : Host.Outcome State Fault Refusal :=
  deskCmd d 0x02 (· == 0) 0 false (fun _ s =>
    let s := closeSession d s
    answerOk d [] (setDesk d { getDesk s d with discard := false } s)) s

/-- The lock is taken by a desk. -/
def takeLock (d : Nat) (s : State) : State := setF (fDSK_DESK_LOCK d) 1 (setStw { s.stw with lock := some d } s)

/-- LOCK (R390); BUSY while a trial runs (R519). -/
def execLock (d : Nat) (s : State) : Host.Outcome State Fault Refusal :=
  deskCmd d 0x03 (· == 0) 12 false (fun _ s =>
    if s.sec.trial.isSome then answer d 7 0 [] s
    else
      match s.stw.lock with
      | some h => if h = d then answerOk d [] s else answer d 6 h [] s
      | none => answerOk d [] (takeLock d s)) s

/-- UNLOCK (R390). -/
def execUnlock (d : Nat) (s : State) : Host.Outcome State Fault Refusal :=
  deskCmd d 0x04 (· == 0) 0 false (fun _ s =>
    if s.stw.lock = some d then answerOk d [] (setF (fDSK_DESK_LOCK d) 0 (setStw { s.stw with lock := none } s))
    else answerOk d [] s) s

/-! ### Staging (R390, R392, R395, R512, R515, R519) -/

/-- The right that a staging kind needs. -/
def stageRight (kind : Nat) : Nat := if kind = 2 then 8 else 4

/-- The most bytes that the flash map holds of a kind (R512, R515). -/
def stageMax (kind : Nat) : Nat := if kind = 0 then 12582912 else if kind = 1 then 2097152 else 8388608

/-- STAGE_OPEN (R392, R515, R519, R538). -/
def execStageOpen (d : Nat) (s : State) : Host.Outcome State Fault Refusal :=
  deskCmd d 0x10 (· == 3) 12 true (fun a s =>
    let kind := argN a 1 % 4
    let len := argN a 2 + 2 ^ 24 * bitsOf (argN a 3) 0 8
    let rom := !stwRuns s
    if kind = 3 ∨ (rom ∧ kind ≠ 2) then answer d 3 0 [] s
    else if (getDesk s d).rights &&& stageRight kind = 0 then answer d 4 0 [] s
    else if (s.sec.trial.isSome && kind != 1) || (kind == 2 && s.sec.volArmed.isSome) || s.stw.staging.isSome then
      answer d 7 0 [] s
    else if stageMax kind < len then answer d 0x0A 0 [] s
    else
      let id := s.stw.nextTransfer
      let s := setStw { s.stw with nextTransfer := (id + 1) % 4096, staging := some ⟨d, kind, id, len, []⟩ } s
      answerOk d [wd id] s) s

/-- The open transfer of a desk. -/
def deskStaging (s : State) (d : Nat) : Option Staging :=
  match s.stw.staging with
  | some g => if g.desk = d then some g else none
  | none => none

/-- STAGE_COMMIT (R395): window words 0 onward go to the stated image word offset. -/
def execStageCommit (d : Nat) (flashOk : Bool) (s : State) : Host.Outcome State Fault Refusal :=
  deskCmd d 0x11 (· == 2) 12 true (fun a s =>
    match deskStaging s d with
    | none => answer d 0x0B 0 [] s
    | some g =>
      let n := if argN a 2 = 0 then 65536 else argN a 2
      if 65536 < n ∨ (g.length + 2) / 3 < argN a 1 + n ∨ (getDesk s d).rights &&& stageRight g.kind = 0 then
        answer d (if (getDesk s d).rights &&& stageRight g.kind = 0 then 4 else 3) 0 [] s
      else if !flashOk || !s.boot.flash then answer d 0x1A 0 [] (raise 521 s)
      else
        let ws := (getDesk s d).window
        let put := fun (t : Tab Word) => ws.foldl (fun t e =>
          if e.1 < n then tset (fun _ => 0) (argN a 1 + e.1) e.2 t else t)
            (tclear (fun k => argN a 1 ≤ k && k < argN a 1 + n) t)
        answerOk d [] (setStw { s.stw with staging := some { g with words := put g.words } } s)) s

/-- STAGE_ABORT (R392). -/
def execStageAbort (d : Nat) (s : State) : Host.Outcome State Fault Refusal :=
  deskCmd d 0x13 (· == 0) 12 true (fun _ s =>
    match deskStaging s d with
    | none => answer d 0x0B 0 [] s
    | some _ => answerOk d [] (setStw { s.stw with staging := none } s)) s

/-! ### Reading commands -/

/-- The number of an edition slot's edition, 0xFFFF none. -/
def edNumber (e : Option Edition) : Nat :=
  match e with
  | some e => e.number
  | none => 0xFFFF

/-- A 64-bit time's three words. -/
def timeWords (t : Nat) : List Word := [wd t, wd (t / 2 ^ 24), wd (t / 2 ^ 48 % 65536)]

/-- EDITION_STATUS (R392). -/
def execEditionStatus (d : Nat) (s : State) : Host.Outcome State Fault Refusal :=
  deskCmd d 0x23 (· == 0) 1 false (fun _ s =>
    let t := match s.stw.armed with
      | some a => a.t
      | none => 0
    answerOk d ([wd (getF s fDSK_ED_ACTIVE_EDITION), wd (edNumber s.stw.previous), wd (edNumber s.stw.staged),
      wd (getF s fDSK_ED_ARMED_EDITION)] ++ timeWords t ++ [reg s oDSK_ED_ARMED]) s) s

/-- The points of a group that this hub originates. -/
def groupPoints (s : State) (g : Nat) : Option (List Nat) :=
  match s.stw.inForce with
  | some e =>
    (match e.groups.find? (fun x => x.1 == g) with
      | some x => some x.2
      | none => none)
  | none => none

/-- GROUP_LIST (R392): sixty point numbers from a record index on, and the group's count. -/
def execGroupList (d : Nat) (s : State) : Host.Outcome State Fault Refusal :=
  deskCmd d 0x24 (· == 2) 1 false (fun a s =>
    let node := bitsOf (argN a 1) 0 12
    match if numbered s && node == nodeId s then groupPoints s (bitsOf (argN a 1) 12 6) else none with
    | none => answer d 0x16 0 [] s
    | some l =>
      let r := (l.drop (bitsOf (argN a 2) 0 20)).take 60
      answerOk d ((r ++ List.replicate (60 - r.length) 0).map wd ++ [wd l.length]) s) s

/-! ### Forcing (R64, R65, R393) -/

/-- A handle's point, where it is one of this hub's own. -/
def ownPoint (s : State) (h : Nat) : Option Nat :=
  if numbered s && h / 2 ^ 20 = nodeId s then some (h % 2 ^ 20) else none

/-- POINT_FORCE (R64, R393). -/
def execPointForce (d : Nat) (s : State) : Host.Outcome State Fault Refusal :=
  deskCmd d 0x30 (· == 4) 2 false (fun a s =>
    match ownPoint s (handleArg a 1) with
    | none => answer d 8 0 [] s
    | some p =>
      let c := catAt s p
      let v := wd (argN a 3)
      if !catForceable c then answer d 9 0 [] s
      else if !inForm (catType c) v then answer d 0x1B 0 [] s
      else if argN a 4 % 4 = 3 then answer d 3 0 [] s
      else answerOk d [] (forceCommand p v (forceRec p v (stOf (argN a 4)) s))) s

/-- POINT_RELEASE (R65). -/
def execPointRelease (d : Nat) (s : State) : Host.Outcome State Fault Refusal :=
  deskCmd d 0x31 (· == 2) 2 false (fun a s =>
    match ownPoint s (handleArg a 1) with
    | none => answer d 8 0 [] s
    | some p => if (getPt s p).forced then answerOk d [] (releaseRec p s) else answer d 0x1C 0 [] s) s

/-! ### Ring time, its epoch, restart -/

/-- TIME_SET (R392): the grandmaster's ring time is stepped. -/
def execTimeSet (d : Nat) (s : State) : Host.Outcome State Fault Refusal :=
  deskCmd d 0x70 (· == 3) 8 false (fun a s =>
    if !flag s fRTM_STATUS_GM then answer d 0x19 0 [] s
    else answerOk d [] (stepTime (timeArg a 1) s)) s

/-- A settings value of the running volume. -/
def getKey (s : State) (k : Nat) : Option (List Word) :=
  tget (fun _ => none) s.sec.settings (65536 * getF s fSEC_VOL_RUNNING + k)

/-- A settings value written; a trial that writes one is marked (R522). -/
def putKey (k : Nat) (v : List Word) (s : State) : State :=
  let t := match s.sec.trial with
    | some t => some { t with wrote := true }
    | none => none
  { s with sec := { s.sec with
    settings := tset (fun _ => none) (65536 * getF s fSEC_VOL_RUNNING + k) (some v) s.sec.settings
    trial := t } }

/-- TIME_EPOCH (R392): key 0x0001 of the settings shelf. -/
def execTimeEpoch (d : Nat) (flashOk : Bool) (s : State) : Host.Outcome State Fault Refusal :=
  deskCmd d 0x71 (· == 3) 8 false (fun a s =>
    let out := fun (s : State) => answerOk d ((getKey s 1).getD [0, 0]) s
    if argN a 1 % 2 = 0 then out s
    else if !flashOk || !s.boot.flash then answer d 0x1A 0 [] s
    else out (putKey 1 [wd (argN a 2), wd (argN a 3)] s)) s

/-- RESTART (R392): answered before the restart, which follows at DESK_DONE. -/
def execRestart (d : Nat) (s : State) : Host.Outcome State Fault Refusal :=
  deskCmd d 0x7F (· == 1) 8 false (fun a s =>
    answerOk d [] (setStw { s.stw with afterDone := some (d, argN a 1 % 2) } s)) s

/-! ### Desk words, CONTROL frames and sessions (R385 to R389) -/

/-- DESK_AREA_WRITE (R383, R385): word u of the desk's first 0x400 words, or, from 0x1_0000 on, of its staging window. -/
def execDeskAreaWrite (d u : Nat) (v : Word) (s : State) : Host.Outcome State Fault Refusal :=
  unit (d < 8 && (u < 0x400 || (0x1_0000 ≤ u && u < 0x2_0000 && d < 6))) (when (domOn s 4) (fun s =>
    if u < 0x40 ∨ u = 0x81 then deskWordWrite d u v s
    else if 0x1_0000 ≤ u then windowWrite d (u - 0x1_0000) v s
    else s) s)

/-- DESK_DOORBELL (R385). -/
def execDeskDoorbell (d : Nat) (s : State) : Host.Outcome State Fault Refusal :=
  unit (d < 8) (when (domOn s 4) (ringDesk d) s)

/-- A CONTROL RESPONSE to a node (R388). -/
def sendResponse (node d session : Nat) (ws : List Word) (s : State) : State :=
  originate (mkFrame 7 2 node false session (wd (2 + 4 * d) :: ws)) s

/-- Rights of a node in the edition in force, none where it names none. -/
def nodeRights (s : State) (node : Nat) : Nat :=
  match s.stw.inForce with
  | some e =>
    (match e.rights.find? (fun r => r.1 == node) with
      | some r => r.2 % 32
      | none => 0)
  | none => 0

/-- Whether a frame is a CONTROL item of one kind (Table 13 of 12): 0 OPEN, 1 COMMAND, 2 RESPONSE, 3 CLOSE. -/
def isControl (kind : Nat) (f : Frame) : Bool :=
  f.typ == 7 && pw f 0 % 4 == kind && (kind == 0 || kind == 3 || bitsOf (pw f 0) 2 3 != 7)

/-- A handler of the oldest CONTROL frame of one KIND; commands and responses of desk 7 are the twin's
(R388, R487). -/
def onControl (kind : Nat) (h : Frame → State → State) (s : State) : State :=
  match takeQ 34 (isControl kind) s with
  | some (f, t) => h f t
  | none => s

/-- CONTROL_OPEN (R388). -/
def execControlOpen (s : State) : Host.Outcome State Fault Refusal :=
  .next (when (stwRuns s) (onControl 0 (fun f s =>
    match [2, 3, 4, 5].find? (fun d => !flag s (fDSK_DESK_SESSION d) && getF s (fDSK_DESK_STATE d) != 1) with
    | some d =>
      let s := openSession d f.src (nodeRights s f.src) s
      sendResponse f.src d (getDesk s d).sessionId (respWords 0 0 0 0 []) s
    | none => sendResponse f.src 0 0 (respWords 0 0 7 0 []) s)) s)

/-- A CONTROL frame names a session that its source holds. -/
def holdsSession (s : State) (f : Frame) : Bool :=
  let d := bitsOf (pw f 0) 2 3
  2 ≤ d && d ≤ 5 && flag s (fDSK_DESK_SESSION d) && getF s (fDSK_DESK_NODE d) == f.src &&
  (getDesk s d).sessionId == f.aux

/-- A CONTROL frame of no session of its source is answered NO_RIGHT. -/
def noSession (f : Frame) (s : State) : State :=
  sendResponse f.src (bitsOf (pw f 0) 2 3) f.aux (respWords (bitsOf (pw f 1) 0 8) (bitsOf (pw f 1) 14 10) 4 0 []) s

/-- CONTROL_COMMAND (R388). -/
def execControlCommand (s : State) : Host.Outcome State Fault Refusal :=
  .next (when (stwRuns s) (onControl 1 (fun f s =>
    if holdsSession s f then
      let d := bitsOf (pw f 0) 2 3
      let s := (indexed 0 ((f.payload.drop 1).take 64)).foldl (fun t e => cmdAreaWrite d e.1 e.2 t) s
      ringDesk d s
    else noSession f s)) s)

/-- CONTROL_RESPONSE (R386, R388): the words reach the initiator, the steward of this hub, in its first general queue. -/
def execControlResponse (s : State) : Host.Outcome State Fault Refusal :=
  .next (when (stwRuns s) (onControl 2 (fun f s => pushWords 209 (wd f.src :: wd f.aux :: f.payload) s)) s)

/-- CONTROL_CLOSE (R388, R389). -/
def execControlClose (s : State) : Host.Outcome State Fault Refusal :=
  .next (when (stwRuns s) (onControl 3 (fun f s =>
    if holdsSession s f then closeSession (bitsOf (pw f 0) 2 3) s else noSession f s)) s)

/-- SESSION_IDLE_TIMEOUT (R388, R389): 60 s without a command close a remote session, and its node is told. -/
def execSessionIdleTimeout (d : Nat) (s : State) : Host.Outcome State Fault Refusal :=
  unit (2 ≤ d && d ≤ 5) (when (stwRuns s && flag s (fDSK_DESK_SESSION d) && (getDesk s d).lastCmd + 60000000000 ≤ s.clk)
    (fun s =>
      let s := originate (mkFrame 7 2 (getF s (fDSK_DESK_NODE d)) false (getDesk s d).sessionId [wd (3 + 4 * d)]) s
      raise 520 (closeSession d s)) s)

/-- The steward publishes a prepared response and tells the owner (R385, R386); a discarded one leaves the desk IDLE. -/
def publish (d : Nat) (ws : List Word) (s : State) : State :=
  let x := getDesk s d
  if x.discard then setF (fDSK_DESK_STATE d) 0 (setDesk d { x with prepared := none, discard := false } s)
  else
    let resp := (indexed 0 ws).foldl (fun t e => tset (fun _ => 0) e.1 e.2 t) x.resp
    let s := setDesk d { x with prepared := none, resp := resp } s
    let s := setF (fDSK_DESK_STATE d) 2 s
    if d = 0 then signalVec (getF s fHIF_VEC_DESK) s
    else if d = 1 then noteNotif s
    else if 2 ≤ d ∧ d ≤ 5 then sendResponse x.node d x.sess ws s
    else s

/-- A command of an unknown opcode is answered (R392). -/
def answerUnknown (d : Nat) (s : State) : State :=
  if nextDesk s == some d && (if stwRuns s then !knownOp (cmdOp s d) else getF s fGLB_BOOT_STAGE == 14 && d < 2 &&
      !romServes s d (cmdOp s d)) then
    answer d 1 0 [] (takeDoorbell d s)
  else s

/-- The response of a desk is published, where one is prepared. -/
def deskDoneStep (d : Nat) (s : State) : State :=
  let s := answerUnknown d s
  match (getDesk s d).prepared with
  | some ws => if stwRuns s || getF s fGLB_BOOT_STAGE == 14 then publish d ws s else s
  | none => s

end Sys2Proof.Machine
end

