-- ==== Sys2Proof/Machine/Twin.lean ====
section
/-! DEFINITION. The twin pair (R485 to R492): TWIN_HELLO and its timers, claim rounds, the planned hand-over, taking over
without agreement, rotation, and both ACTIVE. -/

namespace Sys2Proof.Machine

def setTwin (x : Twin) (s : State) : State := { s with twin := x }

/-! ### The twin link (R487) -/

/-- The oldest CONTROL frame of desk 7 of a KIND whose opcode satisfies a test. -/
def takeTwin (kind : Nat) (op : Nat → Bool) (s : State) : Option (Frame × State) :=
  takeQ 34 (fun f => f.typ == 7 && pw f 0 % 4 == kind && bitsOf (pw f 0) 2 3 == 7 && op (pw f 1 % 256)) s

/-- A frame comes from the peer of this twin pair. -/
def fromPeer (s : State) (f : Frame) : Bool := twinOn s && f.src == getF s fTWN_CTL_PEER

/-- A twin command of the peer is handled; other sources are answered NO_RIGHT. -/
def onTwin (op : Nat → Bool) (h : Frame → State → State) (s : State) : State :=
  if stwRuns s then
    match takeTwin 1 op s with
    | some (f, t) => if fromPeer t f then h f t else noSession f t
    | none => s
  else s

/-- A CONTROL frame of desk 7 goes to the peer. -/
def toPeer (kind : Nat) (ws : List Word) (s : State) : State :=
  originate (mkFrame 7 2 (getF s fTWN_CTL_PEER) false (getDesk s 7).sessionId (wd (kind + 4 * 7) :: ws)) s

/-- A twin command. -/
def sendTwin (op : Nat) (args : List Word) (s : State) : State := toPeer 1 (wd (op + args.length * 256) :: args) s

/-- Shared places. -/
def sharedPlaces (s : State) : List Nat := (List.range 104).filter (sharedPlace s)

/-- The shared places are bound and no unit of theirs is fenced. -/
def twinReady (s : State) : Bool :=
  (sharedPlaces s).all (fun n => match servingEngine s n with
    | some e => flag s (fCLK_ENG_STAT_CODE_VALID e) && getF s (fCLK_ENG_STAT_STATE e) != 4
    | none => false)

/-- Since when both twins report ACTIVE (R492). -/
def noteBoth (s : State) : State :=
  if twinRole s = 1 && s.twin.peerRole = 1 then
    (if s.twin.bothSince.isNone then setTwin { s.twin with bothSince := some s.clk } s else s)
  else setTwin { s.twin with bothSince := none } s

/-- TWIN_HELLO (R487). A command of another opcode than the twin's own is answered UNKNOWN_OPCODE. -/
def execTwinHello (s : State) : Host.Outcome State Fault Refusal :=
  .next (onTwin (fun op => op != 0x81 && op != 0x82) (fun f s =>
    if pw f 1 % 256 = 0x80 then
      let s := setTwin { s.twin with
        peerRole := bitsOf (pw f 2) 0 3, peerClaim := bitsOf (pw f 2) 3 4, peerReady := bitsOf (pw f 2) 7 1 == 1,
        helloRx := s.clk } s
      noteBoth (causeOff 620 (setF fTWN_STAT_PEER_OK 1 s))
    else sendResponse f.src 7 f.aux (respWords (pw f 1 % 256) (bitsOf (pw f 1) 14 10) 1 0 []) s) s)

/-- TWIN_HELLO_TIMER (R487): every 1 ms. -/
def execTwinHelloTimer (s : State) : Host.Outcome State Fault Refusal :=
  .next (when (stwRuns s && twinOn s && twinRole s != 0 && s.twin.helloDue ≤ s.clk) (fun s =>
    let s := setTwin { s.twin with helloDue := s.clk + 1000000 } s
    sendTwin 0x80 [wd (twinRole s + getF s fTWN_CTL_CLAIM_NUM * 8 + bit (twinReady s) * 128),
      wd (getF s fDSK_ED_ACTIVE_EDITION)] s) s)

/-- TWIN_PEER_LOST (R487): no TWIN_HELLO for 10 ms. -/
def execTwinPeerLost (s : State) : Host.Outcome State Fault Refusal :=
  .next (when (twinOn s && twinRole s != 0 && s.twin.helloRx + 10000000 ≤ s.clk) (fun s =>
    causeOn 620 (setF fTWN_STAT_PEER_OK 0 (setTwin { s.twin with bothSince := none } s))) s)

/-! ### Roles and stages (R486, Table 9) -/

/-- A role change ends: ROLE, its CAUSE, and HOURS from 0 (R491). -/
def twinChange (role cause : Nat) (s : State) : State :=
  let s := setF fTWN_STAT_HOURS 0 (setF fTWN_STAT_CAUSE cause (setF fTWN_STAT_ROLE role s))
  noteBoth (setTwin { s.twin with hourStart := s.ringNs / 3600000000000, overdue := false } s)

/-- Step 4 of Table 9: the stages are enabled, and shared places run with a fresh cycle of every polled class. -/
def stagesEnable (s : State) : State :=
  let s := setTwin { s.twin with stages := true } s
  (sharedPlaces s).foldl (fun t n => match servingEngine t n with
    | some e => freshCycles n (engRunWrite e true t)
    | none => t) s

/-- Step 5 of Table 9: the stages are disabled, and shared places halt. -/
def stagesDisable (s : State) : State :=
  let s := setTwin { s.twin with stages := false } (setF fTWN_STAT_WON 0 s)
  (sharedPlaces s).foldl (fun t n => match servingEngine t n with
    | some e => engRunWrite e false t
    | none => t) s

/-- A point belongs to a shared place or line. -/
def sharedPoint (s : State) (p : Nat) : Bool :=
  let c := catAt s p
  if catSource c < 104 then sharedPlace s (catSource c)
  else catSource c == 0x71 && sharedLine s (catObject c % 512)

/-- Table 4's FROM_TWIN event of chapter 02; it does not occur on a forced point. -/
def fromTwin (p : Nat) (r : Rec) (s : State) : State :=
  let s := preRead p .ok s
  let old := getPt s p
  if old.forced then s
  else writeRec p { old with w0 := r.w0, st := .uncertain, reason := .fromTwin, time := r.time, stale := false } s

/-- Step 3 of Table 9: shared points from the copies, and shared output lines from their points. -/
def twinPrepare (s : State) : State :=
  let s := s.twin.copies.foldl (fun t e => match e.2 with
    | some r => if sharedPoint t e.1 then fromTwin e.1 r t else t
    | none => t) s
  ((List.range 272).filter (sharedLine s)).foldl (fun t n => driveFromPoint n t) s

/-- TWIN_ROLE (R407, R489). -/
def twinRoleEvent (s : State) : State :=
  event 0x50 3 0 [wd (twinRole s % 4), wd (getF s fTWN_CTL_CLAIM_NUM)] s

/-- A twin pair takes its role at the first activation, and leaves it where the edition ends the pair (R486, R487). -/
def twinStart (s : State) : State :=
  if twinOn s && twinRole s = 0 then
    let s := openSession 7 (getF s fTWN_CTL_PEER) 0 s
    let s := setTwin { s.twin with helloRx := s.clk, helloDue := s.clk, copies := [], handover := none } s
    if flag s fTWN_CTL_START_ACTIVE then stagesEnable (setTwin { s.twin with hourStart := s.ringNs / 3600000000000 }
      (setF fTWN_STAT_ROLE 1 s))
    else stagesDisable (setTwin { s.twin with hourStart := s.ringNs / 3600000000000 } (setF fTWN_STAT_ROLE 2 s))
  else if !twinOn s && twinRole s != 0 then
    causeOff 620 (setF fTWN_STAT_PEER_OK 0 (setF fTWN_STAT_ROLE 0
      (closeSession 7 (setTwin { s.twin with handover := none, stages := false } s))))
  else s

/-! ### The planned hand-over (R489) -/

/-- The active hub starts a hand-over: H, RELEASING, TWIN_HANDOVER. -/
def handoverStart (cause : Nat) (s : State) : State :=
  if twinOn s && twinRole s = 1 && s.twin.handover.isNone && stwRuns s then
    let h := s.ringNs + 1000000
    let s := setTwin { s.twin with handover := some ⟨h, false, false, false, cause⟩ } s
    sendTwin 0x81 (timeWords h) (setF fTWN_STAT_ROLE 4 s)
  else s

/-- TWIN_HANDOVER_REQ (R489): TWN_REQ.HANDOVER = 1. -/
def execTwinHandoverReq (by_ : Writer) (s : State) : Host.Outcome State Fault Refusal :=
  .next (guardWrite by_ oTWN_REQ (handoverStart 1) s)

/-- TWIN_HANDOVER (R489): a ready standby answers OK and is TAKING; one that is not ready does not answer. -/
def execTwinHandover (s : State) : Host.Outcome State Fault Refusal :=
  .next (onTwin (· == 0x81) (fun f s =>
    if twinRole s = 2 && twinReady s then
      let h := pw f 2 + 2 ^ 24 * pw f 3 + 2 ^ 48 * bitsOf (pw f 4) 0 16
      let s := setTwin { s.twin with handover := some ⟨h, true, true, false, 1⟩ } (setF fTWN_STAT_ROLE 3 s)
      toPeer 2 (respWords 0x81 (bitsOf (pw f 1) 14 10) 0 0 []) s
    else s) s)

/-- TWIN_HANDOVER_OK (R489): a response on desk 7; the peer's OK lets the hand-over go on. -/
def execTwinHandoverOk (s : State) : Host.Outcome State Fault Refusal :=
  .next (when (stwRuns s) (fun s => match takeTwin 2 (fun _ => true) s with
    | some (f, t) =>
      (match t.twin.handover with
      | some h =>
        if fromPeer t f && pw f 1 % 256 = 0x81 && pw f 2 % 256 = 0 && !h.taking then
          setTwin { t.twin with handover := some { h with ok := true } } t
        else t
      | none => t)
    | none => s) s)

/-- TWIN_CANCEL (R489): received from the peer, the taking hub stays STANDBY; otherwise the releasing hub finds no OK at
H − 200 us, sends it and stays ACTIVE. -/
def execTwinCancel (s : State) : Host.Outcome State Fault Refusal :=
  .next (when (stwRuns s) (fun s => match takeTwin 1 (· == 0x82) s with
    | some (f, t) =>
      if !fromPeer t f then noSession f t
      else
        (match t.twin.handover with
        | some h => if h.taking && !t.twin.stages then setF fTWN_STAT_ROLE 2 (setTwin { t.twin with handover := none } t) else t
        | none => t)
    | none =>
      match s.twin.handover with
      | some h =>
        if !h.taking && !h.ok && h.h ≤ s.ringNs + 200000 then
          raise 623 (sendTwin 0x82 [] (setF fTWN_STAT_ROLE 1 (setTwin { s.twin with handover := none } s)))
        else s
      | none => s) s)

/-- HANDOVER_PREPARE (R489): step 3, at H − 100 us on the taking hub. -/
def execHandoverPrepare (s : State) : Host.Outcome State Fault Refusal :=
  .next (match s.twin.handover with
  | some h =>
    when (h.taking && !h.prepared && h.h ≤ s.ringNs + 100000 && stwRuns s)
      (fun s => twinPrepare (setTwin { s.twin with handover := some { h with prepared := true } } s)) s
  | none => s)

/-- Steps 4 and 6 of the taking hub. -/
def takingTime (h : Handover) (s : State) : State :=
  let s := if s.twin.stages then s
    else stagesEnable (if h.prepared then s
      else twinPrepare (setTwin { s.twin with handover := some { h with prepared := true } } s))
  if h.h + 20000 ≤ s.ringNs then twinRoleEvent (twinChange 1 h.cause (setTwin { s.twin with handover := none } s)) else s

/-- Steps 5 and 6 of the releasing hub. -/
def releasingTime (h : Handover) (s : State) : State :=
  let s := if h.h + 15000 ≤ s.ringNs && s.twin.stages then twinChange 2 h.cause (stagesDisable s) else s
  if h.h + 20000 ≤ s.ringNs then twinRoleEvent (setTwin { s.twin with handover := none, copies := [] } s) else s

/-- HANDOVER_TIME (R489): steps 4 to 6 of Table 9, as far as ring time has come. -/
def execHandoverTime (s : State) : Host.Outcome State Fault Refusal :=
  .next (match s.twin.handover with
  | some h =>
    when (h.h ≤ s.ringNs && stwRuns s && h.ok) (if h.taking then takingTime h else releasingTime h) s
  | none => s)

/-! ### The claim bus (R488, R490) -/

/-- This hub claims: with CLAIM_EN, while ACTIVE, RELEASING until step 5, or TAKING once step 4 has come. -/
def twinClaims (s : State) : Bool :=
  twinOn s && flag s fTWN_CTL_CLAIM_EN && s.twin.stages && (twinRole s == 1 || twinRole s == 3 || twinRole s == 4)

/-- Whether a claimant pulls CLAIM_A low in slot k: bit 3 − k of its number (R488 step 3). -/
def claimPulls (k n : Nat) : Bool := Nat.testBit n (3 - k)

/-- The claimants still in contention after slot k: one that released CLAIM_A and finds it low drops out (R488 step 4). -/
def claimSlot (l : List Nat) (k : Nat) : List Nat := if l.any (claimPulls k) then l.filter (claimPulls k) else l

/-- The claimants left once the four slots have passed (R488 step 5). -/
def claimLeft (l : List Nat) : List Nat := [0, 1, 2, 3].foldl claimSlot l

/-- CLAIM_ROUND (R488): a round among the other claimants' numbers and, where it claims, this hub's own; the number left
is resolved. A round that no one claims shows 0. A hub that took over becomes ACTIVE as it wins (R490). -/
def execClaimRound (others : List Nat) (s : State) : Host.Outcome State Fault Refusal :=
  .next (when (twinOn s && flag s fTWN_CTL_CLAIM_EN) (fun s =>
    let own := getF s fTWN_CTL_CLAIM_NUM
    let claims := twinClaims s
    let l := (others.map (· % 16)) ++ (if claims then [own] else [])
    let left := claimLeft l
    let top := left.headD 0
    let won := claims && left.contains own
    let s := setF fTWN_STAT_WON (bit won) (setF fTWN_STAT_SEEN top s)
    let s := if l.isEmpty then s else setTwin { s.twin with roundAt := s.ringNs / 8000 } s
    if won && twinRole s = 3 && s.twin.handover.isNone then twinChange 1 (if s.twin.peerRole = 5 then 5 else 4) s else s) s)

/-- TWIN_CLAIM_IDLE (R490): a standby with the claim bus sees no round in three 8 us intervals, or its peer WITHDRAWN: steps
3 and 4 of Table 9 at once. -/
def execTwinClaimIdle (s : State) : Host.Outcome State Fault Refusal :=
  .next (when (twinOn s && twinRole s == 2 && flag s fTWN_CTL_CLAIM_EN && stwRuns s &&
      (s.twin.roundAt + 4 ≤ s.ringNs / 8000 || (flag s fTWN_STAT_PEER_OK && s.twin.peerRole == 5)))
    (fun s => stagesEnable (twinPrepare (setF fTWN_STAT_ROLE 3 (setTwin { s.twin with handover := none } s)))) s)

/-! ### Rotation, and both ACTIVE (R491, R492) -/

/-- TWIN_ROTATION (R491). -/
def execTwinRotation (s : State) : Host.Outcome State Fault Refusal :=
  .next (when (twinOn s && twinRole s != 0) (fun s =>
    let hours := s.ringNs / 3600000000000 - s.twin.hourStart
    let per := getF s fTWN_CTL_ROT_PER
    let s := setF fTWN_STAT_HOURS (min 1023 hours) s
    let s := if per != 0 && per + 1 ≤ hours && !s.twin.overdue then raise 622 (setTwin { s.twin with overdue := true } s) else s
    if per != 0 && per ≤ hours && s.twin.peerReady && flag s fTWN_STAT_PEER_OK then handoverStart 2 s else s) s)

/-- TWIN_BOTH_ACTIVE (R492): after 2 ms the hub with the lower claim number becomes STANDBY by step 5 of Table 9. -/
def execTwinBothActive (s : State) : Host.Outcome State Fault Refusal :=
  .next (match s.twin.bothSince with
  | some t =>
    when (twinOn s && twinRole s == 1 && t + 2000000 ≤ s.clk) (fun s =>
      let s := raise 621 (setF fTWN_STAT_BOTH 1 (setTwin { s.twin with bothSince := none } s))
      if getF s fTWN_CTL_CLAIM_NUM < s.twin.peerClaim then twinChange 2 6 (stagesDisable s) else s) s
  | none => s)

end Sys2Proof.Machine
end

