-- ==== Sys2Proof/Machine/Attic.lean ====
section
/-! DEFINITION. The Attic (R476 to R483): spares, planned swaps, replacement after a fence, the return of units, wear and
row replacement, and ring B standing in for ring A. -/

namespace Sys2Proof.Machine

/-! ### Which units there are -/

def engFenced (s : State) (e : Nat) : Bool := getF s (fCLK_ENG_STAT_STATE e) == 4

/-- Idle unfenced engines of a cluster (Table 4), lowest first. -/
def idleEngines (s : State) (c : Nat) : List Nat :=
  ((List.range 26).map (26 * c + ·)).filter (fun e => engRole s e == 0 && !engFenced s e &&
    (atticFind s 0 (fun w => w.spare == e)).isNone)

/-- Spare lines armed for a line (R481). -/
def armedSpares (s : State) (line : Nat) : List Nat :=
  (List.range 16).filter (fun k => getF s (fDIO_SPARE_LINE k) == line && !flag s (fDIO_SPARE_EN k) && k / 4 == lineCluster line)

/-- The spare that stands in for a line. -/
def standinOf (s : State) (line : Nat) : Option Nat := (s.dio.standins.find? (fun x => x.2 == line)).map (·.1)

/-- A unit of a kind is in service. -/
def inService (s : State) (kind u : Nat) : Bool :=
  if kind = 0 then decide (u < 104) && servingEngine s (enginePlace s u) == some u
  else if kind = 1 then decide (u < 5) && (logicalOf s u).isSome
  else if kind = 2 then decide (u < 68) && (convChan s u).isSome
  else if kind = 3 then decide (u < 272) && lineMode s u != 0 && (standinOf s u).isNone
  else if kind = 4 then
    !flag s fDSK_CORE_STOPPED && (getF s fDSK_CORE_PAIR_A == u || getF s fDSK_CORE_PAIR_B == u)
  else if kind = 5 then u == 0 && !flag s fFLT_ATC_STAT_RINGB_ACTIVE
  else false

/-- Free spares for a unit, in the Attic's order of choice (Table 4). -/
def spares (s : State) (kind u : Nat) : List Nat :=
  if kind = 0 then idleEngines s (u / 26)
  else if kind = 1 then (if bankFenced s (spareBank s) then [] else [spareBank s])
  else if kind = 2 then (List.range 68).filter (fun v => convState s v == 0)
  else if kind = 3 then armedSpares s u
  else if kind = 4 then (if getF s fDSK_CORE_SPARE == 3 then [] else [getF s fDSK_CORE_SPARE])
  else if kind = 5 then
    (if flag s fFLT_ATC_CTL_RINGB && !isCoupler s && (atticFind s 5 (fun _ => true)).isNone then [1] else [])
  else []

/-! ### Bringing a spare in (R478, R479) -/

/-- The binding of a place: its placement, or what its last engine was bound to. -/
def bindingOf (s : State) (n e : Nat) : Placement :=
  match placementOf s n with
  | some p => p
  | none => ⟨getF s (fCLK_ENG_BIND_TYPE e), getF s (fCLK_ENG_BIND_MAJOR e), getF s (fCLK_ENG_BIND_MINOR e),
      getF s (fCLK_PINSEL_GROUP n), []⟩

/-- A spare engine is loaded with a place's binding and runs in a role for it (R98, R120). -/
def engineIn (e n old role : Nat) (s : State) : State :=
  enginePair e role (n % 26) (engRunWrite e true (loadBinding e (bindingOf s n old) s))

/-- A spare line stands in for a line (R162, R479). -/
def lineIn (k line : Nat) (s : State) : State := spareWrite k (wd (line % 512 + 2 ^ 9)) s

/-- The planned procedure of Table 5 begins for a unit and its spare; kinds 3 and 4 are done at once, kind 4 at the restart
point that the answer of its command is. -/
def swapBegin (kind u sp : Nat) (s : State) : State :=
  let w : Swap := ⟨kind, u, sp, true, false⟩
  let s := atticBegin w s
  if kind = 0 then engineIn sp (enginePlace s u) u 2 s
  else if kind = 1 then copyStart u sp s
  else if kind = 2 then
    (match convChan s u with
    | some n => steerBegin n sp s
    | none => s)
  else if kind = 3 then atticEnd w 0 (lineIn sp u s)
  else if kind = 4 then atticEnd w 0 (restartPoint (joinSpare (getF s fDSK_CORE_PAIR_B == u) s))
  else insertPair 1 (setF (fRGx_BYP_CTL_HOLD_EN 1) 1 s)

/-- A unit is busy with an operation that the procedure needs: a copy, or a steer of the unit's channel. -/
def swapBusy (s : State) (kind u : Nat) : Bool :=
  if kind = 1 then s.stk.copy.isSome
  else if kind = 2 then
    (match convChan s u with
    | some n => flag s (fANA_CHSTAT_STEERING n)
    | none => false)
  else false

/-- The Attic replaces a worn unit by a planned swap, where a spare is left; a busy unit waits (R476). -/
def swapWorn (kind u : Nat) (s : State) : State :=
  if !inService s kind u || (atticFind s kind (fun w => w.unit == u)).isSome then s
  else if swapBusy s kind u then { s with flt := { s.flt with owed := s.flt.owed ++ [(kind, u)] } }
  else
    match spares s kind u with
    | sp :: _ => swapBegin kind u sp s
    | [] => raise 629 s

/-! ### Replacement after a fence (R478) -/

/-- AUTO of a kind. -/
def autoKind (s : State) (kind : Nat) : Bool := bitsOf (getF s fFLT_ATC_CTL_AUTO) kind 1 == 1

/-- A fenced unit's place, bank or channel is served by a spare. `at_` is the place or channel that the unit served. -/
def bringIn (kind u at_ : Nat) (s : State) : State :=
  match spares s kind u with
  | [] => raise 629 s
  | sp :: _ =>
    let w : Swap := ⟨kind, u, sp, false, false⟩
    if kind = 0 then atticEnd w 0 (engineIn sp at_ u 1 (atticBegin w s))
    else if kind = 1 then copyStart u sp (atticBegin w s)
    else if kind = 2 then steerBegin at_ sp (atticBegin w s)
    else swapBegin kind u sp s

/-- Fences an engine and replaces it; a spare that is fenced fails its acceptance (R467, R478, R479). A fence in a shared
place of the active twin asks for a hand-over (R489). -/
def fenceEngineIn (e : Nat) (s : State) : State :=
  if engFenced s e then s
  else
    let n := enginePlace s e
    let serves := servingEngine s n == some e
    let s := fenceEngine e s
    let s := match atticFind s 0 (fun w => w.spare == e) with
      | some w => atticEnd w 1 (raise 628 s)
      | none => s
    let s := if serves && sharedPlace s n then handoverStart 3 s else s
    if serves && autoKind s 0 then bringIn 0 e n s else s

/-- Fences a bank that holds a logical bank, and moves that (R465, R478). -/
def fenceBankIn (b : Nat) (s : State) : State :=
  if (logicalOf s b).isNone || bankFenced s b then s
  else
    let s := setF ⟨oFLT_ATC_STAT, b, 1⟩ 1 s
    if !autoKind s 1 then s
    else if s.stk.copy.isSome then { s with flt := { s.flt with owed := s.flt.owed ++ [(1, b)] } }
    else bringIn 1 b 0 s

/-- Fences a converter and steers its channel away (R467, R478). -/
def fenceConvIn (v : Nat) (s : State) : State :=
  if convState s v = 3 && (atticFind s 2 (fun w => w.unit == v)).isSome then s
  else
    let n := (List.range 64).find? (fun n => chanConv s n == v)
    let s := fenceConv v s
    match n with
    | some n => if autoKind s 2 && !flag s (fANA_CHSTAT_STEERING n) then bringIn 2 v n s else s
    | none => s

/-- Fences a ring pair, and lets ring B stand in for ring A (R465, R478, R482). -/
def fencePairIn (x : Nat) (s : State) : State :=
  let s := writeHoldEn x false s
  if x = 0 && flag s fFLT_ATC_CTL_RINGB && !isCoupler s && autoKind s 5 && inService s 5 0 then bringIn 5 0 0 s else s

/-- Source 464 + c: armed spares stand in for the lines that differed, where every one of them has one; otherwise the
cluster's discrete function is fenced (R481). -/
def fenceDioIn (c : Nat) (s : State) : State :=
  let l := s.dio.differ.filter (fun n => lineCluster n == c)
  if !l.isEmpty && l.all (fun n => !(armedSpares s n).isEmpty) then
    l.foldl (fun t n => match armedSpares t n with
      | k :: _ =>
        let w : Swap := ⟨3, n, k, false, false⟩
        atticEnd w 0 (lineIn k n (atticBegin w t))
      | [] => t) s
  else fenceDio c s

/-- Units that waited for a busy operation are taken up again. -/
def atticRetry (s : State) : State :=
  let l := s.flt.owed
  l.foldl (fun t e =>
    if e.1 = 1 && bankFenced t e.2 then
      (if t.stk.copy.isSome then { t with flt := { t.flt with owed := t.flt.owed ++ [e] } }
      else if (logicalOf t e.2).isSome then bringIn 1 e.2 0 t else t)
    else swapWorn e.1 e.2 t) { s with flt := { s.flt with owed := [] } }

/-! ### Desk commands (R479, R480) -/

/-- SPARE_SWAP (R479). -/
def execSpareSwap (d : Nat) (s : State) : Host.Outcome State Fault Refusal :=
  deskCmd d 0x40 (· == 3) 8 false (fun a s =>
    let kind := argN a 1 % 8
    let u := argN a 2
    let l := spares s kind u
    if !inService s kind u then answer d 3 0 [] s
    else if swapBusy s kind u || (atticFind s kind (fun w => w.unit == u)).isSome then answer d 7 0 [] s
    else if l.isEmpty then answer d 0x17 0 [] s
    else if argN a 3 != 0xFFFFFF && !l.contains (argN a 3) then answer d 3 0 [] s
    else
      let sp := if argN a 3 = 0xFFFFFF then l.headD 0 else argN a 3
      swapBegin kind u sp (answerOk d [wd sp] s)) s

/-- A unit is fenced, or for kinds 3 and 5 replaced (R480). -/
def isFenced (s : State) (kind u : Nat) : Bool :=
  if kind = 0 then decide (u < 104) && engFenced s u
  else if kind = 1 then decide (u < 5) && bankFenced s u
  else if kind = 2 then decide (u < 68) && convState s u == 3
  else if kind = 3 then (standinOf s u).isSome
  else if kind = 4 then s.stw.fencedCores.contains u
  else if kind = 5 then u == 0 && flag s fFLT_ATC_STAT_RINGB_ACTIVE
  else false

/-- The windows of an engine's stores are cleared by the march test, and its binding with them (R480). -/
def clearStores (e : Nat) (s : State) : State :=
  let b := 0x10_0000 + e * 0x1000
  let s := { s with regs := tclear (fun k => (b + 0x200 ≤ k && k < b + 0x400) || (b + 0x800 ≤ k && k < b + 0x1000)) s.regs }
  setReg (oCLK_ENG_BIND e) 0 (setF (fCLK_ENG_STAT_CODE_VALID e) 0 s)

/-- A returned engine: halted and idle, its stores clear (Table 6). -/
def engineBack (e : Nat) (s : State) : State :=
  clearStores e (engineIdle e (setF (fCLK_ENG_STAT_STATE e) 1 s))

/-- A returned bank: the spare bank, its contents those of a march test (Table 6). -/
def bankBack (b : Nat) (s : State) : State :=
  let s := setF fSTK_BANK_MAP_SPARE b (setF ⟨oFLT_ATC_STAT, b, 1⟩ 0 s)
  { s with stk := { s.stk with recs := tclear (inBank b) s.stk.recs, cats := tclear (inBank b) s.stk.cats,
                               undef := insSet b s.stk.undef } }

/-- The effect of a return that passes (Table 6). -/
def unitBack (kind u : Nat) (offset gain : Word) (s : State) : State :=
  if kind = 0 then engineBack u s
  else if kind = 1 then bankBack u s
  else if kind = 2 then
    setF (fANA_CONV_CAUSE u) 0 (setF (fANA_CONV_STATE u) 0 (setReg (oANA_CALG u) gain (setReg (oANA_CALO u) offset s)))
  else if kind = 3 then
    (match standinOf s u with
    | some k => spareWrite k (wd (u % 512)) s
    | none => s)
  else if kind = 4 then
    let s := setF fFLT_ATC_STAT_CORE_SPARE 1 (setF fDSK_CORE_DEGRADED 0 (setF fDSK_CORE_SPARE u s))
    { s with stw := { s.stw with fencedCores := delSet u s.stw.fencedCores } }
  else
    let s := causeOff 630 (setF fFLT_ATC_STAT_RINGB_ACTIVE 0 (writeHoldEn 1 false s))
    writeHoldEn 0 true (writeHoldEn 0 false
      { s with ring := { s.ring with seeded := tset (fun _ => false) 0 false s.ring.seeded } })

/-- UNIT_RETURN (R480): `passed` is the test's result, `offset` and `gain` the calibration that the test of a converter
leaves. A fenced bank that still holds a logical bank cannot be tested. -/
def execUnitReturn (d : Nat) (passed : Bool) (offset gain : Word) (s : State) : Host.Outcome State Fault Refusal :=
  deskCmd d 0x41 (· == 2) 8 false (fun a s =>
    let kind := argN a 1 % 8
    let u := argN a 2
    let w : Swap := ⟨kind, u, if kind = 3 then (standinOf s u).getD u else if kind = 5 then 1 else u, true, false⟩
    if 6 ≤ kind || (kind == 1 && bankFenced s u && (logicalOf s u).isSome) then answer d 3 0 [] s
    else if !isFenced s kind u then answer d 0x1D 0 [] s
    else
      let s := answerOk d [] s
      if passed || kind == 3 || kind == 5 then spareChanged w 0 (atticLog w 0 (unitBack kind u offset gain s))
      else spareChanged w 1 (atticLog w 1 (raise 631 s))) s

/-! ### Wear (R476, R477) -/

/-- WEAR_HOUR_CHECK (R476): the measures of the clock hour that ends, against FLT_ATC_THR; a new hour's begin. -/
def execWearHourCheck (s : State) : Host.Outcome State Fault Refusal :=
  .next (when (decide (s.flt.wearHour < s.ringNs / 3600000000000)) (fun s =>
    let s := (List.range 104).foldl (fun t e => wearStep 624 0 e (getF t fFLT_ATC_THR_ENG_CE) (getEngine t e).ceHour t) s
    let s := (List.range 5).foldl (fun t b =>
      wearStep (192 + b) 1 b (getF t fFLT_ATC_THR_BANK_CE) (tget (fun _ => 0) t.stk.ceHour b) t) s
    let s := (List.range 68).foldl (fun t v =>
      wearStep 625 2 v (getF t fFLT_ATC_THR_DRIFT * 16 + 1) (tget (fun _ => 0) t.ana.drift v) t) s
    let s := s.engines.foldl (fun t x => setEngine x.1 { getEngine t x.1 with ceHour := 0 } t) s
    { s with stk := { s.stk with ceHour := [] }, ana := { s.ana with drift := [] },
             flt := { s.flt with wearHour := s.ringNs / 3600000000000, wornHour := [] } }) s)

/-- A row has shown corrected errors at two different visits or accesses within 24 h (R477). -/
def rowWorn (s : State) (b row : Nat) : Bool :=
  let l := s.stk.ceRows.filter (fun e => e.1 == b && e.2.1 == row && s.clk ≤ e.2.2 + dayNs)
  l.any (fun e => l.any (fun f => e.2.2 < f.2.2))

/-- ROW_REPLACE (R477): a spare row of array a takes a row's place; the row map is kept in the settings shelf. The errors of
the steward's memories and of the Ledger show nowhere else: there the command stands for them. -/
def execRowReplace (a row : Nat) (s : State) : Host.Outcome State Fault Refusal :=
  unit (a < 10) (when (getF s (fFLT_ROWS_LEFT a) != 0 && (5 ≤ a || rowWorn s a row)) (fun s =>
    let s := { s with stk := { s.stk with ceRows := s.stk.ceRows.filter (fun e => e.1 != a || e.2.1 != row) } }
    let left := getF s (fFLT_ROWS_LEFT a) - 1
    let s := { setF (fFLT_ROWS_LEFT a) left s with flt := { s.flt with rows := tset (fun _ => 0) a (64 - left) s.flt.rows } }
    let s := raise 626 s
    if 8 < left then s
    else if a < 5 then raise 627 (wornUnit (192 + a) 1 a s)
    else if a < 8 then wornUnit 627 4 (a - 5) s
    else raise 627 s) s)

/-! ### Ring B standing in for ring A (R483) -/

/-- RINGB_STANDIN (R483): `selfTrained`, the ring B pair has trained through its local loop: the ring A links and BYPA_HOLD
go down and BYPB_HOLD goes high at once; `seeded`, the ring B ports are up with the neighbours and have seeded. -/
def execRingbStandin (ph : StandinPhase) (s : State) : Host.Outcome State Fault Refusal :=
  .next (match atticFind s 5 (fun _ => true) with
  | none => s
  | some w =>
    match ph with
    | .selfTrained rateE rateW =>
      if selfTrained s 1 rateE rateW then
        let s := releasePair 0 s
        energise 1 { s with ring := { s.ring with seeded := tset (fun _ => false) 1 false s.ring.seeded } }
      else s
    | .seeded =>
      if ringUp s 2 && ringUp s 3 && seedDone s 1 && pairInLine s 1 then
        atticEnd w 0 (causeOn 630 (setF fFLT_ATC_STAT_RINGB_ACTIVE 1 s))
      else s)

end Sys2Proof.Machine
end

