-- ==== Sys2Proof/Machine/CoreReset.lean ====
section
/-! DEFINITION. What a core reset and an AON reset clear, and what is kept: AON's registers, ring time, the feed and
supply functions, the fault front end (R447, R531), the flash and the one-time-programmable store (R501, R512). -/

namespace Sys2Proof.Machine

/-- Fault sources whose lines AON itself drives: power, feeds, supply channels and ring time. -/
def aonSource (src : Nat) : Bool := src < 64 || (104 ≤ src && src < 128)

/-- A register survives a core reset: AON holds it. -/
def keptOff (off : Nat) : Bool := offDomain off == 0

/-- What the flash and the one-time-programmable store hold of the steward's state: edition slots, the armed edition, the
binding image store. -/
def flashSteward (s : State) : Steward :=
  { Steward.init with
    staged := s.stw.staged, active := s.stw.active, previous := s.stw.previous, armed := s.stw.armed
    library := s.stw.library }

/-- What the flash, OTP and the key store hold of identity and volumes. Epochs resume above the last reserved block
(R510). -/
def flashSec (s : State) : Sec :=
  { Sec.init with
    slots := s.sec.slots, minima := s.sec.minima, epochNext := (s.sec.epochNext + 4095) / 4096 * 4096
    vols := s.sec.vols, record := s.sec.record, volArmed := s.sec.volArmed, trial := s.sec.trial
    shelves := s.sec.shelves, settings := s.sec.settings }

/-- The registers of AON as a core reset leaves them: GLB_FW and GLB_BOOT are reset (R555), the hub holds no edition and is
unnumbered (R557), the withdrawn state and a debug unlock end (R468, R526), nothing drains, the steward's clock is the FIRC
and ring time is not locked. -/
def coreRegs (s : State) : State :=
  let s := { s with regs := tclear (fun off => !keptOff off) s.regs }
  let s := setReg oGLB_FW 0 (setReg oGLB_BOOT 0 s)
  let s := setReg oGLB_NODE 0xFFF (setReg oGLB_NODE2 0 s)
  let s := setF fFLT_STATUS_WITHDRAWN 0 (setF fSEC_STATUS_DEBUG_UNLOCKED 0 s)
  let s := setF fPWR_STATUS_BUSY 0 (setF fPWR_STATUS_CLK 0 s)
  let s := setF fRTM_STATUS_LOCKED 0 (setF fRTM_STATUS_KEEPALIVE 0 s)
  let s := setF fFLT_ATC_STAT_RINGB_ACTIVE 0 s
  let s := [0, 1, 2, 3].foldl (fun t p => setReg (oSEC_LP_STAT p) 0 t) s
  setF fGLB_STATUS_BOOT_FAIL 0 s

/-- Everything outside AON returns to its reset state (R530, R531). -/
def coreClear (s : State) : State :=
  let vbus := getF s fUSB_STATUS_VBUS
  let t := coreRegs s
  setF fUSB_STATUS_VBUS vbus { State.reset with
    pending := s.pending
    clk := s.clk
    ringNs := s.ringNs
    cyc := s.cyc
    draw := s.draw
    out := s.out
    regs := t.regs
    staged := []
    pairs := s.pairs.filter (fun p => keptOff p.offA)
    rtime := { s.rtime with everLocked := false, gm := none, cands := [], source := none, prevSync := none }
    stk := { Archive.init with fill := List.replicate 5 (Rec.empty .none (usNow s)) }
    fed := s.fed
    pwr := { Pwr.init with orderSeen := s.pwr.orderSeen, orders := s.pwr.orders, wakePend := s.pwr.wakePend }
    flt := { Flt.init with
      level := s.flt.level.filter aonSource
      pulse := s.flt.pulse
      prev := s.flt.prev.filter aonSource
      heldRaises := s.flt.heldRaises
      wearHour := s.flt.wearHour
      rows := s.flt.rows }
    hif := { Hif.init with perst := s.hif.perst }
    stw := flashSteward s
    sec := flashSec s
    boot := { Boot.init with flash := s.boot.flash, causes := s.boot.causes } }

/-- Registers that show the one-time-programmable store: unit tag, certificate length, minima, key slots, public key,
certificate (R498 to R502). -/
def otpReg (off : Nat) : Bool :=
  (0x4_4001 ≤ off && off < 0x4_4004) || (0x4_4014 ≤ off && off < 0x4_401D) || (0x4_4020 ≤ off && off < 0x4_4028) ||
  (0x4_4040 ≤ off && off < 0x4_4060) || (0x4_4100 ≤ off && off < 0x4_4400)

/-- The part loses AON as well: what is left is the flash and the one-time-programmable store (R529). Ring time starts from
0 (R531), and the link epochs' reservation stands in the flash. -/
def aonClear (s : State) : State :=
  { State.reset with
    pending := s.pending
    clk := s.clk
    cyc := s.cyc
    draw := s.draw
    out := s.out
    regs := tclear (fun off => !otpReg off) s.regs
    hif := { Hif.init with perst := s.hif.perst }
    flt := { Flt.init with rows := s.flt.rows }
    stw := flashSteward s
    sec := flashSec s
    boot := { Boot.init with flash := s.boot.flash, causes := s.boot.causes } }

/-- The code of a reset cause in GLB_RST. -/
def resetCode : ResetCause → Nat
  | .aonReset => 0
  | .pwrgd => 1
  | .sysRst => 2
  | .restart => 3
  | .mothballed => 4

/-- While the core reset holds, no domain but AON runs: off when MOTHBALLED, changing otherwise. -/
def coreDomains (off : Bool) (s : State) : State :=
  setReg oPWR_DOM_STAT0 (if off then 1 else 0xFFFFFD) (setReg oPWR_DOM_STAT1 (if off then 0 else 0xFF) s)

/-- A cause of core reset begins (R530). GLB_RST names the last core reset (R555); the registers and pins that follow AON
are released: BOOT_FAIL_N at the next core reset (R539). -/
def coreResetBy (c : ResetCause) (s : State) : State :=
  let k := resetCode c
  let s := if c = .aonReset then aonClear s else coreClear s
  let s := setF fGLB_RST_CAUSE k s
  let s := if k = 4 then setF fPWR_STATUS_STATE 3 s else s
  coreDomains (k == 4) { s with boot := { s.boot with coreReset := true, causes := insSet k s.boot.causes, quietFrom := s.clk } }

/-- AON_RESET (R529): out of tolerance it holds every domain, AON included; 1 ms after the rail is within tolerance it no
longer holds the core reset. -/
def execAonReset (inTolerance : Bool) (s : State) : Host.Outcome State Fault Refusal :=
  .next (
    if inTolerance then { s with boot := { s.boot with causes := delSet 0 s.boot.causes, quietFrom := s.clk + 1000000 } }
    else coreResetBy .aonReset s)

/-- CORE_RESET (R530). MOTHBALLED is entered by a power request (R447), and a RESTART by its command; here each is the
cause itself. -/
def execCoreReset (c : ResetCause) (s : State) : Host.Outcome State Fault Refusal := .next (coreResetBy c s)

end Sys2Proof.Machine
end

