-- ==== Sys2Proof/Machine/Registrar.lean ====
section
/-! DEFINITION. The Registrar (R464 to R475): Registrar cycles, the first-fault record, reactions by severity, held raises,
forces and clears, and the commands of the event counters. -/

namespace Sys2Proof.Machine

/-! ### A Registrar cycle (R464, R469, R470) -/

/-- Sources held by a force bit (R469). -/
def forcedSources (s : State) : List Nat :=
  (s.regs.filter (fun e => 0xC060 ≤ e.1 && e.1 < 0xC07B)).foldl (fun l e =>
    (List.range 24).foldl (fun l i => if bitsOf e.2.toNat i 1 = 1 then insSet (24 * (e.1 - 0xC060) + i) l else l) l) []

/-- Sources whose line is active in this cycle, in ascending order (R441, R464, R469). -/
def activeSources (s : State) : List Nat :=
  let l := (forcedSources s).foldl (fun l i => insSet i l)
    ((s.flt.level ++ s.flt.pulse).foldl (fun l i => if domOn s (srcDomain i) then insSet i l else l) [])
  l.filter (· < 640)

/-- A source's bit of FLT_STATi. -/
def fltStat (s : State) (src : Nat) : Bool := bitsOf (reg s (0xC020 + src / 24)).toNat (src % 24) 1 == 1

/-- The source that a first-fault record takes: the highest severity, then the lowest number (R471). -/
def firstOf (s : State) : List Nat → Option Nat
  | [] => none
  | x :: t =>
    match firstOf s t with
    | some y => if severity s y ≤ severity s x then some x else some y
    | none => some x

/-- The w0 of FAULT_REPORT, with FORCED and the mask bit of a fault record (R407, R472). -/
def faultWord (s : State) (src : Nat) (first masked : Bool) : Nat :=
  src % 1024 + severity s src * 2 ^ 10 + 2 ^ 12 * bit first + 2 ^ 13 * bit (forced s src) + 2 ^ 14 * bit masked

/-- The first-fault record and the same-cycle mask (R471). -/
def firstFault (src : Nat) (others : List Nat) (s : State) : State :=
  let s := setReg oFLT_FIRST0 (wd (src + severity s src * 2 ^ 10 + 2 ^ 12 * bit (forced s src) + 2 ^ 23)) s
  let s := setReg oFLT_FIRST2 (wd (usNow s / 2 ^ 24 % 2 ^ 16)) (setReg oFLT_FIRST1 (wd (usNow s)) s)
  let s := setF fFLT_STATUS_FIRST 1 s
  others.foldl (fun t o => setF ⟨0xC040 + o / 24, o % 24, 1⟩ 1 t) s

/-! ### Reactions (R465 to R468) -/

/-- A raise's Ledger entry, and from severity 1 its report, where the steward runs (R466, R472). -/
def recordRaise (src time w4 : Nat) (s : State) : State :=
  let s := ledger 2 src time [wd w4] s
  if bitsOf w4 10 2 = 0 then s else event 0x10 3 0 (wd (w4 % 2 ^ 13) :: usWords time) s

/-- A raise is recorded at once, or held for the steward, at most 64 (R473). -/
def noteRaise (src w4 : Nat) (s : State) : State :=
  if stwRuns s then recordRaise src (usNow s) w4 s
  else if s.flt.heldRaises.length < 64 then
    { s with flt := { s.flt with heldRaises := s.flt.heldRaises ++ [(src, usNow s, w4)] } }
  else incF fFLT_LOG_LOST_LOG_LOST s

/-- Held raises reach the Ledger and are reported once the steward runs (R467, R473). -/
def drainRaises (s : State) : State :=
  if stwRuns s then
    s.flt.heldRaises.foldl (fun t e => recordRaise e.1 e.2.1 e.2.2 t) { s with flt := { s.flt with heldRaises := [] } }
  else s

/-- Worn units of a source are replaced by planned swaps (R476). -/
def reactWorn (ok : Nat × Nat → Bool) (s : State) : State :=
  let l := s.flt.worn.filter ok
  l.foldl (fun t e => swapWorn e.1 e.2 t) { s with flt := { s.flt with worn := s.flt.worn.filter (fun e => !ok e) } }

/-- The unit of Table 1 is fenced, and the Attic called (R465, R467, R476, R478). -/
def fenceSource (src : Nat) (s : State) : State :=
  if 16 ≤ src ∧ src < 64 then fscEnable ((src - 16) % 16) false s
  else if 64 ≤ src ∧ src < 96 then
    (if (src - 64) % 8 = 7 then (if (src - 64) % 16 = 7 then fencePairIn ((src - 64) / 16) s else s) else fencePort ((src - 64) / 8) s)
  else if 96 ≤ src ∧ src < 100 then fencePort (src - 96) s
  else if 192 ≤ src ∧ src < 197 then
    (if s.flt.worn.contains (1, src - 192) then reactWorn (· == (1, src - 192)) s else fenceBankIn (src - 192) s)
  else if 256 ≤ src ∧ src < 464 then (if src % 2 = 0 then fenceEngineIn ((src - 256) / 2) s else s)
  else if 464 ≤ src ∧ src < 468 then fenceDioIn (src - 464) s
  else if 473 ≤ src ∧ src < 490 then
    ([0, 1, 2, 3].map (4 * (src - 473) + ·)).foldl (fun t v =>
      if getF t (fANA_CONV_CAUSE v) != 0 then fenceConvIn v t else t) s
  else if src = 624 then reactWorn (fun e => e.1 == 0) s
  else if src = 625 then reactWorn (fun e => e.1 == 2) s
  else if src = 627 then reactWorn (fun e => e.1 == 1 || e.1 == 4) s
  else s

/-- The hub withdraws from field service (R468). -/
def withdraw (s : State) : State :=
  if flag s fFLT_STATUS_WITHDRAWN then s
  else
    let s := setF fFLT_STATUS_WITHDRAWN 1 s
    let s := (List.range 104).foldl (fun t e => fenceEngine e t) s
    let s := [0, 1, 2, 3].foldl (fun t c => fenceDio c t) s
    if twinOn s && (twinRole s == 1 || twinRole s == 3 || twinRole s == 4 || twinRole s == 2) then
      let s := setTwin { s.twin with handover := none } (stagesDisable s)
      twinChange 5 3 s
    else s

/-- The reaction to one raise at its severity (R466). In SHELVED and CELLARED a source of severity 2 or 3 wakes the hub
(R448, R467). -/
def react (src w4 : Nat) (s : State) : State :=
  let sev := severity s src
  let s := noteRaise src w4 s
  let s := if 1 ≤ sev && domOn s 15 then signalVec (getF s fHIF_VEC_FLT) s else s
  if sev < 2 then s
  else
    let s := if getF s fPWR_STATUS_STATE = 0 then s
      else { s with pwr := { s.pwr with wakePend := insSet 8 s.pwr.wakePend } }
    let s := fenceSource src s
    if sev = 3 then withdraw s else s

/-- FAULT_RAISE (R464 to R473): one Registrar cycle. -/
def execFaultRaise (s : State) : Host.Outcome State Fault Refusal :=
  .next (
    let s := atticRetry (drainRaises s)
    let act := activeSources s
    let up := act.filter (fun i => !s.flt.prev.contains i)
    let s := { s with flt := { s.flt with pulse := [], prev := act } }
    let s := up.foldl (fun t i => countEv 1 i 1 t) s
    let fresh := up.filter (fun i => !fltStat s i)
    let s := addF fFLT_REPEATS_REPEATS (up.length - fresh.length) s
    let first := if flag s fFLT_FIRST0_VALID then none else firstOf s fresh
    let others := match first with
      | some f => fresh.filter (· != f)
      | none => []
    let s := match first with
      | some f => firstFault f others s
      | none => s
    let s := fresh.foldl (fun t i => setF ⟨0xC020 + i / 24, i % 24, 1⟩ 1 t) s
    let order := match first with
      | some f => f :: others
      | none => fresh
    order.foldl (fun t i => react i (faultWord t i (first == some i) (others.contains i)) t) s)

/-! ### Forces and clears (R469, R474) -/

/-- FLT_STATUS.FORCED_ANY follows the force bits. -/
def noteForced (s : State) : State := setF fFLT_STATUS_FORCED_ANY (bit (!(forcedSources s).isEmpty)) s

/-- A write of FLT_FORCEi. -/
def forceWrite (i : Nat) (v : Word) (s : State) : State :=
  noteForced (setReg (oFLT_FORCE i) (if i = 26 then wd (v.toNat % 2 ^ 16) else v) s)

/-- FLT_FORCE_WRITE (R469). -/
def execFltForceWrite (by_ : Writer) (i : Nat) (v : Word) (s : State) : Host.Outcome State Fault Refusal :=
  unit (i < 27) (guardWrite by_ (oFLT_FORCE i) (forceWrite i v) s)

/-- The first-fault record and the mask are cleared. -/
def firstClear (s : State) : State :=
  let s := setReg oFLT_FIRST2 0 (setReg oFLT_FIRST1 0 (setReg oFLT_FIRST0 0 s))
  let s := setF fFLT_STATUS_FIRST 0 s
  (List.range 27).foldl (fun t i => setReg (oFLT_MASK i) 0 t) s

/-- FLT_FIRST_CLEAR (R474): FLT_FIRST0.VALID written 1. -/
def execFltFirstClear (s : State) : Host.Outcome State Fault Refusal := .next (firstClear s)

/-! ### Event counters (R475) -/

/-- Every counter is cleared. -/
def cntClearAll (s : State) : State :=
  (s.cnts.map (·.1)).foldl (fun t k => setCnt k { getCnt t k with val := 0 } t) s

/-- CNT_CLEAR_ALL (R475). -/
def execCntClearAll (s : State) : Host.Outcome State Fault Refusal := .next (when (domOn s (offDomain 0x1_0000)) cntClearAll s)

/-- A write of CNT_SELk: the selection, and CLR. -/
def cntSelWrite (k : Nat) (v : Word) (s : State) : State :=
  let s := writeBits (oCNT_SEL k) 0x3FFFF v.toNat s
  if bitsOf v.toNat 18 1 = 1 then setCnt k { getCnt s k with val := 0 } s else s

/-- CNT_CLR (R475): a write of CNT_SELk with CLR = 1. -/
def execCntClr (k : Nat) (v : Word) (s : State) : Host.Outcome State Fault Refusal :=
  unit (k < 64) (when (domOn s (offDomain 0x1_0000)) (cntSelWrite k (v ||| wd (2 ^ 18))) s)

end Sys2Proof.Machine
end

