-- ==== Sys2Proof/Machine/Usb.lean ====
section
/-! DEFINITION. The USB hub, its device function and the analog stream (chapter 10; R181). -/

namespace Sys2Proof.Machine

/-- The USB block stands in domain HIF. -/
def usbOn (s : State) : Bool := domOn s 15

def setUsb (u : Usb) (s : State) : State := { s with usb := u }

/-- Enabled entries of the stream map, in ascending k (R181). -/
def streamEntries (s : State) : List Nat := (List.range 32).filter (fun k => flag s (fANA_USBMAP_EN k))

/-- N of Table 2. -/
def streamN (s : State) : Nat := (streamEntries s).length

/-- The upstream port runs at high speed. -/
def highSpeed (s : State) : Bool := getF s fUSB_STATUS_SPEED == 2

/-- Interfaces 1 and 2 are offered at enumeration (R345). -/
def audioOffered (s : State) : Bool :=
  highSpeed s && !flag s fUSB_CTL_LEGACY && flag s fUSB_CTL_AUDIO_EN && streamN s != 0

/-- Maximum packet size of a bulk endpoint (R345). -/
def bulkMax (s : State) : Nat := if highSpeed s then 512 else 64

/-- The device function takes part in bus traffic: configured, attached and not suspended. -/
def deviceLive (s : State) : Bool := usbOn s && flag s fUSB_STATUS_CONFIGURED && !flag s fUSB_STATUS_SUSPENDED

/-- An endpoint entry of Table 2 is halted. -/
def epHalted (s : State) (e : Nat) : Bool := s.usb.halted.contains e

def haltEp (e : Nat) (s : State) : State := setUsb { s.usb with halted := insSet e s.usb.halted } s

/-- What a SECDED check of packet memory finds (R353). -/
def packetEcc (e : Nat) (ecc : Ecc) (s : State) : State :=
  match ecc with
  | .ok => s
  | .corrected => incF fUSB_CE_CNT_CE_CNT s
  | .uncorrectable =>
    let s := raise 597 s
    if e < 4 then haltEp e s else incF fUSB_ISO_DROP_ISO_DROP s

/-! ### Connection (R342 to R344, R351) -/

/-- The stream stops; unsent frames are discarded (R355). -/
def stopStream (s : State) : State :=
  applyOwed (setF fUSB_STATUS_STREAMING 0
    (setUsb { s.usb with alt := 0, frames := [], microframe := 0, perFrame := [] } s))

/-- SESSION_RESET closes the desk 1 session and raises source 592 where one was open (R359). -/
def sessionReset (s : State) : State := if flag s (fDSK_DESK_SESSION 1) then raise 592 (closeSession 1 s) else s

/-- The device function leaves the bus: unconfigured, address 0, endpoints idle, its control transfer abandoned. -/
def deviceIdle (s : State) : State :=
  let s := stopStream s
  let s := setUsb { s.usb with ctl := none, audio := false, halted := [], notif := [], remoteWakeDev := false } s
  setF fUSB_STATUS_CONFIGURED 0 (setF fUSB_STATUS_ADDRESS 0 s)

/-- Table 5's bus reset at the device function. -/
def deviceReset (s : State) : State :=
  wrapF fUSB_BUS_RESETS_BUS_RESETS (sessionReset (flushQ 65 (flushQ 64 (deviceIdle s))))

/-- A downstream port without power. -/
def portOff (n : Nat) (s : State) : State := setF (fUSB_PORT_POWER n) 0 (setF (fUSB_PORT_ENABLED n) 0 s)

/-- The hub part is unconfigured: ports 2 to 4 lose power, and no remote wake is enabled (R339). -/
def hubIdle (s : State) : State :=
  let s := portOff 4 (portOff 3 (portOff 2 s))
  setUsb { s.usb with hubConf := false, remoteWakeHub := false, wakePending := none, kDriven := none, suspendAt := none } s

/-- The device function is attached to port 1, or detached from it. -/
def setDevice (on : Bool) (s : State) : State :=
  let s := setUsb { s.usb with devAttached := on, reattachAt := none } s
  let s := setF (fUSB_PORT_POWER 1) (bit on) (setF (fUSB_PORT_CONNECTED 1) (bit on) s)
  if on then setF (fUSB_PORT_SPEED 1) 3 s else setF (fUSB_PORT_ENABLED 1) 0 (setF (fUSB_PORT_SPEED 1) 0 s)

/-- The pull-up is removed, with the effects of a bus reset (R343). -/
def pullUpOff (s : State) : State :=
  if flag s fUSB_STATUS_ATTACHED then
    let s := setDevice false (hubIdle (deviceReset s))
    setF fUSB_STATUS_ATTACHED 0 (setF fUSB_STATUS_SUSPENDED 0 (setF fUSB_STATUS_SPEED 0 s))
  else s

/-- The pull-up is applied while CONNECT is 1 and VBUS is present (R342). -/
def pullUpOn (s : State) : State :=
  if flag s fUSB_CTL_CONNECT && flag s fUSB_STATUS_VBUS && !flag s fUSB_STATUS_ATTACHED then
    setDevice true (setF fUSB_STATUS_ATTACHED 1 s)
  else s

/-- Maximum packet size of each buffer entry (Table 2). -/
def epMax (s : State) (e : Nat) : Nat :=
  if e = 0 then 64 else if e = 1 then 8 else if e = 2 ∨ e = 3 then 512 else if e = 4 then 21 * streamN s else 4

/-- First byte and end of a buffer entry. -/
def epSpan (s : State) (e : Nat) : Nat × Nat :=
  let b := getF s (fUSB_EPBUF_BASE e) * 64
  (b, b + getF s (fUSB_EPBUF_SIZE e) * 64 * (1 + getF s (fUSB_EPBUF_DOUBLE e)))

/-- The carving of packet memory stands (R351); a buffer of size 0 overlaps none. -/
def carvingOk (s : State) : Bool :=
  let es := [0, 1, 2, 3, 4, 5]
  es.all (fun e => (epSpan s e).2 ≤ 65536 && epMax s e ≤ getF s (fUSB_EPBUF_SIZE e) * 64) &&
  63 * streamN s ≤ getF s (fUSB_EPBUF_SIZE 4) * 64 &&
  es.all (fun a => es.all (fun b => a = b || (epSpan s a).1 = (epSpan s a).2 || (epSpan s b).1 = (epSpan s b).2 ||
    (epSpan s a).2 ≤ (epSpan s b).1 || (epSpan s b).2 ≤ (epSpan s a).1))

/-- A write of CONNECT (R343, R351). -/
def connectWrite (connect : Bool) (s : State) : State :=
  if connect then
    if flag s fUSB_CTL_LEGACY || carvingOk s then pullUpOn (setF fUSB_CTL_CONNECT 1 s)
    else if flag s fUSB_CTL_CONNECT then s
    else raise 598 (setF fUSB_STATUS_CFG_REJECT 1 s)
  else pullUpOff (setF fUSB_CTL_CONNECT 0 s)

/-- USB_CONNECT (R342, R343, R351). -/
def execUsbConnect (by_ : Writer) (connect : Bool) (s : State) : Host.Outcome State Fault Refusal :=
  .next (guardWrite by_ oUSB_CTL (connectWrite connect) s)

/-- REATTACH = 1: the device function leaves port 1 for 100 ms (R344). -/
def reattachWrite (s : State) : State :=
  if s.usb.devAttached then
    let s := setDevice false (deviceIdle s)
    setUsb { s.usb with reattachAt := some (s.clk + 100000000) } s
  else s

/-- USB_REATTACH (R344). -/
def execUsbReattach (by_ : Writer) (s : State) : Host.Outcome State Fault Refusal :=
  .next (guardWrite by_ oUSB_CTL reattachWrite s)

/-- REATTACH_TIMER (R344). -/
def execReattachTimer (s : State) : Host.Outcome State Fault Refusal :=
  .next (match s.usb.reattachAt with
  | some t => if t ≤ s.clk && flag s fUSB_STATUS_ATTACHED then setDevice true s else s
  | none => s)

/-- A whole write of USB_CTL: its Halted fields, CONNECT and REATTACH. -/
def usbCtlWrite (v : Word) (s : State) : State :=
  let old := (reg s oUSB_CTL).toNat
  let halt := 0xFFFE
  let s := if flag s fUSB_CTL_CONNECT then setF fUSB_STATUS_CFG_REJECT 1 s
    else writeBits oUSB_CTL halt v.toNat s
  let s := if v.toNat % 2 = old % 2 then s else connectWrite (v.toNat % 2 == 1) s
  if bitsOf v.toNat 16 1 = 1 then reattachWrite s else s

/-- VBUS_LOST (R343): VBUS absent for 1 ms. -/
def execVbusLost (s : State) : Host.Outcome State Fault Refusal :=
  .next (when (usbOn s) (fun s => setF fUSB_STATUS_VBUS 0 (pullUpOff s)) s)

/-- VBUS_DETECTED (R342). -/
def execVbusDetected (s : State) : Host.Outcome State Fault Refusal :=
  .next (when (usbOn s) (fun s => pullUpOn (setF fUSB_STATUS_VBUS 1 s)) s)

/-! ### Downstream power (R339 to R341) -/

/-- Ports that an input or a request on port n reaches. -/
def powerPorts (s : State) (n : Nat) : List Nat := if flag s fUSB_CTL_GANGED then [2, 3, 4] else [n]

/-- USB_OVER_CURRENT (R340, R341): OC_N low for OC_FILT ms. In ganged mode only port 2's input is watched. -/
def overCurrent (n : Nat) (s : State) : State :=
  if flag s fUSB_CTL_GANGED && n != 2 then s
  else
    let s := (powerPorts s n).foldl (fun t m => setF (fUSB_PORT_OC m) 1 (setF (fUSB_PORT_OC_CHG m) 1 (portOff m t))) s
    if flag s fUSB_CTL_GANGED then
      raise 593 (setUsb { s.usb with hubPorts := tset (fun _ => 0) 0 3 s.usb.hubPorts } s)
    else raise (591 + n) (setUsb { s.usb with hubPorts := tset (fun _ => 0) n 1 s.usb.hubPorts } s)

/-- Over-current filter in ns; 0 is treated as 1 (Table 9). -/
def ocFilter (s : State) : Nat := 1000000 * max 1 (getF s fUSB_CTL_OC_FILT)

/-- USB_OVER_CURRENT: the input of port n has been low since `lowAt`, for the time of the filter. -/
def execUsbOverCurrent (n lowAt : Nat) (s : State) : Host.Outcome State Fault Refusal :=
  unit (2 ≤ n && n ≤ 4) (when (usbOn s && decide (lowAt + ocFilter s ≤ s.clk)) (overCurrent n) s)

/-- USB_DNn_PWREN is high: port n is powered, on a hub that is configured and whose HIF is on (R339). -/
def pwrEnable (s : State) (n : Nat) : Bool := usbOn s && s.usb.hubConf && flag s (fUSB_PORT_POWER n)

/-- SET_PORT_POWER (R340, R341). -/
def execSetPortPower (n : Nat) (ocHigh : Bool) (s : State) : Host.Outcome State Fault Refusal :=
  unit (2 ≤ n && n ≤ 4) (when (usbOn s && ocHigh && flag s fUSB_STATUS_ATTACHED && s.usb.hubConf) (fun s =>
    let s := (powerPorts s n).foldl (fun t m => setF (fUSB_PORT_POWER m) 1 (setF (fUSB_PORT_OC m) 0 t)) s
    if flag s fUSB_CTL_GANGED then setUsb { s.usb with hubPorts := tset (fun _ => 0) 0 2 s.usb.hubPorts } s else s) s)

/-! ### Control transfers (R346, R347, R354, R359) -/

/-- A stalled request. -/
def stallEp0 (s : State) : State := emit (.usb 0 2 []) s

/-- Words of the desk 1 response area from `first` on. -/
def responseWords (s : State) (first n : Nat) : List Word :=
  (List.range n).map (fun i => tget (fun _ => 0) (getDesk s 1).resp (first + i))

/-- The ranges of Table 3 for `len` bytes, on a configured device function. -/
def deskRangeOk (s : State) (first len wIndex : Nat) : Bool :=
  flag s fUSB_STATUS_CONFIGURED && wIndex == 0 && len % 4 == 0 && 4 ≤ len && first + len / 4 ≤ 64

/-- The hub descriptor's bNbrPorts, wHubCharacteristics (compound device, power switching and over-current protection per
port or ganged, a TT think time of 8 bit times, no indicators), bPwrOn2PwrGood and DeviceRemovable (R337). -/
def hubDescriptor (s : State) : List Nat :=
  [4] ++ bytesLE (if flag s fUSB_CTL_GANGED then 0x04 else 0x0D) 2 ++ [getF s fUSB_CTL_PGOOD, 0x02]

/-- A device descriptor's bcdUSB, idVendor, idProduct and bcdDevice (R338, R352). -/
def deviceDescriptor (hubPart : Bool) (s : State) : List Nat :=
  let v := (reg s oGLB_FW).toNat
  [0x0200, getF s fGLB_ID2_USB_VID, if hubPart then 0x9624 else if flag s fUSB_CTL_LEGACY then 0x3212 else 0x9625,
    256 * (v / 2 ^ 16) + 16 * (v / 2 ^ 8 % 2 ^ 8)].flatMap (bytesLE · 2)

/-- What the device function's configuration offers: its count of interfaces, and the maximum packet sizes of EP0, EP1 IN,
EP2 OUT and EP2 IN, and with interfaces 1 and 2 of EP3 IN and EP4 IN (R345). -/
def configuration (s : State) : List Nat :=
  let pipes : List Nat := [64, 8, bulkMax s, bulkMax s]
  if audioOffered s then 3 :: (pipes ++ [epMax s 4, epMax s 5]).flatMap (bytesLE · 2) else 1 :: pipes.flatMap (bytesLE · 2)

/-- Requests to the hub part. -/
def hubRequest (r : UsbRequest) : Bool :=
  match r with
  | .remoteWakeup deviceFunction _ => !deviceFunction
  | .hubConfiguration _ => true
  | .hubDescriptor => true
  | .deviceDescriptor hubPart => hubPart
  | .bosDescriptor hubPart => hubPart
  | _ => false

/-- The setup stage of a new control transfer. -/
def setupStage (r : UsbRequest) (s : State) : State :=
  match r with
  | .setAddress a => setF fUSB_STATUS_ADDRESS a s
  | .setConfiguration on =>
    if on then
      let s := setF (fUSB_PORT_ENABLED 1) 1 (setF fUSB_STATUS_CONFIGURED 1 s)
      setUsb { s.usb with audio := audioOffered s, halted := [], lastNotif := notifBits s } s
    else setF fUSB_STATUS_CONFIGURED 0 (stopStream s)
  | .hubConfiguration on =>
    if on then setUsb { s.usb with hubConf := true } s
    else portOff 4 (portOff 3 (portOff 2 (setUsb { s.usb with hubConf := false } s)))
  | .remoteWakeup deviceFunction on =>
    setUsb (if deviceFunction then { s.usb with remoteWakeDev := on } else { s.usb with remoteWakeHub := on }) s
  | .deskWrite first bytes wIndex =>
    if deskRangeOk s first bytes.length wIndex then setUsb { s.usb with ctl := some (.deskWrite first (wordsOfDwords bytes)) } s
    else stallEp0 s
  | .deskRead first len wIndex =>
    if deskRangeOk s first len wIndex then
      setUsb { s.usb with ctl := some (.deskRead first (responseWords s first (len / 4))) } s
    else stallEp0 s
  | .getFrequency => if s.usb.audio then emit (.usb 0 0 (bytesLE 48000 4)) s else stallEp0 s
  | .getValidity => if s.usb.audio then emit (.usb 0 0 [getF s fANA_STATUS_PLL_LOCK]) s else stallEp0 s
  | .hubDescriptor => emit (.usb 0 0 (hubDescriptor s)) s
  | .deviceDescriptor hubPart => emit (.usb 0 0 (deviceDescriptor hubPart s)) s
  | .bosDescriptor _ => stallEp0 s
  | .configuration => emit (.usb 0 0 (configuration s)) s
  | .noControl => stallEp0 s
  | .other => s

/-- USB_SETUP (R359): the device function abandons the transfer in progress and takes a new one; a request to the hub part
leaves the device function's transfer alone. -/
def execUsbSetup (r : UsbRequest) (s : State) : Host.Outcome State Fault Refusal :=
  .next (if hubRequest r then
    when (usbOn s && flag s fUSB_STATUS_ATTACHED && !flag s fUSB_STATUS_SUSPENDED) (setupStage r) s
  else when (usbOn s && s.usb.devAttached && !flag s fUSB_STATUS_SUSPENDED)
    (fun s => setupStage r (setUsb { s.usb with ctl := none, halted := delSet 0 s.usb.halted } s)) s)

/-- DESK_WRITE (R347): the status stage of the DESK_WRITE in progress. It is answered NAK while desk 1 is BUSY; otherwise
the words are written and the doorbell is rung. -/
def execDeskWrite (first : Nat) (words : List Word) (ecc : Ecc) (s : State) : Host.Outcome State Fault Refusal :=
  .next (when (deviceLive s && s.usb.ctl == some (.deskWrite first words)) (fun s =>
    let s := packetEcc 0 ecc s
    if ecc = .uncorrectable then setUsb { s.usb with ctl := none } s
    else if getF s (fDSK_DESK_STATE 1) = 1 then emit (.usb 0 1 []) s
    else
      let s := setUsb { s.usb with ctl := none } s
      let s := (indexed first words).foldl (fun t e => cmdAreaWrite 1 e.1 e.2 t) s
      emit (.usb 0 3 []) (ringDesk 1 s)) s)

/-- DESK_READ (R346): the data stage of the DESK_READ in progress. -/
def execDeskRead (first n : Nat) (ecc : Ecc) (s : State) : Host.Outcome State Fault Refusal :=
  .next (when (deviceLive s) (fun s =>
    match s.usb.ctl with
    | some (.deskRead f ws) =>
      if f = first && ws.length = n then
        let s := packetEcc 0 ecc (setUsb { s.usb with ctl := none } s)
        if ecc = .uncorrectable then s else emit (.usb 0 0 (ws.flatMap dwordBytes)) s
      else s
    | _ => s) s)

/-- SET_INTERFACE (R355, R358): alternate 1 starts the stream, alternate 0 stops it. -/
def execSetInterface (alt : Nat) (s : State) : Host.Outcome State Fault Refusal :=
  .next (when (deviceLive s) (fun s =>
    if !s.usb.audio || 2 ≤ alt then stallEp0 s
    else if alt = 1 then setF fUSB_STATUS_STREAMING 1 (setUsb { (stopStream s).usb with alt := 1, streamAt := sampleFrom 48000 s.ringNs } s)
    else
      let n := streamN s
      let s := stopStream s
      let mine := s.stw.owed.filter (fun e => 0x3_4300 ≤ e.1 && e.1 < 0x3_4320)
      let s := { s with stw := { s.stw with owed := s.stw.owed.filter (fun e => !(0x3_4300 ≤ e.1 && e.1 < 0x3_4320)) } }
      let s := mine.foldl (fun t e => writeBits e.1 e.2.1 e.2.2 t) s
      if streamN s = n then s else reattachWrite s) s)

/-- SET_CUR_FREQUENCY (R354). -/
def execSetCurFrequency (hz : Nat) (s : State) : Host.Outcome State Fault Refusal :=
  .next (when (deviceLive s) (fun s => if s.usb.audio && hz == 48000 then emit (.usb 0 3 []) s else stallEp0 s) s)

/-- CLEAR_ENDPOINT_HALT (R359). -/
def execClearEndpointHalt (e : Nat) (s : State) : Host.Outcome State Fault Refusal :=
  unit (e < 6) (when (deviceLive s) (fun s => setUsb { s.usb with halted := delSet e s.usb.halted } s) s)

/-! ### Bulk pipes and notifications (R348 to R350, R353) -/

/-- EP2_OUT_TRANSFER (R348): the bytes of one complete transfer; NAKed while Q64 is full. -/
def execEp2OutTransfer (bytes : List Nat) (ecc : Ecc) (s : State) : Host.Outcome State Fault Refusal :=
  .next (when (deviceLive s && !epHalted s 2) (fun s =>
    let n := leAt bytes 0 2
    let words := (wordsOfDwords bytes).drop 1
    if n = 0 ∨ 1023 < n ∨ leAt bytes 2 1 ≠ 0 ∨ bytes.length ≠ 4 * (n + 1) then haltEp 2 s
    else
      let s := packetEcc 2 ecc s
      if ecc = .uncorrectable then s
      else
        match canTake s [64] (.words words) none with
        | some ch => noteDesc (enterQ [64] (.words words) 7 false ch s)
        | none => emit (.usb 2 1 []) s) s)

/-- EP2_IN_TRANSFER (R349): the oldest item of Q65 leaves in the layout of R348. -/
def execEp2InTransfer (ecc : Ecc) (s : State) : Host.Outcome State Fault Refusal :=
  .next (when (deviceLive s && !epHalted s 3) (fun s =>
    match frontQ s 65 with
    | some (_, x) =>
      (match x.body with
      | .words ws =>
        let s := packetEcc 3 ecc (dropFront 65 s)
        let s := if ecc = .uncorrectable then s
          else
            let s := emit (.usb 3 0 ((wd ws.length :: ws).flatMap dwordBytes)) s
            if !flag s fUSB_CTL_LEGACY && 4 * (ws.length + 1) % bulkMax s == 0 then emit (.usb 3 0 []) s else s
        noteNotif s
      | .frame _ => s)
    | none => s) s)

/-- EP1_NOTIFICATION (R350): at most one in each 1 ms. -/
def execEp1Notification (ecc : Ecc) (s : State) : Host.Outcome State Fault Refusal :=
  .next (when (usbOn s) (fun s =>
    let s := noteNotif s
    match s.usb.notif with
    | b :: _ =>
      if deviceLive s && !epHalted s 1 && (match s.usb.notifSent with
          | some t => decide (t + 1000000 ≤ s.clk)
          | none => true) then
        let s := packetEcc 1 ecc (setUsb { s.usb with notif := [] } s)
        if ecc = .uncorrectable then s
        else emit (.usb 1 0 ([b, 0, 0, 0] ++ bytesLE (qCount s 65) 4)) (setUsb { s.usb with notifSent := some s.clk } s)
      else s
    | [] => s) s)

/-! ### The analog stream (R181, R353 to R357) -/

/-- The sample of a channel in the stream: the corrected code of its converter (R169, R181). -/
def streamCode (s : State) (n : Nat) (pv : Int) : Word :=
  ofInt24 (corrected s (chanConv s n) (adcCode (getF s (fANA_CHCFG_GAIN n)) pv))

/-- The channels of the stream, in ascending entry (R181). -/
def streamChans (s : State) : List Nat := (streamEntries s).map (fun k => getF s (fANA_USBMAP_CH k))

/-- An output instant of RATE 15 that has not been taken is past. -/
def streamDue (s : State) : Bool := decide (sampleAt 48000 s.usb.streamAt ≤ s.ringNs)

/-- A sample frame is placed in packet memory, where the bus is not suspended (Table 5), and the next instant follows. -/
def placeFrame (volts : List Int) (s : State) : State :=
  let fr := ((streamChans s).zip volts).map (fun e => streamCode s e.1 e.2)
  let fs := if flag s fUSB_STATUS_SUSPENDED then s.usb.frames else s.usb.frames ++ [fr]
  setUsb { s.usb with frames := fs, streamAt := sampleFrom 48000 (s.ringNs + 1) } s

/-- STREAM_SAMPLE (R181, R355): `volts` are what the converters of the enabled entries' channels measured at one output
instant, in picovolts. -/
def execStreamSample (volts : List Int) (s : State) : Host.Outcome State Fault Refusal :=
  .next (when (usbOn s && anaOn s && flag s fUSB_STATUS_STREAMING && volts.length == streamN s && streamDue s)
    (placeFrame volts) s)

/-- The feedback value: mean sample frames per microframe, as 16.16 (R357). -/
def feedback (l : List Nat) : Nat :=
  if l.isEmpty then 0x60000 else 65536 * l.foldl (· + ·) 0 / l.length

/-- A microframe of the stream passes: at most 7 frames leave packet memory, and USB_FB follows. -/
def microframeEnds (s : State) : State :=
  let n := min 7 s.usb.frames.length
  let l := (n :: s.usb.perFrame).take 1024
  let s := setUsb { s.usb with frames := s.usb.frames.drop n, microframe := s.usb.microframe + 1, perFrame := l } s
  setF fUSB_FB_FB (feedback l) s

/-- ISO_IN_PACKET (R353, R355, R357). -/
def execIsoInPacket (ecc3 ecc4 : Ecc) (s : State) : Host.Outcome State Fault Refusal :=
  .next (when (deviceLive s && flag s fUSB_STATUS_STREAMING) (fun s =>
    let ws := (s.usb.frames.take 7).flatMap id
    let s := packetEcc 4 ecc3 s
    let s := emit (.usb 4 0 (if ecc3 = .uncorrectable then [] else ws.flatMap (fun w => bytesLE w.toNat 3))) (microframeEnds s)
    if s.usb.microframe % 4 = 0 then
      let s := packetEcc 5 ecc4 s
      emit (.usb 5 0 (if ecc4 = .uncorrectable then [] else bytesLE (feedback s.usb.perFrame) 4)) s
    else s) s)

/-- ISO_PACKET_MISSED (R356): more than 100 in one second raise source 596. -/
def execIsoPacketMissed (s : State) : Host.Outcome State Fault Refusal :=
  .next (when (deviceLive s && flag s fUSB_STATUS_STREAMING) (fun s =>
    let s := incF fUSB_ISO_DROP_ISO_DROP (microframeEnds s)
    let fresh := s.usb.dropSince + 1000000000 ≤ s.clk
    let n := if fresh then 1 else s.usb.dropSec + 1
    let s := setUsb { s.usb with dropSec := n, dropSince := if fresh then s.clk else s.usb.dropSince } s
    if n = 101 then raise 596 s else s) s)

/-! ### Bus events (R359 to R363) -/

/-- USB_BUS_RESET (R359): on the upstream port, after which it runs at the speed found; or the host's reset of port 1,
which the hub part does not take. -/
def execUsbBusReset (high upstream : Bool) (s : State) : Host.Outcome State Fault Refusal :=
  .next (when (usbOn s && flag s fUSB_STATUS_ATTACHED) (fun s =>
    let s := deviceReset s
    if upstream then
      let s := hubIdle s
      setF fUSB_STATUS_SPEED (if high then 2 else 1) (setF fUSB_STATUS_SUSPENDED 0 s)
    else setF (fUSB_PORT_ENABLED 1) 1 s) s)

/-- USB_SUSPEND (R360): 3 ms of idle bus. -/
def execUsbSuspend (s : State) : Host.Outcome State Fault Refusal :=
  .next (when (usbOn s && flag s fUSB_STATUS_ATTACHED && !flag s fUSB_STATUS_SUSPENDED) (fun s =>
    setF fUSB_STATUS_SUSPENDED 1 (setUsb { s.usb with suspendAt := some s.clk, frames := [], kDriven := none } s)) s)

/-- KIND and SRC of USB_WAKE_REC at a resume, host K having first been seen at `hostK` (R363). -/
def wakeKind (s : State) (hostK : Nat) : Nat × Nat :=
  let near := match s.usb.wakePending with
    | some (_, t) => decide (t ≤ hostK + 1000000) && decide (hostK ≤ t + 1000000)
    | none => false
  let src := match s.usb.wakePending with
    | some (c, _) => c
    | none => 0
  if near then (3, src) else if s.usb.kDriven.isSome then (2, src) else (1, 0)

/-- USB_RESUME (R362, R363, R365). While HIF is retained, host K is wake source 5 (R448). -/
def execUsbResume (hostK : Nat) (s : State) : Host.Outcome State Fault Refusal :=
  .next (
    if flag s fUSB_STATUS_SUSPENDED && flag s fUSB_STATUS_ATTACHED && decide (hostK ≤ s.clk) then
      if usbOn s then
        let k := wakeKind s hostK
        let s := setF fUSB_WAKE_REC_VALID 1 (setF fUSB_WAKE_REC_KIND k.1 (setF fUSB_WAKE_REC_SRC k.2 s))
        let s := setUsb { s.usb with wakePending := none, kDriven := none, suspendAt := none, frames := [] } s
        setF fUSB_STATUS_SUSPENDED 0 s
      else if domState s 15 = 2 then { s with pwr := { s.pwr with wakePend := insSet 5 s.pwr.wakePend } }
      else s
    else s)

/-- A remote wake may be signalled for a cause (R361). -/
def mayWake (s : State) (src : Nat) : Bool := s.usb.remoteWakeHub && (src != 1 || s.usb.remoteWakeDev)

/-- REMOTE_WAKE (R361): a cause waits until both conditions hold; then the hub drives K. A cause in the device function is
the notification that waits; one on port 2, 3 or 4 comes from the device there. -/
def execRemoteWake (src : Nat) (s : State) : Host.Outcome State Fault Refusal :=
  unit (1 ≤ src && src ≤ 4) (when (usbOn s && flag s fUSB_STATUS_SUSPENDED) (fun s =>
    let s := if s.usb.wakePending.isNone && src != 1 then setUsb { s.usb with wakePending := some (src, s.clk) } s else s
    match s.usb.wakePending, s.usb.suspendAt with
    | some (c, _), some t =>
      if c = src && mayWake s c && t + 5000000 ≤ s.clk && s.usb.kDriven.isNone then
        setUsb { s.usb with kDriven := some s.clk } s
      else s
    | _, _ => s) s)

/-- REMOTE_WAKE_TIMEOUT (R362): 10 ms after the release of K, 2 ms after it was first driven. -/
def execRemoteWakeTimeout (s : State) : Host.Outcome State Fault Refusal :=
  .next (match s.usb.kDriven with
  | some t =>
    if flag s fUSB_STATUS_SUSPENDED && t + 12000000 ≤ s.clk then
      raise 599 (setUsb { s.usb with kDriven := none, wakePending := none } s)
    else s
  | none => s)

end Sys2Proof.Machine
end

