-- ==== Sys2Proof/Machine/BusCore.lean ====
section
/-! DEFINITION. A write of any register but PWR's requests, by what its table says of it: Paired pairs (R377 to R380), the
registers whose writes do something of their own, and the ordinary write of the rest (R10, R12, R375, R376). -/

namespace Sys2Proof.Machine

/-! ### Pairs (R377 to R379) -/

/-- The bits of a register that are Paired. -/
def pairedMask (off : Nat) : Nat :=
  match rowOf off with
  | some (r, _) => fldMask (fun f => f.chg == .paired) r.flds
  | none => 0

/-- A complete pair takes effect: at the item boundary of its engine's place or its line, or at once. -/
def applyPair (a va vb : Nat) (s : State) : State :=
  match blockOf a with
  | some (.clk n) => enginePair n (va % 4) (vb % 32) s
  | some .dio => if a < 0x3_0100 then spareWrite (a - 0x3_0010) (wd va) s else linePairWrite (a - 0x3_0100) (va % 16) vb s
  | _ =>
    match pairOf a with
    | some (_, b) =>
      let s := if 0x3_4180 ≤ a ∧ a < 0x3_4280 then closeConv (a % 0x80) s else s
      if a = b then writeBits a (pairedMask a) va s
      else writeBits b (pairedMask b) vb (writeBits a (pairedMask a) va s)
    | none => s

/-- A pair's member out of its range: ILIM 10 to 400, SOA 1 to 1,000 (R437). -/
def badMember (off v : Nat) : Bool :=
  if 0x8100 ≤ off ∧ off < 0x8180 then
    (off % 8 == 1 && (v < 10 || 400 < v)) || (off % 8 == 2 && (v < 1 || 1000 < v))
  else false

/-- A write of a pair's member. Where both members stand in one register the write is complete (R378). A member written at
its present value, with nothing held, starts no pair (R378); a second write of the held member replaces it (R377). -/
def pairWrite (off a b v : Nat) (s : State) : State :=
  let m := pairedMask off
  if badMember off (v &&& m) then reject off s
  else if a = b then applyPair a v 0 s
  else
    match s.pairs.find? (fun h => h.offA == a) with
    | none =>
      if (v &&& m) = ((reg s off).toNat &&& m) then s
      else
        let h := if off = a then PairHold.mk a b m (v &&& m) 0 0 s.clk else PairHold.mk a b 0 0 m (v &&& m) s.clk
        { s with pairs := s.pairs ++ [h] }
    | some h =>
      let h' := if off = a then { h with maskA := m, valA := v &&& m } else { h with maskB := m, valB := v &&& m }
      if h'.maskA != 0 && h'.maskB != 0 then
        applyPair a h'.valA h'.valB { s with pairs := s.pairs.filter (fun x => x.offA != a) }
      else { s with pairs := s.pairs.map (fun x => if x.offA = a then h' else x) }

/-! ### The ordinary write -/

/-- A place in the midst of an item holds Live writes for its item boundary (R12, R103). -/
def heldByPlace (s : State) (off : Nat) : Option Nat :=
  match blockOf off with
  | some (.clk n) =>
    if 0x10 ≤ off % 0x1000 ∧ off % 0x1000 < 0x20 ∧ (getPlace s n).item.isSome then some n else none
  | _ => none

/-- A register without a write of its own: its fields by their classes, and its pair's member. -/
def rowWrite (off : Nat) (v : Nat) (s : State) : State :=
  match rowOf off with
  | none => s
  | some (r, _) =>
    let s := match heldByPlace s off with
      | some n =>
        let live := fldMask (fun f => f.acc == .rw && f.chg == .live) r.flds
        let s := if live = 0 then s else setPlace n { getPlace s n with live := (getPlace s n).live ++ [(off, live, v)] } s
        writeRow off (r.flds.filter (fun f => f.chg != .live)) v s
      | none => writeRow off r.flds v s
    match pairOf off with
    | some (a, b) => pairWrite off a b v s
    | none => s

/-! ### Registers with a write of their own, by block -/

/-- A write of a clerk's register (R91, R95, R98, R109, R120). -/
def clkWrite (n off : Nat) (v : Word) (s : State) : State :=
  let o := off % 0x1000
  let x := v.toNat
  if o = 0 then
    let s := rowWrite off (putBits x 2 1 (getF s (fCLK_ENG_CTL_RUN n))) s
    let run := bitsOf x 2 1 == 1
    if run || flag s (fCLK_ENG_CTL_RUN n) then engRunWrite n run s else s
  else if o = 3 then engBindWrite n v s
  else if o = 0x11 then pinselWrite n x s
  else if o = 0x12 && 6000 < bitsOf x 0 13 then setF (fCLK_STAT_CFG_REJECT n) 1 s
  else if 0x18 ≤ o && o < 0x20 && bitsOf x 22 2 == 3 then setF (fCLK_STAT_CFG_REJECT n) 1 s
  else if 0x200 ≤ o then writeWindow n off v s
  else rowWrite off x s

/-- A write of a register of a ring's ports and bypass (R191, R204, R207, R213). -/
def rgxWrite (x off : Nat) (v : Word) (s : State) : State :=
  let o := off % 0x4000
  let p := 2 * x + o / 0x100
  if o = 0x200 then bypWrite x v s
  else if o < 0x200 && o % 0x100 = 0 then phyWrite p v s
  else if o < 0x200 && o % 0x100 = 0x10 then tdrWrite p v s
  else if o < 0x200 && o % 0x100 = 0x20 then
    let s := rowWrite off v.toNat s
    if v.toNat % 2 = 1 then irDueNow p s else s
  else rowWrite off v.toNat s

/-- A write of a bridge register (R314, R315, R320, R325). -/
def hifWrite (off : Nat) (v : Word) (s : State) : State :=
  let sq := (off - 0x3_8200) / 8
  let cq := (off - 0x3_8300) / 8
  if 0x3_8004 ≤ off && off < 0x3_8007 then irqPendWrite (off - 0x3_8004) v s
  else if 0x3_8200 ≤ off && off < 0x3_8260 && off % 8 == 2 then sqCfgWrite sq v s
  else if 0x3_8200 ≤ off && off < 0x3_8260 && off % 8 == 3 then tailWrite sq v s
  else if 0x3_8300 ≤ off && off < 0x3_8360 && off % 8 == 2 then cqCfgWrite cq v s
  else if 0x3_8300 ≤ off && off < 0x3_8360 && off % 8 == 3 then cqHeadWrite cq v s
  else rowWrite off v.toNat s

/-- A write of a feed or channel register (R432, R437). -/
def fedWrite (off : Nat) (v : Word) (s : State) : State :=
  let n := (off - 0x8100) / 8
  if off = 0x8001 then warnVWrite v s
  else if 0x8100 ≤ off && off < 0x8180 && off % 8 == 0 then fscCtlWrite n v s
  else if 0x8100 ≤ off && off < 0x8180 && off % 8 == 3 then retryWrite n v s
  else rowWrite off v.toNat s

/-- A write of an archive register (R49, R81, R84, R86). -/
def stkWrite (off : Nat) (v : Word) (s : State) : State :=
  if off = oSTK_COPY_CTL then copyCtlWrite v s
  else if off = oSTK_BANK_MAP then bankMapWrite v s
  else if 0x2_8008 ≤ off && off < 0x2_8010 then staleLimWrite (off - 0x2_8008) v s
  else rowWrite off v.toNat s

/-- A write of a discrete register (R152, R153, R161, R162). -/
def dioRegWrite (off : Nat) (v : Word) (s : State) : State :=
  if off = oDIO_WDOG then wdogWrite v s
  else if 0x3_0100 ≤ off && off < 0x3_0210 then
    pairWrite off off (off + 0x200) v.toNat (lineLive (off - 0x3_0100) v s)
  else rowWrite off v.toNat s

/-- A write of an analog register (R168, R177). -/
def anaRegWrite (off : Nat) (v : Word) (s : State) : State :=
  if 0x3_4040 ≤ off && off < 0x3_4080 then chcfgWrite (off - 0x3_4040) v s
  else if 0x3_4080 ≤ off && off < 0x3_40C0 then chselWrite (off - 0x3_4080) (bitsOf v.toNat 0 7) s
  else if off = oANA_CTL then rotWatch (rowWrite off v.toNat s)
  else rowWrite off v.toNat s

/-- A write of a Registrar register (R469, R474). -/
def fltWrite (off : Nat) (v : Word) (s : State) : State :=
  if 0xC060 ≤ off && off < 0xC07B then forceWrite (off - 0xC060) v s
  else if off = oFLT_FIRST0 then (if bitsOf v.toNat 23 1 = 1 then firstClear s else s)
  else rowWrite off v.toNat s

/-- A write of an event counter register (R475). -/
def cntWrite (off : Nat) (v : Word) (s : State) : State :=
  if off = oCNT_CTL then
    let s := rowWrite off v.toNat s
    if bitsOf v.toNat 1 1 = 1 then cntClearAll s else s
  else if 0x1_0100 ≤ off && off < 0x1_0140 then cntSelWrite (off - 0x1_0100) v s
  else rowWrite off v.toNat s

/-- A write of a twin register (R488, R489, R497): CLAIM_EN with CLAIM_NUM 0 is ignored with CFG_REJECT. -/
def twnWrite (off : Nat) (v : Word) (s : State) : State :=
  if off = oTWN_REQ then (if v.toNat % 2 = 1 then handoverStart 1 s else s)
  else if off = oTWN_CTL && bitsOf v.toNat 16 1 == 1 && bitsOf v.toNat 12 4 == 0 then
    stageBits off 0xFEFFFF v.toNat (reject off s)
  else rowWrite off v.toNat s

/-- A write of any register but PWR_REQ and PWR_DOM_OFF. -/
def regWrite (off : Nat) (v : Word) (s : State) : State :=
  match blockOf off with
  | none => s
  | some (.clk n) => clkWrite n off v s
  | some .rga => rgxWrite 0 off v s
  | some .rgb => rgxWrite 1 off v s
  | some .hif => hifWrite off v s
  | some .usb => if off = oUSB_CTL then usbCtlWrite v s else rowWrite off v.toNat s
  | some .fed => fedWrite off v s
  | some .stk => stkWrite off v s
  | some .swq =>
    if off = 0x2_0004 ∨ (0x2_0200 ≤ off ∧ off < 0x2_0300) then limitWrite off v s else rowWrite off v.toNat s
  | some .dio => dioRegWrite off v s
  | some .ana => anaRegWrite off v s
  | some .flt => fltWrite off v s
  | some .cnt => cntWrite off v s
  | some .twn => twnWrite off v s
  | some .sec => if secPeer off then stageBits off (if off % 0x40 = 0 then 0x1FFF else 0xFFFFFF) v.toNat s else rowWrite off v.toNat s
  | some .pwr =>
    if off = oPWR_DRAIN && (bitsOf v.toNat 0 17 < 10 || 100000 < bitsOf v.toNat 0 17) then setF fPWR_STATUS_CFG_REJECT 1 s
    else rowWrite off v.toNat s
  | _ => rowWrite off v.toNat s

end Sys2Proof.Machine
end

