-- ==== Sys2Proof/Machine/Restore.lean ====
section
/-! DEFINITION. The configuration that an edition gives the blocks: its register entries by their change classes (R380,
R381), and the bindings of its places (R98, R120, R545); a domain that powers up again is restored from it (R439, R452). -/

namespace Sys2Proof.Machine

/-- The entries of the edition in force. -/
def editionRegs (s : State) : List (Nat × Nat × Nat) :=
  match s.stw.inForce with
  | some e => e.regs
  | none => []

/-- The register has a Halted field. -/
def haltedField (off : Nat) : Bool :=
  match rowOf off with
  | some (x, _) => x.flds.any (fun f => f.chg == .halted)
  | none => false

/-- A Staged value takes effect; SWQ_TRES is checked again against the minima and cells of this moment (R279). -/
def takeStagedBits (off mask v : Nat) (s : State) : State :=
  if off = 0x2_0004 && !fitsCells s (sumMinima s.regs) (tresCells s (mergeBits (reg s off).toNat mask v)) then
    setF fSWQ_STATUS_CFG_REJECT 1 s
  else writeBits off mask v s

/-- A change with held pairs, staged copies and a CFG_REJECT bit left as they stood: what an edition's entry writes is
not held, and Halted bits that it leaves alone are not refused; a value that a block refuses of itself is (R168, R178,
R279). -/
def quietly (off : Nat) (f : State → State) (s : State) : State :=
  let t := { f { s with pairs := [] } with pairs := s.pairs, staged := s.staged }
  match rejectFld off with
  | some r => if haltedField off then setF r (getF s r) t else t
  | none => t

/-- An analog channel that an entry enables before field service starts waits for it (R545). -/
def holdChan (off : Nat) (w : Nat) (s : State) : Nat × State :=
  if 0x3_4040 ≤ off && off < 0x3_4080 && !s.boot.fieldStarted && bitsOf w 14 1 == 1 then
    (putBits w 14 1 0, { s with ana := { s.ana with enWait := insSet (off - 0x3_4040) s.ana.enWait } })
  else (w, s)

/-- The Live, Staged and Halted bits of one entry (R381): Staged and Live at once, Halted while the block does not run, and
otherwise owed. -/
def entryFields (off mask v : Nat) (flds : List FldRow) (s : State) : State :=
  let rw := fun c => fldMask (fun f => f.acc == .rw && f.chg == c) flds &&& mask
  let s := if rw .staged = 0 then s else takeStagedBits off (rw .staged) v s
  let owes := rw .halted != 0 && haltedRuns s off
  let s := if owes then { s with stw := { s.stw with owed := s.stw.owed ++ [(off, rw .halted, v)] } } else s
  let now := (rw .live ||| rw .none) ||| (if owes then 0 else rw .halted)
  if now = 0 then s
  else
    let x := holdChan off (mergeBits (reg s off).toNat now v) s
    quietly off (regWrite off (wd x.1)) x.2

/-- The word that an entry list gives a register: its bits over what stands. -/
def entryWord (es : List (Nat × Nat × Nat)) (s : State) (off : Nat) : Nat :=
  match es.find? (fun e => e.1 == off) with
  | some e => mergeBits (reg s off).toNat e.2.1 e.2.2
  | none => (reg s off).toNat

/-- A pair that an entry names is written as a whole, once; a half held for it is discarded (R380). A discrete line not yet
started keeps its pair for the start (R545). -/
def entryPair (es : List (Nat × Nat × Nat)) (off mask : Nat) (s : State) : State :=
  match pairOf off with
  | none => s
  | some (a, b) =>
    if pairedMask off &&& mask = 0 || (off != a && es.any (fun e => e.1 == a && pairedMask a &&& e.2.1 != 0)) then s
    else
      let s := { s with pairs := s.pairs.filter (fun h => h.offA != a) }
      let va := entryWord es s a
      let vb := entryWord es s b
      if 0x3_0100 ≤ a && a < 0x3_0210 && !s.boot.fieldStarted then
        let n := a - 0x3_0100
        setLine n { getLine s n with cfg := some (va % 16, vb) } s
      else applyPair a va vb s

/-- One entry of the register section (R381). Windows: a scan list at once, a store while its engine is HALTED; the peer
windows of link protection at once. -/
def entryApply (es : List (Nat × Nat × Nat)) (s : State) (e : Nat × Nat × Nat) : State :=
  match clkWindow e.1 with
  | some n =>
    let o := e.1 % 0x1000
    if 0x400 ≤ o && o < 0x800 then writeBits e.1 e.2.1 e.2.2 s
    else quietly e.1 (writeWindow n e.1 (wd (mergeBits (reg s e.1).toNat e.2.1 e.2.2))) s
  | none =>
    if secPeer e.1 then writeBits e.1 e.2.1 e.2.2 s
    else
      match rowOf e.1 with
      | none => s
      | some (r, _) => entryPair es e.1 e.2.1 (entryFields e.1 e.2.1 e.2.2 r.flds s)

/-- Entries in ascending word offset. -/
def applyEntries (es : List (Nat × Nat × Nat)) (s : State) : State := es.foldl (entryApply es) s

/-! ### Places (R98, R120) -/

/-- A place without a serving engine takes the engine of its own number, or the lowest idle one of its cluster that is
not fenced. -/
def giveEngine (n : Nat) (s : State) : State :=
  if (servingEngine s n).isSome then s
  else
    let free := fun e => engRole s e == 0 && getF s (fCLK_ENG_STAT_STATE e) != 4
    let c := 26 * (n / 26)
    match (n :: (List.range 26).map (c + ·)).find? free with
    | some e => applyEnginePair e 1 (n % 26) s
    | none => s

/-- A place is bound: its engine is loaded and halted, and its pin group attached, unless another place holds it (R91, R98,
R545). -/
def bindPlace (n : Nat) (pl : Placement) (s : State) : State :=
  let s := giveEngine n s
  match servingEngine s n with
  | some e =>
    let s := engineHalt e (setF (fCLK_ENG_CTL_RUN e) 0 s)
    portTest n (attachGroup n pl.group (loadBinding e pl s))
  | none => portTest n (attachGroup n pl.group s)

/-- The places of the edition that a test selects are bound. -/
def bindPlaces (sel : Nat → Bool) (s : State) : State :=
  match s.stw.inForce with
  | some e => e.places.foldl (fun t x => if sel x.1 && x.2.typ != 0 && x.1 < 104 then bindPlace x.1 x.2 t else t) s
  | none => s

/-! ### Scan lists (R101, R123) -/

/-- Runs of consecutive points of one scan class, in ascending order, at most 256 points each. -/
def runsOfPts : List (Nat × Nat) → List (Nat × Nat × Nat) → List (Nat × Nat × Nat)
  | [], acc => acc.reverse
  | (p, k) :: t, (f, len, c) :: acc =>
    if p = f + len && k = c && len < 256 then runsOfPts t ((f, len + 1, c) :: acc)
    else runsOfPts t ((p, 1, k) :: (f, len, c) :: acc)
  | (p, k) :: t, [] => runsOfPts t [(p, 1, k)]

/-- Points and classes, in ascending point number, that the Catalogue gives a place. -/
def placePoints (s : State) (n : Nat) : List (Nat × Nat) :=
  (pointsWhere s (fun c => catSource c == n)).map (fun p => (p, catClass (catAt s p)))

/-- The scan list of a place is written from the Catalogue; entries past its end are not VALID. -/
def writeScanList (n : Nat) (s : State) : State :=
  let b := 0x10_0400 + n * 0x1000
  let runs := runsOfPts (placePoints s n) []
  let old := s.regs.filter (fun e => b ≤ e.1 && e.1 < b + 0x400)
  let s := old.foldl (fun t e => setReg e.1 0 t) s
  (runs.zipIdx).foldl (fun t x =>
    setReg (b + 2 * x.2 + 1) (wd (x.1.2.1 - 1))
      (setReg (b + 2 * x.2) (wd (x.1.1 % 2 ^ 20 + 2 ^ 20 * (x.1.2.2 % 8) + 2 ^ 23)) t)) s

/-! ### A domain comes back (R439, R452, R552) -/

/-- The steward restores a domain that has come up again from the edition in force: its registers, its bindings and scan
lists; its lines are brought back to their modes with the level or duty of their output points, and its places start. -/
def restoreDomain (i : Nat) (s : State) : State :=
  let es := (editionRegs s).filter (fun e => offDomain e.1 == i)
  let s := applyEntries es s
  if 10 ≤ i && i < 14 then
    let mine := fun n => n / 26 == i - 10
    let s := ((List.range 104).filter mine).foldl (fun t n => writeScanList n t) (bindPlaces mine s)
    let s := ((List.range 272).filter (fun n => lineCluster n == i - 10)).foldl (fun t n => driveFromPoint n t) s
    if s.boot.fieldStarted then ((List.range 104).filter mine).foldl (fun t n => startPlace n t) s else s
  else s

end Sys2Proof.Machine
end

