-- ==== Sys2Proof/Machine/Transfers.lean ====
section
/-! DEFINITION. What a READ_REQ and a WRITE carry, and how each fails (R31, R70, R229, R230, R239). -/

namespace Sys2Proof.Machine

/-- The fabric address of a READ_REQ or WRITE, and its word count (R229, Table 4). -/
def reqAddr (f : Frame) : Nat := pw f 0 + 2 ^ 24 * pw f 1
def reqCount (f : Frame) : Nat := pw f 2 % 1024

/-- A read fails: READ_ERR with its cause, under the request's tag (R31, R239). -/
def readError (f : Frame) (cause : Nat) (s : State) : State := originate (mkFrame 0x0F 5 f.src false f.aux [wd cause]) s

/-- A read's words go back to its initiator (R239). -/
def readAnswer (f : Frame) (ws : List Word) (s : State) : State := originate (mkFrame 0x0E 5 f.src false f.aux ws) s

/-- A posted write fails before it changes anything: its initiator gets a deferred-failure report (R31). -/
def writeError (node tag addr cause : Nat) (s : State) : State := report node tag (targetHandle addr) cause s

/-- The point record a write of space 0 names, where it names exactly one W0 (R69). -/
def w0Point (addr count : Nat) : Option Nat :=
  if addrSpace addr = 0 && count = 1 && addrOff addr % 4 = 0 && addrOff addr < 0x40_0000 then some (addrOff addr / 4) else none

/-- A queued WRITE is aborted: as a failure at the write server, with Table 4's event for a point (R118, R456). -/
def abortWrite (cause : Nat) (f : Frame) (s : State) : State :=
  let s := writeError f.src f.aux (reqAddr f) cause s
  match w0Point (reqAddr f) (reqCount f) with
  | some p => writeFailed p s
  | none => s

/-- Every queued frame of a type leaves a queue and is handled, at most `n` of them. -/
def eachQ (q typ : Nat) (h : Frame → State → State) : Nat → State → State
  | 0, s => s
  | n + 1, s =>
    match takeQ q (fun f => f.typ == typ) s with
    | some (f, t) => eachQ q typ h n (h f t)
    | none => s

end Sys2Proof.Machine
end

