-- ==== Sys2Proof/Machine/Power.lean ====
section
/-! DEFINITION. Power domains and states (R438 to R462): requests and their drains, entry and exit, retention checks, wake
sources, and night mode across a ring. -/

namespace Sys2Proof.Machine

def setPwr (x : Pwr) (s : State) : State := { s with pwr := x }

/-- PWR_STATUS.STATE: 0 AWAKE, 1 SHELVED, 2 CELLARED, 3 MOTHBALLED. -/
def pwrState (s : State) : Nat := getF s fPWR_STATUS_STATE

/-! ### What is drained (R456, Table 7) -/

/-- The places of cluster c. -/
def placesOf (c : Nat) : List Nat := (List.range 26).map (26 * c + ·)

/-- No command is in progress at a place or line of cluster c, and none waits for one. -/
def fpDrained (s : State) (c : Nat) : Bool :=
  (placesOf c).all (fun n => (getPlace s n).item != some .command && qCount s (96 + n) == 0) &&
  s.dio.lines.all (fun e => lineCluster e.1 != c || e.2.cmds.isEmpty)

/-- The USB block counts as drained (R364). -/
def usbDrained (s : State) : Bool :=
  flag s fUSB_STATUS_SUSPENDED || !flag s fUSB_STATUS_VBUS || !flag s fUSB_CTL_CONNECT

/-- No descriptor in progress, no BAR2 read outstanding, every completion entry written. -/
def hifDrained (s : State) : Bool :=
  s.hif.sqs.all (fun e => e.2.descs.isEmpty) && s.hif.reads.isEmpty && s.hif.cqWait.isEmpty && usbDrained s

/-- Queues from a up to b hold nothing. -/
def queuesEmpty (s : State) (a b : Nat) : Bool := s.swq.queues.all (fun e => e.1 < a || b ≤ e.1)

/-- No frame of this hub awaits acknowledgement, no read a response, and no bulk transfer is open. -/
def opsClosed (s : State) : Bool :=
  s.ring.unacked.isEmpty && s.ring.held.isEmpty && s.ring.readTags.isEmpty && s.ring.bulkOut.isEmpty &&
  s.ring.bulkIn.isEmpty

/-- Desks with a command in progress, but for the one that asked. -/
def busyDesks (s : State) (asker : Option Nat) : List Nat :=
  (List.range 8).filter (fun d => getF s (fDSK_DESK_STATE d) == 1 && asker != some d)

/-- Domain i is drained for a target state; 0 stands for PWR_DOM_OFF. A domain that is not on holds no transfer. -/
def domDrained (s : State) (target : Nat) (asker : Option Nat) (i : Nat) : Bool :=
  if !domOn s i then true
  else if i = 0 ∨ i = 14 then true
  else if i < 4 then
    if target = 3 then queuesEmpty s 0 32 && opsClosed s
    else if target = 2 then queuesEmpty s 0 32
    else i != 2 || queuesEmpty s 16 32
  else if i = 4 then target != 3 || (busyDesks s asker).isEmpty
  else if i < 10 then qCount s 37 == 0 && qCount s 38 == 0 && s.stk.copy.isNone
  else if i < 14 then fpDrained s (i - 10)
  else hifDrained s

/-- RGB carries the far ring, or stands in for ring A (Table 1). -/
def rgbKept (s : State) : Bool := isCoupler s || flag s fFLT_ATC_STAT_RINGB_ACTIVE

/-- Domains that a state turns off or retains. -/
def goesDown (s : State) (target : Nat) : List Nat :=
  if target = 1 then (if rgbKept s then [] else [2]) ++ (List.range 12).map (· + 4) else (List.range 15).map (· + 1)

/-- Everything that a request affects is drained. -/
def reqDrained (s : State) (r : PowerReq) : Bool := (goesDown s r.target).all (domDrained s r.target r.desk)

/-- The domains of PWR_DOM_OFF's bits. -/
def offBits (bits : Nat) : List Nat :=
  ([(0, 2), (1, 10), (2, 11), (3, 12), (4, 13), (5, 14)].filter (fun e => bitsOf bits e.1 1 == 1)).map (·.2)

/-! ### A domain goes off or comes up (R438, R439, R452) -/

/-- The causes of a domain that is off no longer show (R441). -/
def dropCauses (i : Nat) (s : State) : State :=
  { s with flt := { s.flt with level := s.flt.level.filter (fun k => srcDomain k != i) } }

/-- A field cluster loses its contents; its fences stand. -/
def clearCluster (c : Nat) (s : State) : State :=
  let fenced := (placesOf c).filter (fun e => getF s (fCLK_ENG_STAT_STATE e) == 4)
  let s := { s with
    regs := tclear (fun off => offDomain off == 10 + c) s.regs
    places := tclear (fun n => n / 26 == c) s.places
    engines := tclear (fun n => n / 26 == c) s.engines
    dio := { s.dio with lines := tclear (fun n => lineCluster n == c) s.dio.lines } }
  fenced.foldl (fun t e => setF (fCLK_ENG_STAT_STATE e) 4 t) s

/-- The analog block loses its contents; its fences stand. -/
def clearAnalog (s : State) : State :=
  let fenced := (List.range 68).filter (fun v => convState s v == 3)
  let s := { s with regs := tclear (fun off => offDomain off == 14) s.regs, ana := Ana.init }
  fenced.foldl (fun t v => setF (fANA_CONV_STATE v) 3 t) s

/-- The host interface loses its contents; the pull-up goes (Table 2), and the sessions of desks 0 and 1 close. -/
def clearHost (s : State) : State :=
  let s := closeSession 1 (closeSession 0 (pullUpOff s))
  let vbus := getF s fUSB_STATUS_VBUS
  setF fUSB_STATUS_VBUS vbus { s with
    regs := tclear (fun off => offDomain off == 15) s.regs
    hif := { Hif.init with perst := s.hif.perst }
    usb := Usb.init }

/-- Ring B's ports lose their contents: an inserted pair is released first (R216). -/
def clearRingB (s : State) : State :=
  let s := if flag s (fRGx_BYP_STAT_HOLD 1) then releasePair 1 s else s
  { s with
    regs := tclear (fun off => offDomain off == 2) s.regs
    ports := tclear (fun p => p == 2 || p == 3) s.ports
    byps := tclear (fun x => x == 1) s.byps
    ring := { s.ring with
      dup := tclear (fun k => k / 32768 == 1) s.ring.dup
      seeded := tclear (fun x => x == 1) s.ring.seeded
      seedEnd := tclear (fun x => x == 1) s.ring.seedEnd } }

/-- Domain i goes off: nothing of it is kept. -/
def domainOff (i : Nat) (s : State) : State :=
  let s :=
    if i = 2 then clearRingB s
    else if 10 ≤ i && i < 14 then clearCluster (i - 10) s
    else if i = 14 then clearAnalog s
    else if i = 15 then clearHost s
    else s
  setDom i 0 (dropCauses i s)

/-- A setting of the running volume, 0 where there is none. -/
def keyVal (s : State) (k : Nat) : Nat := (((getKey s k).getD []).getD 0 0).toNat

/-- The steward writes the ports and bypass of pair x from the settings shelf, and enables every port whose medium is not
off (R540). -/
def portKeys (x : Nat) (s : State) : State :=
  let s := (pairPorts x).foldl (fun t p =>
    phyWrite p (wd (keyVal t (0x10 + p) % 64 + 256 * getF t (fRGx_PHY_CTL_DEG_MARGIN p))) t) s
  let s := bypWrite x (wd (keyVal s (0x20 + x) % 2 ^ 22)) s
  (pairPorts x).foldl (fun t p => if getF t (fRGx_PHY_CTL_MEDIUM p) != 0 then writeEn p true t else t) s

/-- Configuration requests are answered, and the device function connects (R546). -/
def hostReady (s : State) : State := connectWrite true { s with hif := { s.hif with ready := true } }

/-- Domain i comes up from off: reset contents, and the steward's restoration (R439, R452). -/
def domainUp (i : Nat) (s : State) : State :=
  let s := setDom i 1 s
  let s := if i = 14 then (List.range 68).foldl (fun t v => loadTrim v 0 t) s else s
  let s := restoreDomain i s
  if i = 2 then portKeys 1 s
  else if i = 14 then steerFenced (excludeAll s)
  else if i = 15 then hostReady s
  else s

/-! ### Orders (R458) -/

/-- A POWER_STATE order to a state, as a broadcast on the home ring. -/
def sendOrder (st : Nat) (force : Bool) (s : State) : State :=
  let body := [wd (st + 4 + 8 * bit force), 0]
  sendEventFrame 0x09 4 0 true (wd (0x30 + 2 * 65536) :: body) (ledger 1 0x30 (usNow s) body s)

/-- A wake order is sent three times, 10 ms apart. -/
def wakeOrder (force : Bool) (s : State) : State :=
  let s := sendOrder 0 force s
  setPwr { s.pwr with orderLeft := some (bit force, 2, s.clk + 10000000) } s

/-! ### Requests (R442 to R444) -/

/-- The hub reports its own state (R444, R407). -/
def reportState (st : Nat) (s : State) : State := event 0x30 4 0 [wd st, reg s oPWR_WAKE_LAST] s

/-- A request begins: BUSY, and its order goes out first (R444, R458). -/
def beginRequest (r : PowerReq) (s : State) : State :=
  let s := if r.fabric && r.target = 2 then sendOrder 2 r.force s else s
  setF fPWR_STATUS_BUSY 1 (setPwr { s.pwr with req := some r } s)

/-- A desk's command is answered now, and its response published before STW goes down (R444). -/
def answerNow (d status : Nat) (s : State) : State := deskDoneStep d (answer d status 0 [] s)

/-- A GO (R442, R443): ignored while BUSY, in a state other than AWAKE, and for AWAKE without FABRIC. -/
def goRequest (s : State) : State :=
  let st := getF s fPWR_REQ_STATE
  let fabric := flag s fPWR_REQ_FABRIC
  let force := flag s fPWR_REQ_FORCE
  if flag s fPWR_STATUS_BUSY || pwrState s != 0 || (st == 0 && !fabric) then
    setF fPWR_STATUS_RESULT 3 (setF fPWR_STATUS_CFG_REJECT 1 s)
  else if st = 0 then wakeOrder force s
  else beginRequest ⟨st, force, fabric, getF s fPWR_DRAIN_LIMIT, s.clk, none, false⟩ s

/-- A write of PWR_REQ: its fields, and GO with them. -/
def pwrReqWrite (v : Word) (s : State) : State :=
  let s := rowWrite oPWR_REQ v.toNat s
  if bitsOf v.toNat 4 1 = 1 then goRequest s else s

/-- PWR_REQ_GO (R443). -/
def execPwrReqGo (by_ : Writer) (v : Word) (s : State) : Host.Outcome State Fault Refusal :=
  .next (guardWrite by_ oPWR_REQ (pwrReqWrite v) s)

/-- POWER_STATE (R392, R444): answered where the request ends. -/
def execPowerState (d : Nat) (s : State) : Host.Outcome State Fault Refusal :=
  deskCmd d 0x50 (· == 2) 8 false (fun a s =>
    let st := argN a 1 % 4
    let force := bitsOf (argN a 1) 2 1 == 1
    let fabric := bitsOf (argN a 1) 3 1 == 1
    let limit := if argN a 2 = 0 then 1000 else argN a 2
    if limit < 10 ∨ 100000 < limit ∨ (st = 0 ∧ !fabric) then answer d 3 0 [] s
    else if flag s fPWR_STATUS_BUSY || pwrState s != 0 then answer d 7 0 [] s
    else if st = 0 then answerOk d [] (wakeOrder force s)
    else beginRequest ⟨st, force, fabric, limit, s.clk, some d, false⟩ s) s

/-! ### Entry (R445 to R447) -/

/-- The wake timer is set 250 ms ahead of what is armed (R405, R517). -/
def setWakeTimer (s : State) : State :=
  let ts := (match s.stw.armed with
    | some a => [a.t]
    | none => []) ++ (match s.sec.volArmed with
    | some v => [v.2.2]
    | none => [])
  match ts with
  | [] => s
  | t :: u =>
    let us := (u.foldl min t - 250000000) / 1000
    setReg oPWR_TIMER1 (wd (us / 2 ^ 24 % 2 ^ 16 + 2 ^ 16)) (setReg oPWR_TIMER0 (wd us) s)

/-- Nothing of a retained cluster runs: its place's items end without effect (R438). -/
def pauseCluster (c : Nat) (s : State) : State :=
  (placesOf c).foldl (fun t n => if (getPlace t n).item.isSome then setPlace n { getPlace t n with item := none, attempts := 0 } t else t) s

/-- A cluster is retained, or off under PWR_CTL.FP_RET. -/
def clusterDown (s : State) (c : Nat) : State :=
  if !domOn s (10 + c) then s
  else if bitsOf (getF s fPWR_CTL_FP_RET) c 1 = 1 then setDom (10 + c) 2 (pauseCluster c s)
  else domainOff (10 + c) s

/-- Steps 2 and 3 of Table 4: canaries, FP, ANA and HIF, and the channels that sleep. -/
def fieldDown (s : State) : State :=
  let s := setPwr { s.pwr with canary := true } s
  let s := [0, 1, 2, 3].foldl clusterDown s
  let s := if domOn s 14 then domainOff 14 s else s
  let s := if flag s fPWR_CTL_HIF_RET then setDom 15 2 s else domainOff 15 s
  (List.range 16).foldl (fun t n => if flag t (fFED_FSC_CTL_SLEEP_OFF n) then holdOn n 2 t else t) s

/-- A domain that is on is retained. -/
def retain (s : State) (i : Nat) : State := if domOn s i then setDom i 2 s else s

/-- Step 4 and the rest for CELLARED: every port that is up sends SHIFT; once each has reached keep-alive, SWC, RGA and RGB
are retained. Measurements end (R204). -/
def cellarDown (s : State) : State :=
  let s := setF fPWR_STATUS_STATE 2 ([0, 1, 2, 3].foldl (fun t p => beginShift p t) s)
  cellarRest ([0, 1, 2, 3].foldl (fun t p => irHalt p t) s)

/-- The steps of an entry take their time: 200 µs, and 1.2 ms into CELLARED (Table 4). -/
def entryTakes (target : Nat) (s : State) : State :=
  setPwr { s.pwr with entry := some (s.clk, s.clk + (if target = 2 then 1200000 else 200000), pwrState s) } s

/-- Entry into SHELVED or CELLARED from AWAKE (R445). -/
def enterSleep (target : Nat) (s : State) : State :=
  let s := fieldDown (entryTakes target s)
  let s := if target = 2 then cellarDown s else if rgbKept s || !domOn s 2 then s else domainOff 2 s
  setF fPWR_STATUS_STATE target ([4, 5, 6, 7, 8, 9].foldl retain s)

/-- Entry into MOTHBALLED (R447): channels held, inserted pairs released, and everything but AON off. -/
def enterMothballed (s : State) : State :=
  let s := (List.range 16).foldl (fun t n => holdOn n 2 t) s
  let s := [0, 1].foldl (fun t x => if flag t (fRGx_BYP_STAT_HOLD x) then releasePair x t else t) s
  coreResetBy .mothballed s

/-- A request completes: RESULT DONE, the response and the event, the wake timer, and the entry (R444, R445, R459). -/
def completeRequest (r : PowerReq) (s : State) : State :=
  let s := setF fPWR_STATUS_RESULT 1 (setF fPWR_STATUS_BUSY 0 (setPwr { s.pwr with req := none, domDrain := none } s))
  if pwrState s = 0 then
    let s := match r.desk with
      | some d => answerNow d 0 s
      | none => restartPoint s
    let s := setWakeTimer (reportState r.target s)
    if r.target = 3 then enterMothballed s else enterSleep r.target s
  else cellarDown (entryTakes 2 s)

/-- DRAIN_COMPLETE (R439, R445, R447). -/
def execDrainComplete (s : State) : Host.Outcome State Fault Refusal :=
  .next (
    let s := match s.pwr.domDrain with
      | some (bits, _) =>
        if (offBits bits).all (domDrained s 0 none) then
          (offBits bits).foldl (fun t i => if domOn t i then domainOff i t else t) (setPwr { s.pwr with domDrain := none } s)
        else s
      | none => s
    match s.pwr.req with
    | some r => if reqDrained s r then completeRequest r s else s
    | none => s)

/-! ### The limit passes (R444, R456, R457) -/

/-- Commands of a cluster fail with ABORTED_BY_POWER. -/
def abortCluster (c : Nat) (s : State) : State :=
  let s := pauseCluster c s
  let s := (placesOf c).foldl (fun t n => failAllCmds n cPOWER (qCount t (96 + n)) t) s
  (s.dio.lines.filter (fun e => lineCluster e.1 == c)).foldl (fun t e => failLineCmds e.1 cPOWER e.2.cmds.length t) s

/-- Queued reads and writes fail, and a bank copy is aborted. -/
def abortArchive (s : State) : State :=
  let s := eachQ 37 13 (fun f => readError f cPOWER) (qCount s 37) s
  let s := eachQ 38 17 (abortWrite cPOWER) (qCount s 38) s
  copyAbort s

/-- Every descriptor in progress completes ERR and every BAR2 read fails (R333); the pull-up goes first (R364). -/
def abortHost (s : State) : State :=
  let s := if usbDrained s then s else setF fUSB_CTL_CONNECT 0 (pullUpOff s)
  let s := (List.range 12).foldl (fun t q =>
    let x := getSq t q
    let x := { x with descs := x.descs.map (fun d => if d.fin.isSome then d else { d with fin := some (3, cPOWER, 0) }) }
    retireDescs q 16 (setSq q x t)) s
  s.hif.reads.foldl (fun t e => match e.2 with
    | some r => failTlp e.1 2 cPOWER r t
    | none => t) s

/-- Every open operation fails with ABORTED_BY_POWER. -/
def abortOps (s : State) : State :=
  let held := s.ring.held
  let s := { s with ring := { s.ring with held := [] } }
  let s := held.foldl (fun t f => failOp ⟨f, 0, 0, 0⟩ cPOWER t) s
  let s := s.ring.unacked.foldl (fun t u => failOp u cPOWER t) s
  let tags := s.ring.readTags
  let s := { s with ring := { s.ring with readTags := [], bulkOut := [], bulkIn := [] } }
  tags.foldl (fun t e => match e.2 with
    | some r => readFails r.who cPOWER t
    | none => t) s

/-- A domain that is not drained is forced (Table 7). -/
def abortDomain (target : Nat) (asker : Option Nat) (i : Nat) (s : State) : State :=
  if i < 4 then
    let s := if target = 3 then abortOps s else s
    (if target = 1 then [2, 3] else [0, 1, 2, 3]).foldl (fun t p => flushPort p t) s
  else if i = 4 then
    (busyDesks s asker).foldl (fun t d => setF (fDSK_DESK_STATE d) 0 (closeSession d (flushQ (72 + d) t))) s
  else if i < 10 then abortArchive s
  else if i < 14 then abortCluster (i - 10) s
  else abortHost s

/-- Every domain that still holds a transfer is forced. -/
def forceDrain (r : PowerReq) (s : State) : State :=
  (goesDown s r.target).foldl (fun t i => if domDrained t r.target r.desk i then t else abortDomain r.target r.desk i t) s

/-- A request is refused: DRAIN_TIMEOUT, and every domain stays on (R444); an order not followed raises source 3 (R459). -/
def refuseRequest (r : PowerReq) (s : State) : State :=
  let s := setF fPWR_STATUS_RESULT 2 (setF fPWR_STATUS_BUSY 0 (setPwr { s.pwr with req := none } s))
  let s := if pwrState s = 0 then raise 0 s else s
  let s := if r.order then raise 3 s else s
  match r.desk with
  | some d => answerNow d 0x18 s
  | none => s

/-- DRAIN_TIMEOUT (R439, R456, R457). -/
def execDrainTimeout (s : State) : Host.Outcome State Fault Refusal :=
  .next (
    let s := match s.pwr.domDrain with
      | some (bits, t) =>
        if t + 1000 * getF s fPWR_DRAIN_LIMIT ≤ s.clk && !(offBits bits).all (domDrained s 0 none) then
          setF fPWR_STATUS_RESULT 2 (writeBits oPWR_DOM_OFF bits 0 (setPwr { s.pwr with domDrain := none } s))
        else s
      | none => s
    match s.pwr.req with
    | some r =>
      if r.began + 1000 * r.limitUs ≤ s.clk && !reqDrained s r then
        if r.force then completeRequest r (raise 1 (forceDrain r s)) else refuseRequest r s
      else s
    | none => s)

/-- A write of PWR_DOM_OFF (R439): a bit set drains its domain, a bit cleared powers it up. -/
def domOffWrite (v : Word) (s : State) : State :=
  let old := (reg s oPWR_DOM_OFF).toNat
  let s := writeBits oPWR_DOM_OFF 0x3F v.toNat s
  let new := (reg s oPWR_DOM_OFF).toNat
  let add := new &&& (0x3F ^^^ old)
  let clr := old &&& (0x3F ^^^ new)
  let held := match s.pwr.domDrain with
    | some (b, _) => b &&& (0x3F ^^^ clr)
    | none => 0
  let drain : Option (Nat × Nat) :=
    if add != 0 then some (held ||| add, s.clk) else if held = 0 then none else s.pwr.domDrain.map (fun x => (held, x.2))
  let s := setPwr { s.pwr with domDrain := drain } s
  (offBits clr).foldl (fun t i => if domState t i = 0 then domainUp i t else t) s

/-- PWR_DOM_OFF_WRITE (R439). -/
def execPwrDomOffWrite (by_ : Writer) (v : Word) (s : State) : Host.Outcome State Fault Refusal :=
  .next (guardWrite by_ oPWR_DOM_OFF (domOffWrite v) s)

/-! ### Waking (R448 to R455) -/

/-- Sources of Table 5 that are active: those the command names, those noted, and, of the timer and the feeds, what the
state shows; each only in its states. -/
def activeWakes (active : List Nat) (s : State) : List Nat :=
  let timer := flag s fPWR_TIMER1_EN &&
    decide ((reg s oPWR_TIMER0).toNat + 2 ^ 24 * getF s fPWR_TIMER1_T1 ≤ usNow s)
  let feed := flag s fFED_STATUS_WARN || !feedGood s 0 || !feedGood s 1
  let named := fun k => active.contains k || s.pwr.wakePend.contains k
  let sleeping := pwrState s != 3
  [(1, timer), (2, named 2), (3, sleeping && named 3), (4, sleeping && named 4),
    (5, sleeping && domState s 15 == 2 && named 5), (6, sleeping && domState s 15 == 2 && named 6), (7, feed),
    (8, named 8)].filterMap (fun e => if e.2 && bitsOf (getF s fPWR_WAKE_EN_EN) (e.1 - 1) 1 == 1 then some e.1 else none)

/-- PWR_WAKE_LAST and PWR_WAKE_TIME are written before any other domain is powered up (R450). -/
def recordWake (active : List Nat) (s : State) : State :=
  let src := (activeWakes active s).headD 0
  let us := usNow s
  let s := setReg oPWR_WAKE_LAST (wd (src + pwrState s * 16 + 2 ^ 23)) s
  let s := setReg oPWR_WAKE_TIME1 (wd (us / 2 ^ 24 % 2 ^ 16)) (setReg oPWR_WAKE_TIME0 (wd us) s)
  let s := setPwr { s.pwr with wakePend := [] } s
  if src = 0 then raise 7 s else s

/-- The domains of PWR_RET_STAT.DOM_UV: STW, SWC, RGA, RGB, FP0 to FP3, HIF. -/
def uvDomains : List Nat := [4, 3, 1, 2, 10, 11, 12, 13, 15]

/-- The undervoltages of the domains that are retained. -/
def uvMask (failed : RetentionFound) (s : State) : Nat :=
  (uvDomains.zipIdx).foldl (fun m e =>
    if domState s e.1 = 2 && bitsOf failed.domUv.toNat e.2 1 == 1 then m + 2 ^ e.2 else m) 0

/-- The banks that fail their check (R453). -/
def failedBanks (failed : RetentionFound) : List Nat :=
  [0, 1, 2, 3, 4].filter (fun b => bitsOf failed.bankUv.toNat b 1 == 1 || bitsOf failed.bankCanary.toNat b 1 == 1)

/-- What follows a bank's failure (R454). -/
def bankLost (bad : List Nat) (s : State) (b : Nat) : State :=
  let s := setF fPWR_WAKE_LAST_RET_FAIL 1 (raise (212 + b) s)
  match logicalOf s b with
  | none => s
  | some l =>
    let sp := spareBank s
    if flag s fPWR_CTL_RET_SPARE && !bad.contains sp && !bankFenced s sp then
      bankMapWrite (wd ((mapWith s l sp).toNat + 2 ^ 15)) s
    else bankFresh b s

/-- The hub does not resume from retention (R455): it starts up as from MOTHBALLED; banks that pass keep their records. -/
def resumeFails (bad : List Nat) (s : State) : State :=
  let s := bad.foldl (fun t b => setF fPWR_WAKE_LAST_RET_FAIL 1 (raise (212 + b) t)) (raise 2 s)
  let kept := fun k => !bad.contains (k / bankSize)
  let old := s.stk
  let s := coreResetBy .mothballed s
  { s with
    stk := { s.stk with
      recs := tclear (fun k => !kept k) old.recs
      cats := tclear (fun k => !kept k) old.cats
      fill := [0, 1, 2, 3, 4].map (fun b => if bad.contains b then Rec.empty .retentionLost (usNow s)
        else old.fill.getD b (Rec.empty .none 0)) }
    boot := { s.boot with causes := delSet 4 s.boot.causes, quietFrom := s.clk } }

/-- Places of a retained cluster start a fresh cycle of every polled class (Table 6). -/
def wakeCluster (c : Nat) (s : State) : State :=
  (placesOf c).foldl (fun t n => if placeUp t n then freshCycles n t else t) s

/-- A domain that was retained is on again; one that was off comes up, but for those PWR_DOM_OFF keeps off (R439, R452). -/
def wakeDomain (s : State) (i : Nat) : State :=
  let kept := (offBits (reg s oPWR_DOM_OFF).toNat).contains i
  let s := if domState s i = 2 then
      let s := setDom i 1 s
      if 10 ≤ i && i < 14 then wakeCluster (i - 10) s else s
    else if domState s i = 0 && !kept then domainUp i s
    else s
  if domOn s i then setPwr { s.pwr with domAt := tset (fun _ => 0) i s.clk s.pwr.domAt } s else s

/-- A port that has not reached keep-alive no longer sends SHIFT once the hub leaves CELLARED (R195). -/
def endShift (s : State) (p : Nat) : State :=
  if portState s p = 4 then s else setPort p { getPort s p with shiftSent := false } s

/-- The exit to AWAKE (R451, R452). -/
def wakeUp (bad : List Nat) (s : State) : State :=
  let s := setPwr { s.pwr with canary := false, pllAt := some s.clk, domAt := [], entry := none } s
  let s := [5, 6, 7, 8, 9, 4, 3, 1, 2].foldl wakeDomain s
  let s := bad.foldl (bankLost bad) s
  let s := [10, 11, 12, 13, 14, 15].foldl wakeDomain s
  let s := setF fPWR_STATUS_CLK 1 (setF fPWR_STATUS_STATE 0 ([0, 1, 2, 3].foldl endShift s))
  let s := (List.range 16).foldl (fun t n => holdOff n 2 t) s
  let s := reportState 0 (drainRaises s)
  if domOn s 15 then signalVec (getF s fHIF_VEC_PWR) s else s

/-- Edge-type sources that a command names: RING, ORDER, and WAKE_N where EDGE is 1 (Table 5). -/
def edgeSources (active : List Nat) (s : State) : List Nat :=
  active.filter (fun k => k == 3 || k == 4 || (k == 2 && flag s fPWR_WAKE_EN_EDGE))

/-- WAKE_EVENT (R446, R448, R450 to R455). From MOTHBALLED the hub starts up: its cause of core reset ends. While an entry is
under way, edges are captured and nothing else happens: a level that still stands then starts the exit. -/
def execWakeEvent (active : List Nat) (failed : RetentionFound) (s : State) : Host.Outcome State Fault Refusal :=
  .next (
    if pwrState s = 0 then s
    else if entering s then (edgeSources active s).foldl (fun t k => noteEdge k t) s
    else if pwrState s = 3 then
      let s := recordWake active s
      { s with boot := { s.boot with causes := delSet 4 s.boot.causes, quietFrom := s.clk } }
    else
      let s := recordWake active s
      let uv := uvMask failed s
      let bad := failedBanks failed
      let s := setReg oPWR_RET_STAT (wd (failed.bankUv.toNat + failed.bankCanary.toNat * 2 ^ 5 + uv * 2 ^ 10)) s
      if uv = 0 then wakeUp bad s else resumeFails bad s)

/-- PLL_LOCK_TIMEOUT (R452, R532): 1 ms after step 8 the steward goes on running on the FIRC; `refclk`, REFCLK is there. Without
it no ring port trains. -/
def execPllLockTimeout (refclk : Bool) (s : State) : Host.Outcome State Fault Refusal :=
  .next (match s.pwr.pllAt with
  | some t =>
    if t + 1300000 ≤ s.clk then 
      raise 6 (setF fPWR_STATUS_CLK 0 { setPwr { s.pwr with pllAt := none } s with boot := { s.boot with refclk := refclk } })
    else s
  | none => s)

/-- DOMAIN_ACK_TIMEOUT (R452): the exit continues without the domain. -/
def execDomainAckTimeout (dom : Nat) (s : State) : Host.Outcome State Fault Refusal :=
  unit (dom < 16) (when (s.pwr.domAt.any (fun e => e.1 == dom && e.2 + 1000000 ≤ s.clk) && domOn s dom) (fun s =>
    raise 5 (domainOff dom (setPwr { s.pwr with domAt := tclear (· == dom) s.pwr.domAt } s))) s)

/-! ### Night mode across a ring (R458, R459) -/

/-- A CELLARED order is acted on as a request, with the hub's own limit. -/
def takeOrder (force : Bool) (s : State) : State :=
  if 2 ≤ pwrState s then s
  else if flag s fPWR_STATUS_BUSY then
    (if s.pwr.req.any (fun r => r.target == 2 || r.target == 3) then s else raise 3 s)
  else beginRequest ⟨2, force, false, getF s fPWR_DRAIN_LIMIT, s.clk, none, true⟩ s

/-- An order that came by a ring of this hub's: to state 2 CELLARED or 0 AWAKE. A coupler needs both of its rings
ordered. -/
def followOrder (ring st : Nat) (force : Bool) (s : State) : State :=
  let mine := ring == ringId s || (isCoupler s && ring == farRing s)
  if !numbered s || !mine then s
  else if st = 2 then
    let seen := tset (fun _ => 0) ring 1 s.pwr.orderSeen
    let s := setPwr { s.pwr with orderSeen := seen } s
    let both := tget (fun _ => 0) seen (ringId s) = 1 && tget (fun _ => 0) seen (farRing s) = 1
    if isCoupler s && !both then s else takeOrder force s
  else if st = 0 then
    let s := setPwr { s.pwr with orderSeen := tset (fun _ => 0) ring 0 s.pwr.orderSeen } s
    if asleep s then noteEdge 4 s else s
  else s

/-- NIGHT_ORDER (R459): the oldest order that the ring ports have recognised. -/
def execNightOrder (s : State) : Host.Outcome State Fault Refusal :=
  .next (match s.pwr.orders with
    | [] => s
    | o :: rest => followOrder o.1 o.2.1 (o.2.2 == 1) (setPwr { s.pwr with orders := rest } s))

/-- ORDER_RESEND (R458). -/
def execOrderResend (s : State) : Host.Outcome State Fault Refusal :=
  .next (match s.pwr.orderLeft with
  | some (force, n + 1, due) =>
    if due ≤ s.clk then
      let s := sendOrder 0 (force == 1) s
      setPwr { s.pwr with orderLeft := if n = 0 then none else some (force, n, due + 10000000) } s
    else s
  | _ => s)

/-- XTAL_STOP (R462). -/
def execXtalStop (s : State) : Host.Outcome State Fault Refusal := .next (raise 4 (setF fPWR_STATUS_XTAL_OK 0 s))

end Sys2Proof.Machine
end

