-- ==== Sys2Proof/Machine/Bus.lean ====
section
/-! DEFINITION. A register access from a bus: every register's write by the writer's ownership (R9 to R12), the Paired
writes and their expiry (R377 to R379), and reads with an effect of their own (R10, R271, R475). -/

namespace Sys2Proof.Machine

/-- A write of any register, by a writer who may write it. -/
def busPut (off : Nat) (v : Word) (s : State) : State :=
  if off = oPWR_REQ then pwrReqWrite v s
  else if off = oPWR_DOM_OFF then domOffWrite v s
  else regWrite off v s

/-- A write of any register. -/
def busWrite (w : Writer) (off : Nat) (v : Word) (s : State) : State := guardWrite w off (busPut off v) s

/-- REGISTER_WRITE (R10 to R12, R375, R376, R551, R552, R556). -/
def execRegisterWrite (by_ : Writer) (off : Nat) (v : Word) (s : State) : Host.Outcome State Fault Refusal :=
  .next (busWrite by_ off v s)

/-- PAIRED_WRITE (R377, R378). -/
def execPairedWrite (by_ : Writer) (off : Nat) (v : Word) (s : State) : Host.Outcome State Fault Refusal :=
  .next (when (pairOf off).isSome (busWrite by_ off v) s)

/-- The member of a half-written pair that is held. -/
def heldMember (h : PairHold) : Nat := if h.maskA = 0 then h.offB else h.offA

/-- PAIR_EXPIRY (R379): `off` is the held member. -/
def execPairExpiry (off : Nat) (s : State) : Host.Outcome State Fault Refusal :=
  .next (match s.pairs.find? (fun h => heldMember h == off && h.since + 10000000 < s.clk) with
  | some h =>
    let s := { s with pairs := s.pairs.filter (fun x => x.offA != h.offA) }
    raise 515 (setReg oDSK_PAIR_LOG (wd (off + 2 ^ 23)) s)
  | none => s)

/-- RC_READ (R10). -/
def execRcRead (off : Nat) (s : State) : Host.Outcome State Fault Refusal := .next (readEffect off s)

/-- RTM_TIME_READ (R271). -/
def execRtmTimeRead (s : State) : Host.Outcome State Fault Refusal := .next (readEffect oRTM_TIME0 s)

/-- CNT_LO_READ (R475). -/
def execCntLoRead (k : Nat) (s : State) : Host.Outcome State Fault Refusal :=
  unit (k < 64) (readEffect (0x1_0200 + 2 * k) s)

end Sys2Proof.Machine
end

