-- ==== Sys2Proof/Machine/EditionImage.lean ====
section
/-! DEFINITION. Edition and binding images as the hub reads them (R394 to R397, R96), and the checks under which it refuses
one (R398 Table 11, R97). Layouts that the spec does not give (sections 0x02, 0x03, 0x07, 0x09, 0x42, 0x44) are the
model's. -/

namespace Sys2Proof.Machine

/-! ### Bytes -/

/-- Bytes of an image from its words, three to each (R395). -/
def wordByte (ws : Tab Word) (i : Nat) : Nat := bitsOf (tget (fun _ => 0) ws (i / 3)).toNat (8 * (i % 3)) 8

/-- The bytes of a staged transfer. -/
def imageBytes (g : Staging) : List Nat := (List.range g.length).map (wordByte g.words)

/-- A part of an image; short where the image ends. -/
def part (bs : List Nat) (off n : Nat) : List Nat := (bs.drop off).take n

/-- A little-endian number of n bytes; bytes beyond the end read 0. -/
def le (bs : List Nat) (off n : Nat) : Nat := ofLE ((List.range n).map (fun i => bs.getD (off + i) 0))

/-- A signed 32-bit number. -/
def le32s (bs : List Nat) (off : Nat) : Int := (BitVec.ofNat 32 (le bs off 4)).toInt

/-- Every byte is 0. -/
def zeros (bs : List Nat) : Bool := bs.all (· == 0)

/-- Consecutive records of n bytes. -/
def chunks (n : Nat) : Nat → List Nat → List (List Nat)
  | 0, _ => []
  | k + 1, bs => part bs 0 n :: chunks n k (bs.drop n)

/-- All records of n bytes that a section holds. -/
def records (n : Nat) (bs : List Nat) : List (List Nat) := chunks n (bs.length / n) bs

/-! ### The hub image (R394) -/

/-- A directory's entries: type, offset, length, and whether its zero bytes are zero. -/
def dirEntries (bs : List Nat) (at_ n : Nat) : List (Nat × Nat × Nat × Bool) :=
  (chunks 16 n (bs.drop at_)).map (fun e => (le e 0 2, le e 4 4, le e 8 4, zeros (part e 2 2) && zeros (part e 12 4)))

/-- The section of a type of a directory; empty where there is none. -/
def section_ (bs : List Nat) (dir : List (Nat × Nat × Nat × Bool)) (t : Nat) : List Nat :=
  match dir.find? (fun e => e.1 == t) with
  | some e => part bs e.2.1 e.2.2.1
  | none => []

/-- Lengths that the header gives. -/
def secCount (bs : List Nat) : Nat := le bs 16 2
def unitCount (bs : List Nat) : Nat := le bs 18 2
def signedEnd (bs : List Nat) : Nat := le bs 20 4 - 96

/-- The common directory. -/
def commonDir (bs : List Nat) : List (Nat × Nat × Nat × Bool) := dirEntries bs 128 (secCount bs)

/-- The slice directory entry of a unit. -/
def sliceEntry (bs : List Nat) (tag : Nat) : Option (List Nat) :=
  (chunks 64 (unitCount bs) (bs.drop (128 + 16 * secCount bs))).find? (fun e => le e 0 6 == tag)

/-- The slice that follows the signature, as the entry gives its length. -/
def sliceBytes (bs : List Nat) (tag : Nat) : List Nat :=
  match sliceEntry bs tag with
  | some e => part bs (le bs 20 4) (le e 8 4)
  | none => []

/-- The slice's own directory: entries up to the first section's start. -/
def sliceDir (sl : List Nat) : List (Nat × Nat × Nat × Bool) :=
  let n := le sl 4 4 / 16
  dirEntries sl 0 (min n 64)

/-! ### Sections -/

/-- Section 0x01 (11 Table 8). -/
def readNodes (bs : List Nat) : List NodeEnt :=
  (records 16 bs).map (fun e => ⟨le e 0 6, le e 6 2, le e 8 1, le e 9 1, le e 10 1 % 2 == 1, le e 12 3⟩)

/-- Section 0x02 as words of three bytes (R248). -/
def shelfWords (bs : List Nat) : List Nat := (records 3 bs).map (fun e => le e 0 3)

def readShelf (bs : List Nat) : Shelf :=
  let w := shelfWords bs
  let g := fun i => w.getD i 0
  let n := g 1 % 65536
  let k := g 2 % 256
  { cycle := g 0
    sets := (List.range k).map (fun i => g (3 + 3 * i) + 2 ^ 24 * g (4 + 3 * i) + 2 ^ 48 * (g (5 + 3 * i) % 65536))
    entries := (List.range n).map (fun i =>
      let a := 3 + 3 * k + 4 * i
      ⟨g a % 4096, bitsOf (g a) 12 6, g (a + 1), g (a + 2) % 8192, bitsOf (g (a + 2)) 13 3, bitsOf (g (a + 2)) 16 7,
        g (a + 3) % 256⟩) }

/-- Section 0x03: per subscriber its node, a count, and (node, group) in four bytes each. -/
def readSubs : Nat → List Nat → List (Nat × List (Nat × Nat))
  | 0, _ => []
  | fuel + 1, bs =>
    if bs.length < 4 then []
    else
      let n := le bs 2 2
      (le bs 0 2, (chunks 4 n (bs.drop 4)).map (fun e => (le e 0 2, le e 2 1))) :: readSubs fuel (bs.drop (4 + 4 * n))

/-- Table t of section 0x04 (R396, Table 9). -/
def readTable (bs : List Nat) (t : Nat) : List (Int × Int) :=
  let o := le bs (4 * (t - 1)) 4
  if o = 0 then [] else (List.range (le bs o 1)).map (fun i => (le32s bs (o + 4 + 8 * i), le32s bs (o + 8 + 8 * i)))

def readScaling (bs : List Nat) : Tab (List (Int × Int)) :=
  (List.range 63).foldl (fun t i => tset (fun _ => []) (i + 1) (readTable bs (i + 1)) t) []

/-- An alarm set of 68 bytes (R397, Table 10). -/
def readAlarm (e : List Nat) : AlarmSet :=
  { limits := [0, 1, 2, 3].map (fun i =>
      ⟨le e (16 * i) 1, le e (16 * i + 1) 1, le e (16 * i + 2) 1, le32s e (16 * i + 4), le e (16 * i + 8) 4⟩)
    onBad := bitsOf (le e 64 1) 0 1 == 1
    onNoValue := bitsOf (le e 64 1) 1 1 == 1
    onStale := bitsOf (le e 64 1) 2 1 == 1
    qcls := le e 65 1
    qroute := le e 66 1 }

/-- Lists keyed by rising numbers. -/
def numbered1 {α : Type} (i : Nat) : List α → List (Nat × α)
  | [] => []
  | x :: t => (i, x) :: numbered1 (i + 1) t

/-- Section 0x05: set i at 68 × (i − 1). -/
def readAlarms (bs : List Nat) : Tab (Option AlarmSet) :=
  numbered1 1 (((records 68 bs).take 255).map (fun e => some (readAlarm e)))

/-- Section 0x06: 640 severities of two bits. -/
def readSevs (bs : List Nat) : List Nat :=
  if bs.isEmpty then [] else (List.range 640).map (fun i => bitsOf (bs.getD (i / 4) 0) (2 * (i % 4)) 2)

/-- Section 0x07: byte n holds the rights of node n. -/
def readRights (bs : List Nat) : List (Nat × Nat) := numbered1 0 bs

/-- Section 0x08: routes of sixteen bytes. -/
def readRoutes (bs : List Nat) : Tab Route :=
  (numbered1 0 ((records 16 bs).take 256)).foldl (fun t e =>
    tset (fun _ => Route.mk [] false) e.1
      ⟨([0, 2, 4, 6].map (le e.2 · 2)).filter (· < 4096), bitsOf (le e.2 8 1) 0 1 == 1⟩ t) []

/-- Section 0x09: type, version and digest in 52 bytes. -/
def readLibrary (bs : List Nat) : List (Nat × Nat × Nat × List Nat) :=
  (records 52 bs).map (fun e => (le e 0 1, le e 1 1, le e 2 1, part e 4 48))

/-- The nine bytes of a Catalogue record (R52). -/
def readCat (e : List Nat) : Cat := ⟨wd (le e 0 3), wd (le e 3 3), wd (le e 6 3), .loaded⟩

/-- Section 0x41: runs. -/
def readCats : Nat → List Nat → List (Nat × List Cat)
  | 0, _ => []
  | fuel + 1, bs =>
    if bs.length < 8 then []
    else
      let n := le bs 4 4
      (le bs 0 4, (chunks 9 n (bs.drop 8)).map readCat) :: readCats fuel (bs.drop (8 + 9 * n))

/-- Section 0x42: place, type, version, group, a count, and (index, value) in eight bytes each. -/
def readPlaces : Nat → List Nat → List (Nat × Placement)
  | 0, _ => []
  | fuel + 1, bs =>
    if bs.length < 8 then []
    else
      let n := le bs 6 2
      (le bs 0 1, ⟨le bs 1 1, le bs 2 1, le bs 3 1, le bs 4 1,
        (chunks 8 n (bs.drop 8)).map (fun e => (le e 0 4, wd (le e 4 4)))⟩) :: readPlaces fuel (bs.drop (8 + 8 * n))

/-- Section 0x43: offset, mask, value. -/
def readRegs (bs : List Nat) : List (Nat × Nat × Nat) := (records 12 bs).map (fun e => (le e 0 4, le e 4 4, le e 8 4))

/-- Section 0x44: a group, a count, and points of four bytes. -/
def readGroups : Nat → List Nat → List (Nat × List Nat)
  | 0, _ => []
  | fuel + 1, bs =>
    if bs.length < 8 then []
    else
      let n := le bs 4 4
      (le bs 0 1, (chunks 4 n (bs.drop 8)).map (le · 0 4)) :: readGroups fuel (bs.drop (8 + 4 * n))

/-- The edition that an image holds for a unit. -/
def readEdition (bs : List Nat) (tag : Nat) : Edition :=
  let c := section_ bs (commonDir bs)
  let sl := sliceBytes bs tag
  let nodes := readNodes (c 1)
  let sliced := nodes.any (fun n => n.tag == tag)
  let p := fun t => if sliced then section_ sl (sliceDir sl) t else []
  { number := le bs 8 2
    secVer := le bs 34 2
    keyId := le bs 32 2
    nodes := nodes
    shelf := readShelf (c 2)
    subs := readSubs 4096 (c 3)
    scaling := readScaling (c 4)
    alarms := readAlarms (c 5)
    sevs := readSevs (c 6)
    rights := readRights (c 7)
    routes := readRoutes (c 8)
    library := readLibrary (c 9)
    sliced := sliced
    cats := readCats 4096 (p 0x41)
    places := readPlaces 104 (p 0x42)
    regs := readRegs (p 0x43)
    groups := readGroups 64 (p 0x44) }

/-! ### What an edition gives -/

/-- Points of an edition's Catalogue, in ascending order. -/
def edPoints (e : Edition) : List (Nat × Cat) := e.cats.flatMap (fun r => numbered1 r.1 r.2)

/-- A register's contents under an edition's register section, from its reset contents (R381). -/
def edReg (e : Edition) (off : Nat) : Nat :=
  e.regs.foldl (fun v r => if r.1 = off then mergeBits v (r.2.1 % 2 ^ 24) (r.2.2 % 2 ^ 24) else v) (regReset off).toNat

/-- The placement of a place, where it has a binding. -/
def edPlace (e : Edition) (n : Nat) : Option Placement :=
  match e.places.find? (fun x => x.1 == n) with
  | some x => if x.2.typ = 0 then none else some x.2
  | none => none

/-- A point joins the runs of its place: consecutive points of one class, at most 256 in an entry (R101, R123). -/
def addRun (p k : Nat) : List (Nat × Nat × Nat) → List (Nat × Nat × Nat)
  | [] => [(p, 1, k)]
  | (a, n, j) :: t => if p = a + n ∧ j = k ∧ n < 256 then (a, n + 1, j) :: t else (p, 1, k) :: (a, n, j) :: t

/-- The scan list of a place: first point, count, class, in ascending order (R101). -/
def edScan (e : Edition) (n : Nat) : List (Nat × Nat × Nat) :=
  ((edPoints e).foldl (fun l x => if catSource x.2 = n then addRun x.1 (catClass x.2) l else l) []).reverse

/-- The points of a group. -/
def edGroup (e : Edition) (g : Nat) : List Nat :=
  match e.groups.find? (fun x => x.1 == g) with
  | some x => x.2
  | none => []

/-- This unit's entry. -/
def ownEnt (e : Edition) (tag : Nat) : Option NodeEnt := e.nodes.find? (fun n => n.tag == tag)

/-! ### Rings (R15, R18, R38, R267, R294) -/

/-- Rings of a node table. -/
def edRings (e : Edition) : List Nat :=
  e.nodes.foldl (fun l n => let l := insSet n.ring l; if n.coupler then insSet n.far l else l) []

/-- Edges, one for each coupler. -/
def edEdges (e : Edition) : List (Nat × Nat) := e.nodes.filterMap (fun n => if n.coupler then some (n.ring, n.far) else none)

/-- Hubs of a ring, a coupler counting in both. -/
def ringHubs (e : Edition) (r : Nat) : List NodeEnt := e.nodes.filter (fun n => n.ring == r || (n.coupler && n.far == r))

/-- Rings on the path from a to b. -/
def ringPath (edges : List (Nat × Nat)) : Nat → List Nat → Nat → Nat → Option (List Nat)
  | 0, _, _, _ => none
  | fuel + 1, seen, a, b =>
    if a = b then some [a]
    else
      let next := (edges.filterMap (fun e => if e.1 = a then some e.2 else if e.2 = a then some e.1 else none)).filter
        (fun r => !seen.contains r)
      next.findSome? (fun r => (ringPath edges fuel (a :: seen) r b).map (a :: ·))

def edPath (e : Edition) (a b : Nat) : List Nat := (ringPath (edEdges e) 64 [] a b).getD []

/-- Medium and rate of a port under an edition: 0 optical, 1 to 3 copper at its RATE_MAX, or its RATE_MIN; none unused. -/
def portSpeed (e : Edition) (p : Nat) (slowest : Bool) : Option Nat :=
  let v := edReg e (oRGx_PHY_CTL p)
  if v % 4 = 1 then some 0
  else if v % 4 = 2 then some (min 3 (1 + (if slowest then bitsOf v 4 2 else bitsOf v 2 2)))
  else none

/-- The pair of this hub that lies on a ring under an edition (R16, R17). -/
def ownPairOf (s : State) (e : Edition) (r : Nat) : Option Nat :=
  match ownEnt e (unitTag s) with
  | some n => if n.ring = r then some (homePair s) else if n.coupler && n.far == r then some (1 - homePair s) else none
  | none => none

/-- Medium and rate of a ring: of the hub's own, by its ports' settings; of another, as the steward knows it (log 111). -/
def ringSpeed (s : State) (e : Edition) (slowest : Bool) (r : Nat) : Nat :=
  let other := (if slowest then Config.ringSpeedMin r else Config.ringSpeed r) % 4
  match ownPairOf s e r with
  | none => other
  | some x =>
    match portSpeed e (2 * x) slowest, portSpeed e (2 * x + 1) slowest with
    | some a, some b => max a b
    | some a, none => a
    | none, some b => b
    | none, none => other

/-- Link protection of a ring: of the hub's own, by the edition's SEC_LP_CTL (R505). -/
def ringShield (s : State) (e : Edition) (r : Nat) : Bool :=
  match ownPairOf s e r with
  | none => Config.ringProtected r
  | some x => bitsOf (edReg e oSEC_LP_CTL) (if x = 0 then fSEC_LP_CTL_A_EN.lo else fSEC_LP_CTL_B_EN.lo) 1 == 1

/-- Data rate in kbit/s (R38; 06 Table 2). -/
def speedKbit (c : Nat) : Nat := [25000000, 2500000, 1000000, 100000].getD c 100000

/-- Hop latency bound in ns (R241; 06 Table 2), with 120 ns on a protected ring (R507). -/
def speedHop (c : Nat) (prot : Bool) : Nat := [600, 1800, 4000, 30000].getD c 30000 + (if prot then 120 else 0)

/-- Ring term in ns (R267, Table 10). -/
def speedTerm (c : Nat) : Nat := [100, 400, 600, 900].getD c 900

/-- Records that a shelf entry sweeps: this hub's own group, or another node's. -/
def entryRecords (e : Edition) (tag : Nat) (x : ShelfEnt) : Nat :=
  match ownEnt e tag with
  | some n => if n.node = x.node then (edGroup e x.group).length else Config.groupRecords x.node x.group
  | none => Config.groupRecords x.node x.group

/-- Exact line bytes of one frame of n records on a ring (R220 to R225, R507). -/
def sweepBytes (prot : Bool) (n : Nat) : Nat :=
  (16 + 4 * unitsOf (3 + 3 * n) + 7) / 8 * 8 + 16 + (if prot then 24 else 0)

/-- Exact line bytes of a sweep of n records. -/
def sweepLine (prot : Bool) : Nat → Nat → Nat
  | 0, _ => 0
  | fuel + 1, n => if n = 0 then 0 else sweepBytes prot (min 224 n) + sweepLine prot fuel (n - min 224 n)

/-- Rings that a sweep crosses besides its home ring (R252). -/
def entryRings (e : Edition) (x : ShelfEnt) (home : Nat) : List Nat :=
  if x.ringSet = 0 then []
  else
    let m := e.shelf.sets.getD (x.ringSet - 1) 0
    ((edRings e).filter (fun r => bitsOf m r 1 == 1)).foldl (fun l r =>
      (edPath e home r).foldl (fun l y => if y = home then l else insSet y l) l) []

/-- Line bits of class 0 on a ring in a cycle (R37, R38). -/
def ringBits (s : State) (e : Edition) (tag r c : Nat) : Nat :=
  e.shelf.entries.foldl (fun n x =>
    if c % 2 ^ x.divider != x.phase then n
    else
      match e.nodes.find? (fun m => m.node == x.node) with
      | none => n
      | some m =>
        let b := 8 * sweepLine (ringShield s e r) 4682 (entryRecords e tag x)
        if m.ring = r then n + b else if (entryRings e x m.ring).contains r then n + 2 * b else n) 0

/-- The heaviest cycle of a ring; dividers reach 128 cycles. -/
def ringPeak (s : State) (e : Edition) (tag r : Nat) : Nat :=
  (List.range 128).foldl (fun m c => max m (ringBits s e tag r c)) 0

/-- Bound B of a ring, from the grandmaster's (R267). -/
def ringBound (s : State) (e : Edition) (gm r : Nat) : Nat :=
  let p := edPath e gm r
  (p.map (fun y => speedTerm (ringSpeed s e false y))).sum + 50 * (p.length - 1)

/-- The ring graph is a tree of rings joined by exactly one coupler pair each (R18). -/
def treeOk (e : Edition) : Bool :=
  let l := edEdges e
  let rings := edRings e
  l.all (fun x => x.1 != x.2 && (l.filter (· == x)).length == 1 && (l.filter (· == (x.2, x.1))).length == 1) &&
  l.length + 2 == 2 * rings.length &&
  rings.all (fun r => !(edPath e (rings.headD 0) r).isEmpty)

/-! ### Checks (R398, Table 11) -/

/-- A refusal of one reason: the first of a list of offending indices. -/
def refuse (reason : Nat) (l : List Nat) : Option (Nat × Nat) :=
  match l with
  | i :: _ => some (reason, i)
  | [] => none

/-- A refusal of one reason where a condition fails. -/
def must (reason : Nat) (ok : Bool) : Option (Nat × Nat) := if ok then none else some (reason, 0)

/-- The hub meets a stated minimum of stepping and firmware. -/
def meetsMin (s : State) (step major minor : Nat) : Bool :=
  step ≤ getF s fGLB_ID0_STEPPING && major * 256 + minor ≤ bitsOf (reg s oGLB_FW).toNat 8 16

/-- Reason 0x01. -/
def headerOk (s : State) (bs : List Nat) : Bool :=
  le bs 0 4 == 0x54494445 && le bs 4 1 == 4 && le bs 5 1 == 0 && le bs 6 2 == 128 && decide (le bs 8 2 ≤ 65534) &&
  le bs 10 2 == 0x9624 && meetsMin s (le bs 12 1) (le bs 13 1) (le bs 14 1) && le bs 15 1 == 0 &&
  1 ≤ secCount bs && secCount bs ≤ 64 && 1 ≤ unitCount bs && unitCount bs ≤ 4096 && zeros (part bs 36 92) &&
  decide (128 + 16 * secCount bs + 64 * unitCount bs + 96 ≤ le bs 20 4) && decide (le bs 20 4 ≤ bs.length) &&
  (commonDir bs).all (fun e => 1 ≤ e.1 && e.1 ≤ 9 && e.2.2.2 && e.2.1 + e.2.2.1 ≤ signedEnd bs)

/-- A slot that may verify an image of a kind, by its use mask's bit (R501, Table 10 of chapter 15). -/
def slotOk (s : State) (id use : Nat) : Bool :=
  let k := getSlot s id
  decide (id < 8) && k.programmed && !k.revoked && bitsOf k.use use 1 == 1

/-- The slot that an image names is programmed but revoked (R501). -/
def slotRevoked (s : State) (id : Nat) : Bool := decide (id < 8) && (getSlot s id).programmed && (getSlot s id).revoked

/-- The anti-rollback minimum k, and whether a security version meets it (R502). -/
def versionOk (s : State) (k v : Nat) : Bool := getF s (fSEC_ARB_MIN k) ≤ v && v ≤ 127

/-- Reason 0x02. -/
def edSigned (s : State) (bs : List Nat) : Bool :=
  slotOk s (le bs 32 2) 2 && versionOk s 1 (le bs 34 2) &&
  Config.ecdsaVerify (getSlot s (le bs 32 2)).key (part bs 0 (signedEnd bs)) (part bs (signedEnd bs) 96)

/-- Reason 0x03. -/
def sliceOk (bs : List Nat) (e : Edition) (tag : Nat) : Bool :=
  !e.sliced ||
  (match sliceEntry bs tag with
    | some x =>
      let sl := sliceBytes bs tag
      sl.length == le x 8 4 && Config.sha384 sl == part x 16 48
    | none => false)

/-- Reason 0x04: nodes that break the node table, then the limits and the tree. -/
def badNodes (e : Edition) : List Nat :=
  (e.nodes.filter (fun n => 4096 ≤ n.node || 64 ≤ n.ring || (n.coupler && 64 ≤ n.far) || (!n.coupler && n.far != 0xFF) ||
    (e.nodes.filter (fun m => m.node == n.node)).length != 1 || (e.nodes.filter (fun m => m.tag == n.tag)).length != 1)).map
      (·.node)

def ringsOk (e : Edition) : Bool :=
  e.nodes.length ≤ 4096 && 1 ≤ (edRings e).length && (edRings e).length ≤ 64 &&
  (edRings e).all (fun r => 2 ≤ (ringHubs e r).length && (ringHubs e r).length ≤ 1024) && treeOk e

/-- Reason 0x05 (R38). -/
def shareOk (s : State) (e : Edition) (tag : Nat) : Bool :=
  250 ≤ e.shelf.cycle && e.shelf.cycle ≤ 10000000 &&
  (edRings e).all (fun r => 10000 * ringPeak s e tag r ≤ 6 * e.shelf.cycle * speedKbit (ringSpeed s e false r))

/-- Reason 0x06 (R249): offending entries. -/
def badEntries (e : Edition) (tag : Nat) : List Nat :=
  ((numbered1 0 e.shelf.entries).filter (fun ix =>
    let x := ix.2
    let n := entryRecords e tag x
    match e.nodes.find? (fun m => m.node == x.node) with
    | none => true
    | some m =>
      n == 0 || x.frames != (n + 223) / 224 || 2 ^ x.divider ≤ x.phase ||
      (x.ringSet != 0 && (e.shelf.sets.length < x.ringSet || bitsOf (e.shelf.sets.getD (x.ringSet - 1) 0) m.ring 1 == 0)) ||
      (e.shelf.entries.filter (fun y => y.node == x.node && y.group == x.group)).length != 1)).map (·.1)

/-- Points of an edition that fail a test. -/
def badPoints (e : Edition) (bad : Nat → Cat → Bool) : List Nat := ((edPoints e).filter (fun x => bad x.1 x.2)).map (·.1)

/-- Reason 0x07 (R44). -/
def typeBad (e : Edition) (c : Cat) : Bool :=
  9 ≤ catType c || (tget (fun _ => []) e.scaling (catScale c)).any (fun r => !inType (catType c) r.2)

/-- Reason 0x08 (R49): 7 days. -/
def staleBad (e : Edition) (n : Nat) : Bool :=
  let v := edReg e (oSTK_STALE_LIM n)
  let u := bitsOf v 22 2
  u == 3 || decide (604800000 < bitsOf v 0 22 * (if u = 0 then 1 else if u = 1 then 1000 else 60000))

/-- Sources of a Catalogue record that are not reserved. -/
def sourceOk (c : Nat) : Bool := decide (c < 104) || c == 0x70 || c == 0x71 || c == 0x7E || c == 0x7F

/-- Point values of a table strictly ascending or strictly descending. -/
def monotone (t : List (Int × Int)) : Bool :=
  let y := t.map (·.2)
  (y.zip y.tail).all (fun p => p.1 < p.2) || (y.zip y.tail).all (fun p => p.2 < p.1)

/-- Reason 0x09 (R53). -/
def catBad (e : Edition) (c : Cat) : Bool :=
  let src := catSource c
  let route := catRoute c
  !sourceOk src || (decide (src < 104) && (edPlace e src).isNone) ||
  (catScale c != 0 && (tget (fun _ => []) e.scaling (catScale c)).isEmpty) ||
  (catAlarm c != 0 && (tget (fun _ => none) e.alarms (catAlarm c)).isNone) ||
  route == 3 || (route == 1 && !(decide (src < 104) || src == 0x71)) || (route == 2 && !(src == 0x7E || src == 0x7F)) ||
  (route == 1 && catScale c != 0 && !monotone (tget (fun _ => []) e.scaling (catScale c))) ||
  decide (256 ≤ c.w2.toNat / 2 ^ 13 % 2 ^ 11)

/-- Reason 0x0A (R101, R102): offending places. -/
def badScans (e : Edition) : List Nat :=
  (List.range 104).filter (fun n =>
    let l := edScan e n
    decide (512 < l.length) || decide (4096 < (l.map (·.2.1)).sum) ||
    (List.range 8).any (fun k => bitsOf (edReg e (oCLK_PER n k)) 22 2 == 3))

/-- Whether a binding image supports field writes (R96 flag bit 1). -/
def bindingWrites (s : State) (p : Placement) : Bool :=
  match s.stw.library.find? (fun b => b.typ == p.typ && b.major == p.major && b.minor == p.minor) with
  | some b => bitsOf b.flags 1 1 == 1
  | none => false

/-- Device address, object and data type that Table 2 of chapter 04 allows for a binding type. -/
def objectOk (typ dev obj t : Nat) : Bool :=
  if typ = 1 then dev == 0 && decide (obj < 4) && t == 7
  else if typ = 2 then 1 ≤ dev && dev ≤ 247 && (decide (2 ≤ obj / 2 ^ 14) || t == 2)
  else if typ = 3 then decide (bitsOf obj 0 10 ≤ 511) && decide (bitsOf obj 10 5 ≤ 23)
  else if typ = 4 then decide (dev ≤ 31)
  else if typ = 5 then decide (0x08 ≤ dev) && decide (dev ≤ 0x77) && decide (obj / 2 ^ 14 ≤ 2)
  else if typ = 6 then
    ((0x30 ≤ dev && dev ≤ 0x39) || (0x41 ≤ dev && dev ≤ 0x5A) || (0x61 ≤ dev && dev ≤ 0x7A)) &&
    decide (bitsOf obj 13 3 ≤ 5) && decide (bitsOf obj 9 4 ≤ 9) && decide (bitsOf obj 5 4 ≤ 8) && decide (bitsOf obj 0 5 ≤ 19) &&
    t != 2 && t != 8
  else if typ = 7 then
    (if dev / 64 = 1 then decide (dev % 64 < 16) else if dev / 64 = 2 then dev % 64 == 0 else true) &&
    decide (obj / 2 ^ 14 ≤ 2) && bitsOf obj 13 1 == 0 && (t == 5 || t == 8 || t == 2 || (t == 3 && obj / 2 ^ 14 == 2))
  else false

/-- The parameter words of a placement: its image's, with its own replacements (R98, R126). -/
def placementParams (s : State) (p : Placement) : List Word :=
  match s.stw.library.find? (fun b => b.typ == p.typ && b.major == p.major && b.minor == p.minor) with
  | some b => replaced b.params p.params
  | none => replaced [] p.params

/-- Reason 0x0B (R126, R133). -/
def fieldBad (s : State) (e : Edition) (c : Cat) : Bool :=
  match edPlace e (catSource c) with
  | some p =>
    decide (catSource c < 104) &&
    (!objectOk p.typ (catDevice c) (catObject c) (catType c) ||
      !objectHeld (placementParams s p) p.typ (catDevice c) (catObject c) ||
      (catRoute c == 1 &&
        (!objectWritable (placementParams s p) p.typ (catDevice c) (catObject c) || !bindingWrites s p)))
  | none => false

/-- The quantity and data type of a discrete mode (04 Table 4). -/
def modeQuantity (m : Nat) : Option (Nat × Nat) :=
  [none, some (0, 2), some (0, 2), some (1, 7), some (2, 0), some (3, 7), some (4, 2), some (5, 3)].getD m none

/-- Reason 0x0C (R151): a discrete point. -/
def discreteBad (e : Edition) (c : Cat) : Bool :=
  catSource c == 0x71 &&
  (let line := catObject c % 512
   decide (272 ≤ line) || catDevice c != 0 || decide (2 ^ 12 ≤ catObject c) ||
   modeQuantity (edReg e (oDIO_LCFG line) % 16) != some (bitsOf (catObject c) 9 3, catType c) ||
   (catRoute c == 1 && bitsOf (catObject c) 9 3 < 4))

/-- Reason 0x0C (R152, R153): lines whose registers the edition sets wrongly. -/
def badLines (e : Edition) : List Nat :=
  (List.range 272).filter (fun n =>
    e.regs.any (fun r => r.1 == oDIO_LCFG n || r.1 == oDIO_LPAR n) &&
    (badPair (edReg e (oDIO_LCFG n) % 16) (edReg e (oDIO_LPAR n)) || bitsOf (edReg e (oDIO_LCFG n)) 4 2 == 3))

/-- Reason 0x0D (R170). -/
def analogBad (e : Edition) (c : Cat) : Bool :=
  catSource c == 0x70 &&
  (catDevice c != 0 || decide (2 ^ 9 ≤ catObject c) || 3 ≤ bitsOf (catObject c) 6 3 || catRoute c != 0 ||
    !([0, 1, 3, 4, 5, 6].contains (catType c)) || bitsOf (edReg e (oANA_CHCFG (catObject c % 64))) 14 1 == 0)

/-- Reason 0x0E (R181): stream entries. -/
def badStream (e : Edition) : List Nat :=
  (List.range 32).filter (fun k =>
    let v := edReg e (oANA_USBMAP k)
    let en := bitsOf v (fANA_USBMAP_EN k).lo 1 == 1
    let c := edReg e (oANA_CHCFG (bitsOf v (fANA_USBMAP_CH k).lo 6))
    en && (bitsOf c 0 4 != 15 || bitsOf c 4 2 != 0 || bitsOf c 13 1 != 0))

/-- Reason 0x0F (R267): rings whose bound exceeds 1 us. -/
def badBounds (s : State) (e : Edition) (tag : Nat) : List Nat :=
  let gm := match gmRing s with
    | some r => some r
    | none => (ownEnt e tag).map (·.ring)
  match gm with
  | some g => (edRings e).filter (fun r => decide (1000 < ringBound s e g r))
  | none => []

/-- Reason 0x10 (R294): offending nodes, then rings. -/
def badShapes (s : State) (e : Edition) (tag : Nat) : List Nat :=
  let tres := bitsOf (edReg e 0x2_0004) 0 12
  let long := (e.shelf.entries.filter (fun x =>
    let n := entryRecords e tag x
    let prot := match e.nodes.find? (fun m => m.node == x.node) with
      | some m => ringShield s e m.ring
      | none => false
    decide (192 * tres < 9 * n + (if prot then 72 else 48) * x.frames + 16384))).map (·.node)
  let total := (e.nodes.map (·.shape)).sum
  let high := (edRings e).filter (fun r =>
    let k := speedKbit (ringSpeed s e true r)
    let sin := ((ringHubs e r).map (·.shape)).sum
    decide (50 * e.shelf.cycle * k < 50 * (1000 * ringPeak s e tag r + (sin + 2 * (total - sin)) * 100 * e.shelf.cycle) +
      e.shelf.cycle * k))
  (e.nodes.filter (fun n => n.shape == 0)).map (·.node) ++ long ++ high

/-- Reason 0x11 (R396): offending tables of section 0x04. -/
def badTables (bs : List Nat) : List Nat :=
  if bs.isEmpty then []
  else
    let span := fun t => (le bs (4 * (t - 1)) 4, le bs (4 * (t - 1)) 4 + 4 + 8 * le bs (le bs (4 * (t - 1)) 4) 1)
    let used := ((List.range 63).map (· + 1)).filter (fun t => le bs (4 * (t - 1)) 4 != 0)
    used.filter (fun t =>
      let n := le bs (span t).1 1
      let xs := (readTable bs t).map (·.1)
      (span t).1 < 252 || bs.length < (span t).2 || n < 2 || 32 < n || !zeros (part bs ((span t).1 + 1) 3) ||
      !(xs.zip xs.tail).all (fun p => p.1 < p.2) ||
      used.any (fun u => u != t && (span u).1 < (span t).2 && (span t).1 < (span u).2))

/-- Reason 0x12: offending alarm sets. -/
def badAlarms (e : Edition) (routes : Nat) : List Nat :=
  (e.alarms.filter (fun x => match x.2 with
    | some a =>
      a.limits.any (fun l => 4 < l.kind || (l.kind != 0 && (!(l.cls == 3 || l.cls == 4) || routes ≤ l.route))) ||
      ((a.onBad || a.onNoValue || a.onStale) && (!(a.qcls == 3 || a.qcls == 4) || routes ≤ a.qroute))
    | none => false)).map (·.1)

/-- Reason 0x13: places whose binding the library or the hub's store does not hold. -/
def badPlaces (s : State) (e : Edition) : List Nat :=
  (e.places.filter (fun x =>
    x.2.typ != 0 &&
    (decide (104 ≤ x.1) ||
      !(e.library.any (fun l => l.1 == x.2.typ && l.2.1 == x.2.major && l.2.2.1 == x.2.minor &&
        s.stw.library.any (fun b => b.typ == l.1 && b.major == l.2.1 && b.minor == l.2.2.1 && b.digest == l.2.2.2 &&
          versionOk s (b.typ + 1) b.secVer))) ||
      !(decide (x.2.group < 24) || x.2.group == 0x1F)))).map (·.1)

/-- Reason 0x0B (R126): places whose parameter words fall outside their ranges. -/
def badParams (s : State) (e : Edition) : List Nat :=
  (e.places.filter (fun x => x.2.typ != 0 && !Config.paramsOk x.2.typ (placementParams s x.2))).map (·.1)

/-- The bits of a register that an edition entry may set: RW fields, or a word of a RW window (R381). -/
def rwMask (off : Nat) : Nat :=
  match blockOf off with
  | none => 0
  | some b =>
    if (clkWindow off).isSome then windowMask off
    else if 0x4_4400 ≤ off ∧ off < 0x4_4800 ∧ off % 0x40 ≤ 32 then (if off % 0x40 = 0 then 0x1FFF else 0xFFFFFF)
    else
      match findRow off (blockRows b) with
      | some (r, _) => fldMask (fun f => f.acc == .rw) r.flds
      | none => 0

/-- Reason 0x14 (R381): offending register entries. -/
def badRegs (e : Edition) : List Nat :=
  ((numbered1 0 e.regs).filter (fun x =>
    rwMask x.2.1 == 0 || x.2.2.1 &&& (0xFFFFFFFF ^^^ rwMask x.2.1) != 0)).map (·.1)

/-- The first answer of a list. -/
def firstSome {α : Type} : List (Option α) → Option α
  | [] => none
  | some x :: _ => some x
  | none :: t => firstSome t

/-- The refusal of an edition image: reason and first offending index (R398, Table 11). -/
def editionRefusal (s : State) (bs : List Nat) : Option (Nat × Nat) :=
  let tag := unitTag s
  let e := readEdition bs tag
  firstSome [
    must 0x01 (headerOk s bs),
    must 0x02 (edSigned s bs),
    must 0x03 (sliceOk bs e tag),
    refuse 0x04 (badNodes e), must 0x04 (ringsOk e),
    must 0x05 (shareOk s e tag),
    refuse 0x06 (badEntries e tag),
    refuse 0x07 (badPoints e (fun _ c => typeBad e c)),
    refuse 0x08 ((List.range 8).filter (staleBad e)),
    refuse 0x09 (badPoints e (fun _ c => catBad e c)),
    refuse 0x0A (badScans e),
    refuse 0x0B (badPoints e (fun _ c => fieldBad s e c)), refuse 0x0B (badParams s e),
    refuse 0x0C (badPoints e (fun _ c => discreteBad e c)), refuse 0x0C (badLines e),
    refuse 0x0D (badPoints e (fun _ c => analogBad e c)),
    refuse 0x0E (badStream e),
    refuse 0x0F (badBounds s e tag),
    refuse 0x10 (badShapes s e tag),
    refuse 0x11 (badTables (section_ bs (commonDir bs) 4)),
    refuse 0x12 (badAlarms e ((section_ bs (commonDir bs) 8).length / 16)),
    refuse 0x13 (badPlaces s e),
    refuse 0x14 (badRegs e)]

/-! ### Binding images (R96, R97) -/

/-- The binding that an image holds; its digest is that of the whole image (11 Table 8, section 0x09). -/
def readBinding (bs : List Nat) : Binding :=
  let code := le bs 18 2
  let par := le bs 20 2
  let w := fun (off n : Nat) => (chunks 4 n (bs.drop off)).map (fun x => wd (le x 0 3))
  { typ := le bs 8 1, major := le bs 9 1, minor := le bs 10 1, flags := le bs 17 1, secVer := le bs 24 2,
    digest := Config.sha384 bs, code := w 96 code, params := w (96 + 4 * code) par }

/-- Whether a binding image passes every check of R97. -/
def bindingOk (s : State) (bs : List Nat) : Bool :=
  let code := le bs 18 2
  let par := le bs 20 2
  let body := le bs 28 4
  le bs 0 4 == 0x444E4942 && le bs 4 1 == 1 && le bs 5 1 == 0 && le bs 6 2 == 96 && 1 ≤ le bs 8 1 && le bs 8 1 ≤ 7 &&
  le bs 12 2 == 0x9624 && meetsMin s (le bs 14 1) (le bs 15 1) (le bs 16 1) && decide (le bs 17 1 < 4) &&
  1 ≤ code && code ≤ 2048 && par ≤ 512 && par ≤ le bs 22 2 && le bs 22 2 ≤ 512 && body == 4 * (code + par) &&
  bs.length == 96 + body + 96 && zeros (part bs 80 16) && Config.sha384 (part bs 96 body) == part bs 32 48 &&
  slotOk s (le bs 26 2) 1 && versionOk s (le bs 8 1 + 1) (le bs 24 2) &&
  Config.ecdsaVerify (getSlot s (le bs 26 2)).key (part bs 0 (96 + body)) (part bs (96 + body) 96)

end Sys2Proof.Machine
end

