-- ==== Sys2Proof/Machine/Editions.lean ====
section
/-! DEFINITION. Editions: arming and disarming (R400, R401), activation (R402 to R405, R72, R73, R100), the edition load of a
start-up (R542), and EDITION_ACTIVATE_NOW (R404, R524). -/

namespace Sys2Proof.Machine

/-! ### Change sets (R400) -/

/-- The three words of a Catalogue record. -/
def catWords (c : Cat) : List Word := [c.w0, c.w1, c.w2]

/-- The record that an edition, or none, gives a point. -/
def catIn (e : Option Edition) (p : Nat) : Cat :=
  match e with
  | some e => editionCat e p
  | none => ⟨0x7F, 0, 0, .loaded⟩

/-- The points of either edition whose records differ, in ascending point number. -/
def changeSet (old : Option Edition) (new : Edition) : List Nat :=
  let ps := (edPoints new).map (·.1) ++ (match old with
    | some e => (edPoints e).map (·.1)
    | none => [])
  (ps.filter (fun p => catWords (catIn old p) != catWords (editionCat new p))).foldl (fun l p => insSet p l) []

/-- The edition of the STAGED or the PREVIOUS slot that has a number (R399). -/
def slotEdition (s : State) (n : Nat) : Option Edition :=
  [s.stw.staged, s.stw.previous].findSome? (fun e => match e with
    | some e => if e.number = n then some e else none
    | none => none)

/-- The registers that show an armed edition, or none (Table 17). -/
def showArmed (a : Option Armed) (count : Nat) (s : State) : State :=
  let t := match a with
    | some a => a.t
    | none => 0
  let s := setReg oDSK_ED_ARMED (match a with
    | some a => wd (a.number + 2 ^ 16)
    | none => 0xFFFF) s
  let s := setReg (oDSK_ED_TIME 0) (wd t) (setReg (oDSK_ED_TIME 1) (wd (t / 2 ^ 24)) s)
  setReg oDSK_ED_COUNT (wd (count % 2 ^ 17)) (setReg (oDSK_ED_TIME 2) (wd (t / 2 ^ 48 % 2 ^ 16)) s)

/-- An edition is armed, or no longer armed: it stands in the settings shelf (R400). -/
def setArmed (a : Option Armed) (count : Nat) (s : State) : State := showArmed a count (setStw { s.stw with armed := a } s)

/-- EDITION_ARM (R400, R519). -/
def execEditionArm (d : Nat) (s : State) : Host.Outcome State Fault Refusal :=
  deskCmd d 0x20 (· == 4) 4 true (fun a s =>
    let n := argN a 1 % 65536
    let t := timeArg a 2
    if s.sec.trial.isSome || s.stw.armed.isSome then answer d 7 0 [] s
    else if s.stw.active.any (fun e => e.number == n) then answer d 0x0F 0 [] s
    else
      match slotEdition s n with
      | none => answer d 0x0E 0 [] s
      | some e =>
        if t < s.ringNs + 100000000 then answer d 0x10 0 [] s
        else if s.ringNs + 604800000000000 < t then answer d 0x11 0 [] s
        else
          let c := (changeSet s.stw.inForce e).length
          if 87381 < c then answer d 0x14 0 [] s
          else answerOk d [wd c] (setArmed (some ⟨n, t⟩) c s)) s

/-- EDITION_DISARM (R401). -/
def execEditionDisarm (d : Nat) (s : State) : Host.Outcome State Fault Refusal :=
  deskCmd d 0x21 (· == 0) 4 true (fun _ s =>
    match s.stw.armed with
    | none => answer d 0x13 0 [] s
    | some a =>
      if a.t ≤ s.ringNs + 10000000 then answer d 0x12 0 [] s else answerOk d [] (setArmed none 0 s)) s

/-- ARM_LOCK (R401): 10 ms before T. -/
def execArmLock (s : State) : Host.Outcome State Fault Refusal :=
  .next (match s.stw.armed with
  | some a => if stwRuns s && a.t ≤ s.ringNs + 10000000 then setF fDSK_ED_ARMED_STATE 2 s else s
  | none => s)

/-! ### Step 1 of Table 12: identity, routing, bound, Staged fields, register entries -/

/-- The hub's number, ring and far ring, from its unit's entry (R23, R557). -/
def takeNumber (e : Edition) (s : State) : State :=
  match ownEnt e (unitTag s) with
  | some n =>
    let s := setReg oGLB_NODE (wd (n.node % 4096 + 2 ^ 12 * (n.ring % 64))) s
    let s := setReg oGLB_NODE2 (wd ((if n.coupler then n.far % 64 else 0) + bit n.coupler * 2 ^ 6 + 2 ^ 7)) s
    setF ⟨oSWQ_SHAPE, 0, 18⟩ n.shape s
  | none => setReg oGLB_NODE 0xFFF (setReg oGLB_NODE2 0 s)

/-- T_ack to a ring in ns (R241). -/
def tAckOf (s : State) (e : Edition) (home r : Nat) : Nat :=
  let p := edPath e home r
  200000 + 2 * (p.map (fun y => (ringHubs e y).length * speedHop (ringSpeed s e true y) (ringShield s e y))).sum + 40000 * (p.length - 1)

/-- T_ack to every destination ring, and the bound B from the grandmaster's ring, or the hub's own (R241, R267). -/
def takeBounds (e : Edition) (s : State) : State :=
  let home := ringId s
  let s := { s with ring := { s.ring with
    tack := (edRings e).foldl (fun t r => tset (fun _ => 200000) r (tAckOf s e home r) t) [] } }
  if numbered s then setReg oRTM_BOUND (wd (ringBound s e ((gmRing s).getD home) home % 2 ^ 12)) s else setReg oRTM_BOUND 0 s

/-- The severities in force (R465). -/
def takeSevs (e : Edition) (s : State) : State :=
  if e.sevs.isEmpty then s
  else (List.range 54).foldl (fun t j =>
    setReg (0xC080 + j) (wd ((List.range 12).foldl (fun v i => v + e.sevs.getD (12 * j + i) 0 * 4 ^ i) 0)) t) s

/-- Staged copies take effect (R375). -/
def takeStaged (s : State) : State :=
  let held := s.staged
  held.foldl (fun t x => takeStagedBits x.1 x.2.1 x.2.2 t) { s with staged := [] }

/-- Where the stream map's N has changed, the host reads the new descriptors (R358). -/
def renumbered (n : Nat) (s : State) : State := if streamN s = n then s else reattachWrite s

/-- The register entries of the edition; PWR_DOM_OFF's effect is that of its own write (R381, R439). -/
def takeEntries (e : Edition) (s : State) : State :=
  let s := renumbered (streamN s) <| applyEntries (e.regs.filter (fun x => x.1 != oPWR_DOM_OFF)) s
  match e.regs.find? (fun x => x.1 == oPWR_DOM_OFF) with
  | some x => domOffWrite (wd (mergeBits (reg s oPWR_DOM_OFF).toNat (x.2.1 % 2 ^ 24) (x.2.2 % 2 ^ 24))) s
  | none => s

/-- Ports whose protection has changed are keyed again, or no longer protected (R505, R508). -/
def rekeyPorts (was : List Bool) (s : State) : State :=
  ([0, 1, 2, 3].filter (fun p => was.getD p false != protectedPort s p)).foldl (fun t p =>
    if linkUp t p then keyPort p t else setF (fSEC_LP_STAT_STATE p) (bit (protectedPort t p)) t) s

/-- The IDs that a node table gives its units: unit tag, node, ring, far ring of a coupler. -/
def edIds (e : Edition) : List (Nat × Nat × Nat × Nat) :=
  e.nodes.map (fun a => (a.tag, a.node, a.ring, if a.coupler then a.far + 1 else 0))

/-- Where any unit's node ID or ring ID differs between two editions, a unit that only one of them names included (R26,
R403). -/
def idsChange (old : Option Edition) (new : Edition) : Bool :=
  match old with
  | none => true
  | some o => (edIds o).any (fun a => !(edIds new).contains a) || (edIds new).any (fun a => !(edIds o).contains a)

/-- Duplicate windows and event sequences are emptied, each ring pair that is up seeds for 1 ms, and a hub that a node ID
conflict has stopped originates again (R26, R403, R235). -/
def reseed (s : State) : State :=
  let s := { s with ring := { s.ring with
    stopped := false, recross := [], dup := [], cross := [], evNext := [], evMark := [], replay := [], streams := [] } }
  [0, 1].foldl (fun t x =>
    if ringUp t (2 * x) && ringUp t (2 * x + 1) then
      let t := { t with ring := { t.ring with
        seeded := tset (fun _ => false) x true t.ring.seeded
        seedEnd := tset (fun _ => none) x (some (t.clk + 1000000)) t.ring.seedEnd } }
      setF (fRGx_RP_STAT_SEEDING x) 1 t
    else { t with ring := { t.ring with seeded := tset (fun _ => false) x false t.ring.seeded } }) s

/-- A read or a posted write toward a node ID that the node table in force does not name. -/
def goneFrame (s : State) (f : Frame) : Bool := (f.typ == 13 || f.typ == 17) && (nodeEnt s f.dest).isNone

/-- Reads and posted writes outstanding to a node ID that no longer names a hub fail with NO_SUCH_NODE, those that wait for
the window included (R25). -/
def failGone (s : State) : State :=
  let sent := s.ring.unacked.filter (fun u => goneFrame s u.frame)
  let waiting := s.ring.held.filter (goneFrame s)
  let s := { s with ring := { s.ring with held := s.ring.held.filter (fun f => !goneFrame s f) } }
  (sent ++ waiting.map (fun f => Unacked.mk f 0 0 0)).foldl (fun t u => failOp u 4 t) s

/-- Step 1 of Table 12. -/
def takeConfig (e : Edition) (s : State) : State :=
  let old := s.stw.inForce
  let was := [0, 1, 2, 3].map (protectedPort s)
  let s := setStw { s.stw with inForce := some e } s
  let s := takeBounds e (takeNumber e s)
  let s := takeSevs e (takeEntries e (takeStaged s))
  let s := rekeyPorts was s
  let s := if idsChange old e then reseed s else s
  twinStart (failGone (recheckGm s))

/-! ### Step 2: the change set (R72, R397) -/

/-- Bits of a Catalogue record that reassign its point: source, device, object, data type, scaling index. -/
def reassigns (a b : Cat) : Bool := catField a 0 41 != catField b 0 41

/-- An alarm set index set or changed starts the point's alarms and checks it (R397, Table 12). -/
def alarmChanged (old new : Cat) (p : Nat) (s : State) : State :=
  if catAlarm old = catAlarm new then s
  else
    let s := setAlarm p AlarmSt.init s
    if catAlarm new = 0 then s else pushWords 208 [wd p] s

/-- One point takes its new Catalogue record at activation. -/
def changePoint (old : Option Edition) (e : Edition) (p : Nat) (s : State) : State :=
  let a := catIn old p
  let b := editionCat e p
  let s := putCat (ptKey s p) b s
  let s :=
    if reassigns a b then alarmItem p (countEv 7 1 1 (putRec (ptKey s p) (Rec.empty .none (usNow s)) s))
    else if (getPt s p).forced && !catForceable b then releaseRec p s
    else s
  alarmChanged a b p s

/-! ### Steps 3 to 5: places, scan lists, the shelf list -/

/-- What decides a rebinding: type, version, parameters, pin group (R100). -/
def placeKey (e : Option Edition) (n : Nat) : Option Placement :=
  match e with
  | some e => edPlace e n
  | none => none

/-- A place takes what the edition gives it: a rebinding, the removal of its binding, or a changed scan list. -/
def changePlace (old : Option Edition) (e : Edition) (n : Nat) (s : State) : State :=
  let s := writeScanList n s
  let a := placeKey old n
  let b := edPlace e n
  if a = b then
    (if placeUp s n then (List.range 8).foldl (fun t k =>
      let c := getCycle (getPlace t n) k
      if periodNs t n k != 0 && !(classPoints t n k).isEmpty && c.due.isNone && !c.started then
        setPlace n (setCycle k ⟨false, 0, [], some t.clk, 0⟩ (getPlace t n)) t
      else t) s else s)
  else if b.isNone then setPlace n { getPlace s n with removing := true } s
  else
    let s := giveEngine n s
    setPlace n { getPlace s n with rebindDue := true } s

/-- The new shelf list is in force from its first cycle at or after this moment. -/
def takeShelf (e : Edition) (s : State) : State :=
  let cyc := max 1 e.shelf.cycle * 1000
  let c := (s.ringNs + cyc - 1) / cyc
  { s with ring := { s.ring with
    swept := (List.range e.shelf.entries.length).foldl (fun t i => tset (fun _ => 0) i c t) []
    sweeps := [] } }

/-! ### Step 6: slots and minima (R399, R503) -/

/-- A minimum is raised, never lowered (R502). -/
def raiseMin (k v : Nat) (s : State) : State :=
  if getF s (fSEC_ARB_MIN k) < v then
    setF (fSEC_ARB_MIN k) v { s with sec := { s.sec with minima := tset (fun _ => 0) k v s.sec.minima } }
  else s

/-- The smallest of a list, 0 of none. -/
def least (l : List Nat) : Nat := l.foldl min (l.headD 0)

/-- Editions and binding types: the lower of ACTIVE and PREVIOUS (R503). -/
def raiseMinima (s : State) : State :=
  let es := [s.stw.active, s.stw.previous].filterMap id
  let s := raiseMin 1 (least (es.map (·.secVer))) s
  [1, 2, 3, 4, 5, 6, 7].foldl (fun t k =>
    let named := es.flatMap (fun e => e.library.filter (fun x => x.1 == k))
    raiseMin (k + 1) (least ((t.stw.library.filter (fun b => b.typ == k && named.any (fun x =>
      x.2.1 == b.major && x.2.2.1 == b.minor && x.2.2.2 == b.digest))).map (·.secVer))) t) s

/-- The ACTIVE edition becomes PREVIOUS, and the edition activated ACTIVE; one already in ACTIVE leaves the slots (R399,
R404). -/
def moveSlots (e : Edition) (s : State) : State :=
  if s.stw.active = some e then s
  else if s.stw.staged = some e then setStw { s.stw with staged := none, previous := s.stw.active, active := some e } s
  else setStw { s.stw with previous := s.stw.active, active := some e } s

/-- The slots are written in flash, and the minima raised (R398 to R400, R503); source 521 where the flash fails. -/
def commitSlots (e : Edition) (flashOk : Bool) (s : State) : State :=
  if flashOk && s.boot.flash then raiseMinima (moveSlots e s) else raise 521 s

/-- An edition is activated (R402, Table 12), `late` under R405, with the points it writes. -/
def activate (e : Edition) (ps : List Nat) (late flashOk : Bool) (s : State) : State :=
  let old := s.stw.inForce
  let s := takeConfig e (setF fDSK_ED_ARMED_STATE 3 s)
  let s := ps.foldl (fun t p => changePoint old e p t) s
  let s := (List.range 104).foldl (fun t n => changePlace old e n t) s
  let s := commitSlots e flashOk (takeShelf e s)
  let s := setReg oDSK_ED_ACTIVE (wd (e.number + 2 ^ 16 * bit late)) s
  let s := if late then raise 517 s else s
  event 0x20 4 0 ([wd (e.number + 2 ^ 16 * bit late)] ++ usWords (usNow s) ++ [wd ps.length]) s

/-- The armed edition is activated where the steward runs and neither a trial nor defaulted settings forbid it (R519,
R524). -/
def activateArmed (late flashOk : Bool) (s : State) : State :=
  match s.stw.armed with
  | none => s
  | some a =>
    if stwRuns s && a.t ≤ s.ringNs && s.sec.trial.isNone && !flag s fSEC_STATUS_SETTINGS_DEFAULTED then
      match slotEdition s a.number with
      | some e => setArmed none 0 (activate e (changeSet s.stw.inForce e) late flashOk s)
      | none => setArmed none 0 s
    else s

/-- EDITION_ACTIVATION (R402): at T. -/
def execEditionActivation (flashOk : Bool) (s : State) : Host.Outcome State Fault Refusal :=
  .next (activateArmed false flashOk s)

/-- LATE_ACTIVATION (R405): at the first moment the hub is AWAKE with its steward running after T. -/
def execLateActivation (flashOk : Bool) (s : State) : Host.Outcome State Fault Refusal :=
  .next (activateArmed true flashOk s)

/-! ### EDITION_ACTIVATE_NOW (R404, R524) -/

/-- Defaulted settings end: the whole shelf of the running volume is written (R524). -/
def settleSettings (s : State) : State :=
  if flag s fSEC_STATUS_SETTINGS_DEFAULTED && s.sec.trial.isNone then
    causeOff 532 (setF fSEC_STATUS_SETTINGS_DEFAULTED 0
      { s with sec := { s.sec with shelves := insSet (getF s fSEC_VOL_RUNNING) s.sec.shelves } })
  else s

/-- EDITION_ACTIVATE_NOW (R404, R519): any of the three slots, on a hub without an edition for its unit. -/
def execEditionActivateNow (d : Nat) (flashOk : Bool) (s : State) : Host.Outcome State Fault Refusal :=
  deskCmd d 0x22 (· == 1) 4 true (fun a s =>
    let n := argN a 1 % 65536
    let loaded := s.stw.inForce.any (·.sliced) && !flag s fSEC_STATUS_SETTINGS_DEFAULTED
    if s.sec.trial.isSome then answer d 7 0 [] s
    else if loaded then answer d 0x15 0 [] s
    else
      match [s.stw.staged, s.stw.active, s.stw.previous].findSome? (fun e => match e with
          | some e => if e.number = n then some e else none
          | none => none) with
      | none => answer d 0x0E 0 [] s
      | some e =>
        let ps := (edPoints e).map (·.1)
        let was := s.stw.armed
        let c := getF s fDSK_ED_COUNT_COUNT
        let s := activate e ps false flashOk s
        let s := showArmed was c s
        answerOk d [wd ps.length] (settleSettings s)) s

/-! ### The edition load of a start-up (R542) -/

/-- Alarms start with every point of the slice (R397). -/
def loadPoint (e : Edition) (p : Nat) (s : State) : State :=
  let b := editionCat e p
  let s := putCat (ptKey s p) b s
  if catAlarm b = 0 then s else setAlarm p AlarmSt.init s

/-- The steward loads an edition before field service and the ring: configuration, the whole Catalogue, bindings, scan
lists; no slot changes and nothing is originated. -/
def loadEdition (e : Edition) (s : State) : State :=
  let s := takeConfig e s
  let s := (edPoints e).foldl (fun t x => loadPoint e x.1 t) s
  let s := bindPlaces (fun _ => true) s
  let s := (List.range 104).foldl (fun t n => writeScanList n t) s
  setReg oDSK_ED_ACTIVE (wd e.number) (takeShelf e s)

end Sys2Proof.Machine
end

