-- ==== Sys2Proof/Machine/Volumes.lean ====
section
/-! DEFINITION. Staged images (R397, R398, R515), firmware volumes, trials and fallback (R514 to R523), settings (R525), the
random source (R500), and debug unlock (R526). -/

namespace Sys2Proof.Machine

def setSec (x : Sec) (s : State) : State := { s with sec := x }

/-! ### STAGE_CLOSE (R398, R97, R515) -/

/-- Why a volume image is refused (Table 3 of chapter 15). -/
def volumeRefusal (s : State) (bs : List Nat) : Option Nat :=
  let body := le bs 20 4
  let bound := le bs 11 1 == 1
  let tag := le bs 24 6
  if le bs 0 4 != 0x4D4C4F56 || le bs 4 1 != 1 || le bs 5 1 != 0 || le bs 6 2 != 128 || le bs 8 2 != 0x9624 ||
      2 ≤ le bs 11 1 || (!bound && tag != 0) || 16 ≤ le bs 30 1 || !zeros (part bs 80 48) || body % 4 != 0 ||
      8388384 < body || bs.length != 224 + body then some 1
  else if getF s fGLB_ID0_STEPPING < le bs 10 1 then some 2
  else if Config.sha384 (part bs 128 body) != part bs 32 48 then some 3
  else if 4 ≤ le bs 18 2 || !slotOk s (le bs 18 2) 0 ||
      !Config.ecdsaVerify (getSlot s (le bs 18 2)).key (part bs 0 (128 + body)) (part bs (128 + body) 96) then some 4
  else if !versionOk s 0 (le bs 16 2) then some 5
  else if bound && tag != unitTag s then some 6
  else none

/-- The volume that an image holds, in a slot state (R514, R516). -/
def readVolume (bs : List Nat) (state : Nat) : Volume :=
  { state := state, version := 65536 * le bs 12 1 + le bs 13 1 * 256 + le bs 14 1, secVer := le bs 16 2
    settingsFmt := le bs 15 1, revokeMask := le bs 30 1, slot := le bs 18 2, good := true }

/-- An image that named a revoked slot (R501). -/
def noteRevoked (id : Nat) (s : State) : State := if slotRevoked s id then raise 614 s else s

/-- The transfer ends. -/
def closeStaging (s : State) : State := setStw { s.stw with staging := none } s

/-- The end of an edition's transfer. -/
def closeEdition (d : Nat) (bs : List Nat) (s : State) : State :=
  match editionRefusal s bs with
  | some (reason, i) =>
    let s := if reason = 2 then noteRevoked (le bs 32 2) s else s
    answer d 0x0C reason [wd i] (raise 516 s)
  | none =>
    let e := readEdition bs (unitTag s)
    answerOk d [wd e.number] (setStw { s.stw with staged := some e } s)

/-- The end of a binding image's transfer: it takes its place in the store (R96, R97). -/
def closeBinding (d : Nat) (bs : List Nat) (s : State) : State :=
  if bindingOk s bs then
    let b := readBinding bs
    let others := s.stw.library.filter (fun x => x.typ != b.typ || x.major != b.major || x.minor != b.minor)
    answerOk d [] (setStw { s.stw with library := others ++ [b] } s)
  else answer d 0x0D 0 [] (noteRevoked (le bs 26 2) s)

/-- The end of a volume's transfer: into the slot that is not running, or in recovery into volume 0, which the boot record
then names (R515, R538). -/
def closeVolume (d : Nat) (bs : List Nat) (s : State) : State :=
  let rom := getF s fGLB_BOOT_STAGE == 14
  let v := if rom then 0 else 1 - getF s fSEC_VOL_RUNNING
  match volumeRefusal s bs with
  | some reason =>
    let s := if reason = 4 then noteRevoked (le bs 18 2) s else s
    answer d 0x0D reason [] (raise 528 (setVol v Volume.init s))
  | none =>
    if rom then
      let s := setVol 0 (readVolume bs 4) s
      let ep := match s.sec.record with
        | some r => r.epoch
        | none => 0
      answerOk d [] (setSec { s.sec with record := some ⟨0, false, false, ep⟩ } s)
    else answerOk d [] (setVol v (readVolume bs 1) s)

/-- STAGE_CLOSE (R398, R97, R515). -/
def execStageClose (d : Nat) (flashOk : Bool) (s : State) : Host.Outcome State Fault Refusal :=
  deskCmd d 0x12 (· == 0) 12 true (fun _ s =>
    match deskStaging s d with
    | none => answer d 0x0B 0 [] s
    | some g =>
      if (getDesk s d).rights &&& stageRight g.kind = 0 then answer d 4 0 [] s
      else if !flashOk || !s.boot.flash then answer d 0x1A 0 [] (raise 521 (closeStaging s))
      else
        let bs := imageBytes g
        let s := closeStaging s
        if g.kind = 0 then closeEdition d bs s
        else if g.kind = 1 then closeBinding d bs s
        else closeVolume d bs s) s

/-! ### Volumes (R516, R517) -/

/-- The running volume. -/
def runningVol (s : State) : Nat := getF s fSEC_VOL_RUNNING

/-- Security version and slot state of a volume (R516). -/
def volWord (s : State) (v : Nat) : Word := wd ((getVol s v).secVer % 128 + (getVol s v).state % 8 * 128)

/-- Whole seconds of a trial left. -/
def trialLeft (s : State) : Nat :=
  match s.sec.trial with
  | some t => (t.t + 30000000000 - s.ringNs) / 1000000000
  | none => 0

/-- T of the armed volume, 0 where none is. -/
def volArmedT (s : State) : Nat :=
  match s.sec.volArmed with
  | some a => a.2.2
  | none => 0

/-- VOLUME_STATUS (R516). -/
def execVolumeStatus (d : Nat) (s : State) : Host.Outcome State Fault Refusal :=
  deskCmd d 0x60 (· == 0) 1 false (fun _ s =>
    answerOk d ([wd (runningVol s), wd (getVol s 0).version, volWord s 0, wd (getVol s 1).version, volWord s 1] ++
      timeWords (volArmedT s) ++ [wd (trialLeft s), reg s oSEC_FALLBACK]) s) s

/-- SEC_VOL shows the armed volume, or none. -/
def showVolArmed (s : State) : State :=
  match s.sec.volArmed with
  | some (v, auto, _) => setF fSEC_VOL_ARMED 1 (setF fSEC_VOL_ARMED_VOL v (setF fSEC_VOL_AUTO_COMMIT (bit auto) s))
  | none => setF fSEC_VOL_ARMED 0 s

/-- An edition is armed for a time within 60 s of t. -/
def editionNear (s : State) (t : Nat) : Bool :=
  match s.stw.armed with
  | some a => decide (a.t ≤ t + 60000000000) && decide (t ≤ a.t + 60000000000)
  | none => false

/-- VOLUME_ARM (R517). -/
def execVolumeArm (d : Nat) (s : State) : Host.Outcome State Fault Refusal :=
  deskCmd d 0x61 (· == 4) 8 true (fun a s =>
    let v := argN a 1 % 2
    let auto := bitsOf (argN a 1) 1 1 == 1
    let t := timeArg a 2
    let x := getVol s v
    if s.sec.volArmed.isSome || s.sec.trial.isSome || editionNear s t then answer d 7 0 [] s
    else if x.state != 1 && x.state != 5 then answer d 0x1E 0 [] s
    else if !x.good || !slotOk s x.slot 0 || !versionOk s 0 x.secVer then answer d 0x0D 0 [] (noteRevoked x.slot s)
    else if t < s.ringNs + 100000000 then answer d 0x10 0 [] s
    else if s.ringNs + 604800000000000 < t then answer d 0x11 0 [] s
    else
      let s := setVol v { x with state := 2 } (setSec { s.sec with volArmed := some (v, auto, t) } s)
      answerOk d [] (showVolArmed s)) s

/-! ### Settings (R523, R541) -/

/-- A settings value of a volume's shelf. -/
def putShelf (v k : Nat) (x : Option (List Word)) (s : State) : State :=
  setSec { s.sec with settings := tset (fun _ => none) (65536 * v + k) x s.sec.settings } s

/-- A shelf is freed. -/
def freeShelf (v : Nat) (s : State) : State :=
  setSec { s.sec with shelves := delSet v s.sec.shelves, settings := tclear (fun k => k / 65536 == v) s.sec.settings } s

/-- The default of a port's key, by its medium strap (Table 4a). -/
def portDefault (med : Nat) : Nat := if med = 2 then 0x22 else if med = 1 then 0x21 else 0x20

/-- The default of a pair's bypass key. -/
def bypDefault (med : Nat) : Nat := if med = 1 ∨ med = 2 then 0x4_3017 else 0x4_3016

/-- A shelf of defaults in force on volume v, with SETTINGS_DEFAULTED and the cause of source 532 (R523, R541); a key that
SETTINGS_SET has written stays (R524). -/
def defaultShelf (v : Nat) (s : State) : State :=
  let a := getF s fGLB_STRAP_MEDA
  let b := getF s fGLB_STRAP_MEDB
  let put := fun s (e : Nat × List Word) =>
    if (tget (fun _ => none) s.sec.settings (65536 * v + e.1)).isSome then s else putShelf v e.1 (some e.2) s
  let s := [(0x0001, [0, 0]), (0x0010, [wd (portDefault a)]), (0x0011, [wd (portDefault a)]),
    (0x0012, [wd (portDefault b)]), (0x0013, [wd (portDefault b)]), (0x0020, [wd (bypDefault a)]),
    (0x0021, [wd (bypDefault b)])].foldl put s
  causeOn 532 (setF fSEC_STATUS_SETTINGS_DEFAULTED 1 s)

/-- The old shelf's records are copied into the new volume's own shelf. -/
def copyShelf (old new : Nat) (s : State) : State :=
  let l := s.sec.settings.filter (fun e => e.1 / 65536 == old)
  let s := l.foldl (fun t e => putShelf new (e.1 % 65536) e.2 t) (freeShelf new s)
  setSec { s.sec with shelves := insSet new s.sec.shelves } s

/-- The first run of a trial reads the old volume's shelf (R523). -/
def trialShelf (old new : Nat) (s : State) : State :=
  if !s.sec.shelves.contains old then raise 533 (defaultShelf new (freeShelf new s))
  else if (getVol s old).settingsFmt = (getVol s new).settingsFmt then copyShelf old new s
  else defaultShelf new (freeShelf new s)

/-! ### Without an edition (R23, R93, R159, R524) -/

/-- The hub runs without its edition: it is unnumbered, its places have no running engine, its lines are in mode 0, and its
channels are off. -/
def unloadEdition (s : State) : State :=
  let s := setStw { s.stw with inForce := none } s
  let s := setReg oGLB_NODE 0xFFF (setReg oGLB_NODE2 0 (setReg oDSK_ED_ACTIVE 0xFFFF s))
  let s := (List.range 104).foldl (fun t n => match servingEngine t n with
    | some e => unserve n (engineIdle e t)
    | none => t) s
  let s := (s.dio.lines.map (·.1)).foldl (fun t n => setLine n { getLine t n with drive := .highZ, cmds := [], settling := false }
    (setF (fDIO_LCFG_MODE n) 0 t)) s
  (List.range 64).foldl (fun t n => if chanEn t n then setF (fANA_CHCFG_EN n) 0 t else t) s

/-! ### The switch, trial and commit (R518 to R522) -/

/-- The steward starts again in a volume: the Archivist's start follows (R536, R537). -/
def restartSteward (s : State) : State :=
  let s := setStw { s.stw with booted := false, haltedAt := none, kickAt := s.clk } s
  setF fPWR_STATUS_CLK 0 (setF fGLB_BOOT_STAGE 4 s)

/-- The ring pairs that are CLOSED. -/
def closedPairs (s : State) : List Nat := [0, 1].filter (fun x => flag s (fRGx_RP_STAT_CLOSED x))

/-- VOLUME_SWITCH (R518, R519, R523): the armed volume starts in trial; more than 1 ms after T it is late. The time of a late
switch counts as T of its trial. -/
def execVolumeSwitch (s : State) : Host.Outcome State Fault Refusal :=
  .next (match s.sec.volArmed with
  | none => s
  | some (v, auto, t) =>
    if stwRuns s && t ≤ s.ringNs && s.sec.trial.isNone then
      let late := decide (t + 1000000 < s.ringNs)
      let old := runningVol s
      let ed := match s.stw.inForce with
        | some e => some e.number
        | none => none
      let ep := match s.sec.record with
        | some r => r.epoch
        | none => 0
      let s := setSec { s.sec with
        volArmed := none
        record := some ⟨v, true, false, ep⟩
        trial := some ⟨if late then s.ringNs else t, auto, closedPairs s, ed, false⟩ } s
      let s := setVol v { getVol s v with state := 3 } s
      let s := setF fSEC_VOL_ARMED 0 (setF fSEC_VOL_PHASE 1 (setF fSEC_VOL_RUNNING v (setF fSEC_VOL_LATE (bit late) s)))
      let s := if late then raise 536 s else s
      let s := trialShelf old v s
      let s := restartSteward s
      if flag s fSEC_STATUS_SETTINGS_DEFAULTED then unloadEdition s else s
    else s)

/-- The conditions of R520 that the state shows. -/
def healthOk (s : State) (t : Trial) : Bool :=
  let link := !flag s fHIF_STATUS_LINK_UP || getF s (fDSK_DESK_STATE 0) != 1
  let common := stwRuns s && flag s fPWR_STATUS_CLK && link
  if flag s fSEC_STATUS_SETTINGS_DEFAULTED then
    common && (match s.stw.active with
      | some e => slotOk s e.keyId 2 && versionOk s 1 e.secVer
      | none => t.edition.isNone) &&
    t.closed.all (fun x => linkUp s (2 * x) && linkUp s (2 * x + 1))
  else
    common && (match s.stw.inForce with
      | some e => t.edition == some e.number
      | none => t.edition.isNone) &&
    t.closed.all (fun x => flag s (fRGx_RP_STAT_CLOSED x))

/-- VOLUME_HEALTHY (R520). -/
def execVolumeHealthy (s : State) : Host.Outcome State Fault Refusal :=
  .next (match s.sec.trial with
  | some t => if healthOk s t then setF fSEC_VOL_PHASE 2 s else s
  | none => s)

/-- An owner or Adevadan slot's fuse is blown. -/
def revokeSlot (i : Nat) (s : State) : State := setF (fSEC_KEYSLOT_REVOKED i) 1 (setSlot i { getSlot s i with revoked := true } s)

/-- The trial volume is committed (R503, R504, R521). -/
def commitVolume (s : State) : State :=
  let v := runningVol s
  let x := getVol s v
  let ep := match s.sec.record with
    | some r => r.epoch
    | none => 0
  let s := setSec { s.sec with record := some ⟨v, false, true, ep⟩, trial := none } s
  let s := raiseMin 0 x.secVer s
  let s := ([0, 1, 2, 3].filter (fun i => bitsOf x.revokeMask i 1 == 1 && i != x.slot)).foldl (fun t i => revokeSlot i t) s
  let s := setVol (1 - v) { getVol s (1 - v) with state := 5 } (setVol v { x with state := 4 } s)
  let s := setF fSEC_VOL_PHASE 0 (freeShelf (1 - v) s)
  event 0x60 4 0 [wd v, wd x.version] s

/-- VOLUME_COMMIT (R521). -/
def execVolumeCommit (d : Nat) (flashOk : Bool) (s : State) : Host.Outcome State Fault Refusal :=
  deskCmd d 0x62 (· == 0) 8 true (fun _ s =>
    if s.sec.trial.isNone then answer d 0x1F 0 [] s
    else if getF s fSEC_VOL_PHASE != 2 then answer d 0x20 0 [] s
    else if !flashOk || !s.boot.flash then answer d 0x1A 0 [] s
    else answerOk d [] (commitVolume s)) s

/-- The fault source of a fallback: command, health, watchdog, reset (R522). -/
def fallbackSource (cause : Nat) : Nat := if cause = 1 then 531 else if cause = 2 then 529 else if cause = 3 then 530 else 537

/-- The old volume and its shelf take over from the trial (R522). -/
def fallBack (cause : Nat) (s : State) : State :=
  match s.sec.trial with
  | none => s
  | some t =>
    let ep := match s.sec.record with
      | some r => r.epoch
      | none => 0
    let v := match s.sec.record with
      | some r => r.running
      | none => runningVol s
    let old := 1 - v
    let s := setSec { s.sec with record := some ⟨old, false, false, ep⟩, trial := none } s
    let s := setVol v (if cause = 1 then { getVol s v with state := 1 } else Volume.init) s
    let s := setVol old { getVol s old with state := 4 } (freeShelf v s)
    let s := setReg oSEC_FALLBACK (wd (cause + 8 * bit t.wrote + 2 ^ 23)) s
    let s := raise (fallbackSource cause) (if t.wrote then raise 534 s else s)
    let s := setF fSEC_VOL_PHASE 0 (setF fSEC_VOL_RUNNING old s)
    causeOff 532 (setF fSEC_STATUS_SETTINGS_DEFAULTED 0 s)

/-- VOLUME_FALLBACK (R521, R522): answered before the restart, which follows at DESK_DONE. -/
def execVolumeFallback (d : Nat) (s : State) : Host.Outcome State Fault Refusal :=
  deskCmd d 0x63 (· == 0) 8 true (fun _ s =>
    if s.sec.trial.isNone then answer d 0x1F 0 [] s
    else answerOk d [] (setStw { s.stw with afterDone := some (d, 2) } s)) s

/-- TRIAL_DEADLINE (R521): 30 s after T. -/
def execTrialDeadline (s : State) : Host.Outcome State Fault Refusal :=
  .next (match s.sec.trial with
  | some t =>
    if s.ringNs < t.t + 30000000000 then s
    else if getF s fSEC_VOL_PHASE = 2 then
      (if t.auto && !flag s fSEC_STATUS_SETTINGS_DEFAULTED && stwRuns s then commitVolume s else s)
    else restartSteward (fallBack 2 s)
  | none => s)

/-! ### SETTINGS_GET and SETTINGS_SET (R525) -/

/-- The writable keys of Table 5 and the bits of their values. -/
def keyBits (k : Nat) : Option Nat :=
  if 0x10 ≤ k ∧ k < 0x14 then some 6 else if k = 0x20 ∨ k = 0x21 then some 22 else none

/-- The read-only keys. -/
def keyRO (k : Nat) : Bool := k == 1 || k == 0x30 || k == 0x31 || k == 0x40 || k == 0x50

/-- The write-only keys: programming and revoking owner slots. -/
def keyProg (k : Nat) : Bool := 0x104 ≤ k && k < 0x108
def keyRevoke (k : Nat) : Bool := 0x10C ≤ k && k < 0x110

/-- The value of a readable key. -/
def keyValue (s : State) (k : Nat) : List Word :=
  if k = 0x30 then
    (match s.stw.armed with
    | some a => wd a.number :: timeWords a.t
    | none => [])
  else if k = 0x31 then
    (match s.sec.volArmed with
    | some (v, auto, t) => wd (v + 2 * bit auto) :: timeWords t
    | none => [])
  else if k = 0x40 then s.flt.rows.map (fun e => wd (e.1 * 256 + e.2))
  else if k = 0x50 then
    let e := (s.sec.epochNext + 4095) / 4096 * 4096
    [wd e, wd (e / 2 ^ 24)]
  else (getKey s k).getD (if k = 1 then [0, 0] else [0])

/-- SETTINGS_GET (R525). A write-only key has no value to return. -/
def execSettingsGet (d : Nat) (s : State) : Host.Outcome State Fault Refusal :=
  deskCmd d 0x68 (· == 1) 8 false (fun a s =>
    let k := argN a 1
    if keyRO k || (keyBits k).isSome then answerOk d ((keyValue s k).take 62) s
    else if keyProg k || keyRevoke k then answer d 3 0 [] s
    else answer d 0x21 0 [] s) s

/-- An owner slot is programmed: 32 words of public key and its use mask. -/
def programSlot (i : Nat) (a : List Nat) (s : State) : State :=
  let key := (a.take 32).flatMap (fun w => bytesLE w 3)
  let use := a.getD 32 0 % 16
  let s := setSlot i { getSlot s i with hash := Config.sha384 key, key := key, programmed := true, use := use } s
  raise 613 (setF (fSEC_KEYSLOT_PROGRAMMED i) 1 (setF (fSEC_KEYSLOT_USE i) use s))

/-- Unrevoked owner slots that are programmed. -/
def liveOwners (s : State) : List Nat := [4, 5, 6, 7].filter (fun i => (getSlot s i).programmed && !(getSlot s i).revoked)

/-- SETTINGS_SET on an owner slot (R525). -/
def setOwner (d k : Nat) (a : List Nat) (s : State) : State :=
  if 2 ≤ d then answer d 4 0 [] s
  else if keyProg k then
    let i := k - 0x100
    if a.length != 34 then answer d 2 0 [] s
    else if (getSlot s i).programmed then answer d 0x23 0 [] s
    else answerOk d [] (programSlot i (a.drop 1) s)
  else
    let i := k - 0x108
    if a.length != 2 then answer d 2 0 [] s
    else if argN a 2 != 0 || !(getSlot s i).programmed || (getSlot s i).revoked then answer d 3 0 [] s
    else if liveOwners s == [i] then answer d 0x23 0 [] s
    else answerOk d [] (raise 613 (revokeSlot i s))

/-- SETTINGS_SET (R525, R522). -/
def execSettingsSet (d : Nat) (flashOk : Bool) (s : State) : Host.Outcome State Fault Refusal :=
  deskCmd d 0x69 (2 ≤ ·) 8 false (fun a s =>
    let k := argN a 1
    if keyRO k then answer d 0x22 0 [] s
    else if keyProg k || keyRevoke k then setOwner d k a s
    else
      match keyBits k with
      | none => answer d 0x21 0 [] s
      | some n =>
        if a.length != 2 then answer d 2 0 [] s
        else if 2 ^ n ≤ argN a 2 then answer d 3 0 [] s
        else if !flashOk || !s.boot.flash then answer d 0x1A 0 [] s
        else answerOk d [] (putKey k [wd (argN a 2)] s)) s

/-! ### The random source and debug unlock (R500, R526) -/

/-- TRNG_FAIL (R500). -/
def execTrngFail (s : State) : Host.Outcome State Fault Refusal := .next (causeOn 615 (setF fSEC_STATUS_TRNG_OK 0 s))

/-- TRNG_HEALTHY (R500): ports that wait for a key are keyed. -/
def execTrngHealthy (s : State) : Host.Outcome State Fault Refusal :=
  .next (
    let s := causeOff 615 (setF fSEC_STATUS_TRNG_OK 1 s)
    [0, 1, 2, 3].foldl (fun t p =>
      if protectedPort t p && linkUp t p && getF t (fSEC_LP_STAT_STATE p) = 1 then seedPair (p / 2) (keyPort p t) else t) s)

/-- A token is accepted (R526). -/
def tokenOk (s : State) (bs : List Nat) : Bool :=
  let id := le bs 10 1
  bs.length == 128 && le bs 0 4 == 0x4B434F4C && le bs 4 6 == unitTag s && zeros (part bs 15 17) && decide (4 ≤ id) &&
  slotOk s id 3 && Config.ecdsaVerify (getSlot s id).key (part bs 0 32) (part bs 32 96) &&
  decide (s.ringNs < 1000000000 * le bs 11 4) && flag s fSEC_STATUS_TRNG_OK

/-- UNLOCK_TOKEN (R526, R501). -/
def execUnlockToken (bytes : List Nat) (s : State) : Host.Outcome State Fault Refusal :=
  .next (
    if tokenOk s bytes then
      let s := setSec { s.sec with debugUntil := some (le bytes 11 4) } s
      emit (.jtag true) (raise 611 (setF fSEC_STATUS_DEBUG_UNLOCKED 1 s))
    else emit (.jtag false) (raise 610 (noteRevoked (le bytes 10 1) s)))

/-- DEBUG_EXPIRY (R526): debug locks again, and desk 6 has no owner. -/
def execDebugExpiry (s : State) : Host.Outcome State Fault Refusal :=
  .next (match s.sec.debugUntil with
  | some e =>
    if 1000000000 * e ≤ s.ringNs then
      closeSession 6 (setF fSEC_STATUS_DEBUG_UNLOCKED 0 (setSec { s.sec with debugUntil := none } s))
    else s
  | none => s)

end Sys2Proof.Machine
end

