-- ==== Sys2Proof/Machine/Boot.lean ====
section
/-! DEFINITION. From the core reset release to the Archivist (R530 to R541), the edition load and the end of configuration
retries (R542, R546), the timer of field service (R545), the AON watchdog (R537), recovery (R538), and the end of a desk's
command with what follows it (R386, R392). -/

namespace Sys2Proof.Machine

def setBoot (x : Boot) (s : State) : State := { s with boot := x }

/-! ### Recovery and the choice of a volume (R534 to R538) -/

/-- BOOT_FAIL_N is driven low (R539). -/
def driveBootFail (s : State) : State := setF fGLB_STATUS_BOOT_FAIL 1 (setBoot { s.boot with bootFailN := false } s)

/-- The boot ROM enters recovery, with a code of Table 3 (R538). -/
def enterRecovery (fail : Nat) (s : State) : State :=
  let s := setF fGLB_BOOT_STAGE 14 (setF fGLB_BOOT_FAIL fail s)
  let s := if fail = 0 then s else driveBootFail s
  let s := (List.range 16).foldl (fun t n => if flag t (fFED_FSC_CTL_EN n) then fscEnable n false t else t) s
  hostReady (setStw { s.stw with booted := false } s)

/-- A volume passes its checks at start (Table 3 of chapter 15): its digest stood at STAGE_CLOSE, its slot is not revoked,
and it meets the minimum. -/
def volumeOk (s : State) (v : Nat) : Bool :=
  let x := getVol s v
  x.good && slotOk s x.slot 0 && versionOk s 0 x.secVer

/-- A volume is started: STAGE reaches ARCHIVIST, and the Archivist's start follows (R535). -/
def startVolume (v : Nat) (s : State) : State :=
  let s := setVol v { getVol s v with state := 4 } (setF fSEC_VOL_RUNNING v s)
  let s := setStw { s.stw with booted := false, kickAt := s.clk } s
  setF fPWR_STATUS_CLK 0 (setF fGLB_BOOT_STAGE 4 s)

/-- The boot record's volume is checked and started; where it is refused, the other one, if it is STANDBY and passes
(R536). -/
def startOf (v : Nat) (standby : Bool) (s : State) : State :=
  let s := if (getVol s v).good then noteRevoked (getVol s v).slot s else s
  if volumeOk s v then startVolume v s
  else
    let o := 1 - v
    if standby && volumeOk s o then
      startVolume o (setF fGLB_BOOT_FAIL 5 (setVol v { getVol s v with state := 0 } s))
    else enterRecovery 6 s

/-- The boot ROM chooses a volume (R536). Without a valid record no edition slot is named. -/
def chooseVolume (s : State) : State :=
  match s.sec.record with
  | none =>
    let s := setF fGLB_BOOT_FAIL 4 (setStw { s.stw with staged := none, active := none, previous := none } s)
    startOf 0 false (setSec { s.sec with record := some ⟨0, false, false, 0⟩ } s)
  | some r =>
    if r.trial then
      let s := setF fGLB_BOOT_FAIL 7 (fallBack 4 s)
      startOf (1 - r.running) false s
    else startOf r.running r.standby s

/-- The self-test of the cores (R371, Table 3): none or one fails and the boot goes on. -/
def bootCores (bad : List Nat) (s : State) : State :=
  match bad with
  | [c] =>
    let s := setF fGLB_BOOT_FAIL 1 s
    if c = 2 then
      let s := setF fFLT_ATC_STAT_CORE_SPARE 0 (setF fDSK_CORE_DEGRADED 1 (setF fDSK_CORE_SPARE 3 s))
      setStw { s.stw with fencedCores := insSet 2 s.stw.fencedCores } s
    else joinSpare (c == 1) s
  | _ => s

/-- The registers that show the one-time-programmable store, the boot record and what is armed (R501, R502, R516, R517). -/
def showStore (s : State) : State :=
  let s := (List.range 8).foldl (fun t i =>
    let k := getSlot t i
    setF (fSEC_KEYSLOT_PROGRAMMED i) (bit k.programmed) (setF (fSEC_KEYSLOT_REVOKED i) (bit k.revoked)
      (setF (fSEC_KEYSLOT_USE i) k.use t))) s
  let s := (List.range 9).foldl (fun t i => setF (fSEC_ARB_MIN i) (tget (fun _ => 0) t.sec.minima i) t) s
  let v := match s.sec.record with
    | some r => r.running
    | none => 0
  showVolArmed (setF fSEC_VOL_RUNNING v s)

/-- Every domain is on and the clocks are the FIRC's (R530, R535). -/
def releaseDomains (s : State) : State :=
  let s := setReg oPWR_DOM_STAT0 0x555555 (setReg oPWR_DOM_STAT1 0x55 s)
  let s := setF fPWR_STATUS_STATE 0 (setF fPWR_STATUS_CLK 0 (setF fPWR_STATUS_XTAL_OK 1 s))
  let s := (List.range 68).foldl (fun t v => loadTrim v 0 t) s
  (List.range 16).foldl (fun t n => holdOff n 2 t) s

/-- The boot ROM (R535, Table 3). -/
def bootRom (cores : List Nat) (flashOk : Bool) (s : State) : State :=
  let bad := [0, 1, 2].filter cores.contains
  let s := showStore (setBoot { s.boot with flash := flashOk } s)
  if 2 ≤ bad.length then
    driveBootFail (setF fDSK_CORE_STOPPED 1 (setF fGLB_BOOT_STAGE 15 (setF fGLB_BOOT_FAIL 2 s)))
  else
    let s := bootCores bad s
    if !flashOk then enterRecovery 3 s
    else if getF s fGLB_STRAP_BOOT = 1 then enterRecovery 0 s
    else chooseVolume s

/-- Nothing holds the core reset any more, PWRGD_IN, SYS_RST_N and a RESTART having ended as this command says, and 100 us
have passed since (R530). -/
def mayRelease (s : State) : Bool :=
  ((s.boot.coreReset && s.boot.quietFrom + 100000 ≤ s.clk) || (!s.boot.coreReset && getF s fGLB_BOOT_STAGE == 0)) &&
  !s.boot.causes.contains 0 && !s.boot.causes.contains 4

/-- CORE_RESET_RELEASE (R530, R532, R533, R535): `cores` are those whose self-test fails. -/
def execCoreResetRelease (straps : BitVec 9) (cores : List Nat) (flashOk : Bool) (s : State) :
    Host.Outcome State Fault Refusal :=
  .next (when (mayRelease s) (fun s =>
    let s := setBoot { s.boot with coreReset := false, causes := [], bootFailN := true } s
    let s := setReg oGLB_STRAP (wd straps.toNat) s
    let s := releaseDomains (setF fUSB_CTL_LEGACY (bitsOf straps.toNat 8 1) s)
    bootRom cores flashOk (trainPcie s)) s)

/-! ### The Archivist (R540 to R546) -/

/-- The running volume reads its settings shelf; one that is not readable is defaulted, and source 533 raised (R523,
R536). -/
def takeShelfOf (s : State) : State :=
  let v := runningVol s
  if s.sec.shelves.contains v then causeOff 532 (setF fSEC_STATUS_SETTINGS_DEFAULTED 0 s)
  else if flag s fSEC_STATUS_SETTINGS_DEFAULTED then defaultShelf v s
  else defaultShelf v (raise 533 s)

/-- The row map is restored, and link epochs are reserved above the last reservation (R477, R510, R540). -/
def restoreShelf (s : State) : State :=
  let s := s.flt.rows.foldl (fun t e => setF (fFLT_ROWS_LEFT e.1) (64 - e.2) t) s
  let e := (s.sec.epochNext + 4095) / 4096 * 4096 + 4096
  match s.sec.record with
  | some r => setSec { s.sec with record := some { r with epoch := max r.epoch e } } s
  | none => s

/-- Ports that do not run, and pairs not held, are written from the settings shelf (R540). -/
def startPorts (x : Nat) (s : State) : State :=
  if (pairPorts x).any (fun p => flag s (fRGx_PHY_CTL_EN p)) || flag s (fRGx_BYP_STAT_HOLD x) then s else portKeys x s

/-- The ACTIVE edition is loaded where it passes its checks, SETTINGS_DEFAULTED is 0 and none is in force (R542). -/
def loadActive (s : State) : State :=
  if flag s fSEC_STATUS_SETTINGS_DEFAULTED || s.stw.inForce.isSome then s
  else
    match s.stw.active with
    | none => s
    | some e =>
      if slotOk s e.keyId 2 && versionOk s 1 e.secVer then loadEdition e s
      else setF fGLB_BOOT_FAIL 9 (noteRevoked e.keyId s)

/-- STAGE once the edition is loaded: EDITION, or what a hub that its steward alone has left still shows (R546). -/
def stageAfterLoad (s : State) : Nat :=
  if !numbered s then 6 else if s.rtime.everLocked then 8 else if seedDone s (homePair s) then 7 else 6

/-- ARCHIVIST_START (R540 to R542, R546). -/
def execArchivistStart (s : State) : Host.Outcome State Fault Refusal :=
  .next (when (getF s fGLB_BOOT_STAGE == 4 && !s.stw.booted && domOn s 4 && !s.boot.coreReset &&
      !flag s fDSK_CORE_STOPPED && s.stw.haltedAt.isNone) (fun s =>
    let s := setF fPWR_STATUS_CLK 1 (setPwr { s.pwr with pllAt := some s.clk } s)
    let s := setReg oGLB_FW (wd (getVol s (runningVol s)).version) s
    let s := restoreShelf (takeShelfOf s)
    let s := loadActive (startPorts 1 (startPorts 0 s))
    let s := setStw { s.stw with booted := true, kickAt := s.clk } s
    let s := setF fGLB_BOOT_STAGE (stageAfterLoad s) s
    let s := showArmed s.stw.armed (getF s fDSK_ED_COUNT_COUNT) s
    let s := hostReady (showVolArmed s)
    let s := setBoot { s.boot with startedAt := some s.clk } s
    let s := if s.rtime.everLocked then startField s else s
    drainRaises (noteServing s)) s)

/-- FIELD_START_TIMER (R545): 10 s after the Archivist's start. -/
def execFieldStartTimer (s : State) : Host.Outcome State Fault Refusal :=
  .next (match s.boot.startedAt with
  | some t => if t + 10000000000 ≤ s.clk && stwRuns s then startField s else s
  | none => s)

/-! ### The AON watchdog (R520, R522, R537) -/

/-- Three expiries before SERVING: recovery, with nothing of the start left but AON (R538). -/
def watchdogRecovery (s : State) : State :=
  let n := getF s fGLB_BOOT_RESTARTS
  enterRecovery 8 (setF fGLB_BOOT_RESTARTS n (coreClear s))

/-- An expiry while no trial runs: before SERVING it counts in RESTARTS; at any time it restarts the steward on the same
volume. -/
def watchdogRestart (s : State) : State :=
  if getF s fGLB_BOOT_STAGE = 8 then restartSteward (setBoot { s.boot with expiries := 0 } s)
  else
    let n := s.boot.expiries + 1
    let s := setF fGLB_BOOT_RESTARTS (min 15 (getF s fGLB_BOOT_RESTARTS + 1)) (setBoot { s.boot with expiries := n } s)
    if 3 ≤ n then watchdogRecovery s else restartSteward s

/-- AON_WATCHDOG_EXPIRY (R537): 1 s without a restart point. -/
def execAonWatchdogExpiry (s : State) : Host.Outcome State Fault Refusal :=
  .next (when (s.stw.kickAt + 1000000000 ≤ s.clk && domOn s 4 && !s.boot.coreReset && !flag s fDSK_CORE_STOPPED &&
      getF s fGLB_BOOT_STAGE < 14 && (s.stw.booted || s.sec.trial.isSome)) (fun s =>
    if s.sec.trial.isSome then restartSteward (fallBack 3 s) else watchdogRestart (raise 530 s)) s)

/-! ### The end of a desk's command (R386, R392) -/

/-- A steward restart by command; in recovery the boot ROM starts the volume staged (R538). -/
def restartByDesk (s : State) : State :=
  if getF s fGLB_BOOT_STAGE = 14 then chooseVolume (setF fGLB_BOOT_FAIL 0 s)
  else restartSteward (setBoot { s.boot with expiries := 0 } s)

/-- What follows a command once its response is published: a restart, a hub reset, a fallback. -/
def afterResponse (a : Nat) (s : State) : State :=
  if a = 0 then restartByDesk s
  else if a = 1 then coreResetBy .restart s
  else restartSteward (fallBack 1 s)

/-- DESK_DONE (R386): the response is published, and a restart that the command asked for follows (R392). -/
def execDeskDone (d : Nat) (s : State) : Host.Outcome State Fault Refusal :=
  unit (d < 8) (
    let ready := (getDesk s d).prepared.isSome
    let s := deskDoneStep d s
    match s.stw.afterDone with
    | some (k, a) =>
      if k = d && ready && (getDesk s d).prepared.isNone then
        afterResponse a (setStw { s.stw with afterDone := none } s)
      else s
    | none => s)

end Sys2Proof.Machine
end

