-- ==== Sys2Proof/Machine/Servers.lean ====
section
/-! DEFINITION. The read and write servers: fabric requests to the six spaces, from the ring and from this hub's own host
(R28 to R33, R63 to R71, R113, R309, R388, R408, R409, R440). -/

namespace Sys2Proof.Machine

/-! ### Which requests fail (R28 to R31, Tables 2 and 3) -/

/-- Every offset of a run of n words from o on satisfies a test. -/
def spanAll (o n : Nat) (ok : Nat → Bool) : Bool := (List.range n).all (fun i => ok (o + i))

/-- A word of space 3 inside its extent (R382): a desk's words, or a staging window of desks 0 to 5. -/
def deskExtent (o : Nat) : Bool := (o < 0x2000 && o % 0x400 < 0x83) || (0x1_0000 ≤ o && o < 0x7_0000)

/-- An offset inside the extent of its space (R28, R408, R409, R551). -/
def inExtent (space o : Nat) : Bool :=
  if space = 0 ∨ space = 1 then o < 0x40_0000
  else if space = 2 then (blockOf o).isSome
  else if space = 3 then deskExtent o
  else if space = 4 ∨ space = 5 then o < 0x8_0000
  else false

/-- Every word of a run lies inside the extent of its space. -/
def spanInExtent (space o n : Nat) : Bool :=
  if space = 0 ∨ space = 1 then o + n ≤ 0x40_0000
  else if space = 4 ∨ space = 5 then o + n ≤ 0x8_0000
  else spanAll o n (inExtent space)

/-- A run of space 3 lies in the staging window of a desk from 2 to 5 whose session a node holds (R383, R388). -/
def windowHeld (s : State) (node o n : Nat) : Bool :=
  [2, 3, 4, 5].any (fun d => 0x1_0000 * (d + 1) ≤ o && o + n ≤ 0x1_0000 * (d + 2) && flag s (fDSK_DESK_SESSION d) &&
    getF s (fDSK_DESK_NODE d) == node)

/-- Why a read of n words fails, for an initiator's node. -/
def readCause (s : State) (node addr n : Nat) : Option Nat :=
  let sp := addrSpace addr
  let o := addrOff addr
  if !spanInExtent sp o n then some cADDRESS
  else if sp = 3 && !windowHeld s node o n then some cDENIED
  else none

/-- Why a write of n words fails before its own checks, for an initiator's node. -/
def writeCause (s : State) (node addr n : Nat) : Option Nat :=
  let sp := addrSpace addr
  let o := addrOff addr
  if !spanInExtent sp o n then some cADDRESS
  else if sp = 4 ∨ sp = 5 ∨ sp = 1 then some cREAD_ONLY
  else if sp = 0 then (if n = 1 && o % 4 == 0 then none else some cREAD_ONLY)
  else if sp = 2 then (if regRight s node then none else some cDENIED)
  else if windowHeld s node o n then none
  else some cDENIED

/-! ### Reads -/

/-- The points whose slots a run of words touches, in order (R29). -/
def slotsOf (o n : Nat) : List Nat := (List.range ((o + n + 3) / 4 - o / 4)).map (fun i => o / 4 + i)

/-- Word o of space 0 (R29, R41). -/
def recordWord (s : State) (o : Nat) : Word := (recWords (getPt s (o / 4))).getD (o % 4) 0

/-- Word o of space 1: the record as the hub serves it, word 3 being 0 (R29, R77, R85). -/
def catalogueWord (s : State) (o : Nat) : Word :=
  let c := catAt s (o / 4)
  if o % 4 = 0 then c.w0 else if o % 4 = 1 then c.w1 else if o % 4 = 2 then c.w2 else 0

/-- Each register of a run is read, in ascending order, with the effects of its read (R553). -/
def readRun : Nat → Nat → State → List Word × State
  | _, 0, s => ([], s)
  | o, n + 1, s =>
    let r := readRun (o + 1) n (readEffect o s)
    (readValue s o :: r.1, r.2)

/-- Word i of the shared memory (R409); a word the spec does not document is free (log 3). -/
def sharedWord (s : State) (i : Nat) : Word :=
  if i = 0 then reg s oGLB_FW
  else if i = 1 then tget (fun _ => 0) s.stw.shared 1
  else if i = 2 then wd (getF s fDSK_ED_ACTIVE_EDITION)
  else wd (freeVal s (2 ^ 24))

/-- A run of the shared memory; each undocumented word is a fresh free value. -/
def readShared : Nat → Nat → State → List Word × State
  | _, 0, s => ([], s)
  | o, n + 1, s =>
    let r := readShared (o + 1) n (if o < 3 then s else drawn s)
    (sharedWord s o :: r.1, r.2)

/-- Word o of the Ledger (R408). -/
def ledgerWord (s : State) (o : Nat) : Word := (tget (fun _ => []) s.stw.ledger (o / 8)).getD (o % 8) 0

/-- Word o of a staging window, o counted from offset 0 of space 3. -/
def stagingWord (s : State) (o : Nat) : Word :=
  tget (fun _ => 0) (getDesk s (o / 0x1_0000 - 1)).window (o % 0x1_0000)

/-- The words of a read that is served, each slot's records checked and their STALE evaluated first (R30, R68, R77). -/
def serveWords (addr n : Nat) (ecc : List (Nat × Ecc)) (s : State) : List Word × State :=
  let sp := addrSpace addr
  let o := addrOff addr
  let run := (List.range n).map (o + ·)
  let s := strikes (if sp = 1 then 1 else 0) ecc s
  if sp = 0 ∨ sp = 1 then
    let s := (slotsOf o n).foldl (fun t p => touchPt p .ok t) s
    (run.map (if sp = 0 then recordWord s else catalogueWord s), s)
  else if sp = 2 then readRun o n s
  else if sp = 3 then (run.map (stagingWord s), s)
  else if sp = 4 then (run.map (ledgerWord s), s)
  else readShared o n s

/-- READ_REQ (R31, R68, R239): served, or failed with its cause; the response acknowledges it. -/
def readIn (ecc : List (Nat × Ecc)) (f : Frame) (s : State) : State :=
  let n := reqCount f
  if addrNode (reqAddr f) != nodeId s ∨ n < 1 ∨ 682 < n then readError f cADDRESS s
  else
    match readCause s f.src (reqAddr f) n with
    | some c => readError f c s
    | none =>
      let r := serveWords (reqAddr f) n ecc s
      readAnswer f r.1 r.2

/-- READ_REQ: the oldest one waiting at the read server. -/
def execReadReq (ecc : List (Nat × Ecc)) (s : State) : Host.Outcome State Fault Refusal := .next (onQ 37 13 (readIn ecc) s)

/-! ### Writes -/

/-- A write of W0 by host or fabric: the checks of R70, and its route (R55). -/
def writeW0 (p node tag : Nat) (host : Bool) (v : Word) (e : Ecc) (s : State) : State :=
  let s := preRead p e s
  match w0Cause s p v with
  | some c => failWrite p node tag c s
  | none => if catRoute (catAt s p) = 2 then directWrite p v s else commandWrite p node tag host v s

/-- A write that is served: W0 of a point, registers in ascending order, or words of a staging window. -/
def putWords (addr node tag : Nat) (host : Bool) (ws : List Word) (e : Ecc) (s : State) : State :=
  let sp := addrSpace addr
  let o := addrOff addr
  if sp = 0 then writeW0 (o / 4) node tag host (ws.headD 0) e s
  else if sp = 2 then (indexed o ws).foldl (fun t x => busWrite (.fabric node) x.1 x.2 t) s
  else (indexed o ws).foldl (fun t x => windowWrite (x.1 / 0x1_0000 - 1) (x.1 % 0x1_0000) x.2 t) s

/-- A posted write to this hub: reported where it fails, and otherwise carried out (R30, R31). -/
def serveWrite (addr node tag : Nat) (host : Bool) (ws : List Word) (e : Ecc) (s : State) : State :=
  match writeCause s node addr ws.length with
  | some c => writeError node tag addr c s
  | none => putWords addr node tag host ws e s

/-- WRITE (R31, R70): its count lies in 1 to 679 and is that of the words it carries. -/
def writeIn (e : Ecc) (f : Frame) (s : State) : State :=
  let ws := f.payload.drop 3
  let n := reqCount f
  if addrNode (reqAddr f) != nodeId s ∨ n < 1 ∨ 679 < n ∨ n ≠ ws.length then
    writeError f.src f.aux (reqAddr f) cADDRESS s
  else serveWrite (reqAddr f) f.src f.aux (bitsOf (pw f 2) 10 1 == 1) ws e s

/-- WRITE: the oldest one waiting at the write server. -/
def execWrite (ecc : Ecc) (s : State) : Host.Outcome State Fault Refusal := .next (onQ 38 17 (writeIn ecc) s)

/-! ### Requests of this hub's host (R33, R309, R311, R312) -/

/-- A node has no entry in the active edition's node table: no frame is sent (R33). -/
def noSuchNode (s : State) (node : Nat) : Bool := !numbered s || (nodeEnt s node).isNone

/-- A read of n words for the host: at once from this hub, or by READ_REQ frames. -/
def hostReadWords (who : ReadFor) (addr n : Nat) (ecc : List (Nat × Ecc)) (s : State) : State :=
  if noSuchNode s (addrNode addr) then readFails who cNO_NODE s
  else if addrNode addr = nodeId s then
    match readCause s (nodeId s) addr n with
    | some c => readFails who c s
    | none =>
      let r := serveWords addr n ecc s
      readArrive who 0 r.1 r.2
  else sendReads who addr 0 (n / 682 + 1) n s

/-- A posted write of the host: executed by this hub, or sent as a class 6 WRITE with HOST = 1; a failure returns as a
deferred failure (R33, R311). -/
def hostWriteWords (addr tag : Nat) (ws : List Word) (e : Ecc) (s : State) : State :=
  if ws.isEmpty then s
  else if noSuchNode s (addrNode addr) then writeError (nodeId s) tag addr cNO_NODE s
  else if addrNode addr = nodeId s then serveWrite addr (nodeId s) tag true ws e s
  else originate (mkFrame 17 6 (addrNode addr) false tag
    ([wd addr, wd (addr / 2 ^ 24), wd (ws.length % 1024 + 2 ^ 10)] ++ ws)) s

end Sys2Proof.Machine
end

