-- ==== Sys2Proof/Machine/Pcie.lean ====
section
/-! DEFINITION. The PCI Express host's accesses: BAR0 (R307 to R309, R553), BAR2 windows (R310 to R313), READ and WRITE
descriptors (R317), the resets of the link (R332), the link's training and configuration requests (R304 to R306, R532). -/

namespace Sys2Proof.Machine

/-! ### BAR0 (R308, Table 1) -/

/-- The pending bit array: dword i of two, from HIF_IRQ_PEND (R325). -/
def pbaDword (s : State) (i : Nat) : Nat :=
  let p := fun j => (reg s (oHIF_IRQ_PEND j)).toNat
  bitsOf (p 0 + 2 ^ 24 * p 1 + 2 ^ 48 * p 2) (32 * i) 32

/-- The dword that a BAR0 read returns. -/
def bar0Value (s : State) (b : Nat) : BitVec 32 :=
  if b < 0x60_0000 then (readValue s (b / 4)).setWidth 32
  else if 0x80_0000 ≤ b ∧ b < 0x80_1000 then (deskWord s 0 ((b - 0x80_0000) / 4)).setWidth 32
  else if 0x84_0000 ≤ b ∧ b < 0x88_0000 then (stagingWord s (0x1_0000 + (b - 0x84_0000) / 4)).setWidth 32
  else if 0xFF_0000 ≤ b ∧ b < 0xFF_0400 then msixDword s ((b - 0xFF_0000) / 4)
  else if 0xFF_8000 ≤ b ∧ b < 0xFF_8008 then BitVec.ofNat 32 (pbaDword s ((b - 0xFF_8000) / 4))
  else 0

/-- A write of a dword of the MSI-X table: of vector control only the mask bit is held, and a vector unmasked sends what is
pending (R325). -/
def msixWrite (i : Nat) (v : BitVec 32) (s : State) : State :=
  if i % 4 = 3 then sendPending (i / 4) (setMsix i (v &&& 1) s) else setMsix i v s

/-- A BAR0 write of a dword whose byte enables cover its word. -/
def bar0Write (b : Nat) (v : BitVec 32) (s : State) : State :=
  let w : Word := v.setWidth 24
  if b < 0x60_0000 then busWrite .host (b / 4) w s
  else if 0x80_0000 ≤ b ∧ b < 0x80_1000 then deskWordWrite 0 ((b - 0x80_0000) / 4) w s
  else if 0x84_0000 ≤ b ∧ b < 0x88_0000 then windowWrite 0 ((b - 0x84_0000) / 4) w s
  else if 0xFF_0000 ≤ b ∧ b < 0xFF_0400 then msixWrite ((b - 0xFF_0000) / 4) v s
  else s

/-- BAR0_ACCESS (R307 to R309). -/
def execBar0Access (a : BarAccess) (s : State) : Host.Outcome State Fault Refusal :=
  .next (when (hifOn s) (fun s =>
    match a with
    | .read b =>
      let s := emit (.completion true [bar0Value s (b / 4 * 4)]) s
      if b < 0x60_0000 then readEffect (b / 4) s else s
    | .write b v covered => if covered then bar0Write (b / 4 * 4) v s else s) s)

/-! ### BAR2 (R310 to R312) -/

/-- The fabric address of a dword at byte offset b of window k. -/
def winAddr (s : State) (k b : Nat) : Nat :=
  2 ^ 36 * getF s (fHIF_WINA_NODE k) + 2 ^ 32 * getF s (fHIF_WINA_SPACE k) +
    (2 ^ 20 * getF s (fHIF_WINB_BASE k) + b / 4) % 2 ^ 32

/-- Runs of consecutive covered dwords, each with its first index (R307). -/
def coveredRuns : Nat → List (Option Word) → List (Nat × List Word)
  | _, [] => []
  | i, none :: t => coveredRuns (i + 1) t
  | i, some w :: t =>
    match coveredRuns (i + 1) t with
    | (j, ws) :: r => if j = i + 1 then (i, w :: ws) :: r else (i, [w]) :: (j, ws) :: r
    | [] => [(i, [w])]

/-- BAR2_WRITE (R311): `data` names a dword whose byte enables do not cover its word as none. Through a closed window the
write is reported as if it had failed at the target. -/
def execBar2Write (k b : Nat) (data : List (Option Word)) (ecc : Ecc) (s : State) : Host.Outcome State Fault Refusal :=
  unit (k < 64) (when (hifOn s) (fun s =>
    if flag s (fHIF_WINA_EN k) && flag s (fHIF_WINA_WR_EN k) then
      (coveredRuns 0 data).foldl (fun t r => hostWriteWords (winAddr t k b + r.1) (winTag t k) r.2 ecc t) s
    else writeError (nodeId s) (winTag s k) (winAddr s k b) cDENIED s) s)

/-- BAR2_READ (R312): what the read holds is completed by BAR2_READ_COMPLETE or RD_LIMIT_EXPIRY. -/
def execBar2Read (k b n : Nat) (ecc : List (Nat × Ecc)) (s : State) : Host.Outcome State Fault Refusal :=
  unit (k < 64) (when (hifOn s) (fun s =>
    let id := s.hif.nextRead
    let s := setRead id (some ⟨k, n, s.clk, [], n, none⟩) { s with hif := { s.hif with nextRead := id + 1 } }
    if flag s (fHIF_WINA_EN k) then hostReadWords (.bar2 id) (winAddr s k b) n ecc s
    else readFails (.bar2 id) cDENIED s) s)

/-! ### READ and WRITE descriptors (R317) -/

/-- DMA_READ (R317): the oldest READ of a ring that has not been issued. -/
def execDmaRead (sq : Nat) (ecc : List (Nat × Ecc)) (s : State) : Host.Outcome State Fault Refusal :=
  unit (sq < 12) (
    match (getSq s sq).descs.find? (fun d => d.op == 1 && d.fin.isNone && !d.issued) with
    | some d =>
      if hifOn s then hostReadWords (.dma sq d.id) d.addr d.count ecc (setDesc sq { d with issued := true } s) else s
    | none => s)

/-- DMA_WRITE (R317): the data of the oldest WRITE of a ring have come; it is handed on and completes DONE. -/
def execDmaWrite (sq : Nat) (data : List Word) (ecc : Ecc) (s : State) : Host.Outcome State Fault Refusal :=
  unit (sq < 12) (
    match (getSq s sq).descs.find? (fun d => d.op == 2 && d.issued && d.fin.isNone) with
    | some d =>
      if hifOn s then
        let ws := (List.range d.count).map (fun i => data.getD i 0)
        endDesc sq d 1 0 0 (hostWriteWords d.addr (dmaTag s sq d.htag) ws ecc s)
      else s
    | none => s)

/-! ### The link (R332, R532) -/

/-- Rings and windows are disabled. -/
def disableBridge (s : State) : State :=
  let s := (List.range 12).foldl (fun t i => setF (fHIF_SQ_CFG_EN i) 0 (setF (fHIF_CQ_CFG_EN i) 0 t)) s
  (List.range 64).foldl (fun t k => setF (fHIF_WINA_EN k) 0 t) s

/-- Descriptors not handed on and reads in progress are abandoned; what still comes for them is counted in
HIF_DFR_DROP. -/
def abandonHost (s : State) : State :=
  let s := (List.range 12).foldl (fun t q => setSq q Sq.init (flushQ (40 + q) t)) s
  { s with
    hif := { s.hif with reads := [], cqWait := [] }
    ring := { s.ring with readTags := s.ring.readTags.map (fun e =>
      (e.1, e.2.map (fun r => { r with who := ReadFor.dma 12 0 }))) } }

/-- The configuration space as the PCI Express reset leaves it. -/
def resetConfig (s : State) : State :=
  setF fHIF_STATUS_D3 0 { s with hif := { s.hif with
    cfg := [], msix := [], msixEn := false, msixMask := false, msiEn := false } }

/-- PCIE_LINK_RESET (R332). -/
def execPcieLinkReset (kind : LinkReset) (s : State) : Host.Outcome State Fault Refusal :=
  .next (when (hifOn s && flag s fHIF_STATUS_LINK_UP) (fun s =>
    let s := { s with hif := { s.hif with hostGone := s.hif.hostGone || bridgeOn s } }
    let s := closeSession 0 (resetConfig (abandonHost (disableBridge s)))
    let down := fun s => setF fHIF_STATUS_LINK_UP 0 (setF fHIF_STATUS_SPEED 0 (setF fHIF_STATUS_WIDTH 0 s))
    match kind with
    | .linkDown => raise 576 (down s)
    | .hotReset => down s
    | .flr => s) s)

/-- PCIE_LINK_UP (R304, R532). -/
def execPcieLinkUp (speed width : Nat) (s : State) : Host.Outcome State Fault Refusal :=
  .next (when (hifOn s && s.hif.perst && flag s fGLB_STRAP_PCIE && !s.boot.coreReset &&
      1 ≤ speed && speed ≤ 4 && (width == 1 || width == 2 || width == 4)) (fun s =>
    setF fHIF_STATUS_LINK_UP 1 (setF fHIF_STATUS_SPEED speed (setF fHIF_STATUS_WIDTH width s))) s)

/-! ### Configuration space (R305, R306) -/

/-- A BAR's dword as it reads: its writable bits, and 0b100 for a 64-bit one. -/
def barBits (i v : Nat) : Nat :=
  if i = 4 then 2 ^ 24 * (v / 2 ^ 24) + 4
  else if i = 6 then 2 ^ 28 * (v / 2 ^ 28) + 4
  else if i = 5 ∨ i = 7 then v
  else 0

/-- A dword of the configuration space that the spec states: identity, class code, BARs, subsystem, and the unit tag in the
Device Serial Number capability (R305, R306); none otherwise. -/
def cfgDword (s : State) (i : Nat) : Option (BitVec 32) :=
  let held := (tget (fun _ => 0) s.hif.cfg i).toNat
  if i = 0 then some (BitVec.ofNat 32 (getF s fGLB_ID1_PCI_VID + 2 ^ 16 * 0x9624))
  else if 4 ≤ i ∧ i < 10 then some (BitVec.ofNat 32 (barBits i held))
  else if 64 ≤ i && i = Config.serialAt + 1 then some (BitVec.ofNat 32 (unitTag s))
  else if 64 ≤ i && i = Config.serialAt + 2 then some (BitVec.ofNat 32 (unitTag s / 2 ^ 32))
  else if i = 11 then some (BitVec.ofNat 32 (getF s fGLB_ID1_PCI_VID + 2 ^ 16 * getF s fGLB_ID0_HWTYPE))
  else none

/-- A configuration read: a dword of the class code holds a free revision, and any other dword is free (log 3). -/
def cfgRead (i : Nat) (s : State) : State :=
  match cfgDword s i with
  | some v => emit (.completion true [v]) s
  | none =>
    let v := if i = 2 then 0x118000 * 256 + freeVal s 256 else freeVal s (2 ^ 32)
    drawn (emit (.completion true [BitVec.ofNat 32 v]) s)

/-- Vectors whose message is pending are sent where nothing masks them (R325). -/
def sendAllPending (s : State) : State := (List.range 64).foldl (fun t v => sendPending v t) s

/-- A configuration request is carried out. -/
def cfgRequest (c : CfgRequest) (s : State) : State :=
  match c with
  | .powerState d3 => setF fHIF_STATUS_D3 (bit d3) s
  | .msixControl en mask => sendAllPending { s with hif := { s.hif with msixEn := en, msixMask := mask } }
  | .msiControl en => { s with hif := { s.hif with msiEn := en } }
  | .write i v => { s with hif := { s.hif with cfg := tset (fun _ => 0) i v s.hif.cfg } }
  | .read i => cfgRead i s

/-- CONFIG_REQUEST (R532): retry status until the hub is ready. -/
def execConfigRequest (c : CfgRequest) (s : State) : Host.Outcome State Fault Refusal :=
  .next (when (hifOn s && !s.boot.coreReset) (fun s => if s.hif.ready then cfgRequest c s else emit .retryStatus s) s)

end Sys2Proof.Machine
end

