-- ==== Sys2Proof/Machine/Dispatch.lean ====
section
/-! DEFINITION. One arm per command of spec/opcode_table.json: each calls that command's meaning. -/

namespace Sys2Proof.Machine

/-- The effect of one command on everything but the queue. -/
def exec (i : Instr) (s : State) : Host.Outcome State Fault Refusal :=
  match i with
  | .registerWrite by_ off v => Sys2Proof.Machine.execRegisterWrite by_ off v s
  | .rcRead off => Sys2Proof.Machine.execRcRead off s
  | .rtmTimeRead => Sys2Proof.Machine.execRtmTimeRead s
  | .cntLoRead k => Sys2Proof.Machine.execCntLoRead k s
  | .pairedWrite by_ off v => Sys2Proof.Machine.execPairedWrite by_ off v s
  | .pairExpiry off => Sys2Proof.Machine.execPairExpiry off s
  | .stkStaleLimWrite by_ n v => Sys2Proof.Machine.execStkStaleLimWrite by_ n v s
  | .scrubVisit ecc => Sys2Proof.Machine.execScrubVisit ecc s
  | .scrubPassEnd => Sys2Proof.Machine.execScrubPassEnd s
  | .catalogueReload p => Sys2Proof.Machine.execCatalogueReload p s
  | .stkCopyStart by_ v => Sys2Proof.Machine.execStkCopyStart by_ v s
  | .bankCopyDone bad => Sys2Proof.Machine.execBankCopyDone bad s
  | .stkCopyAbort by_ v => Sys2Proof.Machine.execStkCopyAbort by_ v s
  | .stkBankMapWrite by_ v => Sys2Proof.Machine.execStkBankMapWrite by_ v s
  | .bankMapNocopy by_ v => Sys2Proof.Machine.execBankMapNocopy by_ v s
  | .alarmCheck => Sys2Proof.Machine.execAlarmCheck s
  | .scanCycleDue n k => Sys2Proof.Machine.execScanCycleDue n k s
  | .pollTransaction n r shadowDiffers => Sys2Proof.Machine.execPollTransaction n r shadowDiffers s
  | .attemptTimeout n => Sys2Proof.Machine.execAttemptTimeout n s
  | .unsolicitedInput n u => Sys2Proof.Machine.execUnsolicitedInput n u s
  | .housekeepingStep n h => Sys2Proof.Machine.execHousekeepingStep n h s
  | .commandItem n r => Sys2Proof.Machine.execCommandItem n r s
  | .portDown n busLost => Sys2Proof.Machine.execPortDown n busLost s
  | .portUp n => Sys2Proof.Machine.execPortUp n s
  | .holdTimerExpiry n => Sys2Proof.Machine.execHoldTimerExpiry n s
  | .itemLimitExpiry e => Sys2Proof.Machine.execItemLimitExpiry e s
  | .engineStoreError e ecc => Sys2Proof.Machine.execEngineStoreError e ecc s
  | .clkEngRun by_ e run => Sys2Proof.Machine.execClkEngRun by_ e run s
  | .clkEngBindWrite e v => Sys2Proof.Machine.execClkEngBindWrite e v s
  | .clkPinselWrite by_ n g => Sys2Proof.Machine.execClkPinselWrite by_ n g s
  | .engineHandover n => Sys2Proof.Machine.execEngineHandover n s
  | .placeRebind n => Sys2Proof.Machine.execPlaceRebind n s
  | .rebindComplete n busLost => Sys2Proof.Machine.execRebindComplete n busLost s
  | .i2cBusTest n low0 low1 low2 => Sys2Proof.Machine.execI2cBusTest n low0 low1 low2 s
  | .discreteEdge line level => Sys2Proof.Machine.execDiscreteEdge line level s
  | .debounceStable line level => Sys2Proof.Machine.execDebounceStable line level s
  | .dioRefresh differ => Sys2Proof.Machine.execDioRefresh differ s
  | .dioCommand line => Sys2Proof.Machine.execDioCommand line s
  | .dioReadback line pin => Sys2Proof.Machine.execDioReadback line pin s
  | .pwmPeriodBoundary line => Sys2Proof.Machine.execPwmPeriodBoundary line s
  | .dioWdogKick by_ v => Sys2Proof.Machine.execDioWdogKick by_ v s
  | .dioWdogExpiry => Sys2Proof.Machine.execDioWdogExpiry s
  | .dioLineConfig by_ line cfg par => Sys2Proof.Machine.execDioLineConfig by_ line cfg par s
  | .dioSpareStandin by_ k line => Sys2Proof.Machine.execDioSpareStandin by_ k line s
  | .dioSpareReturn by_ k => Sys2Proof.Machine.execDioSpareReturn by_ k s
  | .anaWindowEnd ch volts => Sys2Proof.Machine.execAnaWindowEnd ch volts s
  | .anaChcfgWrite by_ ch v => Sys2Proof.Machine.execAnaChcfgWrite by_ ch v s
  | .openSensorCheck ch ohms => Sys2Proof.Machine.execOpenSensorCheck ch ohms s
  | .converterFault cv cause => Sys2Proof.Machine.execConverterFault cv cause s
  | .rotationStep => Sys2Proof.Machine.execRotationStep s
  | .rotationCheckEnd short ref offset gain => Sys2Proof.Machine.execRotationCheckEnd short ref offset gain s
  | .rotationStall => Sys2Proof.Machine.execRotationStall s
  | .steerStart by_ ch cv => Sys2Proof.Machine.execSteerStart by_ ch cv s
  | .steerSwitch ch pairs => Sys2Proof.Machine.execSteerSwitch ch pairs s
  | .audioPllUnlock => Sys2Proof.Machine.execAudioPllUnlock s
  | .referenceFault => Sys2Proof.Machine.execReferenceFault s
  | .portEnable by_ p en => Sys2Proof.Machine.execPortEnable by_ p en s
  | .retrain by_ p => Sys2Proof.Machine.execRetrain by_ p s
  | .trainingComplete p r => Sys2Proof.Machine.execTrainingComplete p r s
  | .detectionRetry p => Sys2Proof.Machine.execDetectionRetry p s
  | .infoFieldRx p info => Sys2Proof.Machine.execInfoFieldRx p info s
  | .linkDown p c => Sys2Proof.Machine.execLinkDown p c s
  | .linkUp p => Sys2Proof.Machine.execLinkUp p s
  | .linkDegraded p margin corrected uncorrectable => Sys2Proof.Machine.execLinkDegraded p margin corrected uncorrectable s
  | .keepaliveShift p => Sys2Proof.Machine.execKeepaliveShift p s
  | .keepaliveExit p fast => Sys2Proof.Machine.execKeepaliveExit p fast s
  | .moduleInserted p id => Sys2Proof.Machine.execModuleInserted p id s
  | .moduleFault p absent => Sys2Proof.Machine.execModuleFault p absent s
  | .ddmPoll p r => Sys2Proof.Machine.execDdmPoll p r s
  | .opticalLinkUp p => Sys2Proof.Machine.execOpticalLinkUp p s
  | .irStart p written => Sys2Proof.Machine.execIrStart p written s
  | .irGuardRetry p => Sys2Proof.Machine.execIrGuardRetry p s
  | .irComplete p kohm => Sys2Proof.Machine.execIrComplete p kohm s
  | .irHourRollover => Sys2Proof.Machine.execIrHourRollover s
  | .tdrStart by_ p v => Sys2Proof.Machine.execTdrStart by_ p v s
  | .tdrSilence p quiet => Sys2Proof.Machine.execTdrSilence p quiet s
  | .tdrComplete p refl => Sys2Proof.Machine.execTdrComplete p refl s
  | .quietReceived p => Sys2Proof.Machine.execQuietReceived p s
  | .quietTimeout p => Sys2Proof.Machine.execQuietTimeout p s
  | .bypHoldEnWrite by_ x v => Sys2Proof.Machine.execBypHoldEnWrite by_ x v s
  | .selfTrainDone x rateE rateW => Sys2Proof.Machine.execSelfTrainDone x rateE rateW s
  | .selfTrainFail x => Sys2Proof.Machine.execSelfTrainFail x s
  | .bypassSettle x sense => Sys2Proof.Machine.execBypassSettle x sense s
  | .autoDrop x => Sys2Proof.Machine.execAutoDrop x s
  | .frameTransit p f => Sys2Proof.Machine.execFrameTransit p f s
  | .egressFrameEnd p => Sys2Proof.Machine.execEgressFrameEnd p s
  | .sweep => Sys2Proof.Machine.execSweep s
  | .timeSync => Sys2Proof.Machine.execTimeSync s
  | .timeAnnounce => Sys2Proof.Machine.execTimeAnnounce s
  | .ack => Sys2Proof.Machine.execAck s
  | .nak => Sys2Proof.Machine.execNak s
  | .beacon => Sys2Proof.Machine.execBeacon s
  | .editionMismatchCheck p => Sys2Proof.Machine.execEditionMismatchCheck p s
  | .controlOpen => Sys2Proof.Machine.execControlOpen s
  | .controlCommand => Sys2Proof.Machine.execControlCommand s
  | .controlResponse => Sys2Proof.Machine.execControlResponse s
  | .controlClose => Sys2Proof.Machine.execControlClose s
  | .replayReq => Sys2Proof.Machine.execReplayReq s
  | .event => Sys2Proof.Machine.execEvent s
  | .dfr => Sys2Proof.Machine.execDfr s
  | .evtMark => Sys2Proof.Machine.execEvtMark s
  | .replayGone => Sys2Proof.Machine.execReplayGone s
  | .readReq ecc => Sys2Proof.Machine.execReadReq ecc s
  | .readResp => Sys2Proof.Machine.execReadResp s
  | .readErr => Sys2Proof.Machine.execReadErr s
  | .readRetry => Sys2Proof.Machine.execReadRetry s
  | .write ecc => Sys2Proof.Machine.execWrite ecc s
  | .bulkData => Sys2Proof.Machine.execBulkData s
  | .bulkAck => Sys2Proof.Machine.execBulkAck s
  | .bulkAbort => Sys2Proof.Machine.execBulkAbort s
  | .dlyReq p sq turnaround => Sys2Proof.Machine.execDlyReq p sq turnaround s
  | .dlyResp p sq turnaround elapsed => Sys2Proof.Machine.execDlyResp p sq turnaround elapsed s
  | .delayMeasureTimer p => Sys2Proof.Machine.execDelayMeasureTimer p s
  | .ackTimeout cls sq => Sys2Proof.Machine.execAckTimeout cls sq s
  | .evtMarkTimer dest cls => Sys2Proof.Machine.execEvtMarkTimer dest cls s
  | .replayWaitExpiry src bcast cls => Sys2Proof.Machine.execReplayWaitExpiry src bcast cls s
  | .beaconTimer => Sys2Proof.Machine.execBeaconTimer s
  | .beaconReturnTimeout x => Sys2Proof.Machine.execBeaconReturnTimeout x s
  | .seedingEnd x => Sys2Proof.Machine.execSeedingEnd x s
  | .bulkAckTimer src tid => Sys2Proof.Machine.execBulkAckTimer src tid s
  | .bulkProgressTimeout tid opened => Sys2Proof.Machine.execBulkProgressTimeout tid opened s
  | .bulkTimeout tid => Sys2Proof.Machine.execBulkTimeout tid s
  | .sweepSlot entry ecc => Sys2Proof.Machine.execSweepSlot entry ecc s
  | .sweepLostCheck node group => Sys2Proof.Machine.execSweepLostCheck node group s
  | .timeSyncTimer => Sys2Proof.Machine.execTimeSyncTimer s
  | .timeAnnounceTimer => Sys2Proof.Machine.execTimeAnnounceTimer s
  | .grandmasterTimeout => Sys2Proof.Machine.execGrandmasterTimeout s
  | .syncHoldover => Sys2Proof.Machine.execSyncHoldover s
  | .offsetAlarm => Sys2Proof.Machine.execOffsetAlarm s
  | .ppsInEdge => Sys2Proof.Machine.execPpsInEdge s
  | .ppsMissed => Sys2Proof.Machine.execPpsMissed s
  | .ppsOutPulse => Sys2Proof.Machine.execPpsOutPulse s
  | .couplerCreditWait toFar => Sys2Proof.Machine.execCouplerCreditWait toFar s
  | .queuePush qs words => Sys2Proof.Machine.execQueuePush qs words s
  | .queuePushResume q => Sys2Proof.Machine.execQueuePushResume q s
  | .queuePop q chk copies => Sys2Proof.Machine.execQueuePop q chk copies s
  | .cellPatrolVisit cell bad linkBad => Sys2Proof.Machine.execCellPatrolVisit cell bad linkBad s
  | .descriptorStarve => Sys2Proof.Machine.execDescriptorStarve s
  | .swqLimitWrite by_ off v => Sys2Proof.Machine.execSwqLimitWrite by_ off v s
  | .queueRebuild kept => Sys2Proof.Machine.execQueueRebuild kept s
  | .bar0Access a => Sys2Proof.Machine.execBar0Access a s
  | .bar2Write k b data ecc => Sys2Proof.Machine.execBar2Write k b data ecc s
  | .bar2Read k b n ecc => Sys2Proof.Machine.execBar2Read k b n ecc s
  | .bar2ReadComplete id => Sys2Proof.Machine.execBar2ReadComplete id s
  | .rdLimitExpiry id => Sys2Proof.Machine.execRdLimitExpiry id s
  | .sqTailDoorbell sq v => Sys2Proof.Machine.execSqTailDoorbell sq v s
  | .descriptorFetched sq bytes => Sys2Proof.Machine.execDescriptorFetched sq bytes s
  | .dmaRead sq ecc => Sys2Proof.Machine.execDmaRead sq ecc s
  | .dmaWrite sq data ecc => Sys2Proof.Machine.execDmaWrite sq data ecc s
  | .dmaFetch sq => Sys2Proof.Machine.execDmaFetch sq s
  | .fetchWaitResume sq => Sys2Proof.Machine.execFetchWaitResume sq s
  | .dmaFence sq => Sys2Proof.Machine.execDmaFence sq s
  | .dmaHostReadFail sq descriptor hostErr => Sys2Proof.Machine.execDmaHostReadFail sq descriptor hostErr s
  | .cqHeadDoorbell c v => Sys2Proof.Machine.execCqHeadDoorbell c v s
  | .cqSignal c => Sys2Proof.Machine.execCqSignal c s
  | .cqFullTimeout c => Sys2Proof.Machine.execCqFullTimeout c s
  | .msixUnmask vec => Sys2Proof.Machine.execMsixUnmask vec s
  | .pcieLinkReset kind => Sys2Proof.Machine.execPcieLinkReset kind s
  | .pcieError kind => Sys2Proof.Machine.execPcieError kind s
  | .pciePerstRelease => Sys2Proof.Machine.execPciePerstRelease s
  | .deskWrite first words ecc => Sys2Proof.Machine.execDeskWrite first words ecc s
  | .deskRead first n ecc => Sys2Proof.Machine.execDeskRead first n ecc s
  | .ep2OutTransfer bytes ecc => Sys2Proof.Machine.execEp2OutTransfer bytes ecc s
  | .ep2InTransfer ecc => Sys2Proof.Machine.execEp2InTransfer ecc s
  | .ep1Notification ecc => Sys2Proof.Machine.execEp1Notification ecc s
  | .usbBusReset high upstream => Sys2Proof.Machine.execUsbBusReset high upstream s
  | .usbSetup r => Sys2Proof.Machine.execUsbSetup r s
  | .usbSuspend => Sys2Proof.Machine.execUsbSuspend s
  | .usbResume hostK => Sys2Proof.Machine.execUsbResume hostK s
  | .remoteWake src => Sys2Proof.Machine.execRemoteWake src s
  | .remoteWakeTimeout => Sys2Proof.Machine.execRemoteWakeTimeout s
  | .vbusLost => Sys2Proof.Machine.execVbusLost s
  | .usbConnect by_ connect => Sys2Proof.Machine.execUsbConnect by_ connect s
  | .usbReattach by_ => Sys2Proof.Machine.execUsbReattach by_ s
  | .reattachTimer => Sys2Proof.Machine.execReattachTimer s
  | .usbOverCurrent n lowAt => Sys2Proof.Machine.execUsbOverCurrent n lowAt s
  | .setPortPower n ocHigh => Sys2Proof.Machine.execSetPortPower n ocHigh s
  | .setInterface alt => Sys2Proof.Machine.execSetInterface alt s
  | .setCurFrequency hz => Sys2Proof.Machine.execSetCurFrequency hz s
  | .clearEndpointHalt e => Sys2Proof.Machine.execClearEndpointHalt e s
  | .isoPacketMissed => Sys2Proof.Machine.execIsoPacketMissed s
  | .lockstepMismatch => Sys2Proof.Machine.execLockstepMismatch s
  | .coreSelftestEnd failA failB => Sys2Proof.Machine.execCoreSelftestEnd failA failB s
  | .restartPoint => Sys2Proof.Machine.execRestartPoint s
  | .deskAreaWrite d u v => Sys2Proof.Machine.execDeskAreaWrite d u v s
  | .deskDoorbell d => Sys2Proof.Machine.execDeskDoorbell d s
  | .deskDone d => Sys2Proof.Machine.execDeskDone d s
  | .sessionIdleTimeout d => Sys2Proof.Machine.execSessionIdleTimeout d s
  | .identify d => Sys2Proof.Machine.execIdentify d s
  | .sessionClose d => Sys2Proof.Machine.execSessionClose d s
  | .lock d => Sys2Proof.Machine.execLock d s
  | .unlock d => Sys2Proof.Machine.execUnlock d s
  | .stageOpen d => Sys2Proof.Machine.execStageOpen d s
  | .stageCommit d flashOk => Sys2Proof.Machine.execStageCommit d flashOk s
  | .stageClose d flashOk => Sys2Proof.Machine.execStageClose d flashOk s
  | .stageAbort d => Sys2Proof.Machine.execStageAbort d s
  | .editionArm d => Sys2Proof.Machine.execEditionArm d s
  | .editionDisarm d => Sys2Proof.Machine.execEditionDisarm d s
  | .armLock => Sys2Proof.Machine.execArmLock s
  | .editionActivateNow d flashOk => Sys2Proof.Machine.execEditionActivateNow d flashOk s
  | .editionStatus d => Sys2Proof.Machine.execEditionStatus d s
  | .groupList d => Sys2Proof.Machine.execGroupList d s
  | .pointForce d => Sys2Proof.Machine.execPointForce d s
  | .pointRelease d => Sys2Proof.Machine.execPointRelease d s
  | .spareSwap d => Sys2Proof.Machine.execSpareSwap d s
  | .unitReturn d passed offset gain => Sys2Proof.Machine.execUnitReturn d passed offset gain s
  | .powerState d => Sys2Proof.Machine.execPowerState d s
  | .volumeStatus d => Sys2Proof.Machine.execVolumeStatus d s
  | .volumeArm d => Sys2Proof.Machine.execVolumeArm d s
  | .volumeCommit d flashOk => Sys2Proof.Machine.execVolumeCommit d flashOk s
  | .volumeFallback d => Sys2Proof.Machine.execVolumeFallback d s
  | .settingsGet d => Sys2Proof.Machine.execSettingsGet d s
  | .settingsSet d flashOk => Sys2Proof.Machine.execSettingsSet d flashOk s
  | .timeSet d => Sys2Proof.Machine.execTimeSet d s
  | .timeEpoch d flashOk => Sys2Proof.Machine.execTimeEpoch d flashOk s
  | .restart d => Sys2Proof.Machine.execRestart d s
  | .editionActivation flashOk => Sys2Proof.Machine.execEditionActivation flashOk s
  | .lateActivation flashOk => Sys2Proof.Machine.execLateActivation flashOk s
  | .feedStateChange x v held => Sys2Proof.Machine.execFeedStateChange x v held s
  | .feedQualified x vfeed vnode => Sys2Proof.Machine.execFeedQualified x vfeed vnode s
  | .oringReverse x vin bus => Sys2Proof.Machine.execOringReverse x vin bus s
  | .oringFetFault x vx vother bus held => Sys2Proof.Machine.execOringFetFault x vx vother bus held s
  | .nodePhaseChange vfeed vnode enhanced => Sys2Proof.Machine.execNodePhaseChange vfeed vnode enhanced s
  | .nodeTrip vfeed vnode sense held => Sys2Proof.Machine.execNodeTrip vfeed vnode sense held s
  | .nodeRetry => Sys2Proof.Machine.execNodeRetry s
  | .feedWarnAssert vnode held => Sys2Proof.Machine.execFeedWarnAssert vnode held s
  | .feedWarnRelease vnode held => Sys2Proof.Machine.execFeedWarnRelease vnode held s
  | .fscCheckEnd n m => Sys2Proof.Machine.execFscCheckEnd n m s
  | .fscRampStart n m => Sys2Proof.Machine.execFscRampStart n m s
  | .fscOn n m enhanced => Sys2Proof.Machine.execFscOn n m enhanced s
  | .fscTrip n cause m held => Sys2Proof.Machine.execFscTrip n cause m held s
  | .fscRetryExpiry n => Sys2Proof.Machine.execFscRetryExpiry n s
  | .fscClearTimer n => Sys2Proof.Machine.execFscClearTimer n s
  | .fscProbe n m => Sys2Proof.Machine.execFscProbe n m s
  | .fscRemoval n pin m held => Sys2Proof.Machine.execFscRemoval n pin m held s
  | .fscReinsertion n => Sys2Proof.Machine.execFscReinsertion n s
  | .fscDebounceEnd n => Sys2Proof.Machine.execFscDebounceEnd n s
  | .fscFetShort n m held => Sys2Proof.Machine.execFscFetShort n m held s
  | .fscEnWrite by_ n en => Sys2Proof.Machine.execFscEnWrite by_ n en s
  | .fscUnlatch by_ n m => Sys2Proof.Machine.execFscUnlatch by_ n m s
  | .fscHoldBegin n c vin => Sys2Proof.Machine.execFscHoldBegin n c vin s
  | .fscHoldEnd n c vin => Sys2Proof.Machine.execFscHoldEnd n c vin s
  | .pwrReqGo by_ v => Sys2Proof.Machine.execPwrReqGo by_ v s
  | .drainComplete => Sys2Proof.Machine.execDrainComplete s
  | .drainTimeout => Sys2Proof.Machine.execDrainTimeout s
  | .pwrDomOffWrite by_ v => Sys2Proof.Machine.execPwrDomOffWrite by_ v s
  | .wakeEvent active failed => Sys2Proof.Machine.execWakeEvent active failed s
  | .pllLockTimeout refclk => Sys2Proof.Machine.execPllLockTimeout refclk s
  | .domainAckTimeout dom => Sys2Proof.Machine.execDomainAckTimeout dom s
  | .nightOrder => Sys2Proof.Machine.execNightOrder s
  | .orderResend => Sys2Proof.Machine.execOrderResend s
  | .xtalStop => Sys2Proof.Machine.execXtalStop s
  | .faultRaise => Sys2Proof.Machine.execFaultRaise s
  | .fltFirstClear => Sys2Proof.Machine.execFltFirstClear s
  | .fltForceWrite by_ word v => Sys2Proof.Machine.execFltForceWrite by_ word v s
  | .cntClearAll => Sys2Proof.Machine.execCntClearAll s
  | .cntClr k v => Sys2Proof.Machine.execCntClr k v s
  | .wearHourCheck => Sys2Proof.Machine.execWearHourCheck s
  | .rowReplace a row => Sys2Proof.Machine.execRowReplace a row s
  | .ringbStandin ph => Sys2Proof.Machine.execRingbStandin ph s
  | .twinHello => Sys2Proof.Machine.execTwinHello s
  | .twinHelloTimer => Sys2Proof.Machine.execTwinHelloTimer s
  | .twinPeerLost => Sys2Proof.Machine.execTwinPeerLost s
  | .claimRound others => Sys2Proof.Machine.execClaimRound others s
  | .twinHandover => Sys2Proof.Machine.execTwinHandover s
  | .twinHandoverOk => Sys2Proof.Machine.execTwinHandoverOk s
  | .twinCancel => Sys2Proof.Machine.execTwinCancel s
  | .twinHandoverReq by_ => Sys2Proof.Machine.execTwinHandoverReq by_ s
  | .handoverPrepare => Sys2Proof.Machine.execHandoverPrepare s
  | .handoverTime => Sys2Proof.Machine.execHandoverTime s
  | .twinClaimIdle => Sys2Proof.Machine.execTwinClaimIdle s
  | .twinRotation => Sys2Proof.Machine.execTwinRotation s
  | .twinBothActive => Sys2Proof.Machine.execTwinBothActive s
  | .epochRollover p => Sys2Proof.Machine.execEpochRollover p s
  | .epochKeyReady p => Sys2Proof.Machine.execEpochKeyReady p s
  | .trngFail => Sys2Proof.Machine.execTrngFail s
  | .unlockToken bytes => Sys2Proof.Machine.execUnlockToken bytes s
  | .debugExpiry => Sys2Proof.Machine.execDebugExpiry s
  | .volumeSwitch => Sys2Proof.Machine.execVolumeSwitch s
  | .volumeHealthy => Sys2Proof.Machine.execVolumeHealthy s
  | .trialDeadline => Sys2Proof.Machine.execTrialDeadline s
  | .aonWatchdogExpiry => Sys2Proof.Machine.execAonWatchdogExpiry s
  | .aonReset inTolerance => Sys2Proof.Machine.execAonReset inTolerance s
  | .coreReset c => Sys2Proof.Machine.execCoreReset c s
  | .coreResetRelease straps cores flashOk => Sys2Proof.Machine.execCoreResetRelease straps cores flashOk s
  | .archivistStart => Sys2Proof.Machine.execArchivistStart s
  | .fieldStartTimer => Sys2Proof.Machine.execFieldStartTimer s
  | .vbusDetected => Sys2Proof.Machine.execVbusDetected s
  | .readReissue tag => Sys2Proof.Machine.execReadReissue tag s
  | .pcieLinkUp speed width => Sys2Proof.Machine.execPcieLinkUp speed width s
  | .configRequest c => Sys2Proof.Machine.execConfigRequest c s
  | .audioPllLock => Sys2Proof.Machine.execAudioPllLock s
  | .referenceRestored => Sys2Proof.Machine.execReferenceRestored s
  | .trngHealthy => Sys2Proof.Machine.execTrngHealthy s
  | .isoInPacket ecc3 ecc4 => Sys2Proof.Machine.execIsoInPacket ecc3 ecc4 s
  | .streamSample volts => Sys2Proof.Machine.execStreamSample volts s

end Sys2Proof.Machine
end

