-- ==== Sys2Proof/Machine/Tick.lean ====
section
/-! DEFINITION. What passes with time alone: a tick of 1 us of the hub's own time (log 2), with ring time, the counters of
time and of full queues (R475), the token bucket (R293) and what is owed at a block's stop (R381). -/

namespace Sys2Proof.Machine

/-- Nanoseconds of a tick. -/
def tickNs : Nat := 1000

/-- Switch core clock cycles of a tick at 781.25 MHz, the quarters of a cycle left over being carried. -/
def tickCycles (s : State) : Nat := (s.cyc + 3125) / 4

/-- The queues that some enabled counter of group 4 selects. -/
def watchedQueues (s : State) : List Nat :=
  s.regs.foldl (fun l e =>
    if 0x1_0100 ≤ e.1 && e.1 < 0x1_0140 && bitsOf e.2.toNat 0 4 == 4 && bitsOf e.2.toNat 16 1 == 1 then
      insSet (bitsOf e.2.toNat 4 8) l else l) []

/-- Each clock cycle of a FULL queue is counted (R475). -/
def countFull (n : Nat) (s : State) : State :=
  (watchedQueues s).foldl (fun t q => if queueFull t q then countEv 4 q n t else t) s

/-- The token bucket fills at SWQ_SHAPE.RATE, in 100 kbit/s, up to 16 KiB (R293). -/
def fillBucket (s : State) : State :=
  let rate := getF s fSWQ_SHAPE_RATE
  let more := rate * (s.clk + tickNs) / 10000 - rate * s.clk / 10000
  { s with swq := { s.swq with tokens := min 131072 (s.swq.tokens + more) } }

/-- What happens in the microsecond: tokens, information fields every 1 ms (R190), and the counters of time. -/
def tickWork (s : State) : State :=
  let n := tickCycles s
  let s := if (s.clk + tickNs) / 1000000 = s.clk / 1000000 then s else sendInfos s
  let s := countEv 9 0 1 (fillBucket s)
  if domOn s 3 then countFull n (countEv 9 1 n s) else s

/-- What is due once it has passed. -/
def tickDue (s : State) : State := releaseItems (scrubWatch (noteNotif (applyOwed s)))

/-- How far ring time runs in a tick, in 2^-20 ns, with what was left over: 1 us at the frequency steered (R266). -/
def ringRun (s : State) : Nat := ((s.rtime.frac : Int) + s.rtime.steer + 2 ^ 20 * tickNs).toNat

/-- 1 us passes. -/
def tick (s : State) : State :=
  let s := tickWork s
  tickDue { s with
    clk := s.clk + tickNs
    ringNs := (s.ringNs + ringRun s / 2 ^ 20) % 2 ^ 64
    rtime := { s.rtime with frac := ringRun s % 2 ^ 20 }
    cyc := (s.cyc + 3125) % 4 }

end Sys2Proof.Machine
end

