-- ==== Sys2Proof/WellFormed.lean ====
section
/-! DEFINITION. Which commands are well formed: every index names a unit that the part has, and every length and code lies
in the range that the spec gives it. -/

namespace Sys2Proof

/-- A fabric initiator's node ID has 12 bits (R22). -/
def Writer.ok : Writer → Bool
  | .host => true
  | .fabric node => node < 4096
  | .steward => true

/-- A check names points of the archive (R40). -/
def eccOk (ecc : List (Nat × Ecc)) : Bool := ecc.all (fun e => e.1 < 1048576)

/-- BAR0 spans 16 MiB (R306). -/
def BarAccess.ok : BarAccess → Bool
  | .read b => b < 0x100_0000
  | .write b _ _ => b < 0x100_0000

/-- A command is well formed. -/
def Instr.wf : Instr → Bool
  | .registerWrite by_ _ _ => by_.ok
  | .rcRead _ => true
  | .rtmTimeRead => true
  | .cntLoRead k => k < 64
  | .pairedWrite by_ _ _ => by_.ok
  | .pairExpiry _ => true
  | .stkStaleLimWrite by_ n _ => by_.ok && n < 8
  | .scrubVisit _ => true
  | .scrubPassEnd => true
  | .catalogueReload p => p < 1048576
  | .stkCopyStart by_ _ => by_.ok
  | .bankCopyDone _ => true
  | .stkCopyAbort by_ _ => by_.ok
  | .stkBankMapWrite by_ _ => by_.ok
  | .bankMapNocopy by_ _ => by_.ok
  | .alarmCheck => true
  | .scanCycleDue n k => n < 104 && k < 8
  | .pollTransaction n _ _ => n < 104
  | .attemptTimeout n => n < 104
  | .unsolicitedInput n _ => n < 104
  | .housekeepingStep n _ => n < 104
  | .commandItem n _ => n < 104
  | .portDown n _ => n < 104
  | .portUp n => n < 104
  | .holdTimerExpiry n => n < 104
  | .itemLimitExpiry e => e < 104
  | .engineStoreError e _ => e < 104
  | .clkEngRun by_ e _ => by_.ok && e < 104
  | .clkEngBindWrite e _ => e < 104
  | .clkPinselWrite by_ n g => by_.ok && n < 104 && g < 32
  | .engineHandover n => n < 104
  | .placeRebind n => n < 104
  | .rebindComplete n _ => n < 104
  | .i2cBusTest n _ _ _ => n < 104
  | .discreteEdge line _ => line < 272
  | .debounceStable line _ => line < 272
  | .dioRefresh differ => differ.all (fun n => n < 272)
  | .dioCommand line => line < 272
  | .dioReadback line _ => line < 272
  | .pwmPeriodBoundary line => line < 272
  | .dioWdogKick by_ _ => by_.ok
  | .dioWdogExpiry => true
  | .dioLineConfig by_ line _ _ => by_.ok && line < 272
  | .dioSpareStandin by_ k line => by_.ok && k < 16 && line < 272
  | .dioSpareReturn by_ k => by_.ok && k < 16
  | .anaWindowEnd ch _ => ch < 64
  | .anaChcfgWrite by_ ch _ => by_.ok && ch < 64
  | .openSensorCheck ch _ => ch < 64
  | .converterFault cv cause => cv < 68 && (cause == 1 || cause == 2)
  | .rotationStep => true
  | .rotationCheckEnd _ _ _ _ => true
  | .rotationStall => true
  | .steerStart by_ ch cv => by_.ok && ch < 64 && cv < 68
  | .steerSwitch ch _ => ch < 64
  | .audioPllUnlock => true
  | .referenceFault => true
  | .portEnable by_ p _ => by_.ok && p < 4
  | .retrain by_ p => by_.ok && p < 4
  | .trainingComplete p _ => p < 4
  | .detectionRetry p => p < 4
  | .infoFieldRx p _ => p < 4
  | .linkDown p _ => p < 4
  | .linkUp p => p < 4
  | .linkDegraded p _ _ _ => p < 4
  | .keepaliveShift p => p < 4
  | .keepaliveExit p _ => p < 4
  | .moduleInserted p _ => p < 4
  | .moduleFault p _ => p < 4
  | .ddmPoll p _ => p < 4
  | .opticalLinkUp p => p < 4
  | .irStart p _ => p < 4
  | .irGuardRetry p => p < 4
  | .irComplete p _ => p < 4
  | .irHourRollover => true
  | .tdrStart by_ p _ => by_.ok && p < 4
  | .tdrSilence p _ => p < 4
  | .tdrComplete p _ => p < 4
  | .quietReceived p => p < 4
  | .quietTimeout p => p < 4
  | .bypHoldEnWrite by_ x _ => by_.ok && x < 2
  | .selfTrainDone x _ _ => x < 2
  | .selfTrainFail x => x < 2
  | .bypassSettle x _ => x < 2
  | .autoDrop x => x < 2
  | .frameTransit p _ => p < 4
  | .egressFrameEnd p => p < 4
  | .sweep => true
  | .timeSync => true
  | .timeAnnounce => true
  | .ack => true
  | .nak => true
  | .beacon => true
  | .editionMismatchCheck p => p < 4
  | .controlOpen => true
  | .controlCommand => true
  | .controlResponse => true
  | .controlClose => true
  | .replayReq => true
  | .event => true
  | .dfr => true
  | .evtMark => true
  | .replayGone => true
  | .readReq ecc => eccOk ecc
  | .readResp => true
  | .readErr => true
  | .readRetry => true
  | .write _ => true
  | .bulkData => true
  | .bulkAck => true
  | .bulkAbort => true
  | .dlyReq p _ _ => p < 4
  | .dlyResp p _ _ _ => p < 4
  | .delayMeasureTimer p => p < 4
  | .ackTimeout cls sq => cls < 8 && sq < 65536
  | .evtMarkTimer _ cls => cls == 3 || cls == 4
  | .replayWaitExpiry src _ cls => src < 4096 && (cls == 3 || cls == 4)
  | .beaconTimer => true
  | .beaconReturnTimeout x => x < 2
  | .seedingEnd x => x < 2
  | .bulkAckTimer _ _ => true
  | .bulkProgressTimeout _ opened => opened.all (fun o => decide (o.1 < 4096) && !o.2.isEmpty)
  | .bulkTimeout _ => true
  | .sweepSlot _ ecc => eccOk ecc
  | .sweepLostCheck _ _ => true
  | .timeSyncTimer => true
  | .timeAnnounceTimer => true
  | .grandmasterTimeout => true
  | .syncHoldover => true
  | .offsetAlarm => true
  | .ppsInEdge => true
  | .ppsMissed => true
  | .ppsOutPulse => true
  | .couplerCreditWait _ => true
  | .queuePush qs _ => qs.all (fun q => q < 256)
  | .queuePushResume q => q < 256
  | .queuePop q _ copies => q < 256 && copies.all (fun c => c.2 < 1048576)
  | .cellPatrolVisit c _ _ => c < 16384
  | .descriptorStarve => true
  | .swqLimitWrite by_ _ _ => by_.ok
  | .queueRebuild _ => true
  | .bar0Access a => a.ok
  | .bar2Write k b data _ => k < 64 && b < 0x40_0000 && data.length ≤ 128
  | .bar2Read k b n ecc => k < 64 && b < 0x40_0000 && 1 ≤ n && n ≤ 1024 && eccOk ecc
  | .bar2ReadComplete _ => true
  | .rdLimitExpiry _ => true
  | .sqTailDoorbell sq _ => sq < 12
  | .descriptorFetched sq bytes => sq < 12 && bytes.length == 32
  | .dmaRead sq ecc => sq < 12 && eccOk ecc
  | .dmaWrite sq _ _ => sq < 12
  | .dmaFetch sq => sq < 12
  | .fetchWaitResume sq => sq < 12
  | .dmaFence sq => sq < 12
  | .dmaHostReadFail sq _ hostErr => sq < 12 && hostErr < 8
  | .cqHeadDoorbell c _ => c < 12
  | .cqSignal c => c < 12
  | .cqFullTimeout c => c < 12
  | .msixUnmask vec => vec < 64
  | .pcieLinkReset _ => true
  | .pcieError _ => true
  | .pciePerstRelease => true
  | .deskWrite first words _ => first < 256 && words.length ≤ 64
  | .deskRead first n _ => first < 256 && n ≤ 64
  | .ep2OutTransfer _ _ => true
  | .ep2InTransfer _ => true
  | .ep1Notification _ => true
  | .usbBusReset _ _ => true
  | .usbSetup _ => true
  | .usbSuspend => true
  | .usbResume _ => true
  | .remoteWake src => 1 ≤ src && src ≤ 4
  | .remoteWakeTimeout => true
  | .vbusLost => true
  | .usbConnect by_ _ => by_.ok
  | .usbReattach by_ => by_.ok
  | .reattachTimer => true
  | .usbOverCurrent n _ => 2 ≤ n && n ≤ 4
  | .setPortPower n _ => 2 ≤ n && n ≤ 4
  | .setInterface _ => true
  | .setCurFrequency _ => true
  | .clearEndpointHalt e => e < 6
  | .isoPacketMissed => true
  | .lockstepMismatch => true
  | .coreSelftestEnd _ _ => true
  | .restartPoint => true
  | .deskAreaWrite d u _ => d < 8 && (u < 0x400 || (0x1_0000 ≤ u && u < 0x2_0000 && d < 6))
  | .deskDoorbell d => d < 8
  | .deskDone d => d < 8
  | .sessionIdleTimeout d => 2 ≤ d && d ≤ 5
  | .identify d => d < 8
  | .sessionClose d => d < 8
  | .lock d => d < 8
  | .unlock d => d < 8
  | .stageOpen d => d < 8
  | .stageCommit d _ => d < 8
  | .stageClose d _ => d < 8
  | .stageAbort d => d < 8
  | .editionArm d => d < 8
  | .editionDisarm d => d < 8
  | .armLock => true
  | .editionActivateNow d _ => d < 8
  | .editionStatus d => d < 8
  | .groupList d => d < 8
  | .pointForce d => d < 8
  | .pointRelease d => d < 8
  | .spareSwap d => d < 8
  | .unitReturn d _ _ _ => d < 8
  | .powerState d => d < 8
  | .volumeStatus d => d < 8
  | .volumeArm d => d < 8
  | .volumeCommit d _ => d < 8
  | .volumeFallback d => d < 8
  | .settingsGet d => d < 8
  | .settingsSet d _ => d < 8
  | .timeSet d => d < 8
  | .timeEpoch d _ => d < 8
  | .restart d => d < 8
  | .editionActivation _ => true
  | .lateActivation _ => true
  | .feedStateChange x _ _ => x < 2
  | .feedQualified x _ _ => x < 2
  | .oringReverse x _ _ => x < 2
  | .oringFetFault x _ _ _ _ => x < 2
  | .nodePhaseChange _ _ _ => true
  | .nodeTrip _ _ _ _ => true
  | .nodeRetry => true
  | .feedWarnAssert _ _ => true
  | .feedWarnRelease _ _ => true
  | .fscCheckEnd n _ => n < 16
  | .fscRampStart n _ => n < 16
  | .fscOn n _ _ => n < 16
  | .fscTrip n _ _ _ => n < 16
  | .fscRetryExpiry n => n < 16
  | .fscClearTimer n => n < 16
  | .fscProbe n _ => n < 16
  | .fscRemoval n _ _ _ => n < 16
  | .fscReinsertion n => n < 16
  | .fscDebounceEnd n => n < 16
  | .fscFetShort n _ _ => n < 16
  | .fscEnWrite by_ n _ => by_.ok && n < 16
  | .fscUnlatch by_ n _ => by_.ok && n < 16
  | .fscHoldBegin n _ _ => n < 16
  | .fscHoldEnd n _ _ => n < 16
  | .pwrReqGo by_ _ => by_.ok
  | .drainComplete => true
  | .drainTimeout => true
  | .pwrDomOffWrite by_ _ => by_.ok
  | .wakeEvent active _ => active.all (fun k => 1 ≤ k && k ≤ 8)
  | .pllLockTimeout _ => true
  | .domainAckTimeout dom => dom < 16
  | .nightOrder => true
  | .orderResend => true
  | .xtalStop => true
  | .faultRaise => true
  | .fltFirstClear => true
  | .fltForceWrite by_ i _ => by_.ok && i < 27
  | .cntClearAll => true
  | .cntClr k _ => k < 64
  | .wearHourCheck => true
  | .rowReplace a _ => a < 10
  | .ringbStandin _ => true
  | .twinHello => true
  | .twinHelloTimer => true
  | .twinPeerLost => true
  | .claimRound others => others.all (fun n => n < 16)
  | .twinHandover => true
  | .twinHandoverOk => true
  | .twinCancel => true
  | .twinHandoverReq by_ => by_.ok
  | .handoverPrepare => true
  | .handoverTime => true
  | .twinClaimIdle => true
  | .twinRotation => true
  | .twinBothActive => true
  | .epochRollover p => p < 4
  | .epochKeyReady p => p < 4
  | .trngFail => true
  | .unlockToken bytes => bytes.length == 128
  | .debugExpiry => true
  | .volumeSwitch => true
  | .volumeHealthy => true
  | .trialDeadline => true
  | .aonWatchdogExpiry => true
  | .aonReset _ => true
  | .coreReset _ => true
  | .coreResetRelease _ cores _ => cores.all (fun c => c < 3)
  | .archivistStart => true
  | .fieldStartTimer => true
  | .vbusDetected => true
  | .readReissue _ => true
  | .pcieLinkUp speed width => 1 ≤ speed && speed ≤ 4 && (width == 1 || width == 2 || width == 4)
  | .configRequest _ => true
  | .audioPllLock => true
  | .referenceRestored => true
  | .trngHealthy => true
  | .isoInPacket _ _ => true
  | .streamSample _ => true

end Sys2Proof
end

