-- ==== Sys2Proof/Safety.lean ====
section
/-! DEFINITION. What a safe machine is: its tables in canonical form, its queue of well-formed commands, and a step that
neither faults nor refuses. -/

namespace Sys2Proof.Machine

/-- The archive's canonical form (R39, R76): five fills, and both tables canonical over what an unlisted record holds. -/
def archiveWf (a : Archive) : Bool :=
  a.fill.length == 5 && (twf (recFill a.fill) 0 a.recs && twf (fun _ => Cat.none) 0 a.cats)

/-- The canonical form of the addressed memories of the block: registers of space 2, Stacks and Catalogue. -/
def Memory.wf (s : State) : Bool := twf regReset 0 s.regs && archiveWf s.stk

/-- Every waiting command names units that the part has. -/
def queueWf (l : List Instr) : Bool := l.all Instr.wf

/-- The invariant of the machine. -/
def Inv (s : State) : Prop := Memory.wf s = true ∧ queueWf s.pending = true

/-- A safe step: it answers a next state. -/
def SafeStep (s : State) : Prop := ∃ t, step s = .next t

/-- A writer may write a register: the offset names one and its domain is on, and the writer owns it, a host or fabric writer within R11 and a
fabric node with the REGWRITE right (R11, R31, R374, R552). -/
def mayWrite (w : Writer) (off : Nat) (s : State) : Bool :=
  regAt off && regDomOn s off &&
  (match w with
    | .steward => true
    | .host => hostWritable off
    | .fabric n => hostWritable off && regRight s n)

/-- Desk d, whose turn it is (R387), holds a command of opcode op with n argument words that passes the checks of R389:
its length, the session's right (0: none asked) and the configuration lock. -/
def deskServes (d op n right : Nat) (lock : Bool) (s : State) : Bool :=
  let u := takeDoorbell d s
  decide (d < 8) && nextDesk s == some d && cmdOp s d == op && stwRuns s && cmdLen u d == n &&
    (right == 0 || (getDesk u d).rights &&& right != 0) && (!lock || u.stw.lock == some d)

/-- The state after n steps, where none stops. -/
def runFor : Nat → State → Option State
  | 0, s => some s
  | n + 1, s =>
    match step s with
    | .next t => runFor n t
    | _ => none

/-- A safe run: none of its steps stops. -/
def SafeRun (s : State) : Prop := ∀ n, (runFor n s).isSome

end Sys2Proof.Machine
end

