-- ==== Sys2Proof/Certificates/Slice0/Obligations.lean ====
section
/-! DEFINITION. The statements for the provers, one definition each. -/

open Sys2Proof Sys2Proof.Machine


/-- A step on a state whose queue holds command c at the front is exec of c on the state with the rest of the queue. On
an empty queue a step is the tick (the model's choice, log 2). Rests on 00_scope. -/
def Obligations.CommandAtFront : Prop :=
  (∀ (c : Instr) (rest : List Instr) (s : State), 
      step { s with pending := c :: rest } = exec c { s with pending := rest }) ∧
  (∀ (s : State), s.pending = [] →
      step s = .next (tick s))

/-- A write of one of the two scratch words by a writer who may write it stores the word and leaves every other
register. A steward write of a register whose domain is off changes only GLB_STATUS.DOMAIN_OFF. A host write of a
register the host does not own sets OWNER_REJECT and leaves every register but GLB_STATUS and the two owner log
registers. A write at an offset that names no register changes nothing. RC_READ of the five registers from 0x28010
clears the register read and nothing else. RTM_TIME_READ latches the higher words of ring time. CNT_LO_READ latches
the upper half of a counter. Rests on 00_scope, 17_register_space_index, 07_yomel_ring_protocol,
14_registrar_spares_and_twins. -/
def Obligations.RegisterAccess : Prop :=
  (∀ (w : Writer) (v : Word) (s : State) (i : Nat), i < 2 → mayWrite w (0x10 + i) s = true →
      ∃ t, exec (.registerWrite w (0x10 + i) v) s = .next t ∧ reg t (0x10 + i) = v ∧
        ∀ o, o ≠ 0x10 + i → reg t o = reg s o) ∧
  (∀ (off : Nat) (v : Word) (s : State), regAt off = true → regDomOn s off = false →
      exec (.registerWrite .steward off v) s = .next (setF fGLB_STATUS_DOMAIN_OFF 1 s)) ∧
  (∀ (off : Nat) (v : Word) (s : State), regAt off = true → hostWritable off = false → regDomOn s off = true →
      ∃ t, exec (.registerWrite .host off v) s = .next t ∧ flag t fGLB_STATUS_OWNER_REJECT = true ∧
        ∀ o, o ≠ oGLB_STATUS → o ≠ oGLB_OWNER_LOG → o ≠ oGLB_OWNER_NODE → reg t o = reg s o) ∧
  (∀ (w : Writer) (off : Nat) (v : Word) (s : State), regAt off = false →
      exec (.registerWrite w off v) s = .next s) ∧
  (∀ (s : State) (b : Nat), b < 5 → domOn s 3 = true →
      exec (.rcRead (0x28010 + b)) s = .next (setReg (0x28010 + b) 0 s)) ∧
  (∀ (s : State), domOn s 0 = true →
      exec .rtmTimeRead s = .next { s with rtime := { s.rtime with
        latch1 := wd (s.ringNs / 2 ^ 24), latch2 := wd (s.ringNs / 2 ^ 48 % 2 ^ 16) } }) ∧
  (∀ (s : State) (k : Nat), k < 64 → domOn s 3 = true →
      exec (.cntLoRead k) s =
        .next (setCnt k { getCnt s k with latch := (getCnt s k).val / 2 ^ 24 } s))

/-- STK_STALE_LIM_WRITE stores a value whose unit code is not 3 (with no edition in force, so that no value waits for
it) and refuses one whose unit code is 3 with CFG_REJECT. A scrub visit of a good Catalogue record, with no wrong
bit held, moves to the next index and leaves both arrays. A pass that has overrun sets SCRUB_OVERRUN and raises 217;
a finished pass begins the next. CATALOGUE_RELOAD writes the record of the edition in force for its point and leaves
every other Catalogue record. ALARM_CHECK takes the front item of Q208, reads the point and applies the four limits
and the quality limit of its alarm set. The order of scrub visits and the beginning of the period are the model's
choices (logs 8, 217). Rests on 02_stacks_and_catalogue, 11_steward_desk_and_editions. -/
def Obligations.ArchiveMaintenance : Prop :=
  (∀ (w : Writer) (n : Nat) (v : Word) (s : State), n < 8 → mayWrite w (oSTK_STALE_LIM n) s = true → v.toNat / 0x400000 ≠ 3 → s.stw.inForce = none →
      exec (.stkStaleLimWrite w n v) s = .next (setReg (oSTK_STALE_LIM n) v s)) ∧
  (∀ (w : Writer) (n : Nat) (v : Word) (s : State), n < 8 → mayWrite w (oSTK_STALE_LIM n) s = true → v.toNat / 0x400000 = 3 →
      exec (.stkStaleLimWrite w n v) s = .next (setF fSTK_STATUS_CFG_REJECT 1 s)) ∧
  (∀ (s : State), scrubRuns s = true → s.stk.scrub.finished = false → domOn s (5 + s.stk.scrub.bank) = true → s.stk.scrub.cat = true → s.stk.scrub.index + 1 < bankSize → s.stk.flips = [] →
      ∃ t, exec (.scrubVisit .ok) s = .next t ∧ t.stk.scrub = { s.stk.scrub with index := s.stk.scrub.index + 1 } ∧
        t.stk.recs = s.stk.recs ∧ t.stk.cats = s.stk.cats ∧ t.stk.fill = s.stk.fill) ∧
  (∀ (b : Nat) (s : State), scrubRuns s = true → s.stk.scrub.began = some b → b + s.stk.scrub.period ≤ s.clk → s.stk.scrub.finished = false → s.stk.scrub.overran = false →
      ∃ t, exec .scrubPassEnd s = .next t ∧ flag t fSTK_STATUS_SCRUB_OVERRUN = true ∧ 217 ∈ t.flt.pulse) ∧
  (∀ (b : Nat) (s : State), scrubRuns s = true → s.stk.scrub.began = some b → b + s.stk.scrub.period ≤ s.clk → s.stk.scrub.finished = true →
      exec .scrubPassEnd s = .next (scrubBegin s)) ∧
  (∀ (p : Nat) (s : State) (e : Edition), p < 4 * bankSize → stwRuns s = true → (getCatK s (ptKey s p)).mark ≠ .loaded → s.stw.inForce = some e → s.stk.copy = none →
      ∃ t, exec (.catalogueReload p) s = .next t ∧ getCatK t (ptKey s p) = editionCat e p ∧
        ∀ k, k ≠ ptKey s p → getCatK t k = getCatK s k) ∧
  (∀ (i : Nat) (x : Item) (w : Word) (ws : List Word) (e : Edition) (a : AlarmSet) (p : Nat) (u : State) (s : State), stwRuns s = true → frontQ s 208 = some (i, x) → x.body = .words (w :: ws) → p = w.toNat % (4 * bankSize) → u = touchPt p .ok (dropFront 208 s) → u.stw.inForce = some e → tget (fun _ => none) e.alarms (catAlarm (catAt u p)) = some a →
      exec .alarmCheck s = .next (qualityCheck p a (limitChecks p 0 a.limits u)))

/-- STK_COPY_START of a mapped bank to the spare starts a copy and moves no record. STK_COPY_ABORT ends it with ABORTED,
leaves the destination undefined and raises 207 + s. BANK_COPY_DONE of a copy that meets no wrong bit leaves the
copied arrays and DONE. STK_BANK_MAP_WRITE of an accepted move maps the bank and ends the copy state; a refused
write sets CFG_REJECT only. BANK_MAP_NOCOPY of an accepted move maps the bank and makes the new bank fresh. A fresh
bank holds empty records with reason RETENTION_LOST and the present time. A copied bank holds, at each index, the
source bank's record. Rests on 02_stacks_and_catalogue. -/
def Obligations.ArchiveBanks : Prop :=
  (∀ (w : Writer) (v : Word) (s : State), mayWrite w oSTK_COPY_CTL s = true → v.toNat / 64 % 4 = 1 → s.stk.copy = none → v.toNat / 8 % 8 = spareBank s → bankFenced s (v.toNat / 8 % 8) = false → (List.range 4).any (fun l => physBank s l == v.toNat % 8) = true →
      ∃ t, exec (.stkCopyStart w v) s = .next t ∧
        t.stk.copy = some (v.toNat % 8, v.toNat / 8 % 8) ∧
        flag t fSTK_STATUS_COPY_BUSY = true ∧
        t.stk.recs = s.stk.recs ∧
        t.stk.cats = s.stk.cats) ∧
  (∀ (w : Writer) (v : Word) (f : Nat) (d : Nat) (s : State), mayWrite w oSTK_COPY_CTL s = true → v.toNat / 64 % 4 = 2 → s.stk.copy = some (f, d) → s.flt.attic = [] →
      ∃ t, exec (.stkCopyAbort w v) s = .next t ∧
        t.stk.copy = none ∧
        flag t fSTK_COPY_STAT_ABORTED = true ∧
        207 + d ∈ t.flt.pulse ∧
        d ∈ t.stk.undef) ∧
  (∀ (f : Nat) (d : Nat) (s : State), s.stk.copy = some (f, d) → flag s fSTK_COPY_STAT_DONE = false → s.flt.attic = [] → s.stk.flips = [] →
      ∃ t, exec (.bankCopyDone []) s = .next t ∧
        t.stk = { (copyCats f d (copyRecs f d s)).stk with undef := delSet d s.stk.undef } ∧
        flag t fSTK_COPY_STAT_DONE = true) ∧
  (∀ (w : Writer) (v : Word) (l : Nat) (s : State), mayWrite w oSTK_BANK_MAP s = true → mapRefused s v = false → mapMoves s v = [l] → bitsOf v.toNat 15 1 = 0 →
      exec (.stkBankMapWrite w v) s =
        .next ({ setF fSTK_STATUS_COPY_BUSY 0 (setF fSTK_COPY_STAT_DUAL 0 (mapApply v s)) with
          stk := { s.stk with copy := none } })) ∧
  (∀ (w : Writer) (v : Word) (s : State), mayWrite w oSTK_BANK_MAP s = true → mapRefused s v = true →
      exec (.stkBankMapWrite w v) s = .next (setF fSTK_STATUS_CFG_REJECT 1 s)) ∧
  (∀ (w : Writer) (v : Word) (l : Nat) (s : State), mayWrite w oSTK_BANK_MAP s = true → mapRefused s (v ||| wd (2 ^ 15)) = false → mapMoves s (v ||| wd (2 ^ 15)) = [l] → bitsOf (v ||| wd (2 ^ 15)).toNat 15 1 = 1 →
      exec (.bankMapNocopy w v) s =
        .next (bankFresh (spareBank s) (mapApply (v ||| wd (2 ^ 15)) s))) ∧
  (∀ (b : Nat) (i : Nat) (s : State), Memory.wf s = true → b < 5 → i < bankSize →
      getRecK (bankFresh b s) (bankSize * b + i) = Rec.empty .retentionLost (usNow s)) ∧
  (∀ (f : Nat) (d : Nat) (i : Nat) (s : State), Memory.wf s = true → f < 5 → d < 5 → f ≠ d → i < bankSize →
      getRecK (copyRecs f d s) (bankSize * d + i) = getRecK s (bankSize * f + i))

/-- SCAN_CYCLE_DUE starts a due class and wakes the place; with an item in progress the cycle only begins.
POLL_TRANSACTION ends the poll by what came from the field: a response writes the values read, an exception 1 to 3
fails the poll at once. ATTEMPT_TIMEOUT of a command with attempts left begins the next attempt. UNSOLICITED_INPUT
during an item waits in the place's list with the time of its arrival. HOUSEKEEPING_STEP at an idle place does its
work as one item. An I2C bus test that finds the bus held marks it lost and checks the port; the next test is due in
100 ms. Rests on 03_clerks_and_bindings, 04_field_protocols_and_lines. -/
def Obligations.ClerkPolls : Prop :=
  (∀ (n : Nat) (k : Nat) (c : Cycle) (d : Nat) (l : List Nat) (s : State), n < 104 → k < 8 → placeOn s n = true → c = getCycle (getPlace s n) k → c.due = some d → placeUp s n = true → c.started = false → d ≤ s.clk → periodNs s n k ≠ 0 → l = classPoints s n k → l.isEmpty = false → leadClass s n ≠ some k → (getPlace s n).item.isSome = true →
      exec (.scanCycleDue n k) s =
        .next (setPlace n (setCycle k ⟨true, d, l, none, 0⟩ (getPlace s n)) s)) ∧
  (∀ (n : Nat) (k : Nat) (d : Nat) (s : State), n < 104 → k < 8 → placeOn s n = true → (getCycle (getPlace s n) k).due = some d → placeUp s n = true → (getCycle (getPlace s n) k).started = false → d ≤ s.clk → periodNs s n k ≠ 0 →
      exec (.scanCycleDue n k) s = .next (wakePlace n (startCycle n k d s))) ∧
  (∀ (n : Nat) (k : Nat) (pts : List Nat) (r : PollEnd) (sd : Bool) (s : State), n < 104 → placeOn s n = true → (getPlace s n).item = some (.poll k pts) → placeUp s n = true → placeRuns s n = true → (getPlace s n).ended = false →
      exec (.pollTransaction n r sd) s = .next (pollEnds n k pts sd r s)) ∧
  (∀ (n : Nat) (k : Nat) (pts : List Nat) (d : FieldData) (sd : Bool) (s : State), n < 104 → placeOn s n = true → (getPlace s n).item = some (.poll k pts) → placeUp s n = true → placeRuns s n = true → (getPlace s n).ended = false → !([1, 3].contains (placeType s n)) = true →
      exec (.pollTransaction n (.response d) sd) s =
        .next (pollAnswered n k pts sd (readData s n pts d) s)) ∧
  (∀ (n : Nat) (k : Nat) (pts : List Nat) (code : Nat) (sd : Bool) (s : State), n < 104 → placeOn s n = true → (getPlace s n).item = some (.poll k pts) → placeUp s n = true → placeRuns s n = true → (getPlace s n).ended = false → placeType s n = 2 → 1 ≤ code → code ≤ 3 →
      exec (.pollTransaction n (.exception code) sd) s =
        .next (pollFails n k pts sd (usNow s) s)) ∧
  (∀ (n : Nat) (p : Place) (s : State), n < 104 → placeOn s n = true → p = getPlace s n → p.item = some .command → (headCmd s n).isSome = true → p.ended = false → [2, 5, 6, 7].contains (placeType s n) = true → attemptEnds s n ≤ s.clk → p.attempts + 1 < attemptLimit s n →
      exec (.attemptTimeout n) s = .next (nextAttempt n s)) ∧
  (∀ (n : Nat) (v : Unsolicited) (s : State), n < 104 → placeOn s n = true → placeUp s n = true → placeRuns s n = true → unsolicitedOk s n v = true → (getPlace s n).item.isSome = true →
      exec (.unsolicitedInput n v) s =
        .next (setPlace n { getPlace s n with unsolicited := (getPlace s n).unsolicited ++ [(usNow s, v)] } s)) ∧
  (∀ (n : Nat) (x : House) (s : State), n < 104 → placeOn s n = true → placeUp s n = true → placeRuns s n = true → (getPlace s n).item = none →
      exec (.housekeepingStep n x) s =
        .next (finishItem n s.swq.waits.length (houseWork n x (startItem n .housekeeping s)))) ∧
  (∀ (n : Nat) (s : State), n < 104 → placeOn s n = true → placeType s n = 5 → placeRuns s n = true → (getPlace s n).i2cDue ≤ s.clk →
      exec (.i2cBusTest n true true true) s =
        .next (portTest n (setPlace n { getPlace s n with busLost := true, i2cDue := s.clk + 100000000 } s)))

/-- COMMAND_ITEM ends the command at the head of the place's queue by what came from the field: an accepted write goes
on to its confirmation, a read-back value confirms it or not, a command that cannot be written fails with
UNSUPPORTED, and a refused read-back fails with CONFIRM_LOST (a reading of the model, log 230). PORT_DOWN takes down
a port for which a condition of going down holds; PORT_UP brings up a port that may come up. HOLD_TIMER_EXPIRY
carries out the hold of a port that is down at its time. ITEM_LIMIT_EXPIRY of an item that has passed its limit
raises source 256 + 2e of its engine. Rests on 03_clerks_and_bindings. -/
def Obligations.ClerkCommands : Prop :=
  (∀ (n : Nat) (r : CmdEnd) (c : Cmd) (s : State), n < 104 → placeOn s n = true → placeUp s n = true → placeRuns s n = true → (getPlace s n).ended = false → (getPlace s n).item = some .command → headCmd s n = some c →
      exec (.commandItem n r) s = .next (cmdEnds n c r s)) ∧
  (∀ (n : Nat) (c : Cmd) (s : State), n < 104 → placeOn s n = true → placeUp s n = true → placeRuns s n = true → (getPlace s n).ended = false → (getPlace s n).item = some .command → headCmd s n = some c → (getPlace s n).confirming = false →
      exec (.commandItem n .accepted) s = .next (cmdAccepted n c s)) ∧
  (∀ (n : Nat) (c : Cmd) (d : FieldData) (p : Nat) (x : Int) (s : State), n < 104 → placeOn s n = true → placeUp s n = true → placeRuns s n = true → (getPlace s n).ended = false → (getPlace s n).item = some .command → headCmd s n = some c → readData s n [cmdPoint c] d = some [(p, .value x)] →
      exec (.commandItem n (.value d)) s =
        .next (finishItem n s.swq.waits.length (confirmCmd n c (.value x) s))) ∧
  (∀ (n : Nat) (c : Cmd) (s : State), n < 104 → placeOn s n = true → placeUp s n = true → placeRuns s n = true → (getPlace s n).ended = false → (getPlace s n).item = some .command → headCmd s n = some c → (getPlace s n).confirming = false →
      exec (.commandItem n .cannotWrite) s =
        .next (finishItem n s.swq.waits.length (failCmd n cUNSUPPORTED s))) ∧
  (∀ (n : Nat) (c : Cmd) (s : State), n < 104 → placeOn s n = true → placeUp s n = true → placeRuns s n = true → (getPlace s n).ended = false → (getPlace s n).item = some .command → headCmd s n = some c → (getPlace s n).confirming = true →
      exec (.commandItem n .rejected) s =
        .next (finishItem n s.swq.waits.length (failCmd n cCONFIRM s))) ∧
  (∀ (n : Nat) (b : Bool) (s : State), n < 104 → placeOn s n = true →
      exec (.portDown n b) s =
        .next (portTest n (if b && hasBusTest s n then setPlace n { getPlace s n with busLost := true } s else s))) ∧
  (∀ (n : Nat) (u : State) (s : State), n < 104 → placeOn s n = true → u = setPlace n { getPlace s n with busLost := false } s → canComeUp u n = true →
      exec (.portUp n) s = .next (Machine.portUp n u)) ∧
  (∀ (n : Nat) (d : Nat) (s : State), n < 104 → placeOn s n = true → (getPlace s n).holdUntil = some d → placeUp s n = false → d ≤ s.clk →
      exec (.holdTimerExpiry n) s = .next (holdExpire n s)) ∧
  (∀ (e : Nat) (n : Nat) (s : State), e < 104 → placeOn s e = true → n = enginePlace s e → servingEngine s n = some e → (getPlace s n).item.isSome = true → (getPlace s n).ended = false → (getPlace s n).itemStart + itemLimit s n < s.clk →
      exec (.itemLimitExpiry e) s = .next (raise (256 + 2 * e) s))

/-- A corrected store error of an engine counts in its hour; an uncorrectable one of an engine that serves no place
halts it and raises 256 + 2e. RUN = 1 of a halted engine with valid code, in STATE 1 of a place that it is not
taking over, and no spare of role 2, makes it run; RUN = 0 of an engine that serves no place halts it.
CLK_ENG_BIND_WRITE with an open store sets the binding and CODE_VALID. CLK_PINSEL_WRITE of a group that no other
place of the cluster has binds a place that does not run to it, and of 31 (none) detaches it; of a place that runs,
or of a group beyond 23 other than 31, it sets CFG_REJECT. ENGINE_HANDOVER gives the place to the engine that takes
over. PLACE_REBIND and REBIND_COMPLETE of a place no engine serves carry out their step and check the port. The pins
of a group that is attached to no place, or whose place no engine serves, or whose domain is off, are
high-impedance; so are the pins the binding does not use and its inputs; an output pin of an idle place shows its
idle level. Rests on 03_clerks_and_bindings. -/
def Obligations.ClerkEngines : Prop :=
  (∀ (e : Nat) (s : State), e < 104 → placeOn s e = true →
      exec (.engineStoreError e .corrected) s =
        .next (wearStep 624 0 e (getF s fFLT_ATC_THR_ENG_CE) ((getEngine s e).ceHour + 1) (setEngine e { getEngine s e with ceHour := (getEngine s e).ceHour + 1 } s))) ∧
  (∀ (e : Nat) (s : State), e < 104 → placeOn s e = true → servingEngine s (enginePlace s e) ≠ some e →
      exec (.engineStoreError e .uncorrectable) s =
        .next (settlePairs (raise (256 + 2 * e) (engineHalt e (setF (fCLK_ENG_CTL_RUN e) 0 s))))) ∧
  (∀ (w : Writer) (e : Nat) (u : State) (s : State), e < 104 → mayWrite w (oCLK_ENG_CTL e) s = true → flag s (fCLK_ENG_STAT_CODE_VALID e) = true → u = setF (fCLK_ENG_CTL_RUN e) 1 (setEngine e { getEngine s e with halting := false } s) → getF u (fCLK_ENG_STAT_STATE e) = 1 → engRole u e ≠ 2 → (getPlace u (enginePlace s e)).takeover ≠ some e →
      exec (.clkEngRun w e true) s =
        .next (wakePlace (enginePlace s e) (setF (fCLK_ENG_STAT_STATE e) 2 u))) ∧
  (∀ (w : Writer) (e : Nat) (u : State) (s : State), e < 104 → mayWrite w (oCLK_ENG_CTL e) s = true → u = setF (fCLK_ENG_CTL_RUN e) 0 s → servingEngine u (enginePlace s e) ≠ some e →
      exec (.clkEngRun w e false) s = .next (engineHalt e u)) ∧
  (∀ (e : Nat) (v : Word) (s : State), e < 104 → mayWrite .steward (oCLK_ENG_BIND e) s = true → storeOpen s e = true →
      exec (.clkEngBindWrite e v) s =
        .next (setF (fCLK_ENG_STAT_CODE_VALID e) 1 (setReg (oCLK_ENG_BIND e) v s))) ∧
  (∀ (w : Writer) (n : Nat) (s : State), n < 104 → mayWrite w (oCLK_PINSEL n) s = true → placeRuns s n = false →
      exec (.clkPinselWrite w n 31) s = .next (portTest n (setF (fCLK_PINSEL_GROUP n) 31 s))) ∧
  (∀ (w : Writer) (n : Nat) (g : Nat) (s : State), n < 104 → g < 32 → mayWrite w (oCLK_PINSEL n) s = true → placeRuns s n = true →
      exec (.clkPinselWrite w n g) s = .next (setF (fCLK_STAT_CFG_REJECT n) 1 s)) ∧
  (∀ (w : Writer) (n : Nat) (g : Nat) (s : State), n < 104 → g < 31 → mayWrite w (oCLK_PINSEL n) s = true → placeRuns s n = false → 24 ≤ g ∨ groupTaken s n g = true →
      exec (.clkPinselWrite w n g) s = .next (portTest n (setF (fCLK_STAT_CFG_REJECT n) 1 s))) ∧
  (∀ (w : Writer) (n : Nat) (g : Nat) (s : State), n < 104 → g < 24 → mayWrite w (oCLK_PINSEL n) s = true → placeRuns s n = false → groupTaken s n g = false →
      exec (.clkPinselWrite w n g) s = .next (portTest n (setF (fCLK_PINSEL_GROUP n) g s))) ∧
  (∀ (n : Nat) (e : Nat) (k : Nat) (d : Nat) (old : Nat) (s : State), n < 104 → placeOn s n = true → (getPlace s n).takeover = some e → leadClass s n = some k → (getCycle (getPlace s n) k).due = some d → (getCycle (getPlace s n) k).started = false → d ≤ s.clk → engineRuns s e = true → servingEngine s n = some old → s.flt.attic = [] →
      exec (.engineHandover n) s = .next (engineServe n e (engineIdle old s))) ∧
  (∀ (n : Nat) (u : State) (s : State), n < 104 → placeOn s n = true → (getPlace s n).item = none → (getPlace s n).removing = false → (getPlace s n).rebindDue = true → u = setPlace n { getPlace s n with rebindDue := false, rebinding := true } s → servingEngine u n = none →
      exec (.placeRebind n) s = .next (portTest n u)) ∧
  (∀ (n : Nat) (b : Bool) (u : State) (s : State), n < 104 → placeOn s n = true → (getPlace s n).rebinding = true → placementOf s n = none → u = setPlace n { getPlace s n with rebinding := false, busLost := b && hasBusTest s n } s → servingEngine u n = none → canComeUp u n = false →
      exec (.rebindComplete n b) s = .next (portTest n u)) ∧
  (∀ (g : Nat) (pin : Nat) (s : State), groupPlace s g = none ∨ groupEngine s g = none ∨ domOn s (10 + g / 24) = false →
      groupPin s g pin = .highZ) ∧
  (∀ (g : Nat) (pin : Nat) (n : Nat) (e : Nat) (s : State), groupPlace s g = some n → groupEngine s g = some e → pinUse (getF s (fCLK_ENG_BIND_TYPE e)) pin = .unused ∨ pinUse (getF s (fCLK_ENG_BIND_TYPE e)) pin = .input →
      groupPin s g pin = .highZ) ∧
  (∀ (g : Nat) (pin : Nat) (n : Nat) (e : Nat) (b : Bool) (s : State), groupPlace s g = some n → groupEngine s g = some e → domOn s (10 + g / 24) = true → sharedPlace s n = false → (getPlace s n).item = none → pinUse (getF s (fCLK_ENG_BIND_TYPE e)) pin = .output (some b) →
      groupPin s g pin = .level b)

/-- DISCRETE_EDGE on a line shows the pin's new level in DIO_IN and handles the edge by the mode of the line.
DEBOUNCE_STABLE of a mode 2 line, after the debounce time with a changed level, writes the new level to its point.
DIO_REFRESH refreshes every line and sets the next refresh DIO_CTL.REFRESH later (0 acting as 1 ms). Rests on
04_field_protocols_and_lines. -/
def Obligations.DiscreteInputs : Prop :=
  (∀ (line : Nat) (lv : Bool) (n : Nat) (u : State) (s : State), line < 272 → lineOn s line = true → pinLevel s line ≠ lv → pinLine s line = some n → u = setF ⟨oDIO_IN (line / 24), line % 24, 1⟩ (bit lv) (countFilter n s) → pinLine u line = some n → dioFenced u (lineCluster n) = false →
      exec (.discreteEdge line lv) s = .next (edgeByMode n lv u)) ∧
  (∀ (line : Nat) (lv : Bool) (n : Nat) (e : Nat) (s : State), line < 272 → pinLine s line = some n → (getLine s n).lastEdge = some e → e + 10000 * linePar s n ≤ s.clk → lineOn s n = true → lineMode s n = 2 → pinLevel s line = lv → lv ≠ (getLine s n).level → dioFenced s (lineCluster n) = false →
      exec (.debounceStable line lv) s =
        .next (dioWrite n 0 (bit (lv != lineInv s n)) (setLine n { getLine s n with level := lv } s))) ∧
  (∀ (differ : List Nat) (s : State), s.dio.refreshDue ≤ s.clk →
      exec (.dioRefresh differ) s =
        .next ((List.range 272).foldl (refreshLine differ) { s with dio := { s.dio with
          refreshDue := s.clk + 1000000 * max 1 (getF s fDIO_CTL_REFRESH), differ := [] } }))

/-- DIO_COMMAND of a line that takes it drives the level and starts the settling time; where a cause stands in the way
the command fails with it. DIO_READBACK of a mode 6 line after the settling time confirms a level that agrees and
fails one that differs with REJECTED. PWM_PERIOD_BOUNDARY drives the duty of the last command value; one with a
command applied confirms it, and a safe line leaves its safe state with it. DIO_WDOG_KICK stores TIME and restarts
the watchdog; DIO_WDOG_EXPIRY sets WDOG_EXPIRED, takes all output lines to SAFE and turns source 472 on.
DIO_LINE_CONFIG of a good pair enters the new mode. DIO_SPARE_STANDIN and DIO_SPARE_RETURN make and end a stand-in
and take the lines' levels from their new pins. Rests on 04_field_protocols_and_lines. -/
def Obligations.DiscreteOutputs : Prop :=
  (∀ (line : Nat) (c : Cmd) (cs : List Cmd) (raw : Nat) (s : State), line < 272 → (getLine s line).cmds = c :: cs → (getLine s line).settling = false → lineCause s line = none → lineMode s line ≠ 7 → linePar s line ≠ 0 → raw = (rawOf s (catAt s (c.handle % 2 ^ 20)) c.value).toNat →
      exec (.dioCommand line) s =
        .next (setLine line { getLine s line with
          cmdVal := bit (raw != 0), drive := levelDrive (raw != 0), safe := false, settling := true, settleAt := s.clk + 1000 * linePar s line } s)) ∧
  (∀ (line : Nat) (c : Cmd) (cs : List Cmd) (cause : Nat) (s : State), line < 272 → (getLine s line).cmds = c :: cs → (getLine s line).settling = false → lineCause s line = some cause →
      exec (.dioCommand line) s = .next (failLineCmd line c cause s)) ∧
  (∀ (line : Nat) (pin : Bool) (c : Cmd) (cs : List Cmd) (s : State), line < 272 → (getLine s line).cmds = c :: cs → (getLine s line).settling = true → lineMode s line = 6 → (getLine s line).settleAt ≤ s.clk → bit (pin != lineInv s line) = (getLine s line).cmdVal →
      exec (.dioReadback line pin) s = .next (confirmLineCmd line c s)) ∧
  (∀ (line : Nat) (pin : Bool) (c : Cmd) (cs : List Cmd) (s : State), line < 272 → (getLine s line).cmds = c :: cs → (getLine s line).settling = true → lineMode s line = 6 → (getLine s line).settleAt ≤ s.clk → bit (pin != lineInv s line) ≠ (getLine s line).cmdVal →
      exec (.dioReadback line pin) s = .next (failLineCmd line c cREJECTED s)) ∧
  (∀ (line : Nat) (l : Line) (s : State), line < 272 → lineMode s line = 7 → lineOn s line = true → l = getLine s line → l.pwmAt + 8 * l.pwmPer ≤ s.clk → l.safe = false → l.cmds = [] →
      exec (.pwmPeriodBoundary line) s =
        .next (setLine line { l with
          drive := dutyDrive (linePar s line) l.cmdVal, safe := false, pwmPer := linePar s line, pwmAt := s.clk } s)) ∧
  (∀ (line : Nat) (l : Line) (c : Cmd) (cs : List Cmd) (s : State), line < 272 → lineMode s line = 7 → lineOn s line = true → l = getLine s line → l.pwmAt + 8 * l.pwmPer ≤ s.clk → l.settling = true → l.cmds = c :: cs →
      exec (.pwmPeriodBoundary line) s =
        .next (confirmLineCmd line c (setLine line { l with
          drive := dutyDrive (linePar s line) l.cmdVal, safe := false, pwmPer := linePar s line, pwmAt := s.clk } s))) ∧
  (∀ (w : Writer) (v : Word) (u : State) (s : State), (w != .steward || stwRuns s) = true → mayWrite w oDIO_WDOG s = true → bitsOf v.toNat 12 1 = 1 → u = setF fDIO_WDOG_TIME (bitsOf v.toNat 0 12) s →
      exec (.dioWdogKick w v) s =
        .next (causeOff 472 { u with dio := { u.dio with wdogAt := u.clk, wdogCause := false } })) ∧
  (∀ (s : State), getF s fDIO_WDOG_TIME ≠ 0 → s.dio.wdogCause = false → s.dio.wdogAt + 10000000 * getF s fDIO_WDOG_TIME ≤ s.clk →
      exec .dioWdogExpiry s =
        .next (safeLines (fun _ => true) (causeOn 472 (setF fDIO_STATUS_WDOG_EXPIRED 1 { s with dio := { s.dio with wdogCause := true } })))) ∧
  (∀ (w : Writer) (line : Nat) (cfg : Word) (par : Word) (u : State) (s : State), line < 272 → mayWrite w (oDIO_LCFG line) s = true → u = lineLive line cfg s → lineBusy u line = false → badPair (cfg.toNat % 16) par.toNat = false →
      exec (.dioLineConfig w line cfg par) s =
        .next (enterMode line (cfg.toNat % 16) par.toNat u)) ∧
  (∀ (w : Writer) (k : Nat) (line : Nat) (s : State), k < 16 → line < 272 → mayWrite w (oDIO_SPARE k) s = true → lineBusy s line = false → lineCluster line = k / 4 → line ≠ 256 + k → s.dio.standins = [] →
      exec (.dioSpareStandin w k line) s =
        .next (resample line (setF (fDIO_SPARE_EN k) 1 { setF (fDIO_SPARE_LINE k) line s with
          dio := { s.dio with standins := [(k, line)] } }))) ∧
  (∀ (w : Writer) (k : Nat) (line : Nat) (was : List Nat) (s : State), k < 16 → mayWrite w (oDIO_SPARE k) s = true → line = getF s (fDIO_SPARE_LINE k) → lineBusy s line = false → was = (s.dio.standins.filter (fun x => x.1 == k)).map (·.2) →
      exec (.dioSpareReturn w k) s =
        .next ((was ++ [256 + k]).foldl (fun t n => resample n t) (setF (fDIO_SPARE_EN k) 0 { setF (fDIO_SPARE_LINE k) line s with
          dio := { s.dio with standins := s.dio.standins.filter (fun x => x.1 != k) } })))

/-- ANA_WINDOW_END of a full window writes the mean, the minimum and the maximum of the corrected codes of its samples
that are not excluded, stamped with the last sample's time less the delay, and shows OVERLOAD; of a channel that is
stopped or open it writes nothing and begins the next window; with PLL_LOCK or REF_OK at 0 it puts the channel into
converter failure and raises 508 and 507 as they apply. The rounding is the model's choice (log 49). ANA_CHCFG_WRITE
refuses a pair of rate and filter that is not allowed with CFG_REJECT, and otherwise stores the word, takes the
gain's trims and excludes the samples that settle. OPEN_SENSOR_CHECK sets OPEN above 1 megohm and clears it below
500 kilohms, excludes the samples it disturbed and sets the group's source by the group's state. STEER_START begins
steering; STEER_SWITCH at its time sets DIFF and ends it. Rests on 05_analog_channels. -/
def Obligations.AnalogChannels : Prop :=
  (∀ (ch : Nat) (volts : List Int) (all : List (Nat × Int)) (kept : List (Nat × Int)) (u : State) (time : Nat) (s : State), ch < 64 → anaOn s = true → chanEn s ch = true → windowFull s ch volts.length = true → (getChan s ch).stopped = false → flag s (fANA_CHSTAT_OPEN ch) = false → all = windowSamples s ch volts → kept = all.filter (fun e => !excludedAt s ch e.1) → kept.isEmpty = false → u = nextWindow ch volts.length (setF (fANA_CHSTAT_OVERLOAD ch) (bit (all.any (sampleOver s ch))) s) → anaUntrue u = false → time = (sampleAt (chanRate s ch) ((getChan s ch).first + volts.length - 1) - anaDelay s ch) / 1000 % 2 ^ 40 →
      exec (.anaWindowEnd ch volts) s =
        .next (windowPoints ch time (kept.any (sampleOver s ch)) (kept.map (sampleCode s ch)) u)) ∧
  (∀ (ch : Nat) (volts : List Int) (u : State) (s : State), ch < 64 → anaOn s = true → chanEn s ch = true → windowFull s ch volts.length = true → (getChan s ch).stopped = true ∨ flag s (fANA_CHSTAT_OPEN ch) = true → u = setF (fANA_CHSTAT_OVERLOAD ch) (bit ((windowSamples s ch volts).any (sampleOver s ch))) s →
      exec (.anaWindowEnd ch volts) s = .next (nextWindow ch volts.length u)) ∧
  (∀ (ch : Nat) (volts : List Int) (all : List (Nat × Int)) (u : State) (s : State), ch < 64 → anaOn s = true → chanEn s ch = true → windowFull s ch volts.length = true → (getChan s ch).stopped = false → flag s (fANA_CHSTAT_OPEN ch) = false → all = windowSamples s ch volts → (all.filter (fun e => !excludedAt s ch e.1)).isEmpty = false → u = nextWindow ch volts.length (setF (fANA_CHSTAT_OVERLOAD ch) (bit (all.any (sampleOver s ch))) s) → anaUntrue u = true →
      exec (.anaWindowEnd ch volts) s = .next (anaAll ch .conv (raiseUntrue u))) ∧
  (∀ (w : Writer) (ch : Nat) (v : Word) (s : State), ch < 64 → mayWrite w (oANA_CHCFG ch) s = true → anaAllowed (bitsOf v.toNat 0 4) (bitsOf v.toNat 4 2) = false →
      exec (.anaChcfgWrite w ch v) s = .next (setF fANA_STATUS_CFG_REJECT 1 s)) ∧
  (∀ (w : Writer) (ch : Nat) (v : Word) (u : State) (s : State), ch < 64 → mayWrite w (oANA_CHCFG ch) s = true → anaAllowed (bitsOf v.toNat 0 4) (bitsOf v.toNat 4 2) = true → chanEn s ch = false → u = freshWindow ch (setReg (oANA_CHCFG ch) (wd (v.toNat % 2 ^ 15)) s) → (getChan (useGain (chanConv u ch) (getF u (fANA_CHCFG_GAIN ch)) u) ch).steerTo = none →
      ∃ t, exec (.anaChcfgWrite w ch v) s = .next t ∧
        t = excludeChan ch 0 (useGain (chanConv u ch) (getF u (fANA_CHCFG_GAIN ch)) u)) ∧
  (∀ (ch : Nat) (ohms : Nat) (c : Chan) (u : State) (s : State), ch < 64 → anaOn s = true → flag s (fANA_CHCFG_OPEN_EN ch) = true → c = getChan s ch → c.openDue ≤ s.clk → 1000000 < ohms → u = setF (fANA_CHSTAT_OPEN ch) 1 (excludeChan ch (max 100000 (periods s ch 1)) (setChan ch { c with openDue := s.clk + 1000000000 * max 1 (getF s fANA_CTL_OPEN_PER) } s)) → chanEn u ch = false →
      exec (.openSensorCheck ch ohms) s =
        .next (causeIs (openGroup u (ch / 4)) (490 + ch / 4) u)) ∧
  (∀ (ch : Nat) (ohms : Nat) (c : Chan) (u : State) (s : State), ch < 64 → anaOn s = true → flag s (fANA_CHCFG_OPEN_EN ch) = true → c = getChan s ch → c.openDue ≤ s.clk → ohms < 500000 → u = setF (fANA_CHSTAT_OPEN ch) 0 (excludeChan ch (max 100000 (periods s ch 1)) (setChan ch { c with openDue := s.clk + 1000000000 * max 1 (getF s fANA_CTL_OPEN_PER) } s)) →
      exec (.openSensorCheck ch ohms) s =
        .next (causeIs (openGroup u (ch / 4)) (490 + ch / 4) u)) ∧
  (∀ (w : Writer) (ch : Nat) (cv : Nat) (s : State), ch < 64 → cv < 68 → mayWrite w (oANA_CHSEL ch) s = true → convState s cv = 0 → flag s (fANA_CHSTAT_STEERING ch) = false →
      exec (.steerStart w ch cv) s = .next (steerBegin ch cv s)) ∧
  (∀ (ch : Nat) (pairs : List (Int × Int)) (w : Nat) (diff : Nat) (s : State), ch < 64 → (getChan s ch).steerTo = some w → anaOn s = true → pairs.length = steerCmp s → (getChan s ch).steerSince + periods s ch (settlePeriods s ch + steerCmp s) ≤ s.clk → diff = steerDiff s (chanConv s ch) w (getF s (fANA_CHCFG_GAIN ch)) pairs →
      exec (.steerSwitch ch pairs) s =
        .next (atticSteer ch (chanConv s ch) w diff (steerDone ch (setF (fANA_CHSTAT_DIFF ch) (min diff 0xFFFF) s))))

/-- CONVERTER_FAULT sets CAUSE and raises the converter's source; of one that serves a channel, the channel's converter
fails. ROTATION_STEP takes an idle converter into the check. ROTATION_CHECK_END fails a converter whose short reads
beyond the limit, with CAUSE 3, and one whose reference does, with CAUSE 4, each with its source; one within both
limits takes the new offset and gain. ROTATION_STALL after ten check periods turns source 506 on. AUDIO_PLL_UNLOCK
and REFERENCE_FAULT clear their status bit, put every channel into converter failure and turn 508 and 507 on. That
the two limits of the check are taken on the corrected code is a reading of the model (log 51). Rests on
05_analog_channels. -/
def Obligations.AnalogConverters : Prop :=
  (∀ (cv : Nat) (cause : Nat) (s : State), cv < 68 → cause = 1 ∨ cause = 2 → anaOn s = true → convChan (raise (473 + cv / 4) (setF (fANA_CONV_CAUSE cv) cause s)) cv = none →
      exec (.converterFault cv cause) s =
        .next (raise (473 + cv / 4) (setF (fANA_CONV_CAUSE cv) cause s))) ∧
  (∀ (cv : Nat) (cause : Nat) (n : Nat) (u : State) (s : State), cv < 68 → cause = 1 ∨ cause = 2 → anaOn s = true → u = raise (473 + cv / 4) (setF (fANA_CONV_CAUSE cv) cause s) → convChan u cv = some n →
      exec (.converterFault cv cause) s = .next (servingFault n u)) ∧
  (∀ (v : Nat) (u : State) (s : State), anaOn s = true → flag s fANA_CTL_ROT_EN = true → s.ana.rotDue ≤ s.clk → s.ana.rotPhase = 0 → rotConv s = some v → convState s v = 0 → u = setF (fANA_CONV_STATE v) 2 (setF fANA_ROT_STAT_STANDIN 0x7F (rotTake v s)) →
      exec .rotationStep s =
        .next ({ u with ana := { u.ana with rotPhase := 2, rotChan := none, rotAt := u.clk } })) ∧
  (∀ (short : Int) (ref : Int) (offset : Word) (gain : Word) (v : Nat) (s : State), anaOn s = true → s.ana.rotPhase = 2 → s.ana.rotAt + 20000000 ≤ s.clk → v = s.ana.rotNext → convState s v = 2 → 8388608 < (checkCode s v short).natAbs * 1000 →
      exec (.rotationCheckEnd short ref offset gain) s =
        .next (rotIdle (raise (473 + v / 4) (rotNextConv v (setF (fANA_CONV_STATE v) 3 (setF (fANA_CONV_CAUSE v) 3 s)))))) ∧
  (∀ (short : Int) (ref : Int) (offset : Word) (gain : Word) (v : Nat) (s : State), anaOn s = true → s.ana.rotPhase = 2 → s.ana.rotAt + 20000000 ≤ s.clk → v = s.ana.rotNext → convState s v = 2 → (checkCode s v short).natAbs * 1000 ≤ 8388608 → 5 * 8388608 < (checkCode s v ref - 4194304).natAbs * 1000 →
      exec (.rotationCheckEnd short ref offset gain) s =
        .next (rotIdle (raise (473 + v / 4) (rotNextConv v (setF (fANA_CONV_STATE v) 3 (setF (fANA_CONV_CAUSE v) 4 s)))))) ∧
  (∀ (short : Int) (ref : Int) (offset : Word) (gain : Word) (v : Nat) (s : State), anaOn s = true → s.ana.rotPhase = 2 → s.ana.rotAt + 20000000 ≤ s.clk → v = s.ana.rotNext → convState s v = 2 → (checkCode s v short).natAbs * 1000 ≤ 8388608 → (checkCode s v ref - 4194304).natAbs * 1000 ≤ 5 * 8388608 → s.ana.rotChan = none → v < 68 →
      ∃ t, exec (.rotationCheckEnd short ref offset gain) s = .next t ∧
        reg t (oANA_CALO v) = offset ∧
        reg t (oANA_CALG v) = gain ∧
        t.ana.rotPhase = 0) ∧
  (∀ (d : Nat) (s : State), anaOn s = true → flag s fANA_CTL_ROT_EN = true → s.ana.rotWait = some d → d + 10 * (1000000000 * max 1 (getF s fANA_CTL_CHECK_PER)) ≤ s.clk →
      exec .rotationStall s = .next (causeOn 506 s)) ∧
  (∀ (s : State), anaOn s = true →
      exec .audioPllUnlock s =
        .next (causeOn 508 (anaConvAll (setF fANA_STATUS_PLL_LOCK 0 s)))) ∧
  (∀ (s : State), anaOn s = true →
      exec .referenceFault s = .next (causeOn 507 (anaConvAll (setF fANA_STATUS_REF_OK 0 s))))

/-- PORT_ENABLE with EN = 1 of a ready port starts detection with DOWN_CAUSE 0; EN = 0 takes the link down with cause 1
and leaves the port off. RETRAIN takes the link down and starts detection. TRAINING_COMPLETE with two ends of one
role records WIRING, raises its source and sets the retry 1 s later; without a common rate, or with a rate below
RATE_MIN, it records NO_RATE, its source and a retry 10 s later; a rate it may qualify with a margin of 30 or more
brings the link up. DETECTION_RETRY at its time starts detection. INFO_FIELD_RX needs a field twice before it stores
it; in detection, from the other role with QUIET = 0, it starts training. LINK_DOWN takes the link down with its
cause and starts detection. LINK_UP of a trained copper link or a lit optical one brings it up. LINK_DEGRADED after
1 s below the margin, or in the third second with uncorrectable codewords, stands as the degraded source.
KEEPALIVE_SHIFT, once the far end shows SHIFT, and KEEPALIVE_EXIT lower and restore the rate. DOWN_CAUSE of a port
that starts and the rate of LINK_UP are readings of the model (logs 56, 60). Rests on 06_ring_media_and_bypass. -/
def Obligations.MediaLinks : Prop :=
  (∀ (w : Writer) (p : Nat) (u : State) (s : State), p < 4 → mayWrite w (oRGx_PHY_CTL p) s = true → portEn s p = false → u = setF (fRGx_PHY_CTL_EN p) 1 s → portAlive u p = true →
      exec (.portEnable w p true) s = .next (startDetect p (downCause p 0 u))) ∧
  (∀ (w : Writer) (p : Nat) (s : State), p < 4 → mayWrite w (oRGx_PHY_CTL p) s = true → portEn s p = false → portAlive (setF (fRGx_PHY_CTL_EN p) 1 s) p = true → inSelf s p = false →
      ∃ t, exec (.portEnable w p true) s = .next t ∧
        portEn t p = true ∧
        portState t p = 1 ∧
        getF t (fRGx_PHY_STAT_DOWN_CAUSE p) = 0 ∧
        (getPort t p).retryAt = none) ∧
  (∀ (w : Writer) (p : Nat) (u : State) (s : State), p < 4 → mayWrite w (oRGx_PHY_CTL p) s = true → portEn s p = true → linkUp (setF (fRGx_PHY_CTL_EN p) 0 s) p = false → u = takeDown p 1 false (setF (fRGx_PHY_CTL_EN p) 0 s) →
      exec (.portEnable w p false) s =
        .next (causeOff (64 + 8 * p) (setPortState p 0 (setPort p { getPort u p with retryAt := none, quietUntil := none } u)))) ∧
  (∀ (w : Writer) (p : Nat) (s : State), p < 4 → mayWrite w (oRGx_PHY_CTL p) s = true → portEn s p = true → linkUp s p = true →
      ∃ t, exec (.portEnable w p false) s = .next t ∧
        portEn t p = false ∧
        linkUp t p = false ∧
        portState t p = 0 ∧
        getF t (fRGx_PHY_STAT_DOWN_CAUSE p) = 1 ∧
        64 + 8 * p ∈ t.flt.pulse) ∧
  (∀ (w : Writer) (p : Nat) (s : State), p < 4 → mayWrite w (oRGx_PHY_CTL p) s = true → portEn s p = true →
      exec (.retrain w p) s = .next (startDetect p (takeDown p 0 true s))) ∧
  (∀ (w : Writer) (p : Nat) (s : State), p < 4 → mayWrite w (oRGx_PHY_CTL p) s = true → portAlive s p = true → linkUp s p = true → inSelf s p = false →
      ∃ t, exec (.retrain w p) s = .next t ∧
        linkUp t p = false ∧
        portState t p = 1 ∧
        getF t (fRGx_PHY_STAT_DOWN_CAUSE p) = 0 ∧
        64 + 8 * p ∈ t.flt.level) ∧
  (∀ (p : Nat) (s : State), p < 4 → mayTrain s p = true → portState s p = 1 → (getPort s p).infoOk = true → sameRole s p = true →
      ∃ t, exec (.trainingComplete p .wiring) s = .next t ∧
        portState t p = 1 ∧
        getF t (fRGx_PHY_STAT_DOWN_CAUSE p) = 4 ∧
        (getPort t p).retryAt = some (s.clk + 1000000000) ∧
        64 + 8 * p + 1 ∈ t.flt.pulse) ∧
  (∀ (p : Nat) (s : State), p < 4 → mayTrain s p = true → portState s p = 2 →
      ∃ t, exec (.trainingComplete p .noRate) s = .next t ∧
        portState t p = 1 ∧
        getF t (fRGx_PHY_STAT_DOWN_CAUSE p) = 5 ∧
        (getPort t p).retryAt = some (s.clk + 10000000000) ∧
        64 + 8 * p + 2 ∈ t.flt.pulse) ∧
  (∀ (p : Nat) (rate : Nat) (margin : Nat) (us : Nat) (s : State), p < 4 → mayTrain s p = true → portState s p = 2 → mayQualify s p rate = true → 30 ≤ margin →
      exec (.trainingComplete p (.up rate margin us)) s =
        .next (qualify p rate (setF (fRGx_TRAIN_TIME_TRAIN_TIME p) (min us 0xFFFFFF) (setF (fRGx_PHY_MARGIN_MARGIN p) (min margin 255) s)))) ∧
  (∀ (p : Nat) (rate : Nat) (margin : Nat) (us : Nat) (s : State), p < 4 → mayTrain s p = true → portState s p = 2 → mayQualify s p rate = true → rate ≤ getF s (fRGx_PHY_CTL_RATE_MIN p) → 30 ≤ margin →
      ∃ t, exec (.trainingComplete p (.up rate margin us)) s = .next t ∧
        linkUp t p = true ∧
        portState t p = 3 ∧
        getF t (fRGx_PHY_STAT_RATE p) = rate ∧
        getF t (fRGx_PHY_STAT_DOWN_CAUSE p) = 0 ∧
        getF t (fRGx_PHY_MARGIN_MARGIN p) = min margin 255 ∧
        getF t (fRGx_TRAIN_TIME_TRAIN_TIME p) = min us 0xFFFFFF) ∧
  (∀ (p : Nat) (rate : Nat) (margin : Nat) (us : Nat) (s : State), p < 4 → mayTrain s p = true → portState s p = 2 → mayQualify s p rate = true → getF s (fRGx_PHY_CTL_RATE_MIN p) < rate → 30 ≤ margin →
      ∃ t, exec (.trainingComplete p (.up rate margin us)) s = .next t ∧
        portState t p = 1 ∧
        getF t (fRGx_PHY_STAT_DOWN_CAUSE p) = 5 ∧
        (getPort t p).retryAt = some (s.clk + 10000000000) ∧
        64 + 8 * p + 2 ∈ t.flt.pulse) ∧
  (∀ (p : Nat) (d : Nat) (s : State), p < 4 → (getPort s p).retryAt = some d → d ≤ s.clk → portAlive s p = true → silent s p = false →
      exec (.detectionRetry p) s = .next (startDetect p s)) ∧
  (∀ (p : Nat) (d : Nat) (s : State), p < 4 → (getPort s p).retryAt = some d → d ≤ s.clk → portAlive s p = true → silent s p = false → inSelf s p = false →
      ∃ t, exec (.detectionRetry p) s = .next t ∧
        portState t p = 1 ∧
        (getPort t p).retryAt = none ∧
        (getPort t p).infoOk = false ∧
        (getPort t p).infoCand = none) ∧
  (∀ (p : Nat) (info : BitVec 48) (s : State), p < 4 → portAlive s p = true → (getPort s p).infoCand ≠ some info.toNat →
      exec (.infoFieldRx p info) s =
        .next (setPort p { getPort s p with infoCand := some info.toNat } s)) ∧
  (∀ (p : Nat) (info : BitVec 48) (s : State), p < 4 → portAlive s p = true → (getPort s p).infoCand = some info.toNat →
      ∃ t, exec (.infoFieldRx p info) s = .next t ∧
        reg t (oRGx_PHY_INFO_LO p) = wd info.toNat ∧
        reg t (oRGx_PHY_INFO_HI p) = wd (info.toNat / 2 ^ 24)) ∧
  (∀ (p : Nat) (info : BitVec 48) (s : State), p < 4 → mayTrain s p = true → portState s p = 1 → (getPort s p).infoCand = some info.toNat → bitsOf info.toNat 10 1 = 0 → bitsOf info.toNat 4 1 ≠ p % 2 →
      ∃ t, exec (.infoFieldRx p info) s = .next t ∧
        portState t p = 2) ∧
  (∀ (p : Nat) (s : State), p < 4 → linkUp s p = true → portAlive s p = true → inSelf s p = false → getF s fPWR_STATUS_STATE ≠ 2 →
      ∃ t, exec (.linkDown p .lockLost) s = .next t ∧
        linkUp t p = false ∧
        portState t p = 1 ∧
        getF t (fRGx_PHY_STAT_DOWN_CAUSE p) = 3 ∧
        64 + 8 * p ∈ t.flt.level) ∧
  (∀ (p : Nat) (s : State), p < 4 → linkUp s p = true → portAlive s p = true → inSelf s p = false → getF s fPWR_STATUS_STATE ≠ 2 → isOptical s p = true →
      ∃ t, exec (.linkDown p .noSignal) s = .next t ∧
        linkUp t p = false ∧
        portState t p = 1 ∧
        getF t (fRGx_PHY_STAT_DOWN_CAUSE p) = 2 ∧
        flag t (fRGx_MOD_STAT_RX_LOS p) = true ∧
        64 + 8 * p ∈ t.flt.level) ∧
  (∀ (p : Nat) (s : State), p < 4 → mayTrain s p = true → portState s p = 2 → mayQualify s p (getPort s p).trainRate = true →
      exec (.linkUp p) s = .next (qualify p (getPort s p).trainRate s)) ∧
  (∀ (p : Nat) (s : State), p < 4 → mayTrain s p = true → portState s p = 2 → mayQualify s p (getPort s p).trainRate = true → (getPort s p).trainRate ≤ getF s (fRGx_PHY_CTL_RATE_MIN p) →
      ∃ t, exec (.linkUp p) s = .next t ∧
        linkUp t p = true ∧
        portState t p = 3 ∧
        getF t (fRGx_PHY_STAT_RATE p) = (getPort s p).trainRate ∧
        getF t (fRGx_PHY_STAT_DOWN_CAUSE p) = 0) ∧
  (∀ (p : Nat) (s : State), p < 4 → mayTrain s p = false → opticalReady s p = true → sameRole s p = false →
      ∃ t, exec (.linkUp p) s = .next t ∧
        linkUp t p = true ∧
        portState t p = 3 ∧
        getF t (fRGx_PHY_STAT_RATE p) = 0 ∧
        getF t (fRGx_PHY_STAT_DOWN_CAUSE p) = 0) ∧
  (∀ (p : Nat) (margin : Nat) (ce : Nat) (d : Nat) (s : State), p < 4 → linkUp s p = true → isCopper s p = true → margin < 5 * getF s (fRGx_PHY_CTL_DEG_MARGIN p) → (getPort s p).lowSince = some d → d + 1000000000 ≤ s.clk →
      ∃ t, exec (.linkDegraded p margin ce 0) s = .next t ∧
        64 + 8 * p + 3 ∈ t.flt.level ∧
        linkUp t p = true ∧
        getF t (fRGx_PHY_MARGIN_MARGIN p) = min margin 255) ∧
  (∀ (p : Nat) (margin : Nat) (ce : Nat) (uc : Nat) (s : State), p < 4 → linkUp s p = true → uc ≠ 0 → 2 ≤ (getPort s p).uncRun → (getPort s p).uncSec + 1 = s.clk / 1000000000 →
      ∃ t, exec (.linkDegraded p margin ce uc) s = .next t ∧
        64 + 8 * p + 3 ∈ t.flt.level ∧
        linkUp t p = true ∧
        (getPort t p).uncRun = (getPort s p).uncRun + 1) ∧
  (∀ (p : Nat) (s : State), p < 4 → linkUp s p = true → portState s p = 3 → farInfo s p 11 1 = 1 → getF s fPWR_STATUS_STATE ≠ 2 →
      ∃ t, exec (.keepaliveShift p) s = .next t ∧
        linkUp t p = true ∧
        portState t p = 4 ∧
        getF t (fRGx_PHY_STAT_RATE p) = 3 ∧
        (getPort t p).keptRate = getF s (fRGx_PHY_STAT_RATE p) ∧
        (getPort t p).shiftSent = true) ∧
  (∀ (p : Nat) (s : State), p < 4 → linkUp s p = true → portState s p = 4 → portReady s p = true → (getPort s p).coeffs = true → farInfo s p 12 1 = 1 → (getPort s p).keptRate < 4 →
      ∃ t, exec (.keepaliveExit p true) s = .next t ∧
        linkUp t p = true ∧
        portState t p = 3 ∧
        getF t (fRGx_PHY_STAT_RATE p) = (getPort s p).keptRate ∧
        (getPort t p).shiftSent = false) ∧
  (∀ (p : Nat) (s : State), p < 4 → linkUp s p = true → portState s p = 4 → portReady s p = true → inSelf s p = false →
      ∃ t, exec (.keepaliveExit p false) s = .next t ∧
        linkUp t p = false ∧
        portState t p = 1 ∧
        64 + 8 * p ∈ t.flt.level ∧
        (getPort t p).shiftSent = false)

/-- MODULE_INSERTED of a module slower than 25 Gbit/s leaves PRESENT without SUITED, DOWN_CAUSE 6, the transmitter off
and its source raised; of a fast one it shows SUITED and turns the transmitter on. MODULE_FAULT takes the link down
with cause 6, turns the transmitter off and raises the source. DDM_POLL that fails sets I2C_ERR and raises the
source; one that reads shows the five values and no alarm where no flag is set. OPTICAL_LINK_UP brings up an optical
link that waits, and records a wiring fault between two ends of one role. Rests on 06_ring_media_and_bypass. -/
def Obligations.MediaModules : Prop :=
  (∀ (p : Nat) (id : List Nat) (s : State), p < 4 → isOptical s p = true → moduleRate id < 25000 →
      ∃ t, exec (.moduleInserted p id) s = .next t ∧
        flag t (fRGx_MOD_STAT_PRESENT p) = true ∧
        flag t (fRGx_MOD_STAT_SUITED p) = false ∧
        getF t (fRGx_PHY_STAT_DOWN_CAUSE p) = 6 ∧
        (getPort t p).txDis = true ∧
        64 + 8 * p + 4 ∈ t.flt.pulse) ∧
  (∀ (p : Nat) (id : List Nat) (s : State), p < 4 → isOptical s p = true → 25000 ≤ moduleRate id →
      ∃ t, exec (.moduleInserted p id) s = .next t ∧
        flag t (fRGx_MOD_STAT_PRESENT p) = true ∧
        flag t (fRGx_MOD_STAT_SUITED p) = true ∧
        flag t (fRGx_MOD_STAT_TX_FAULT p) = false ∧
        (getPort t p).txDis = false) ∧
  (∀ (p : Nat) (absent : Bool) (s : State), p < 4 → isOptical s p = true → flag s (fRGx_MOD_STAT_PRESENT p) = true →
      ∃ t, exec (.moduleFault p absent) s = .next t ∧
        linkUp t p = false ∧
        getF t (fRGx_PHY_STAT_DOWN_CAUSE p) = 6 ∧
        (getPort t p).txDis = true ∧
        flag t (fRGx_MOD_STAT_PRESENT p) = !absent ∧
        64 + 8 * p + 4 ∈ t.flt.pulse) ∧
  (∀ (p : Nat) (s : State), p < 4 → flag s (fRGx_MOD_STAT_PRESENT p) = true → flag s (fRGx_MOD_STAT_SUITED p) = true → flag s (fRGx_MOD_STAT_DDM p) = true →
      exec (.ddmPoll p none) s =
        .next (raise (64 + 8 * p + 4) (setF (fRGx_MOD_STAT_I2C_ERR p) 1 s))) ∧
  (∀ (p : Nat) (bs : List Nat) (flags : Nat) (s : State), p < 4 → flag s (fRGx_MOD_STAT_PRESENT p) = true → flag s (fRGx_MOD_STAT_SUITED p) = true → flag s (fRGx_MOD_STAT_DDM p) = true → flags % 65536 = 0 →
      exec (.ddmPoll p (some (bs, flags))) s =
        .next (setF (fRGx_MOD_ALARM_ALARM p) 0 ([0, 1, 2, 3, 4].foldl (fun t i =>
          setF (fRGx_MOD_DDM_DDM p i) (bs.getD (2 * i) 0 % 256 * 256 + bs.getD (2 * i + 1) 0 % 256) t) s))) ∧
  (∀ (p : Nat) (s : State), p < 4 → opticalReady s p = true → sameRole s p = false →
      ∃ t, exec (.opticalLinkUp p) s = .next t ∧
        linkUp t p = true ∧
        portState t p = 3 ∧
        getF t (fRGx_PHY_STAT_RATE p) = 0 ∧
        flag t (fRGx_MOD_STAT_RX_LOS p) = false ∧
        getF t (fRGx_PHY_STAT_DOWN_CAUSE p) = 0) ∧
  (∀ (p : Nat) (s : State), p < 4 → opticalReady s p = true → sameRole s p = true →
      ∃ t, exec (.opticalLinkUp p) s = .next t ∧
        portState t p = 1 ∧
        getF t (fRGx_PHY_STAT_DOWN_CAUSE p) = 4 ∧
        (getPort t p).retryAt = some (s.clk + 1000000000) ∧
        64 + 8 * p + 1 ∈ t.flt.pulse)

/-- IR_START of a port that may starts a measurement and, of one that may not, leaves it pending. IR_GUARD_RETRY draws a
new wait of 1 s to 10 s (a free value, log 3), begins the guard again when the wait ends, and after the third try
reports DEFERRED. IR_COMPLETE 360 ms after the drive stores the result in kilohms with VALID, clears RUNNING, sets
ALARM by the threshold and keeps the minimum. IR_HOUR_ROLLOVER shifts the hourly minima of the four ports. TDR_START
is refused on a link that is up without FORCE and otherwise silences the port; TDR_SILENCE sends the probe after 1
ms of silence or reports failure after 20 ms; TDR_COMPLETE stores the reflections found, their number and DONE, and
starts detection. QUIET_RECEIVED silences a port for 100 ms and QUIET_TIMEOUT then starts detection. Rests on
06_ring_media_and_bypass. -/
def Obligations.MediaMeasurements : Prop :=
  (∀ (p : Nat) (s : State), p < 4 →
      exec (.irStart p true) s = .next (irDueNow p s)) ∧
  (∀ (p : Nat) (s : State), p < 4 → flag s (fRGx_IR_STAT_RUNNING p) = false → irAllowed s p = true → linkUp s p = false →
      ∃ t, exec (.irStart p true) s = .next t ∧
        flag t (fRGx_IR_STAT_RUNNING p) = true ∧
        (getPort t p).irSince = s.clk ∧
        (getPort t p).irLast = s.clk ∧
        (getPort t p).irTries = 0 ∧
        (getPort t p).irPend = false) ∧
  (∀ (p : Nat) (s : State), p < 4 → flag s (fRGx_IR_STAT_RUNNING p) = false → irAllowed s p = false →
      ∃ t, exec (.irStart p true) s = .next t ∧
        (getPort t p).irPend = true) ∧
  (∀ (p : Nat) (s : State), p < 4 → flag s (fRGx_IR_STAT_RUNNING p) = true → irAllowed s p = true → (getPort s p).irRetry = none → s.clk < (getPort s p).irSince + 10000000 → 2 ≤ (getPort s p).irTries →
      exec (.irGuardRetry p) s =
        .next (setF (fRGx_IR_RES_DEFERRED p) 1 (setF (fRGx_IR_STAT_RUNNING p) 0 (setPort p { getPort s p with irTries := 0, irRetry := none } s)))) ∧
  (∀ (p : Nat) (s : State), p < 4 → flag s (fRGx_IR_STAT_RUNNING p) = true → irAllowed s p = true → (getPort s p).irRetry = none → s.clk < (getPort s p).irSince + 10000000 → (getPort s p).irTries < 2 →
      exec (.irGuardRetry p) s =
        .next (drawn (setPort p { getPort s p with
          irTries := (getPort s p).irTries + 1, irRetry := some (s.clk + (1000000000 + freeVal s 9000000001)) } s))) ∧
  (∀ (p : Nat) (d : Nat) (s : State), p < 4 → flag s (fRGx_IR_STAT_RUNNING p) = true → irAllowed s p = true → (getPort s p).irRetry = some d → d ≤ s.clk → linkUp s p = false →
      exec (.irGuardRetry p) s =
        .next (setPort p { getPort s p with irRetry := none, irSince := s.clk } s)) ∧
  (∀ (p : Nat) (kohm : Nat) (s : State), p < 4 → flag s (fRGx_IR_STAT_RUNNING p) = true → irAllowed s p = true → (getPort s p).irRetry = none → (getPort s p).irSince + 360000000 ≤ s.clk → 100 ≤ kohm → kohm ≤ 1000000 →
      ∃ t, exec (.irComplete p kohm) s = .next t ∧
        reg t (oRGx_IR_RES p) = wd (kohm + 2 ^ 23) ∧
        flag t (fRGx_IR_STAT_RUNNING p) = false ∧
        flag t (fRGx_IR_STAT_ALARM p) = decide (kohm < getF s (fRGx_IR_ALARM_ALARM p)) ∧
        (getPort t p).irMin = min (getPort s p).irMin kohm) ∧
  (∀ (s : State), exec .irHourRollover s = .next (irShift 3 (irShift 2 (irShift 1 (irShift 0 s))))) ∧
  (∀ (w : Writer) (p : Nat) (v : Word) (s : State), p < 4 → mayWrite w (oRGx_TDR_CTL p) s = true → linkUp s p = true → bitsOf v.toNat 1 1 = 0 →
      exec (.tdrStart w p v) s = .next (setF (fRGx_PHY_STAT_CFG_REJECT p) 1 s)) ∧
  (∀ (w : Writer) (p : Nat) (v : Word) (s : State), p < 4 → mayWrite w (oRGx_TDR_CTL p) s = true → linkUp s p = false → (getPort s p).tdrPhase = 0 → pairInLine s (p / 2) = true → isCopper s p = true →
      ∃ t, exec (.tdrStart w p v) s = .next t ∧
        portState t p = 5 ∧
        (getPort t p).tdrPhase = 1 ∧
        (getPort t p).tdrSince = s.clk ∧
        reg t (oRGx_TDR_STAT p) = 1) ∧
  (∀ (p : Nat) (s : State), p < 4 → (getPort s p).tdrPhase = 1 → (getPort s p).tdrSince + 1000000 ≤ s.clk →
      exec (.tdrSilence p true) s =
        .next (emit (.probe p 1) (setPort p { getPort s p with tdrPhase := 2, tdrSince := s.clk } s))) ∧
  (∀ (p : Nat) (s : State), p < 4 → (getPort s p).tdrPhase = 1 → (getPort s p).tdrSince + 20000000 ≤ s.clk → portAlive s p = true → inSelf s p = false →
      ∃ t, exec (.tdrSilence p false) s = .next t ∧
        reg t (oRGx_TDR_STAT p) = wd 7 ∧
        (getPort t p).tdrPhase = 0 ∧
        portState t p = 1) ∧
  (∀ (p : Nat) (l : List (Nat × Int)) (r : List (Nat × Int)) (s : State), p < 4 → (getPort s p).tdrPhase = 2 → (getPort s p).tdrSince + 4096000 ≤ s.clk → portAlive s p = true → inSelf s p = false → r = reflections s p l →
      ∃ t, exec (.tdrComplete p l) s = .next t ∧
        reg t (oRGx_TDR_STAT p) = wd (2 + r.length * 16) ∧
        (∀ k, k < 4 → reg t (oRGx_TDR_RES p k) = (r.map reflWord).getD k 0) ∧
        (getPort t p).tdrPhase = 0 ∧
        portState t p = 1) ∧
  (∀ (p : Nat) (s : State), p < 4 → portAlive s p = true → silent s p = false → (getPort s p).tdrPhase = 0 →
      ∃ t, exec (.quietReceived p) s = .next t ∧
        linkUp t p = false ∧
        portState t p = 1 ∧
        (getPort t p).quietUntil = some (s.clk + 100000000) ∧
        (getPort t p).retryAt = none) ∧
  (∀ (p : Nat) (d : Nat) (s : State), p < 4 → (getPort s p).quietUntil = some d → d ≤ s.clk → portAlive s p = true → inSelf s p = false →
      ∃ t, exec (.quietTimeout p) s = .next t ∧
        portState t p = 1 ∧
        (getPort t p).quietUntil = none ∧
        (getPort t p).infoOk = false)

/-- BYP_HOLD_EN_WRITE is the write of the pair's control register: HOLD_EN = 1 of a pair enables both ports and begins
self-training; HOLD_EN = 0 takes HOLD low, both links down and the pair out of line. SELF_TRAIN_DONE with both ports
trained takes HOLD high, STATE to settling and starts the settling and pull times. SELF_TRAIN_FAIL raises both
ports' wiring source and tries again 10 s later. BYPASS_SETTLE with SENSE_EN and no sensed contact locks the pair
out, and with a sensed contact puts it in line. AUTO_DROP of a pair that was down past DROP_TIME, for less than the
third time in 10 min, releases it and inserts it anew. Rests on 06_ring_media_and_bypass. -/
def Obligations.MediaBypass : Prop :=
  (∀ (w : Writer) (x : Nat) (v : Word) (s : State), x < 2 → mayWrite w (oRGx_BYP_CTL x) s = true →
      exec (.bypHoldEnWrite w x v) s = .next (bypWrite x v s)) ∧
  (∀ (w : Writer) (x : Nat) (v : Word) (s : State), x < 2 → mayWrite w (oRGx_BYP_CTL x) s = true → bitsOf v.toNat 0 1 = 1 → flag s (fRGx_BYP_CTL_HOLD_EN x) = false → flag s (fRGx_BYP_STAT_LOCKED_OUT x) = false →
      ∃ t, exec (.bypHoldEnWrite w x v) s = .next t ∧
        flag t (fRGx_BYP_CTL_HOLD_EN x) = true ∧
        getF t (fRGx_BYP_STAT_STATE x) = 1 ∧
        portEn t (2 * x) = true ∧
        portEn t (2 * x + 1) = true ∧
        portState t (2 * x + 1) = 6 ∧
        getF t (fRGx_PHY_STAT_DOWN_CAUSE (2 * x + 1)) = 8 ∧
        (getByp t x).trainAt = s.clk) ∧
  (∀ (w : Writer) (x : Nat) (v : Word) (s : State), x < 2 → mayWrite w (oRGx_BYP_CTL x) s = true → bitsOf v.toNat 0 1 = 0 → flag s (fRGx_BYP_CTL_HOLD_EN x) = true →
      ∃ t, exec (.bypHoldEnWrite w x v) s = .next t ∧
        flag t (fRGx_BYP_CTL_HOLD_EN x) = false ∧
        flag t (fRGx_BYP_STAT_HOLD x) = false ∧
        getF t (fRGx_BYP_STAT_STATE x) = 0 ∧
        linkUp t (2 * x) = false ∧
        linkUp t (2 * x + 1) = false) ∧
  (∀ (x : Nat) (re : Nat) (rw : Nat) (s : State), x < 2 → selfTrained s x re rw = true → standsIn s x = false →
      ∃ t, exec (.selfTrainDone x re rw) s = .next t ∧
        getF t (fRGx_BYP_STAT_STATE x) = 2 ∧
        flag t (fRGx_BYP_STAT_HOLD x) = true ∧
        (getByp t x).settleAt = some (s.clk + 5000000 * getF s (fRGx_BYP_CTL_SETTLE x)) ∧
        (getByp t x).pullUntil = s.clk + 10000000 * getF s (fRGx_BYP_CTL_PULL x)) ∧
  (∀ (x : Nat) (s : State), x < 2 → getF s (fRGx_BYP_STAT_STATE x) = 1 → (getByp s x).trainAt ≤ s.clk →
      ∃ t, exec (.selfTrainFail x) s = .next t ∧
        (getByp t x).trainAt = s.clk + 10000000000 ∧
        64 + 16 * x + 1 ∈ t.flt.pulse ∧
        64 + 16 * x + 9 ∈ t.flt.pulse) ∧
  (∀ (x : Nat) (sense : Bool) (d : Nat) (s : State), x < 2 → (getByp s x).settleAt = some d → d ≤ s.clk → getF s (fRGx_BYP_STAT_STATE x) = 2 → flag s (fRGx_BYP_CTL_SENSE_EN x) = true → sense = flag s (fRGx_BYP_CTL_SENSE_POL x) →
      exec (.bypassSettle x sense) s = .next (lockOut x s)) ∧
  (∀ (x : Nat) (sense : Bool) (d : Nat) (s : State), x < 2 → (getByp s x).settleAt = some d → d ≤ s.clk → getF s (fRGx_BYP_STAT_STATE x) = 2 → sense ≠ flag s (fRGx_BYP_CTL_SENSE_POL x) →
      ∃ t, exec (.bypassSettle x sense) s = .next t ∧
        getF t (fRGx_BYP_STAT_STATE x) = 3 ∧
        flag t (fRGx_BYP_STAT_SENSED x) = true ∧
        (getByp t x).settleAt = none ∧
        (getByp t x).downSince = some s.clk) ∧
  (∀ (x : Nat) (d : Nat) (l : List Nat) (u : State) (s : State), x < 2 → (getByp s x).downSince = some d → pairInLine s x = true → flag s (fRGx_BYP_CTL_AUTO_DROP x) = true → d + 250000000 * getF s (fRGx_BYP_CTL_DROP_TIME x) < s.clk → l = s.clk :: (getByp s x).drops.filter (fun d => s.clk ≤ d + 600000000000) → l.length < 3 → u = setF (fRGx_BYP_STAT_DROPS x) (min 15 l.length) (setByp x { getByp s x with drops := l } s) →
      exec (.autoDrop x) s = .next (insertPair x (releasePair x u))) ∧
  (∀ (x : Nat) (d : Nat) (s : State), x < 2 → (getByp s x).downSince = some d → pairInLine s x = true → flag s (fRGx_BYP_CTL_AUTO_DROP x) = true → d + 250000000 * getF s (fRGx_BYP_CTL_DROP_TIME x) < s.clk → (getByp s x).drops = [] →
      ∃ t, exec (.autoDrop x) s = .next t ∧
        getF t (fRGx_BYP_STAT_STATE x) = 1 ∧
        flag t (fRGx_BYP_STAT_HOLD x) = false ∧
        getF t (fRGx_BYP_STAT_DROPS x) = 1 ∧
        (getByp t x).drops = [s.clk])

/-- FRAME_TRANSIT on a port that is not up changes nothing; a wrong header check on an unprotected port counts in
HDR_ERR and leaves the ring's state; a good frame for others is passed on, and a good frame for this hub alone is
delivered, each counted. EGRESS_FRAME_END with nothing to send counts an idle, and otherwise sends the frame the
arbiter chose. SWEEP of a group the hub takes is delivered in Q32, tracked and copied for a twin; of a group it does
not take it is dropped. ACK ends the operation it answers; NAK with cause 4 fails it. BEACON with the hub's own node
and another unit's payload raises 104, sets CONFLICT and stops the hub; the hub's own beacon back by both ways
closes the ring; a neighbour's tells its edition. EVENT of no known stream starts it and is taken, and with REPLAY
it is a duplicate; DFR of the next number is taken with what is held behind it. EVT_MARK of no known stream starts
it; REPLAY_GONE ends the wait of a gap. Rests on 07_yomel_ring_protocol. -/
def Obligations.RingFrames : Prop :=
  (∀ (p : Nat) (r : RxFrame) (s : State), p < 4 → ringUp s p = false →
      exec (.frameTransit p r) s = .next (s)) ∧
  (∀ (p : Nat) (r : RxFrame) (s : State), p < 4 → linkUp s p = true → protectedPort s p = false → r.hchk ≠ frameHchk r.frame →
      ∃ t, exec (.frameTransit p r) s = .next t ∧
        getF t (fRGx_RP_HDR_ERR_HDR_ERR p) = min (getF s (fRGx_RP_HDR_ERR_HDR_ERR p) + 1) 0xFFFFFF ∧
        t.ring = s.ring) ∧
  (∀ (p : Nat) (r : RxFrame) (v : State) (u : State) (s : State), p < 4 → ringUp s p = true → v = addF (fRGx_RP_BLK_ERR_BLK_ERR p) r.strays s → protectedPort v p = false → r.hchk = frameHchk r.frame → classAllowed r.frame.typ r.frame.cls = true → (numbered v = true → r.frame.ring = pairRing v (p / 2)) → portState v p ≠ 4 → r.fin = .good → r.crc = frameCrc r.frame → wayOf v (p / 2) r.frame = .on_ → u = seedSeq (p / 2) r.frame (countEv 5 (8 * p + r.frame.cls) 1 v) →
      exec (.frameTransit p r) s = .next (passOn p (stamped u p r.frame) u)) ∧
  (∀ (p : Nat) (r : RxFrame) (v : State) (u : State) (s : State), p < 4 → ringUp s p = true → v = addF (fRGx_RP_BLK_ERR_BLK_ERR p) r.strays s → protectedPort v p = false → r.hchk = frameHchk r.frame → classAllowed r.frame.typ r.frame.cls = true → r.frame.ring = pairRing v (p / 2) → portState v p ≠ 4 → r.fin = .good → r.crc = frameCrc r.frame → wayOf v (p / 2) r.frame = .here → u = seedSeq (p / 2) r.frame (countEv 5 (8 * p + r.frame.cls) 1 v) →
      exec (.frameTransit p r) s = .next (deliver (p / 2) (stamped u p r.frame) u)) ∧
  (∀ (p : Nat) (s : State), p < 4 → (getPort s p).txUntil ≤ s.clk → ringUp s p = true → domOn s 3 = true → arbitrate s p = none →
      exec (.egressFrameEnd p) s = .next (incF fSWQ_IDLE_SENT_IDLE_SENT s)) ∧
  (∀ (p : Nat) (c : Nat) (g : Option Nat) (i : Nat) (x : Item) (f : Frame) (s : State), p < 4 → (getPort s p).txUntil ≤ s.clk → ringUp s p = true → domOn s 3 = true → arbitrate s p = some (c, g) → offered s p c = some (i, x, f) → g = none →
      ∃ t, exec (.egressFrameEnd p) s = .next t ∧
        t = serve p c i x f s) ∧
  (∀ (f : Frame) (u : State) (s : State), takeRx (fun f => f.typ == 1) s = some (f, u) → isCoupler u = false → subscribed u f.src (f.dest % 64) = false →
      ∃ t, exec .sweep s = .next t ∧
        t = u) ∧
  (∀ (f : Frame) (u : State) (v : State) (s : State), takeRx (fun f => f.typ == 1) s = some (f, u) → isCoupler u = false → subscribed u f.src (f.dest % 64) = true → deliverQ 32 (.words (wd (f.src % 4096) :: f.payload)) 0 u = some v →
      exec .sweep s = .next (twinCopy f (trackSweep f v))) ∧
  (∀ (f : Frame) (u : State) (a : Unacked) (s : State), takeRx (fun f => f.typ == 4) s = some (f, u) → findUnacked u (pw f 0 % 8) f.aux = some a →
      exec .ack s =
        .next (pump { u with ring := { u.ring with unacked := u.ring.unacked.filter (fun v => v != a) } })) ∧
  (∀ (f : Frame) (u : State) (a : Unacked) (s : State), takeRx (fun f => f.typ == 5) s = some (f, u) → findUnacked u (pw f 0 % 8) f.aux = some a → bitsOf (pw f 0) 8 8 = 4 →
      exec .nak s = .next (failOp a 4 u)) ∧
  (∀ (f : Frame) (u : State) (s : State), takeRx (fun f => f.typ == 6) s = some (f, u) → f.src = nodeId u → [wd (pw f 0), wd (pw f 1)] ≠ (beaconPayload u).take 2 →
      exec .beacon s =
        .next (raise 104 (setF (fRGx_RP_STAT_CONFLICT (framePair u f)) 1
          { u with ring := { u.ring with stopped := true } }))) ∧
  (∀ (f : Frame) (u : State) (s : State), takeRx (fun f => f.typ == 6) s = some (f, u) → f.src ≠ nodeId u → f.hops = 0 → f.fabric = false →
      exec .beacon s = .next (neighbourEdition f u)) ∧
  (∀ (f : Frame) (u : State) (d : Nat) (s : State), takeRx (fun f => f.typ == 6) s = some (f, u) → f.src = nodeId u → [wd (pw f 0), wd (pw f 1)] = (beaconPayload u).take 2 → u.ring.beaconAt = some d → f.sq = u.ring.beaconSeq → insSet (bit f.west) u.ring.beaconBack = [0, 1] →
      exec .beacon s =
        .next (setClosed true { u with ring := { u.ring with beaconBack := [0, 1] } })) ∧
  (∀ (f : Frame) (u : State) (s : State), takeRx (fun f => f.typ == 9) s = some (f, u) → tget (fun _ => none) u.ring.streams (streamKey f) = none → f.replay = false →
      exec .event s = .next (takeNext (streamKey f) ⟨f.aux, [], none, f.aux⟩ f u)) ∧
  (∀ (f : Frame) (u : State) (s : State), takeRx (fun f => f.typ == 9) s = some (f, u) → tget (fun _ => none) u.ring.streams (streamKey f) = none → f.replay = true →
      exec .event s = .next (incF (fRGx_RP_DUP_DUP (homePair u)) u)) ∧
  (∀ (f : Frame) (u : State) (st : Stream) (s : State), takeRx (fun f => f.typ == 10) s = some (f, u) → tget (fun _ => none) u.ring.streams (streamKey f) = some st → f.replay = false → f.aux = st.next → st.held.any (fun g => g.aux == f.aux) = false →
      exec .dfr s = .next (takeNext (streamKey f) st f u)) ∧
  (∀ (f : Frame) (u : State) (v : State) (n : Nat) (s : State), takeRx (fun f => f.typ == 11) s = some (f, u) → deliverQ (32 + f.cls) (.frame f) f.cls u = some v → tget (fun _ => none) v.ring.streams (streamKey f) = none → n = (f.aux + 1) % 65536 →
      exec .evtMark s = .next (setStream (streamKey f) ⟨n, [], none, n⟩ v)) ∧
  (∀ (f : Frame) (u : State) (v : State) (st : Stream) (k : Nat) (s : State), takeRx (fun f => f.typ == 12) s = some (f, u) → deliverQ (32 + f.cls) (.frame f) f.cls u = some v → k = 4 * f.src + pw f 0 / 2 % 2 * 2 + pw f 0 % 2 → tget (fun _ => none) v.ring.streams k = some st → st.gapAt ≠ none →
      exec .replayGone s = .next (endWait k st v))

/-- READ_REQ for another node, or one for which a cause holds, is answered READ_ERR with the cause; otherwise with the
words read. READ_RESP and READ_ERR of an outstanding tag end the read with its words or its cause; READ_RETRY sets a
new attempt between 1 and 16 microseconds later (a free value, log 3). WRITE with a count that fits is served, and
one whose count differs from its words fails with ADDRESS_INVALID. BULK_DATA of the expected offset is staged, and
of no open transfer it is discarded (log 70); BULK_ACK of the last word ends the transfer; BULK_ABORT drops a
transfer that is received. REPLAY_REQ is answered from the replay store. Rests on 07_yomel_ring_protocol. -/
def Obligations.RingRequests : Prop :=
  (∀ (ecc : List (Nat × Ecc)) (f : Frame) (u : State) (s : State), takeQ 37 (fun f => f.typ == 13) s = some (f, u) → addrNode (reqAddr f) ≠ nodeId u →
      exec (.readReq ecc) s = .next (readError f cADDRESS u)) ∧
  (∀ (ecc : List (Nat × Ecc)) (cause : Nat) (f : Frame) (u : State) (s : State), takeQ 37 (fun f => f.typ == 13) s = some (f, u) → addrNode (reqAddr f) = nodeId u → 1 ≤ reqCount f → reqCount f ≤ 682 → readCause u f.src (reqAddr f) (reqCount f) = some cause →
      exec (.readReq ecc) s = .next (readError f cause u)) ∧
  (∀ (ecc : List (Nat × Ecc)) (f : Frame) (u : State) (s : State), takeQ 37 (fun f => f.typ == 13) s = some (f, u) → addrNode (reqAddr f) = nodeId u → 1 ≤ reqCount f → reqCount f ≤ 682 → readCause u f.src (reqAddr f) (reqCount f) = none →
      exec (.readReq ecc) s =
        .next (readAnswer f (serveWords (reqAddr f) (reqCount f) ecc u).1 (serveWords (reqAddr f) (reqCount f) ecc u).2)) ∧
  (∀ (f : Frame) (u : State) (r : ReadOut) (v : State) (s : State), takeQ 37 (fun f => f.typ == 14) s = some (f, u) → tget (fun _ => none) u.ring.readTags f.aux = some r → v = { u with ring := { u.ring with
          readTags := tset (fun _ => none) f.aux none u.ring.readTags
          unacked := match readUnacked u f.aux with
            | some a => u.ring.unacked.filter (fun v => v != a)
            | none => u.ring.unacked } } →
      exec .readResp s = .next (readArrive r.who r.wordsAt (f.payload.take r.count) (pump v))) ∧
  (∀ (f : Frame) (u : State) (r : ReadOut) (v : State) (s : State), takeQ 37 (fun f => f.typ == 15) s = some (f, u) → tget (fun _ => none) u.ring.readTags f.aux = some r → v = { u with ring := { u.ring with
          readTags := tset (fun _ => none) f.aux none u.ring.readTags
          unacked := match readUnacked u f.aux with
            | some a => u.ring.unacked.filter (fun v => v != a)
            | none => u.ring.unacked } } →
      exec .readErr s = .next (readFails r.who (pw f 0 % 256) (pump v))) ∧
  (∀ (f : Frame) (u : State) (r : ReadOut) (s : State), takeQ 37 (fun f => f.typ == 16) s = some (f, u) → tget (fun _ => none) u.ring.readTags f.aux = some r →
      exec .readRetry s =
        .next (drawn { u with ring := { u.ring with
          readTags := tset (fun _ => none) f.aux (some { r with retryDue := some (u.clk + 1000 + freeVal u 15001) }) u.ring.readTags } })) ∧
  (∀ (ecc : Ecc) (f : Frame) (u : State) (s : State), takeQ 38 (fun f => f.typ == 17) s = some (f, u) → addrNode (reqAddr f) = nodeId u → 1 ≤ reqCount f → reqCount f ≤ 679 → reqCount f = (f.payload.drop 3).length →
      exec (.write ecc) s =
        .next (serveWrite (reqAddr f) f.src f.aux (bitsOf (pw f 2) 10 1 == 1) (f.payload.drop 3) ecc u)) ∧
  (∀ (ecc : Ecc) (f : Frame) (u : State) (s : State), takeQ 38 (fun f => f.typ == 17) s = some (f, u) → reqCount f ≠ (f.payload.drop 3).length →
      exec (.write ecc) s = .next (writeError f.src f.aux (reqAddr f) cADDRESS u)) ∧
  (∀ (f : Frame) (u : State) (s : State), stwRuns s = true → takeQ 39 (fun f => f.typ == 18) s = some (f, u) → bulkTarget u f = none →
      exec .bulkData s = .next (u)) ∧
  (∀ (f : Frame) (u : State) (g : Staging) (k : Nat) (b : BulkIn) (ws : List Word) (s : State), stwRuns s = true → takeQ 39 (fun f => f.typ == 18) s = some (f, u) → bulkTarget u f = some g → k = 65536 * f.src + f.aux → getBulkIn u k = some b → pw f 0 = b.expect → b.since < 15 → ws = f.payload.drop 1 →
      exec .bulkData s =
        .next (setBulkIn k (some { b with expect := b.expect + ws.length, since := b.since + 1, last := u.clk, owed := true })
          { u with stw := { u.stw with staging := some (stageWords g b.expect ws) } })) ∧
  (∀ (f : Frame) (u : State) (b : BulkOut) (s : State), stwRuns s = true → takeQ 39 (fun f => f.typ == 19) s = some (f, u) → getBulkOut u f.aux = some b → b.dest = f.src → b.words.length ≤ pw f 0 →
      exec .bulkAck s = .next (setBulkOut f.aux none u)) ∧
  (∀ (f : Frame) (u : State) (s : State), stwRuns s = true → takeQ 39 (fun f => f.typ == 20) s = some (f, u) → getBulkOut u f.aux = none →
      exec .bulkAbort s = .next (setBulkIn (65536 * f.src + f.aux) none u)) ∧
  (∀ (f : Frame) (u : State) (s : State), stwRuns s = true → takeQ 34 (fun f => f.typ == 8) s = some (f, u) →
      exec .replayReq s = .next (answerReplay f u))

/-- CONTROL OPEN takes the first free desk of 2 to 5 and answers its session, or answers BUSY where none is free.
CONTROL COMMAND of a session's holder writes the command area and rings the desk; of anyone else it is answered as
no session. CONTROL RESPONSE reaches Q209 (log 97). CONTROL CLOSE by the holder closes the session.
EDITION_MISMATCH_CHECK of a neighbour that shows another edition for 1 s raises 518 and sends the event once. Rests
on 07_yomel_ring_protocol, 11_steward_desk_and_editions. -/
def Obligations.RingSessions : Prop :=
  (∀ (f : Frame) (u : State) (d : Nat) (v : State) (s : State), stwRuns s = true → takeQ 34 (isControl 0) s = some (f, u) → [2, 3, 4, 5].find? (fun d => !flag u (fDSK_DESK_SESSION d) && getF u (fDSK_DESK_STATE d) != 1) = some d → v = openSession d f.src (nodeRights u f.src) u →
      exec .controlOpen s =
        .next (sendResponse f.src d (getDesk v d).sessionId (respWords 0 0 0 0 []) v)) ∧
  (∀ (f : Frame) (u : State) (s : State), stwRuns s = true → takeQ 34 (isControl 0) s = some (f, u) → [2, 3, 4, 5].find? (fun d => !flag u (fDSK_DESK_SESSION d) && getF u (fDSK_DESK_STATE d) != 1) = none →
      exec .controlOpen s = .next (sendResponse f.src 0 0 (respWords 0 0 7 0 []) u)) ∧
  (∀ (f : Frame) (u : State) (s : State), stwRuns s = true → takeQ 34 (isControl 1) s = some (f, u) → holdsSession u f = false →
      exec .controlCommand s = .next (noSession f u)) ∧
  (∀ (f : Frame) (u : State) (s : State), stwRuns s = true → takeQ 34 (isControl 1) s = some (f, u) → holdsSession u f = true →
      exec .controlCommand s =
        .next (ringDesk (bitsOf (pw f 0) 2 3) ((indexed 0 ((f.payload.drop 1).take 64)).foldl
          (fun t e => cmdAreaWrite (bitsOf (pw f 0) 2 3) e.1 e.2 t) u))) ∧
  (∀ (f : Frame) (u : State) (s : State), stwRuns s = true → takeQ 34 (isControl 2) s = some (f, u) →
      exec .controlResponse s = .next (pushWords 209 (wd f.src :: wd f.aux :: f.payload) u)) ∧
  (∀ (f : Frame) (u : State) (s : State), stwRuns s = true → takeQ 34 (isControl 3) s = some (f, u) → holdsSession u f = true →
      exec .controlClose s = .next (closeSession (bitsOf (pw f 0) 2 3) u)) ∧
  (∀ (f : Frame) (u : State) (s : State), stwRuns s = true → takeQ 34 (isControl 3) s = some (f, u) → holdsSession u f = false →
      exec .controlClose s = .next (noSession f u)) ∧
  (∀ (p : Nat) (node : Nat) (ed : Nat) (d : Nat) (s : State), p < 4 → tget (fun _ => none) s.ring.nbrEd p = some (node, ed, d) → d + 1000000000 ≤ s.clk → s.ring.nbrRaised = false → stwRuns s = true →
      exec (.editionMismatchCheck p) s =
        .next (Machine.event 0x21 3 0 [wd node, wd ed] (raise 518 { s with ring := { s.ring with nbrRaised := true } })))

/-- TIME_SYNC is dropped by the grandmaster and sets the source and meets ring time of a hub without a source, from
origin time and correction. TIME_ANNOUNCE enters its sender among the candidates and selects again. DLY_REQ is
answered; DLY_RESP gives the link delay; DELAY_MEASURE_TIMER asks once a millisecond. TIME_SYNC_TIMER and
TIME_ANNOUNCE_TIMER send at their times. GRANDMASTER_TIMEOUT selects again, and raises 108 where another grandmaster
takes its place; SYNC_HOLDOVER after three intervals holds the frequency and sets HOLDOVER; OFFSET_ALARM after 10 s
raises 109. PPS_IN_EDGE within 1 microsecond leaves ring time and shows PPS_LOCKED; an unlocked hub further away
jumps to the second. PPS_MISSED after 3 s clears PPS_LOCKED, holds the frequency and raises 110; PPS_OUT_PULSE
drives the pulse at the second. How ring time follows its source is the model's reading (logs 26, 71, 72). Rests on
07_yomel_ring_protocol. -/
def Obligations.RingTime : Prop :=
  (∀ (f : Frame) (u : State) (s : State), takeRx (fun f => f.typ == 2) s = some (f, u) → u.rtime.gm = some (nodeId u) →
      exec .timeSync s = .next (u)) ∧
  (∀ (f : Frame) (u : State) (g : Frame) (corr : Nat) (s : State), takeRx (fun f => f.typ == 2) s = some (f, u) → u.rtime.gm ≠ some (nodeId u) → (isCoupler u && framePair u f == awayPair u) = false → u.rtime.source = none → tget (fun _ => none) u.rtime.syncSeen f.src = none → g = moveCorr f (256 * u.clk) → corr = ofLE [pw g 3 % 256, pw g 3 / 256 % 256, pw g 3 / 65536, pw g 4 % 256, pw g 4 / 256 % 256, pw g 4 / 65536] →
      exec .timeSync s =
        .next (meet (((pw f 0 + 2 ^ 24 * pw f 1 + 2 ^ 48 * (pw f 2 % 65536) : Nat) : Int) + (BitVec.ofNat 48 corr).toInt / 256)
          { u with rtime := { u.rtime with
            source := some f.src, prevSync := some (pw f 2 / 65536, bitsOf (pw f 5) 12 8),
            syncSeen := tset (fun _ => none) f.src (some (f.aux * 1024 + f.hops)) u.rtime.syncSeen } })) ∧
  (∀ (f : Frame) (u : State) (c : Candidate) (s : State), getQ s 33 = [] → takeRx (fun f => f.typ == 3) s = some (f, u) → c = ⟨bitsOf (pw f 0) 0 12, bitsOf (pw f 0) 12 8, bitsOf (pw f 0) 20 1 == 1, u.clk⟩ →
      exec .timeAnnounce s =
        .next (crossBcast f (selectGm { u with rtime := { u.rtime with cands := c :: u.rtime.cands.filter (fun d => d.node != c.node) } }))) ∧
  (∀ (p : Nat) (sq : Nat) (turn : Nat) (s : State), p < 4 → linkUp s p = true →
      exec (.dlyReq p sq turn) s = .next (emit (.dly p true (sq % 65536) (turn % 2 ^ 32)) s)) ∧
  (∀ (p : Nat) (sq : Nat) (turn : Nat) (el : Nat) (at0 : Nat) (s : State), p < 4 → (getPort s p).dlyOut = some (sq, at0) → (getPort s p).delays = [] →
      ∃ t, exec (.dlyResp p sq turn el) s = .next t ∧
        getF t (fRGx_RP_LINK_DELAY_LINK_DELAY p) = min 0xFFFFFF ((el - turn) * 8) ∧
        (getPort t p).dlyOut = none ∧
        (getPort t p).delays = [(el - turn) * 8]) ∧
  (∀ (p : Nat) (n : Nat) (s : State), p < 4 → linkUp s p = true → (getPort s p).dlyDue ≤ s.clk → n = ((getPort s p).dlySeq + 1) % 65536 →
      exec (.delayMeasureTimer p) s =
        .next (emit (.dly p false n 0) (setPort p { getPort s p with
          dlySeq := n, dlyOut := some (n, s.clk), dlyDue := s.clk + 1000000 } s))) ∧
  (∀ (u : State) (s : State), numbered s = true → s.ring.stopped = false → seedDone s (homePair s) = true → s.rtime.syncDue ≤ s.clk → s.rtime.gm = some (nodeId s) → isCoupler s = false → u = sendSync (homePair s) 0 (nodeId s) (getF s fRTM_CTL_GM_PRIO) s →
      exec .timeSyncTimer s =
        .next ({ u with rtime := { u.rtime with syncDue := u.clk + syncInterval u, syncSeq := (u.rtime.syncSeq + 1) % 65536 } })) ∧
  (∀ (u : State) (s : State), eligible s = true → seedDone s (homePair s) = true → s.rtime.announceDue ≤ s.clk → heardCands s = [] → u = selectGm s →
      exec .timeAnnounceTimer s =
        .next (originateAon (mkFrame 3 1 0 true ((u.rtime.announceSeq + 1) % 65536) [wd ((ownCand s).node + 2 ^ 12 * (ownCand s).prio + 2 ^ 20 * bit (ownCand s).pps)])
          { u with rtime := { u.rtime with announceDue := u.clk + 125000000, announceSeq := (u.rtime.announceSeq + 1) % 65536 } })) ∧
  (∀ (g : Nat) (s : State), s.rtime.gm = some g → (g = nodeId s && numbered s) = false → (heardCands s).any (fun c => c.node == g) = false →
      exec .grandmasterTimeout s = .next (selectGm s)) ∧
  (∀ (g : Nat) (s : State), s.rtime.gm = some g → (g = nodeId s && numbered s) = false → (heardCands s).any (fun c => c.node == g) = false → gmLost s = true → chosenGm s ≠ some g →
      ∃ t, exec .grandmasterTimeout s = .next t ∧
        108 ∈ t.flt.pulse ∧
        t.rtime.gm = chosenGm s ∧
        t.rtime.source = none) ∧
  (∀ (g : Nat) (s : State), numbered s = true → s.rtime.gm = some g → g ≠ nodeId s → s.rtime.otherAt = none → s.rtime.syncLast + 3 * syncInterval s ≤ s.clk →
      exec .syncHoldover s =
        .next (setLocked false (holdFreq (setF fRTM_STATUS_HOLDOVER 1 { s with rtime := { s.rtime with source := none } })))) ∧
  (∀ (d : Nat) (s : State), s.rtime.offSince = some d → d + 10000000000 ≤ s.clk → s.rtime.offRaised = false →
      exec .offsetAlarm s =
        .next (raise 109 { s with rtime := { s.rtime with offRaised := true } })) ∧
  (∀ (s : State), flag s fRTM_CTL_PPS_IN_EN = true → s.rtime.gm = some (nodeId s) → numbered s = true → s.ringNs % 1000000000 ≤ 1000 →
      ∃ t, exec .ppsInEdge s = .next t ∧
        t.ringNs = s.ringNs ∧
        flag t fRTM_STATUS_PPS_LOCKED = true ∧
        t.rtime.ppsLast = some s.clk) ∧
  (∀ (s : State), flag s fRTM_CTL_PPS_IN_EN = true → s.rtime.gm = some (nodeId s) → numbered s = true → flag s fRTM_STATUS_PPS_LOCKED = false → 1000 < s.ringNs % 1000000000 → s.ringNs % 1000000000 < 500000000 →
      ∃ t, exec .ppsInEdge s = .next t ∧
        t.ringNs = s.ringNs - s.ringNs % 1000000000 ∧
        flag t fRTM_STATUS_PPS_LOCKED = true ∧
        t.rtime.ppsLast = some s.clk) ∧
  (∀ (d : Nat) (s : State), s.rtime.ppsLast = some d → flag s fRTM_STATUS_PPS_LOCKED = true → flag s fRTM_CTL_PPS_IN_EN = true → flag s fRTM_STATUS_GM = true → d + 3000000000 ≤ s.clk →
      exec .ppsMissed s =
        .next (raise 110 (holdFreq (setF fRTM_STATUS_PPS_LOCKED 0 { s with rtime := { s.rtime with ppsMissed := 3 } })))) ∧
  (∀ (s : State), flag s fRTM_CTL_PPS_OUT_EN = true → s.ringNs % 1000000000 < 1000 → s.rtime.ppsHigh = none →
      exec .ppsOutPulse s =
        .next (emit .pps { s with rtime := { s.rtime with ppsHigh := some (s.clk + 1000000 * max 1 (getF s fRTM_PPS_W_WIDTH)) } }))

/-- ACK_TIMEOUT after T_ack sends the frame again up to three times, and then fails the operation, counts NO_ACK and
raises 102. EVT_MARK_TIMER sends the marker 1 ms after the last event. REPLAY_WAIT_EXPIRY ends a gap after 5 ms.
BEACON_TIMER sends a beacon every 10 ms, every hundredth over the fabric; BEACON_RETURN_TIMEOUT opens the ring.
SEEDING_END clears SEEDING. The bulk timers acknowledge after 1 ms, send again after 5 ms and abort after 1 s
without progress; BULK_PROGRESS_TIMEOUT of an unused transfer opens an outgoing one (the model's choice, log 197).
COUPLER_CREDIT_WAIT sends a retry for a request that waited 10 microseconds. SWEEP_SLOT sends the sweep of its slot
once a cycle. SWEEP_LOST_CHECK counts the frames of a sweep that did not come. Rests on 07_yomel_ring_protocol,
08_switch_core_and_queues. -/
def Obligations.RingTimers : Prop :=
  (∀ (c : Nat) (sq : Nat) (a : Unacked) (s : State), findUnacked s c sq = some a → a.sentAt + tAck s a.frame ≤ s.clk → reissueOwed s a.frame = false → a.resends < 3 →
      exec (.ackTimeout c sq) s =
        .next (resend a true (incF (fRGx_RP_RESENT_RESENT (homePair s)) s))) ∧
  (∀ (c : Nat) (sq : Nat) (a : Unacked) (s : State), findUnacked s c sq = some a → a.sentAt + tAck s a.frame ≤ s.clk → reissueOwed s a.frame = false → 3 ≤ a.resends →
      exec (.ackTimeout c sq) s =
        .next (raise 102 (failOp a 5 (incF (fRGx_RP_NO_ACK_NO_ACK (homePair s)) s)))) ∧
  (∀ (d : Option Nat) (c : Nat) (key : Nat) (m : Nat) (s : State), key = 2 * d.getD 4096 + (c - 3) → tget (fun _ => none) s.ring.evMark key = some m → m + 1000000 ≤ s.clk →
      exec (.evtMarkTimer d c) s =
        .next (originate (mkFrame 11 c (d.getD 0) d.isNone ((tget (fun _ => 0) s.ring.evNext key + 65535) % 65536) [0])
          { s with ring := { s.ring with evMark := tset (fun _ => none) key none s.ring.evMark } })) ∧
  (∀ (src : Nat) (b : Bool) (c : Nat) (key : Nat) (st : Stream) (d : Nat) (s : State), key = 4 * src + 2 * bit b + (c - 3) → tget (fun _ => none) s.ring.streams key = some st → st.gapAt = some d → d + 5000000 ≤ s.clk →
      exec (.replayWaitExpiry src b c) s = .next (endWait key st s)) ∧
  (∀ (n : Nat) (u : State) (s : State), numbered s = true → s.ring.stopped = false → seedDone s (homePair s) = true → s.ring.beaconDue ≤ s.clk → n = s.ring.beaconCount + 1 → homeKeptAlive s = false → u = { s with ring := { s.ring with beaconCount := n % 100, beaconDue := s.clk + 10000000 } } →
      ∃ t, exec .beaconTimer s = .next t ∧
        t = originateAon { mkFrame 6 2 0 true 0 (beaconPayload s) with fabric := n % 100 == 0 } u) ∧
  (∀ (x : Nat) (d : Nat) (s : State), x < 2 → x = homePair s → s.ring.beaconAt = some d → d + 500000000 ≤ s.clk → s.ring.beaconBack ≠ [0, 1] →
      exec (.beaconReturnTimeout x) s =
        .next (setClosed false { s with ring := { s.ring with beaconAt := none } })) ∧
  (∀ (x : Nat) (d : Nat) (s : State), x < 2 → tget (fun _ => none) s.ring.seedEnd x = some d → d ≤ s.clk → numbered s = false →
      exec (.seedingEnd x) s =
        .next (setF (fRGx_RP_STAT_SEEDING x) 0 { s with ring := { s.ring with seedEnd := tset (fun _ => none) x none s.ring.seedEnd } })) ∧
  (∀ (src : Nat) (tid : Nat) (b : BulkIn) (s : State), getBulkIn s (65536 * src + tid) = some b → b.owed = true → b.last + 1000000 ≤ s.clk →
      exec (.bulkAckTimer src tid) s = .next (sendBulkAck src tid b s)) ∧
  (∀ (tid : Nat) (o : Option (Nat × List Word)) (b : BulkOut) (s : State), getBulkOut s tid = some b → max b.progress b.started + 5000000 ≤ s.clk →
      exec (.bulkProgressTimeout tid o) s =
        .next (bulkSend tid 16 (setBulkOut tid (some { b with sent := b.acked, started := s.clk }) s))) ∧
  (∀ (tid : Nat) (dest : Nat) (ws : List Word) (s : State), getBulkOut s tid = none → stwRuns s = true → tid < 65536 → ws ≠ [] →
      exec (.bulkProgressTimeout tid (some (dest, ws))) s =
        .next (bulkOpenOut tid (dest % 4096) ws s)) ∧
  (∀ (tid : Nat) (b : BulkOut) (s : State), getBulkOut s tid = some b → b.progress + 1000000000 ≤ s.clk →
      exec (.bulkTimeout tid) s =
        .next (originate (mkFrame 20 7 b.dest false tid [16]) (setBulkOut tid none s))) ∧
  (∀ (f : Frame) (h : Frame) (tf : Nat) (th : Nat) (s : State), s.ring.waitFar = [(f, tf)] → s.ring.waitHome = [(h, th)] → tf + 10000 ≤ s.clk → isCoupler s = true → f.src < h.src →
      exec (.couplerCreditWait true) s =
        .next (originate (mkFrame 16 5 f.src false f.aux [0]) { s with ring := { s.ring with waitFar := [] } })) ∧
  (∀ (i : Nat) (ecc : List (Nat × Ecc)) (e : Edition) (n : ShelfEnt) (c : Nat) (s : State), s.stw.inForce = some e → e.shelf.entries[i]? = some n → c = s.ringNs / (max 1 e.shelf.cycle * 1000) → c % 2 ^ n.divider = n.phase → n.offset * 1000 ≤ s.ringNs % (max 1 e.shelf.cycle * 1000) → numbered s = true → n.node = nodeId s → seedDone s (homePair s) = true → s.rtime.everLocked = true → s.ring.stopped = false → asleep s = false → tget (fun _ => 0) s.ring.swept i ≤ c → e.groups = [] →
      ∃ t, exec (.sweepSlot i ecc) s = .next t ∧
        t = sweepFrames n.group c 0 0 [] (strikes 0 ecc { s with ring := { s.ring with
          swept := tset (fun _ => 0) i (c + 1) s.ring.swept } })) ∧
  (∀ (node : Nat) (group : Nat) (n : ShelfEnt) (cyc : Nat) (k : SweepTrack) (s : State), shelfEnt s node group = some (n, cyc) → subscribed s node group = true → getSweep s (64 * node + group) = some k → k.due ≤ s.ringNs →
      exec (.sweepLostCheck node group) s =
        .next (setSweep (64 * node + group) ⟨2 ^ 24, [], nextSlot n cyc s.ringNs⟩ (countLost n k s)))

/-- QUEUE_PUSH enters its item in every queue it names where the limits allow and no push for one of them waits, and
otherwise waits (the store of waiting pushes is the model's own, log 38); a push without words, or of more than an
item holds, changes nothing (log 239). QUEUE_PUSH_RESUME enters a waiting push that now has room. QUEUE_POP of an
empty queue reads as empty; of an item with a pointer error it freezes every queue that holds the item, sets
PTR_FROZEN and turns 128 on; of an item without references it drops it and raises 134; of a frozen queue it waits;
of a good item it takes it off the queue and gives its words. Rests on 08_switch_core_and_queues. -/
def Obligations.SwitchQueues : Prop :=
  (∀ (qs : List Nat) (ws : List Word) (ch : List (Charge × Nat)) (s : State), qs.all (fun q => q < 256) = true → pushOk qs ws = true → qs ≠ [] → s.swq.waits.any (fun w => w.qs.any qs.contains) = false → canTake s qs (.words ws) none = some ch →
      exec (.queuePush qs ws) s =
        .next (wakeQueues qs (noteDesc (enterQ qs (.words ws) 7 false ch s)))) ∧
  (∀ (qs : List Nat) (ws : List Word) (s : State), qs.all (fun q => q < 256) = true → pushOk qs ws = true → qs ≠ [] → s.swq.waits.any (fun w => w.qs.any qs.contains) = true ∨ canTake s qs (.words ws) none = none →
      exec (.queuePush qs ws) s =
        .next (wakeQueues qs { s with swq := { s.swq with waits := s.swq.waits ++ [⟨qs, .words ws, 7, false, none⟩] } })) ∧
  (∀ (qs : List Nat) (ws : List Word) (s : State), qs.all (fun q => q < 256) = true → pushOk qs ws = false →
      exec (.queuePush qs ws) s = .next (s)) ∧
  (∀ (q : Nat) (w : PushWait) (l : List PushWait) (ch : List (Charge × Nat)) (s : State), q < 256 → s.swq.waits = w :: l → w.qs.contains q = true → canTake s w.qs w.body none = some ch →
      exec (.queuePushResume q) s =
        .next (releaseItems (wakeQueues [q] (noteDesc (enterQ w.qs w.body w.cls w.transit ch { s with swq := { s.swq with waits := l } }))))) ∧
  (∀ (q : Nat) (chk : ItemCheck) (copies : List (Nat × Nat)) (s : State), q < 256 → flag s (fSWQ_QSTAT_FROZEN q) = false → domOn s 3 = true → frontQ s q = none →
      exec (.queuePop q chk copies) s = .next (emptyPop q s)) ∧
  (∀ (q : Nat) (copies : List (Nat × Nat)) (i : Nat) (x : Item) (s : State), q < 256 → flag s (fSWQ_QSTAT_FROZEN q) = false → domOn s 3 = true → frontQ s q = some (i, x) → 1 ≤ x.refs → x.refs ≤ 12 → x.check = bodyCheck x.body →
      exec (.queuePop q .pointerCopies copies) s =
        .next (causeOn 128 (setF fSWQ_STATUS_PTR_FROZEN 1
          ((insSet q (queuesWith s i)).foldl (fun t n => setF (fSWQ_QSTAT_FROZEN n) 1 t) s)))) ∧
  (∀ (q : Nat) (chk : ItemCheck) (copies : List (Nat × Nat)) (i : Nat) (x : Item) (s : State), q < 256 → flag s (fSWQ_QSTAT_FROZEN q) = false → domOn s 3 = true → frontQ s q = some (i, x) → x.refs = 0 →
      exec (.queuePop q chk copies) s = .next (raise 134 (dropFront q s))) ∧
  (∀ (q : Nat) (chk : ItemCheck) (copies : List (Nat × Nat)) (s : State), q < 256 → flag s (fSWQ_QSTAT_FROZEN q) = true → domOn s 3 = true →
      exec (.queuePop q chk copies) s =
        .next ({ s with swq := { s.swq with popWaits := s.swq.popWaits ++ [q] } })) ∧
  (∀ (q : Nat) (copies : List (Nat × Nat)) (i : Nat) (x : Item) (ws : List Word) (s : State), q < 256 → q ≠ 64 → flag s (fSWQ_QSTAT_FROZEN q) = false → domOn s 3 = true → frontQ s q = some (i, x) → 1 ≤ x.refs → x.refs ≤ 12 → x.check = bodyCheck x.body → x.body = .words ws →
      exec (.queuePop q .ok copies) s =
        .next (stalledReplays q (dropFront q (emit (.popped q x.body) s))))

/-- CELL_PATROL_VISIT of a free cell not yet visited marks it visited; a bad cell is retired: 132 is raised, RETIRED
counts, a spare goes and enters the free list, and the last spare sets SPARE_OUT and raises 133 (log 29); a wrong
link freezes the free list, sets PTR_FROZEN and turns 128 on. DESCRIPTOR_STARVE after 1 ms raises 135 once.
SWQ_LIMIT_WRITE of a minimum is stored where all guarantees still fit the memory and refused with CFG_REJECT where
they do not. QUEUE_REBUILD rebuilds the frozen queues, writes the Ledger, clears PTR_FROZEN, turns 128 off and
serves the pops that wait. Rests on 08_switch_core_and_queues. -/
def Obligations.SwitchMemory : Prop :=
  (∀ (cell : Nat) (u : State) (v : State) (n : Nat) (s : State), cell < 16384 → flag s fSWQ_CTL_PATROL_EN = true → cellFree s.swq cell = true → domOn s 3 = true → (visitedNow s).contains cell = false → u = { s with swq := { s.swq with patrolAt := patrolPeriod s, patrolled := visitedNow s ++ [cell] } } → n = getF u fSWQ_CELLS_SPARE → 2 ≤ n → v = raise 132 (incF fSWQ_RETIRED_RETIRED { u with swq := { u.swq with back := u.swq.back.filter (· != cell), retired := u.swq.retired ++ [cell] } }) →
      exec (.cellPatrolVisit cell true false) s =
        .next (setF fSWQ_CELLS_SPARE (n - 1) { v with swq := { v.swq with back := v.swq.back ++ [16384 - n] } })) ∧
  (∀ (cell : Nat) (u : State) (v : State) (s : State), cell < 16384 → flag s fSWQ_CTL_PATROL_EN = true → cellFree s.swq cell = true → domOn s 3 = true → (visitedNow s).contains cell = false → u = { s with swq := { s.swq with patrolAt := patrolPeriod s, patrolled := visitedNow s ++ [cell] } } → getF u fSWQ_CELLS_SPARE = 1 → v = raise 132 (incF fSWQ_RETIRED_RETIRED { u with swq := { u.swq with back := u.swq.back.filter (· != cell), retired := u.swq.retired ++ [cell] } }) →
      exec (.cellPatrolVisit cell true false) s =
        .next (raise 133 (setF fSWQ_STATUS_SPARE_OUT 1 (setF fSWQ_CELLS_SPARE 0 { v with swq := { v.swq with back := v.swq.back ++ [16383] } })))) ∧
  (∀ (cell : Nat) (u : State) (s : State), cell < 16384 → flag s fSWQ_CTL_PATROL_EN = true → cellFree s.swq cell = true → domOn s 3 = true → (visitedNow s).contains cell = false → u = { s with swq := { s.swq with patrolAt := patrolPeriod s, patrolled := visitedNow s ++ [cell] } } →
      exec (.cellPatrolVisit cell false false) s = .next (u)) ∧
  (∀ (cell : Nat) (bad : Bool) (u : State) (s : State), cell < 16384 → flag s fSWQ_CTL_PATROL_EN = true → cellFree s.swq cell = true → domOn s 3 = true → (visitedNow s).contains cell = false → u = { s with swq := { s.swq with patrolAt := patrolPeriod s, patrolled := visitedNow s ++ [cell] } } →
      exec (.cellPatrolVisit cell bad true) s =
        .next (causeOn 128 (setF fSWQ_STATUS_PTR_FROZEN 1 { u with swq := { u.swq with freeFrozen := true } }))) ∧
  (∀ (d : Nat) (s : State), s.swq.starved = some d → d + 1000000 ≤ s.clk → s.swq.starveRaised = false →
      exec .descriptorStarve s =
        .next (raise 135 { s with swq := { s.swq with starveRaised := true } })) ∧
  (∀ (w : Writer) (off : Nat) (v : Word) (s : State), mayWrite w off s = true → 0x2_0200 ≤ off → off < 0x2_0300 → fitsCells s (minimaWith s off v) (max (tresCells s (reg s 0x2_0004).toNat) (tresCells s (heldOr s 0x2_0004))) = true →
      exec (.swqLimitWrite w off v) s = .next (setReg off v s)) ∧
  (∀ (w : Writer) (off : Nat) (v : Word) (s : State), mayWrite w off s = true → 0x2_0200 ≤ off → off < 0x2_0300 → fitsCells s (minimaWith s off v) (max (tresCells s (reg s 0x2_0004).toNat) (tresCells s (heldOr s 0x2_0004))) = false →
      exec (.swqLimitWrite w off v) s = .next (setF fSWQ_STATUS_CFG_REJECT 1 s)) ∧
  (∀ (kept : List (Nat × Nat)) (u : State) (v : State) (w : State) (s : State), stwRuns s = true → flag s fSWQ_STATUS_PTR_FROZEN = true → u = (frozenQs s).foldl (rebuildQ kept) s → v = ledger 2 128 (usNow u) [wd (128 + bitsOf (reg u 0xC08A).toNat 16 2 * 2 ^ 10), wd (lostItems kept s)] u → w = causeOff 128 (setF fSWQ_STATUS_PTR_FROZEN 0 { v with swq := { v.swq with freeFrozen := false, popWaits := [] } }) →
      exec (.queueRebuild kept) s =
        .next (v.swq.popWaits.foldl (fun t q => popChecked q .ok t) w))

/-- BAR0 reads answer the register's value and have its read effect; BAR0 writes with all byte enables act, and others
do not. BAR2_WRITE of an open window writes the covered words and of a window without write enable fails with
ACCESS_DENIED. BAR2_READ of a closed window fails with ACCESS_DENIED and of an open one is served.
BAR2_READ_COMPLETE answers a read that has all its words, or answers its failure. RD_LIMIT_EXPIRY answers a read
past the limit as failed, counts RDLIM_CNT and raises 580. Rests on 09_pcie_bridge. -/
def Obligations.BridgeWindows : Prop :=
  (∀ (b : Nat) (s : State), hifOn s = true → b < 0x60_0000 →
      exec (.bar0Access (.read b)) s =
        .next (readEffect (b / 4) (emit (.completion true [bar0Value s (b / 4 * 4)]) s))) ∧
  (∀ (b : Nat) (v : BitVec 32) (s : State), hifOn s = true →
      exec (.bar0Access (.write b v true)) s = .next (bar0Write (b / 4 * 4) v s)) ∧
  (∀ (b : Nat) (v : BitVec 32) (s : State), hifOn s = true →
      exec (.bar0Access (.write b v false)) s = .next (s)) ∧
  (∀ (k : Nat) (b : Nat) (data : List (Option Word)) (ecc : Ecc) (s : State), k < 64 → hifOn s = true → flag s (fHIF_WINA_EN k) = true → flag s (fHIF_WINA_WR_EN k) = true →
      exec (.bar2Write k b data ecc) s =
        .next ((coveredRuns 0 data).foldl (fun t r => hostWriteWords (winAddr t k b + r.1) (winTag t k) r.2 ecc t) s)) ∧
  (∀ (k : Nat) (b : Nat) (data : List (Option Word)) (ecc : Ecc) (s : State), k < 64 → hifOn s = true → flag s (fHIF_WINA_WR_EN k) = false →
      exec (.bar2Write k b data ecc) s =
        .next (writeError (nodeId s) (winTag s k) (winAddr s k b) cDENIED s)) ∧
  (∀ (k : Nat) (b : Nat) (n : Nat) (ecc : List (Nat × Ecc)) (u : State) (s : State), k < 64 → hifOn s = true → u = setRead s.hif.nextRead (some ⟨k, n, s.clk, [], n, none⟩) { s with hif := { s.hif with nextRead := s.hif.nextRead + 1 } } → flag u (fHIF_WINA_EN k) = false →
      exec (.bar2Read k b n ecc) s = .next (readFails (.bar2 s.hif.nextRead) cDENIED u)) ∧
  (∀ (k : Nat) (b : Nat) (n : Nat) (ecc : List (Nat × Ecc)) (u : State) (s : State), k < 64 → hifOn s = true → u = setRead s.hif.nextRead (some ⟨k, n, s.clk, [], n, none⟩) { s with hif := { s.hif with nextRead := s.hif.nextRead + 1 } } → flag u (fHIF_WINA_EN k) = true →
      exec (.bar2Read k b n ecc) s =
        .next (hostReadWords (.bar2 s.hif.nextRead) (winAddr u k b) n ecc u)) ∧
  (∀ (id : Nat) (r : Bar2Read) (s : State), getRead s id = some r → r.failed = none → r.left = 0 →
      exec (.bar2ReadComplete id) s =
        .next (emit (.completion true (readDwords r)) (setRead id none s))) ∧
  (∀ (id : Nat) (r : Bar2Read) (cause : Nat) (s : State), getRead s id = some r → r.failed = some cause →
      exec (.bar2ReadComplete id) s = .next (failTlp id 2 cause r s)) ∧
  (∀ (id : Nat) (r : Bar2Read) (s : State), getRead s id = some r → r.began + rdLimit s ≤ s.clk → r.failed = none → r.left ≠ 0 →
      exec (.rdLimitExpiry id) s =
        .next (raise 580 (incF fHIF_RDLIM_CNT_RDLIM_CNT (failTlp id 1 0 r s))))

/-- SQ_TAIL_DOORBELL stores TAIL, and where the ring runs the bridge fetches. DESCRIPTOR_FETCHED enters the descriptor's
32 bytes in queue 40 + s (their layout is the model's choice, log 18) and advances HEAD. DMA_READ issues the ring's
next READ; DMA_WRITE writes COUNT words and ends the descriptor; DMA_FETCH takes items of its queue and ends with
their count; FETCH_WAIT_RESUME serves a waiting FETCH once its queue has an item; DMA_FENCE at the front ends.
DMA_HOST_READ_FAIL with error 1 to 4 at a descriptor stops the ring, records the error and raises 579; at an issued
WRITE's data it ends the descriptor with the failure. Rests on 09_pcie_bridge. -/
def Obligations.BridgeDma : Prop :=
  (∀ (q : Nat) (v : Word) (s : State), q < 12 → mayWrite .host (oHIF_SQ_TAIL q) s = true → sqRuns (setF (fHIF_SQ_TAIL_TAIL q) v.toNat s) q = false →
      exec (.sqTailDoorbell q v) s = .next (setF (fHIF_SQ_TAIL_TAIL q) v.toNat s)) ∧
  (∀ (q : Nat) (v : Word) (s : State), q < 12 → mayWrite .host (oHIF_SQ_TAIL q) s = true → sqRuns (setF (fHIF_SQ_TAIL_TAIL q) v.toNat s) q = true →
      exec (.sqTailDoorbell q v) s =
        .next (fetchUpTo q 128 (setF (fHIF_SQ_TAIL_TAIL q) v.toNat s))) ∧
  (∀ (q : Nat) (bytes : List Nat) (ch : List (Charge × Nat)) (b : Body) (s : State), q < 12 → b = .words ((List.range 32).map (fun i => wd (bytes.getD i 0 % 256))) → sqRuns s q = true → getF s (fHIF_SQ_HEAD_HEAD q) ≠ (getSq s q).fetched → canTake s [40 + q] b none = some ch →
      exec (.descriptorFetched q bytes) s =
        .next (runRing q (setF (fHIF_SQ_HEAD_HEAD q) ((getF s (fHIF_SQ_HEAD_HEAD q) + 1) % sqSize s q) (pushBody [40 + q] b 7 s)))) ∧
  (∀ (q : Nat) (ecc : List (Nat × Ecc)) (d : Desc) (s : State), q < 12 → (getSq s q).descs.find? (fun d => d.op == 1 && d.fin.isNone && !d.issued) = some d → hifOn s = true →
      exec (.dmaRead q ecc) s =
        .next (hostReadWords (.dma q d.id) d.addr d.count ecc (setDesc q { d with issued := true } s))) ∧
  (∀ (q : Nat) (data : List Word) (ecc : Ecc) (d : Desc) (s : State), q < 12 → (getSq s q).descs.find? (fun d => d.op == 2 && d.issued && d.fin.isNone) = some d → hifOn s = true →
      exec (.dmaWrite q data ecc) s =
        .next (endDesc q d 1 0 0 (hostWriteWords d.addr (dmaTag s q d.htag) ((List.range d.count).map (fun i => data.getD i 0)) ecc s))) ∧
  (∀ (q : Nat) (d : Desc) (r : Nat × Nat × State) (s : State), q < 12 → waitingFetch s q = some d → d.wait = false → flag s (fSWQ_QSTAT_FROZEN d.queue) = false → hifOn s = true → domOn s 3 = true → r = fetchItems d.queue d.haddr (d.hlen / 4) (qCount s d.queue) 0 0 s →
      exec (.dmaFetch q) s =
        .next (endDesc q d 1 0 (r.2.1 % 65536 + 65536 * (r.1 % 65536)) r.2.2)) ∧
  (∀ (q : Nat) (d : Desc) (s : State), q < 12 → waitingFetch s q = some d → d.wait = true → qCount s d.queue ≠ 0 →
      exec (.fetchWaitResume q) s = .next (runFetch q s)) ∧
  (∀ (q : Nat) (d : Desc) (l : List Desc) (s : State), q < 12 → (getSq s q).descs = d :: l → d.op = 4 → d.fin = none → hifOn s = true →
      exec (.dmaFence q) s = .next (endDesc q d 1 0 0 s)) ∧
  (∀ (q : Nat) (e : Nat) (s : State), q < 12 → 1 ≤ e → e ≤ 4 → hifOn s = true → sqRuns s q = true → getF s (fHIF_SQ_HEAD_HEAD q) ≠ (getSq s q).fetched →
      exec (.dmaHostReadFail q true e) s =
        .next (raise 579 (errLog 3 q 0 e (setF (fHIF_SQ_STAT_STOPPED q) 1 s)))) ∧
  (∀ (q : Nat) (e : Nat) (d : Desc) (s : State), q < 12 → 1 ≤ e → e ≤ 4 → hifOn s = true → (getSq s q).descs.find? (fun d => d.fin.isNone && d.op != 4 && (d.op != 2 || d.issued)) = some d → d.op = 2 →
      exec (.dmaHostReadFail q false e) s =
        .next (endDesc q d 2 0 (targetHandle d.addr) (raise 579 (errLog 3 q 0 e s))))

/-- CQ_HEAD_DOORBELL that makes room writes the entries that wait. CQ_SIGNAL signals the vector once THR entries asked
for it. CQ_FULL_TIMEOUT after 100 ms raises 581 once. MSIX_UNMASK clears the mask and sends what is pending.
PCIE_LINK_RESET by link-down or FLR disables the bridge, abandons host work, resets configuration space and closes
session 0, and link-down also clears the link's status and raises 576. PCIE_ERROR counts a correctable error and
raises 577 for an uncorrectable one; its second is a tumbling one (log 65). PCIE_PERST_RELEASE lets the link train.
Rests on 09_pcie_bridge. -/
def Obligations.BridgeCompletion : Prop :=
  (∀ (c : Nat) (v : Word) (u : State) (s : State), c < 12 → mayWrite .host (oHIF_CQ_HEAD c) s = true → u = setF (fHIF_CQ_HEAD_HEAD c) v.toNat s → cqFree u c ≠ 0 →
      exec (.cqHeadDoorbell c v) s =
        .next (cqDrain c (tget (fun _ => []) u.hif.cqWait c) (setCq c { getCq u c with fullSince := none, fullRaised := false } u))) ∧
  (∀ (c : Nat) (s : State), c < 12 → (getCq s c).irqs ≠ 0 → max 1 (getF s (fHIF_CQ_CFG_THR c)) ≤ (getCq s c).irqs → hifOn s = true →
      exec (.cqSignal c) s =
        .next (signalVec (getF s (fHIF_CQ_CFG_VEC c)) (setCq c { getCq s c with irqs := 0, irqSince := none } s))) ∧
  (∀ (c : Nat) (d : Nat) (s : State), c < 12 → (getCq s c).fullSince = some d → d + 100000000 ≤ s.clk → (getCq s c).fullRaised = false → cqFree s c = 0 →
      exec (.cqFullTimeout c) s =
        .next (raise 581 (setCq c { getCq s c with fullRaised := true } s))) ∧
  (∀ (v : Nat) (s : State), v < 64 → hifOn s = true →
      exec (.msixUnmask v) s =
        .next (sendPending v (setMsix (4 * v + 3) (BitVec.ofNat 32 ((msixDword s (4 * v + 3)).toNat / 2 * 2)) s))) ∧
  (∀ (s : State), hifOn s = true → flag s fHIF_STATUS_LINK_UP = true →
      exec (.pcieLinkReset .linkDown) s =
        .next (raise 576 (setF fHIF_STATUS_LINK_UP 0 (setF fHIF_STATUS_SPEED 0 (setF fHIF_STATUS_WIDTH 0
          (closeSession 0 (resetConfig (abandonHost (disableBridge { s with hif := { s.hif with hostGone := s.hif.hostGone || bridgeOn s } }))))))))) ∧
  (∀ (s : State), hifOn s = true → flag s fHIF_STATUS_LINK_UP = true →
      exec (.pcieLinkReset .flr) s =
        .next (closeSession 0 (resetConfig (abandonHost (disableBridge { s with hif := { s.hif with hostGone := s.hif.hostGone || bridgeOn s } }))))) ∧
  (∀ (b : Bool) (s : State), hifOn s = true →
      exec (.pcieError (.uncorrectable b)) s = .next (raise 577 (emit (.pcie 3) s))) ∧
  (∀ (s : State), hifOn s = true → s.hif.corrSince + 1000000000 ≤ s.clk →
      ∃ t, exec (.pcieError .correctable) s = .next t ∧
        getF t fHIF_CORR_CNT_CORR_CNT = min (getF s fHIF_CORR_CNT_CORR_CNT + 1) 0xFFFFFF ∧
        t.hif.corrSec = 1 ∧
        t.hif.corrSince = s.clk ∧
        t.flt = s.flt) ∧
  (∀ (s : State), s.hif.perst = false →
      exec .pciePerstRelease s =
        .next (trainPcie { s with hif := { s.hif with perst := true } }))

/-- DESK_WRITE at its status stage writes the command words of desk 1 and rings it, unless the desk is busy: then the
stage is stalled. DESK_READ sends the words latched at SETUP. EP2_OUT_TRANSFER halts the endpoint where the length
does not agree with the header, and otherwise enters the item in Q64. EP2_IN_TRANSFER sends the item at the front of
Q65. EP1_NOTIFICATION sends the next notification with the count of Q65. Every value goes on the bus as bytes, least
significant first. Rests on 10_usb_hub_and_streaming. -/
def Obligations.UsbDesk : Prop :=
  (∀ (first : Nat) (ws : List Word) (u : State) (s : State), deviceLive s = true → s.usb.ctl = some (.deskWrite first ws) → getF s (fDSK_DESK_STATE 1) ≠ 1 → u = setUsb { s.usb with ctl := none } s →
      exec (.deskWrite first ws .ok) s =
        .next (emit (.usb 0 3 []) (ringDesk 1 ((indexed first ws).foldl (fun t e => cmdAreaWrite 1 e.1 e.2 t) u)))) ∧
  (∀ (first : Nat) (ws : List Word) (s : State), deviceLive s = true → s.usb.ctl = some (.deskWrite first ws) → getF s (fDSK_DESK_STATE 1) = 1 →
      exec (.deskWrite first ws .ok) s = .next (emit (.usb 0 1 []) s)) ∧
  (∀ (first : Nat) (n : Nat) (ws : List Word) (s : State), deviceLive s = true → s.usb.ctl = some (.deskRead first ws) → ws.length = n →
      exec (.deskRead first n .ok) s =
        .next (emit (.usb 0 0 (ws.flatMap dwordBytes)) (setUsb { s.usb with ctl := none } s))) ∧
  (∀ (bytes : List Nat) (ecc : Ecc) (n : Nat) (s : State), deviceLive s = true → epHalted s 2 = false → n = leAt bytes 0 2 → n = 0 ∨ 1023 < n ∨ leAt bytes 2 1 ≠ 0 ∨ bytes.length ≠ 4 * (n + 1) →
      exec (.ep2OutTransfer bytes ecc) s = .next (haltEp 2 s)) ∧
  (∀ (bytes : List Nat) (n : Nat) (ws : List Word) (ch : List (Charge × Nat)) (s : State), deviceLive s = true → epHalted s 2 = false → n = leAt bytes 0 2 → 1 ≤ n → n ≤ 1023 → leAt bytes 2 1 = 0 → bytes.length = 4 * (n + 1) → ws = (wordsOfDwords bytes).drop 1 → canTake s [64] (.words ws) none = some ch →
      exec (.ep2OutTransfer bytes .ok) s =
        .next (noteDesc (enterQ [64] (.words ws) 7 false ch s))) ∧
  (∀ (i : Nat) (x : Item) (ws : List Word) (u : State) (s : State), deviceLive s = true → epHalted s 3 = false → frontQ s 65 = some (i, x) → x.body = .words ws → u = emit (.usb 3 0 ((wd ws.length :: ws).flatMap dwordBytes)) (dropFront 65 s) → flag u fUSB_CTL_LEGACY = true ∨ 4 * (ws.length + 1) % bulkMax u ≠ 0 →
      exec (.ep2InTransfer .ok) s = .next (noteNotif u)) ∧
  (∀ (b : Nat) (l : List Nat) (u : State) (s : State), usbOn s = true → u = noteNotif s → u.usb.notif = b :: l → deviceLive u = true → epHalted u 1 = false → u.usb.notifSent = none →
      exec (.ep1Notification .ok) s =
        .next (emit (.usb 1 0 ([b, 0, 0, 0] ++ bytesLE (qCount u 65) 4)) (setUsb { u.usb with notif := [], notifSent := some u.clk } u)))

/-- USB_BUS_RESET upstream resets the device and the hub and sets the speed; downstream it resets the device and enables
port 1. SET_ADDRESS takes the address. USB_SUSPEND and USB_RESUME enter and leave suspend, and the resume of a host,
driven no later than now, writes USB_WAKE_REC. REMOTE_WAKE after 5 ms of suspend drives the resume;
REMOTE_WAKE_TIMEOUT after 12 ms raises 599. VBUS_LOST detaches and clears the status. USB_CONNECT moves the pull-up;
USB_REATTACH detaches the device function and REATTACH_TIMER attaches it again 100 ms later. Rests on
10_usb_hub_and_streaming. -/
def Obligations.UsbBus : Prop :=
  (∀ (high : Bool) (s : State), usbOn s = true → flag s fUSB_STATUS_ATTACHED = true →
      exec (.usbBusReset high true) s =
        .next (setF fUSB_STATUS_SPEED (if high then 2 else 1) (setF fUSB_STATUS_SUSPENDED 0 (hubIdle (deviceReset s))))) ∧
  (∀ (high : Bool) (s : State), usbOn s = true → flag s fUSB_STATUS_ATTACHED = true →
      exec (.usbBusReset high false) s = .next (setF (fUSB_PORT_ENABLED 1) 1 (deviceReset s))) ∧
  (∀ (a : Nat) (s : State), usbOn s = true → s.usb.devAttached = true → flag s fUSB_STATUS_SUSPENDED = false →
      exec (.usbSetup (.setAddress a)) s =
        .next (setF fUSB_STATUS_ADDRESS a (setUsb { s.usb with ctl := none, halted := delSet 0 s.usb.halted } s))) ∧
  (∀ (s : State), usbOn s = true → flag s fUSB_STATUS_ATTACHED = true → flag s fUSB_STATUS_SUSPENDED = false →
      exec .usbSuspend s =
        .next (setF fUSB_STATUS_SUSPENDED 1 (setUsb { s.usb with suspendAt := some s.clk, frames := [], kDriven := none } s))) ∧
  (∀ (k : Nat) (s : State), k ≤ s.clk → flag s fUSB_STATUS_SUSPENDED = true → flag s fUSB_STATUS_ATTACHED = true → usbOn s = true → s.usb.wakePending = none → s.usb.kDriven = none →
      ∃ t, exec (.usbResume k) s = .next t ∧
        flag t fUSB_STATUS_SUSPENDED = false ∧
        flag t fUSB_WAKE_REC_VALID = true ∧
        getF t fUSB_WAKE_REC_KIND = 1 ∧
        t.usb.suspendAt = none) ∧
  (∀ (src : Nat) (d : Nat) (at0 : Nat) (s : State), 1 ≤ src → src ≤ 4 → usbOn s = true → flag s fUSB_STATUS_SUSPENDED = true → s.usb.wakePending = some (src, at0) → mayWake s src = true → s.usb.suspendAt = some d → d + 5000000 ≤ s.clk → s.usb.kDriven = none →
      exec (.remoteWake src) s = .next (setUsb { s.usb with kDriven := some s.clk } s)) ∧
  (∀ (d : Nat) (s : State), s.usb.kDriven = some d → flag s fUSB_STATUS_SUSPENDED = true → d + 12000000 ≤ s.clk →
      exec .remoteWakeTimeout s =
        .next (raise 599 (setUsb { s.usb with kDriven := none, wakePending := none } s))) ∧
  (∀ (s : State), usbOn s = true → flag s fUSB_STATUS_ATTACHED = true →
      exec .vbusLost s =
        .next (setF fUSB_STATUS_VBUS 0 (setF fUSB_STATUS_ATTACHED 0 (setF fUSB_STATUS_SUSPENDED 0 (setF fUSB_STATUS_SPEED 0
          (setDevice false (hubIdle (deviceReset s)))))))) ∧
  (∀ (w : Writer) (s : State), mayWrite w oUSB_CTL s = true →
      exec (.usbConnect w false) s = .next (pullUpOff (setF fUSB_CTL_CONNECT 0 s))) ∧
  (∀ (w : Writer) (s : State), mayWrite w oUSB_CTL s = true → flag s fUSB_CTL_LEGACY = true →
      exec (.usbConnect w true) s = .next (pullUpOn (setF fUSB_CTL_CONNECT 1 s))) ∧
  (∀ (w : Writer) (u : State) (s : State), mayWrite w oUSB_CTL s = true → s.usb.devAttached = true → u = setDevice false (deviceIdle s) →
      exec (.usbReattach w) s =
        .next (setUsb { u.usb with reattachAt := some (u.clk + 100000000) } u)) ∧
  (∀ (d : Nat) (s : State), s.usb.reattachAt = some d → d ≤ s.clk → flag s fUSB_STATUS_ATTACHED = true →
      exec .reattachTimer s = .next (setDevice true s))

/-- USB_OVER_CURRENT of a port that lasted the filter time turns it off, sets OC and raises 591 + n (n = 2 to 4, not
ganged). SET_PORT_POWER of a configured hub turns a port on. SET_INTERFACE 1 starts streaming and an alternate
setting above 1 stalls. STREAM_SAMPLE at its time adds one frame of the entries' values to the stream.
SET_CUR_FREQUENCY takes 48000 Hz and stalls any other. CLEAR_ENDPOINT_HALT clears the halt. ISO_PACKET_MISSED counts
a lost packet; its second is a tumbling one (log 85). Rests on 10_usb_hub_and_streaming. -/
def Obligations.UsbPorts : Prop :=
  (∀ (n : Nat) (lowAt : Nat) (u : State) (s : State), 2 ≤ n → lowAt + ocFilter s ≤ s.clk → n ≤ 4 → usbOn s = true → flag s fUSB_CTL_GANGED = false → u = setF (fUSB_PORT_OC n) 1 (setF (fUSB_PORT_OC_CHG n) 1 (portOff n s)) → flag u fUSB_CTL_GANGED = false →
      exec (.usbOverCurrent n lowAt) s =
        .next (raise (591 + n) (setUsb { u.usb with hubPorts := tset (fun _ => 0) n 1 u.usb.hubPorts } u))) ∧
  (∀ (n : Nat) (u : State) (s : State), 2 ≤ n → n ≤ 4 → usbOn s = true → flag s fUSB_STATUS_ATTACHED = true → s.usb.hubConf = true → flag s fUSB_CTL_GANGED = false → u = setF (fUSB_PORT_POWER n) 1 (setF (fUSB_PORT_OC n) 0 s) → flag u fUSB_CTL_GANGED = false →
      exec (.setPortPower n true) s = .next (u)) ∧
  (∀ (s : State), deviceLive s = true → s.usb.audio = true →
      exec (.setInterface 1) s =
        .next (setF fUSB_STATUS_STREAMING 1 (setUsb { (stopStream s).usb with alt := 1, streamAt := sampleFrom 48000 s.ringNs } s))) ∧
  (∀ (volts : List Int) (s : State), usbOn s = true → anaOn s = true → flag s fUSB_STATUS_STREAMING = true → volts.length = streamN s → sampleAt 48000 s.usb.streamAt ≤ s.ringNs →
      exec (.streamSample volts) s = .next (placeFrame volts s)) ∧
  (∀ (a : Nat) (s : State), deviceLive s = true → 2 ≤ a →
      exec (.setInterface a) s = .next (stallEp0 s)) ∧
  (∀ (s : State), deviceLive s = true → s.usb.audio = true →
      exec (.setCurFrequency 48000) s = .next (emit (.usb 0 3 []) s)) ∧
  (∀ (hz : Nat) (s : State), deviceLive s = true → hz ≠ 48000 →
      exec (.setCurFrequency hz) s = .next (stallEp0 s)) ∧
  (∀ (e : Nat) (s : State), e < 6 → deviceLive s = true →
      exec (.clearEndpointHalt e) s =
        .next (setUsb { s.usb with halted := delSet e s.usb.halted } s)) ∧
  (∀ (u : State) (s : State), deviceLive s = true → flag s fUSB_STATUS_STREAMING = true → u = incF fUSB_ISO_DROP_ISO_DROP (microframeEnds s) → u.usb.dropSince + 1000000000 ≤ u.clk →
      ∃ t, exec .isoPacketMissed s = .next t ∧
        t = setUsb { u.usb with dropSec := 1, dropSince := u.clk } u)

/-- A write of a desk's command area stores the word; while the desk is BUSY it is rejected and 519 is raised. The
staging window of desks 0 to 5 takes words. A doorbell of a desk with a session makes it BUSY with its rights of
that moment; of a BUSY desk it is rejected and 519 is raised. DESK_DONE publishes the response. SESSION_IDLE_TIMEOUT
after 60 s closes the session and raises 520. A desk command that the round-robin serves next is answered
BAD_LENGTH, then NO_RIGHT, then LOCK_REQUIRED before anything else of it (the order is the model's reading, log 88;
where the round-robin starts, log 245). Rests on 11_steward_desk_and_editions. -/
def Obligations.DeskAreas : Prop :=
  (∀ (d : Nat) (o : Nat) (v : Word) (s : State), d < 8 → o < 0x40 → domOn s 4 = true → getF s (fDSK_DESK_STATE d) ≠ 1 →
      exec (.deskAreaWrite d o v) s =
        .next (setDesk d { getDesk s d with cmd := tset (fun _ => 0) o v (getDesk s d).cmd } s)) ∧
  (∀ (d : Nat) (o : Nat) (v : Word) (s : State), d < 8 → o < 0x40 → domOn s 4 = true → getF s (fDSK_DESK_STATE d) = 1 →
      exec (.deskAreaWrite d o v) s =
        .next (raise 519 (setDesk d { getDesk s d with reject := true } s))) ∧
  (∀ (d : Nat) (o : Nat) (v : Word) (s : State), d < 6 → 0x1_0000 ≤ o → o < 0x2_0000 → domOn s 4 = true →
      exec (.deskAreaWrite d o v) s =
        .next (setDesk d { getDesk s d with window := tset (fun _ => 0) (o - 0x1_0000) v (getDesk s d).window } s)) ∧
  (∀ (d : Nat) (s : State), d < 8 → domOn s 4 = true → getF s (fDSK_DESK_STATE d) = 1 →
      exec (.deskDoorbell d) s =
        .next (raise 519 (setDesk d { getDesk s d with reject := true } s))) ∧
  (∀ (d : Nat) (s : State), d < 8 → domOn s 4 = true → getF s (fDSK_DESK_STATE d) ≠ 1 → flag s (fDSK_DESK_SESSION d) = true →
      ∃ t, exec (.deskDoorbell d) s = .next t ∧
        getF t (fDSK_DESK_STATE d) = 1 ∧
        (getDesk t d).lastCmd = s.clk ∧
        (getDesk t d).prepared = none ∧
        (getDesk t d).rights = getF s (fDSK_DESK_RIGHTS d)) ∧
  (∀ (d : Nat) (u : State) (ws : List Word) (s : State), d < 8 → u = answerUnknown d s → (getDesk u d).prepared = some ws → stwRuns u = true → (publish d ws u).stw.afterDone = none →
      exec (.deskDone d) s = .next (publish d ws u)) ∧
  (∀ (d : Nat) (s : State), 2 ≤ d → d ≤ 5 → stwRuns s = true → flag s (fDSK_DESK_SESSION d) = true → (getDesk s d).lastCmd + 60000000000 ≤ s.clk →
      exec (.sessionIdleTimeout d) s =
        .next (raise 520 (closeSession d (originate (mkFrame 7 2 (getF s (fDSK_DESK_NODE d)) false (getDesk s d).sessionId [wd (3 + 4 * d)]) s)))) ∧
  (∀ (d : Nat) (op : Nat) (ok : Nat → Bool) (right : Nat) (lock : Bool) (run : List Nat → State → State) (u : State) (s : State), d < 8 → nextDesk s = some d → cmdOp s d = op → stwRuns s = true → u = takeDoorbell d s → ok (cmdLen u d) = false →
      deskCmd d op ok right lock run s = .next (answer d 2 0 [] u)) ∧
  (∀ (d : Nat) (op : Nat) (ok : Nat → Bool) (right : Nat) (lock : Bool) (run : List Nat → State → State) (u : State) (s : State), d < 8 → nextDesk s = some d → cmdOp s d = op → stwRuns s = true → u = takeDoorbell d s → ok (cmdLen u d) = true → right ≠ 0 → (getDesk u d).rights &&& right = 0 →
      deskCmd d op ok right lock run s = .next (answer d 4 0 [] u)) ∧
  (∀ (d : Nat) (op : Nat) (ok : Nat → Bool) (right : Nat) (run : List Nat → State → State) (u : State) (s : State), d < 8 → nextDesk s = some d → cmdOp s d = op → stwRuns s = true → u = takeDoorbell d s → ok (cmdLen u d) = true → right = 0 ∨ (getDesk u d).rights &&& right ≠ 0 → u.stw.lock ≠ some d →
      deskCmd d op ok right true run s = .next (answer d 5 0 [] u))

/-- IDENTIFY answers the unit's tag, stepping, firmware, edition and place. SESSION_CLOSE closes its session and is
answered (log 92). LOCK takes the free lock and answers LOCKED with the holder where another desk holds it; UNLOCK
frees it. STAGE_OPEN opens a transfer with the next number. STAGE_COMMIT copies the window into the image, and where
flash fails answers its error and raises 521. STAGE_CLOSE of an edition checks and stores the image; STAGE_ABORT
drops the transfer. Rests on 11_steward_desk_and_editions. -/
def Obligations.DeskBasics : Prop :=
  (∀ (d : Nat) (u : State) (s : State), deskServes d 0x01 0 1 false s = true → u = takeDoorbell d s →
      exec (.identify d) s =
        .next (answerOk d [reg u (oSEC_UNIT_TAG 0), reg u (oSEC_UNIT_TAG 1),
            wd (getF u fGLB_ID0_HWTYPE + 65536 * getF u fGLB_ID0_STEPPING), reg u oGLB_FW, wd (getF u fDSK_ED_ACTIVE_EDITION),
            wd ((if numbered u then nodeId u else 0xFFF) + ringId u * 4096 + 2 ^ 18 * bit (numbered u))] u)) ∧
  (∀ (d : Nat) (u : State) (v : State) (s : State), deskServes d 0x02 0 0 false s = true → u = takeDoorbell d s → v = closeSession d u →
      exec (.sessionClose d) s =
        .next (answerOk d [] (setDesk d { getDesk v d with discard := false } v))) ∧
  (∀ (d : Nat) (u : State) (h : Nat) (s : State), deskServes d 0x03 0 12 false s = true → u = takeDoorbell d s → u.sec.trial = none → u.stw.lock = some h → h ≠ d →
      exec (.lock d) s = .next (answer d 6 h [] u)) ∧
  (∀ (d : Nat) (u : State) (s : State), deskServes d 0x03 0 12 false s = true → u = takeDoorbell d s → u.sec.trial = none → u.stw.lock = none →
      exec (.lock d) s =
        .next (answerOk d [] (setF (fDSK_DESK_LOCK d) 1 (setStw { u.stw with lock := some d } u)))) ∧
  (∀ (d : Nat) (u : State) (s : State), deskServes d 0x04 0 0 false s = true → u = takeDoorbell d s → u.stw.lock = some d →
      exec (.unlock d) s =
        .next (answerOk d [] (setF (fDSK_DESK_LOCK d) 0 (setStw { u.stw with lock := none } u)))) ∧
  (∀ (d : Nat) (u : State) (a : List Nat) (kind : Nat) (len : Nat) (s : State), deskServes d 0x10 3 12 true s = true → u = takeDoorbell d s → a = cmdArgs u d → kind = argN a 1 % 4 → len = argN a 2 + 2 ^ 24 * bitsOf (argN a 3) 0 8 → kind ≠ 3 → (getDesk u d).rights &&& stageRight kind ≠ 0 → u.sec.trial = none → u.sec.volArmed = none → u.stw.staging = none → len ≤ stageMax kind → stwRuns u = true →
      exec (.stageOpen d) s =
        .next (answerOk d [wd u.stw.nextTransfer] (setStw { u.stw with
          nextTransfer := (u.stw.nextTransfer + 1) % 4096, staging := some ⟨d, kind, u.stw.nextTransfer, len, []⟩ } u))) ∧
  (∀ (f : Bool) (d : Nat) (u : State) (n : Nat) (g : Staging) (a : List Nat) (s : State), deskServes d 0x11 2 12 true s = true → u = takeDoorbell d s → deskStaging u d = some g → a = cmdArgs u d → n = (if argN a 2 = 0 then 65536 else argN a 2) → n ≤ 65536 → argN a 1 + n ≤ (g.length + 2) / 3 → (getDesk u d).rights &&& stageRight g.kind ≠ 0 → f = false ∨ u.boot.flash = false →
      exec (.stageCommit d f) s = .next (answer d 0x1A 0 [] (raise 521 u))) ∧
  (∀ (d : Nat) (u : State) (n : Nat) (g : Staging) (a : List Nat) (ws : Tab Word) (s : State), deskServes d 0x11 2 12 true s = true → u = takeDoorbell d s → deskStaging u d = some g → a = cmdArgs u d → n = (if argN a 2 = 0 then 65536 else argN a 2) → n ≤ 65536 → argN a 1 + n ≤ (g.length + 2) / 3 → (getDesk u d).rights &&& stageRight g.kind ≠ 0 → u.boot.flash = true → ws = (getDesk u d).window.foldl (fun t e => if e.1 < n then tset (fun _ => 0) (argN a 1 + e.1) e.2 t else t)
        (tclear (fun k => argN a 1 ≤ k && k < argN a 1 + n) g.words) →
      exec (.stageCommit d true) s =
        .next (answerOk d [] (setStw { u.stw with staging := some { g with words := ws } } u))) ∧
  (∀ (d : Nat) (u : State) (g : Staging) (s : State), deskServes d 0x12 0 12 true s = true → u = takeDoorbell d s → deskStaging u d = some g → (getDesk u d).rights &&& stageRight g.kind ≠ 0 → u.boot.flash = true → g.kind = 0 →
      exec (.stageClose d true) s =
        .next (closeEdition d (imageBytes g) (setStw { u.stw with staging := none } u))) ∧
  (∀ (d : Nat) (u : State) (g : Staging) (s : State), deskServes d 0x13 0 12 true s = true → u = takeDoorbell d s → deskStaging u d = some g →
      exec (.stageAbort d) s = .next (answerOk d [] (setStw { u.stw with staging := none } u)))

/-- EDITION_ARM arms a stored edition for a time from 100 ms to 7 days ahead and answers the number of points it
changes; an earlier time is TIME_TOO_SOON. EDITION_DISARM disarms until 10 ms before T and then answers ARM_LOCKED,
and ARM_LOCK shows LOCKED from that time. EDITION_ACTIVATE_NOW on a hub without an edition activates the edition
named, or answers that there is none. EDITION_STATUS and GROUP_LIST answer what the hub holds (word 61 of GROUP_LIST
is a reading, log 95). EDITION_ACTIVATION and LATE_ACTIVATION activate the armed edition at T, in time or late.
Rests on 11_steward_desk_and_editions. -/
def Obligations.DeskEditions : Prop :=
  (∀ (d : Nat) (u : State) (a : List Nat) (n : Nat) (at0 : Nat) (e : Edition) (s : State), deskServes d 0x20 4 4 true s = true → u = takeDoorbell d s → a = cmdArgs u d → n = argN a 1 % 65536 → at0 = timeArg a 2 → u.sec.trial = none → u.stw.armed = none → u.stw.active = none → slotEdition u n = some e → u.ringNs + 100000000 ≤ at0 → at0 ≤ u.ringNs + 604800000000000 → (changeSet u.stw.inForce e).length ≤ 87381 →
      exec (.editionArm d) s =
        .next (answerOk d [wd (changeSet u.stw.inForce e).length] (setArmed (some ⟨n, at0⟩) (changeSet u.stw.inForce e).length u))) ∧
  (∀ (d : Nat) (u : State) (n : Nat) (e : Edition) (at0 : Nat) (s : State), deskServes d 0x20 4 4 true s = true → u = takeDoorbell d s → n = argN (cmdArgs u d) 1 % 65536 → at0 = timeArg (cmdArgs u d) 2 → u.sec.trial = none → u.stw.armed = none → u.stw.active = none → slotEdition u n = some e → at0 < u.ringNs + 100000000 →
      exec (.editionArm d) s = .next (answer d 0x10 0 [] u)) ∧
  (∀ (d : Nat) (u : State) (a : Armed) (s : State), deskServes d 0x21 0 4 true s = true → u = takeDoorbell d s → u.stw.armed = some a → u.ringNs + 10000000 < a.t →
      exec (.editionDisarm d) s = .next (answerOk d [] (setArmed none 0 u))) ∧
  (∀ (d : Nat) (u : State) (a : Armed) (s : State), deskServes d 0x21 0 4 true s = true → u = takeDoorbell d s → u.stw.armed = some a → a.t ≤ u.ringNs + 10000000 →
      exec (.editionDisarm d) s = .next (answer d 0x12 0 [] u)) ∧
  (∀ (a : Armed) (s : State), s.stw.armed = some a → stwRuns s = true → a.t ≤ s.ringNs + 10000000 →
      exec .armLock s = .next (setF fDSK_ED_ARMED_STATE 2 s)) ∧
  (∀ (f : Bool) (d : Nat) (u : State) (n : Nat) (s : State), deskServes d 0x22 1 4 true s = true → u = takeDoorbell d s → u.sec.trial = none → u.stw.inForce = none → n = argN (cmdArgs u d) 1 % 65536 → u.stw.staged = none → u.stw.active = none → u.stw.previous = none →
      exec (.editionActivateNow d f) s = .next (answer d 0x0E 0 [] u)) ∧
  (∀ (f : Bool) (d : Nat) (u : State) (e : Edition) (v : State) (s : State), deskServes d 0x22 1 4 true s = true → u = takeDoorbell d s → u.sec.trial = none → u.stw.inForce = none → u.stw.staged = some e → e.number = argN (cmdArgs u d) 1 % 65536 → v = activate e ((edPoints e).map (·.1)) false f u →
      exec (.editionActivateNow d f) s =
        .next (answerOk d [wd ((edPoints e).map (·.1)).length] (settleSettings (showArmed u.stw.armed (getF u fDSK_ED_COUNT_COUNT) v)))) ∧
  (∀ (d : Nat) (u : State) (s : State), deskServes d 0x23 0 1 false s = true → u = takeDoorbell d s → u.stw.armed = none →
      exec (.editionStatus d) s =
        .next (answerOk d ([wd (getF u fDSK_ED_ACTIVE_EDITION), wd (edNumber u.stw.previous), wd (edNumber u.stw.staged),
          wd (getF u fDSK_ED_ARMED_EDITION), 0, 0, 0] ++ [reg u oDSK_ED_ARMED]) u)) ∧
  (∀ (d : Nat) (u : State) (g : Nat) (l : List Nat) (r : List Nat) (s : State), deskServes d 0x24 2 1 false s = true → u = takeDoorbell d s → numbered u = true → bitsOf (argN (cmdArgs u d) 1) 0 12 = nodeId u → g = bitsOf (argN (cmdArgs u d) 1) 12 6 → groupPoints u g = some l → r = (l.drop (bitsOf (argN (cmdArgs u d) 2) 0 20)).take 60 →
      exec (.groupList d) s =
        .next (answerOk d ((r ++ List.replicate (60 - r.length) 0).map wd ++ [wd l.length]) u)) ∧
  (∀ (f : Bool) (a : Armed) (e : Edition) (s : State), s.stw.armed = some a → stwRuns s = true → a.t ≤ s.ringNs → s.sec.trial = none → flag s fSEC_STATUS_SETTINGS_DEFAULTED = false → slotEdition s a.number = some e →
      exec (.editionActivation f) s =
        .next (setArmed none 0 (activate e (changeSet s.stw.inForce e) false f s))) ∧
  (∀ (f : Bool) (a : Armed) (e : Edition) (s : State), s.stw.armed = some a → stwRuns s = true → a.t ≤ s.ringNs → s.sec.trial = none → flag s fSEC_STATUS_SETTINGS_DEFAULTED = false → slotEdition s a.number = some e →
      exec (.lateActivation f) s =
        .next (setArmed none 0 (activate e (changeSet s.stw.inForce e) true f s)))

/-- POINT_FORCE forces a point whose source may be forced to a value in form; a handle that is not this hub's is
NOT_LOCAL. POINT_RELEASE releases a forced point and answers NOT_FORCED otherwise. SPARE_SWAP without a spare
answers NO_SPARE and with one begins the swap. UNIT_RETURN of a fenced core that fails its test raises 631 and one
that passes is back; a unit that is not fenced is NOT_FENCED. POWER_STATE begins a request and refuses a drain limit
outside 10 to 100,000. That a return's test takes no time is the model's choice (log 121). Rests on
11_steward_desk_and_editions, 13_power_states_and_retention, 14_registrar_spares_and_twins. -/
def Obligations.DeskPoints : Prop :=
  (∀ (d : Nat) (u : State) (a : List Nat) (p : Nat) (v : Word) (s : State), deskServes d 0x30 4 2 false s = true → u = takeDoorbell d s → a = cmdArgs u d → ownPoint u (handleArg a 1) = some p → v = wd (argN a 3) → catForceable (catAt u p) = true → inForm (catType (catAt u p)) v = true → argN a 4 % 4 ≠ 3 →
      exec (.pointForce d) s =
        .next (answerOk d [] (forceCommand p v (forceRec p v (stOf (argN a 4)) u)))) ∧
  (∀ (d : Nat) (u : State) (s : State), deskServes d 0x30 4 2 false s = true → u = takeDoorbell d s → ownPoint u (handleArg (cmdArgs u d) 1) = none →
      exec (.pointForce d) s = .next (answer d 8 0 [] u)) ∧
  (∀ (d : Nat) (u : State) (p : Nat) (s : State), deskServes d 0x31 2 2 false s = true → u = takeDoorbell d s → ownPoint u (handleArg (cmdArgs u d) 1) = some p → (getPt u p).forced = true →
      exec (.pointRelease d) s = .next (answerOk d [] (releaseRec p u))) ∧
  (∀ (d : Nat) (u : State) (p : Nat) (s : State), deskServes d 0x31 2 2 false s = true → u = takeDoorbell d s → ownPoint u (handleArg (cmdArgs u d) 1) = some p → (getPt u p).forced = false →
      exec (.pointRelease d) s = .next (answer d 0x1C 0 [] u)) ∧
  (∀ (d : Nat) (u : State) (a : List Nat) (k : Nat) (n : Nat) (s : State), deskServes d 0x40 3 8 false s = true → u = takeDoorbell d s → a = cmdArgs u d → k = argN a 1 % 8 → n = argN a 2 → inService u k n = true → swapBusy u k n = false → atticFind u k (fun w => w.unit == n) = none → spares u k n = [] →
      exec (.spareSwap d) s = .next (answer d 0x17 0 [] u)) ∧
  (∀ (d : Nat) (u : State) (a : List Nat) (k : Nat) (n : Nat) (sp : Nat) (l : List Nat) (s : State), deskServes d 0x40 3 8 false s = true → u = takeDoorbell d s → a = cmdArgs u d → k = argN a 1 % 8 → n = argN a 2 → inService u k n = true → swapBusy u k n = false → atticFind u k (fun w => w.unit == n) = none → spares u k n = sp :: l → argN a 3 = 0xFFFFFF →
      exec (.spareSwap d) s = .next (swapBegin k n sp (answerOk d [wd sp] u))) ∧
  (∀ (x : Word) (g : Word) (d : Nat) (u : State) (n : Nat) (s : State), deskServes d 0x41 2 8 false s = true → u = takeDoorbell d s → argN (cmdArgs u d) 1 % 8 = 4 → n = argN (cmdArgs u d) 2 → u.stw.fencedCores.contains n = true →
      exec (.unitReturn d false x g) s =
        .next (spareChanged ⟨4, n, n, true, false⟩ 1 (atticLog ⟨4, n, n, true, false⟩ 1 (raise 631 (answerOk d [] u))))) ∧
  (∀ (x : Word) (g : Word) (d : Nat) (u : State) (n : Nat) (s : State), deskServes d 0x41 2 8 false s = true → u = takeDoorbell d s → argN (cmdArgs u d) 1 % 8 = 4 → n = argN (cmdArgs u d) 2 → u.stw.fencedCores.contains n = true →
      exec (.unitReturn d true x g) s =
        .next (spareChanged ⟨4, n, n, true, false⟩ 0 (atticLog ⟨4, n, n, true, false⟩ 0 (unitBack 4 n x g (answerOk d [] u))))) ∧
  (∀ (passed : Bool) (x : Word) (g : Word) (d : Nat) (u : State) (s : State), deskServes d 0x41 2 8 false s = true → u = takeDoorbell d s → argN (cmdArgs u d) 1 % 8 < 6 → argN (cmdArgs u d) 1 % 8 ≠ 1 → isFenced u (argN (cmdArgs u d) 1 % 8) (argN (cmdArgs u d) 2) = false →
      exec (.unitReturn d passed x g) s = .next (answer d 0x1D 0 [] u)) ∧
  (∀ (d : Nat) (u : State) (a : List Nat) (st : Nat) (limit : Nat) (s : State), deskServes d 0x50 2 8 false s = true → u = takeDoorbell d s → a = cmdArgs u d → st = argN a 1 % 4 → limit = (if argN a 2 = 0 then 1000 else argN a 2) → 10 ≤ limit → limit ≤ 100000 → st ≠ 0 → flag u fPWR_STATUS_BUSY = false → pwrState u = 0 →
      exec (.powerState d) s =
        .next (beginRequest ⟨st, bitsOf (argN a 1) 2 1 == 1, bitsOf (argN a 1) 3 1 == 1, limit, u.clk, some d, false⟩ u)) ∧
  (∀ (d : Nat) (u : State) (a : List Nat) (limit : Nat) (s : State), deskServes d 0x50 2 8 false s = true → u = takeDoorbell d s → a = cmdArgs u d → limit = (if argN a 2 = 0 then 1000 else argN a 2) → limit < 10 ∨ 100000 < limit →
      exec (.powerState d) s = .next (answer d 3 0 [] u))

/-- VOLUME_STATUS answers the two volumes, the armed time and the trial. VOLUME_ARM arms a staged or standby volume that
passes its checks and answers 0x1E where there is none. VOLUME_COMMIT of a healthy trial commits it; without a trial
it and VOLUME_FALLBACK answer 0x1F; VOLUME_FALLBACK in a trial acts once its answer is out. SETTINGS_GET answers a
readable key and 0x21 for an unknown one; SETTINGS_SET stores a value that fits and answers 0x22 for a read-only
key. TIME_SET steps the grandmaster's ring time and answers 0x19 elsewhere. TIME_EPOCH stores or answers the epoch.
RESTART acts once its answer is out. Rests on 11_steward_desk_and_editions, 15_identity_and_firmware_volumes. -/
def Obligations.DeskVolumes : Prop :=
  (∀ (d : Nat) (u : State) (s : State), deskServes d 0x60 0 1 false s = true → u = takeDoorbell d s →
      exec (.volumeStatus d) s =
        .next (answerOk d ([wd (runningVol u), wd (getVol u 0).version, volWord u 0, wd (getVol u 1).version, volWord u 1] ++
          timeWords (volArmedT u) ++ [wd (trialLeft u), reg u oSEC_FALLBACK]) u)) ∧
  (∀ (d : Nat) (u : State) (v : Nat) (s : State), deskServes d 0x61 4 8 true s = true → u = takeDoorbell d s → v = argN (cmdArgs u d) 1 % 2 → u.sec.volArmed = none → u.sec.trial = none → u.stw.armed = none → (getVol u v).state ≠ 1 → (getVol u v).state ≠ 5 →
      exec (.volumeArm d) s = .next (answer d 0x1E 0 [] u)) ∧
  (∀ (d : Nat) (u : State) (a : List Nat) (v : Nat) (auto : Bool) (at0 : Nat) (x : Volume) (s : State), deskServes d 0x61 4 8 true s = true → u = takeDoorbell d s → a = cmdArgs u d → v = argN a 1 % 2 → auto = (bitsOf (argN a 1) 1 1 == 1) → at0 = timeArg a 2 → x = getVol u v → u.sec.volArmed = none → u.sec.trial = none → u.stw.armed = none → x.state = 1 → x.good = true → slotOk u x.slot 0 = true → versionOk u 0 x.secVer = true → u.ringNs + 100000000 ≤ at0 → at0 ≤ u.ringNs + 604800000000000 →
      exec (.volumeArm d) s =
        .next (answerOk d [] (showVolArmed (setVol v { x with state := 2 } (setSec { u.sec with volArmed := some (v, auto, at0) } u))))) ∧
  (∀ (f : Bool) (d : Nat) (u : State) (s : State), deskServes d 0x62 0 8 true s = true → u = takeDoorbell d s → u.sec.trial = none →
      exec (.volumeCommit d f) s = .next (answer d 0x1F 0 [] u)) ∧
  (∀ (d : Nat) (u : State) (s : State), deskServes d 0x62 0 8 true s = true → u = takeDoorbell d s → u.sec.trial ≠ none → getF u fSEC_VOL_PHASE = 2 → u.boot.flash = true →
      exec (.volumeCommit d true) s = .next (answerOk d [] (commitVolume u))) ∧
  (∀ (d : Nat) (u : State) (s : State), deskServes d 0x63 0 8 true s = true → u = takeDoorbell d s → u.sec.trial ≠ none →
      exec (.volumeFallback d) s =
        .next (answerOk d [] (setStw { u.stw with afterDone := some (d, 2) } u))) ∧
  (∀ (d : Nat) (u : State) (s : State), deskServes d 0x63 0 8 true s = true → u = takeDoorbell d s → u.sec.trial = none →
      exec (.volumeFallback d) s = .next (answer d 0x1F 0 [] u)) ∧
  (∀ (d : Nat) (u : State) (k : Nat) (s : State), deskServes d 0x68 1 8 false s = true → u = takeDoorbell d s → k = argN (cmdArgs u d) 1 → keyRO k = true ∨ keyBits k ≠ none →
      exec (.settingsGet d) s = .next (answerOk d ((keyValue u k).take 62) u)) ∧
  (∀ (d : Nat) (u : State) (k : Nat) (s : State), deskServes d 0x68 1 8 false s = true → u = takeDoorbell d s → k = argN (cmdArgs u d) 1 → keyRO k = false → keyBits k = none → keyProg k = false → keyRevoke k = false →
      exec (.settingsGet d) s = .next (answer d 0x21 0 [] u)) ∧
  (∀ (d : Nat) (u : State) (k : Nat) (n : Nat) (s : State), deskServes d 0x69 2 8 false s = true → u = takeDoorbell d s → k = argN (cmdArgs u d) 1 → keyRO k = false → keyProg k = false → keyRevoke k = false → keyBits k = some n → argN (cmdArgs u d) 2 < 2 ^ n → u.boot.flash = true →
      exec (.settingsSet d true) s =
        .next (answerOk d [] (putKey k [wd (argN (cmdArgs u d) 2)] u))) ∧
  (∀ (f : Bool) (d : Nat) (u : State) (s : State), deskServes d 0x69 2 8 false s = true → u = takeDoorbell d s → keyRO (argN (cmdArgs u d) 1) = true →
      exec (.settingsSet d f) s = .next (answer d 0x22 0 [] u)) ∧
  (∀ (d : Nat) (u : State) (s : State), deskServes d 0x70 3 8 false s = true → u = takeDoorbell d s → flag u fRTM_STATUS_GM = true →
      exec (.timeSet d) s = .next (answerOk d [] (stepTime (timeArg (cmdArgs u d) 1) u))) ∧
  (∀ (d : Nat) (u : State) (s : State), deskServes d 0x70 3 8 false s = true → u = takeDoorbell d s → flag u fRTM_STATUS_GM = false →
      exec (.timeSet d) s = .next (answer d 0x19 0 [] u)) ∧
  (∀ (d : Nat) (u : State) (v : State) (s : State), deskServes d 0x71 3 8 false s = true → u = takeDoorbell d s → argN (cmdArgs u d) 1 % 2 = 1 → u.boot.flash = true → v = putKey 1 [wd (argN (cmdArgs u d) 2), wd (argN (cmdArgs u d) 3)] u →
      exec (.timeEpoch d true) s = .next (answerOk d ((getKey v 1).getD [0, 0]) v)) ∧
  (∀ (f : Bool) (d : Nat) (u : State) (s : State), deskServes d 0x71 3 8 false s = true → u = takeDoorbell d s → argN (cmdArgs u d) 1 % 2 = 0 →
      exec (.timeEpoch d f) s = .next (answerOk d ((getKey u 1).getD [0, 0]) u)) ∧
  (∀ (d : Nat) (u : State) (s : State), deskServes d 0x7F 1 8 false s = true → u = takeDoorbell d s →
      exec (.restart d) s =
        .next (answerOk d [] (setStw { u.stw with afterDone := some (d, argN (cmdArgs u d) 1 % 2) } u)))

/-- FEED_STATE_CHANGE, from the voltage sensed and the time it held, starts qualifying a feed, marks it absent, takes a
GOOD feed out of use as absent, under or over, and leaves one within its limits. FEED_QUALIFIED after the qualifying
time makes it GOOD, drives its FET and starts the node. ORING_REVERSE turns the FET off; ORING_FET_FAULT finds an
open FET after 1 s and a shorted one after 10 s, turns 12 + x on, and off again when it is no longer so.
NODE_PHASE_CHANGE goes to ramping and to ON with PG, FEED_WARN_N still low. NODE_TRIP at three times or past the
current limit takes PG away, owes its source and sets the retry 10 s later; NODE_RETRY starts again.
FEED_WARN_ASSERT raises 14, counts and holds the channels marked SHED; FEED_WARN_RELEASE after 10 ms ends it. Rests
on 12_feeds_and_field_supplies. -/
def Obligations.FeedsNode : Prop :=
  (∀ (x : Nat) (v : Nat) (held : Nat) (s : State), x < 2 → 17500 ≤ v → v ≤ 61500 → getF s (feedFld x) ≠ 2 → getF s (feedFld x) ≠ 3 →
      exec (.feedStateChange x v held) s =
        .next (fetCheck (setFeed x { getFeed s x with qualSince := s.clk, long := getF s (feedFld x) != 1, band := false } (setF (feedFld x) 2 s)))) ∧
  (∀ (x : Nat) (v : Nat) (held : Nat) (s : State), x < 2 → v < 9000 → 10000 ≤ held → getF s (feedFld x) ≠ 0 → getF s (feedFld x) ≠ 3 →
      exec (.feedStateChange x v held) s = .next (fetCheck (setF (feedFld x) 0 s))) ∧
  (∀ (x : Nat) (v : Nat) (held : Nat) (s : State), x < 2 → v < 9000 → 10000 ≤ held → getF s (feedFld x) = 3 →
      exec (.feedStateChange x v held) s =
        .next (fetCheck (feedLost x false (setF (feedFld x) 0 s)))) ∧
  (∀ (x : Nat) (v : Nat) (held : Nat) (s : State), x < 2 → 9000 ≤ v → v < 16500 → 10000 ≤ held → getF s (feedFld x) = 3 →
      exec (.feedStateChange x v held) s =
        .next (fetCheck (feedLost x false (setF (feedFld x) 1 s)))) ∧
  (∀ (x : Nat) (v : Nat) (held : Nat) (s : State), x < 2 → 63000 < v → 1000 ≤ held → getF s (feedFld x) = 3 →
      exec (.feedStateChange x v held) s =
        .next (fetCheck (feedLost x true (setF (feedFld x) 4 s)))) ∧
  (∀ (x : Nat) (v : Nat) (held : Nat) (s : State), x < 2 → 16500 ≤ v → v ≤ 63000 → getF s (feedFld x) = 3 →
      exec (.feedStateChange x v held) s = .next (s)) ∧
  (∀ (x : Nat) (v : Nat) (held : Nat) (s : State), x < 2 → 61500 < v → v ≤ 63000 → getF s (feedFld x) = 2 →
      exec (.feedStateChange x v held) s =
        .next (setFeed x { getFeed s x with band := true } s)) ∧
  (∀ (x : Nat) (vfeed : Nat) (vnode : Nat) (u : State) (s : State), x < 2 → getF s (feedFld x) = 2 → (getFeed s x).band = false → (getFeed s x).qualSince + (if (getFeed s x).long then 100000000 else 1000000) ≤ s.clk → u = setF (feedOnFld x) 1 (setF (feedFld x) 3 s) → getF u fFED_STATUS_NODE ≠ 3 →
      exec (.feedQualified x vfeed vnode) s = .next (fetCheck (noteWarn (nodeStart u)))) ∧
  (∀ (x : Nat) (vin : Nat) (bus : Nat) (s : State), x < 2 → feedGood s x = true → vin + 15 < bus →
      exec (.oringReverse x vin bus) s = .next (setF (feedOnFld x) 0 s)) ∧
  (∀ (x : Nat) (vx : Nat) (vother : Nat) (bus : Nat) (held : Nat) (s : State), x < 2 → feedGood s x = true → vother + 500 < vx → bus + 500 < vx → 1000000 ≤ held →
      exec (.oringFetFault x vx vother bus held) s =
        .next (causeOn (12 + x) (setF (if x = 0 then fFED_STATUS_A_FET_FLT else fFED_STATUS_B_FET_FLT) 1 (setFeed x { getFeed s x with fet := 1 } s)))) ∧
  (∀ (x : Nat) (vx : Nat) (vother : Nat) (bus : Nat) (held : Nat) (s : State), x < 2 → feedGood s x = false → feedGood s (1 - x) = true → vx ≤ bus + 500 → bus ≤ vx + 500 → 10000000 ≤ held →
      exec (.oringFetFault x vx vother bus held) s =
        .next (causeOn (12 + x) (setF (if x = 0 then fFED_STATUS_A_FET_FLT else fFED_STATUS_B_FET_FLT) 1 (setFeed x { getFeed s x with fet := 2 } s)))) ∧
  (∀ (x : Nat) (vx : Nat) (vother : Nat) (bus : Nat) (held : Nat) (s : State), x < 2 → feedGood s x = true → vx ≤ vother + 500 ∨ vx ≤ bus + 500 → (getFeed s x).fet ≠ 0 →
      exec (.oringFetFault x vx vother bus held) s =
        .next (causeOff (12 + x) (setFeed x { getFeed s x with fet := 0 } s))) ∧
  (∀ (vfeed : Nat) (vnode : Nat) (s : State), getF s fFED_STATUS_NODE = 2 → vfeed ≤ vnode + 1000 → vnode ≤ vfeed + 1000 →
      exec (.nodePhaseChange vfeed vnode true) s =
        .next (noteWarn (setF fFED_STATUS_WARN 1 (setF fFED_STATUS_PG 1 (setFed { s.fed with nodeSince := s.clk } (setF fFED_STATUS_NODE 3 s)))))) ∧
  (∀ (vfeed : Nat) (vnode : Nat) (e : Bool) (s : State), getF s fFED_STATUS_NODE = 1 → vfeed < 2 * vnode →
      exec (.nodePhaseChange vfeed vnode e) s =
        .next (setFed { s.fed with nodeSince := s.clk } (setF fFED_STATUS_NODE 2 s))) ∧
  (∀ (vfeed : Nat) (vnode : Nat) (sense : Nat) (held : Nat) (u : State) (s : State), getF s fFED_STATUS_NODE = 2 → 150000 ≤ sense → u = setF fFED_STATUS_PG 0 (setFed { s.fed with nodeSince := s.clk } (setF fFED_STATUS_NODE 4 s)) →
      exec (.nodeTrip vfeed vnode sense held) s =
        .next (noteWarn (raiseTrip (setFed { u.fed with retryAt := some (u.clk + 10000000000), tripOwed := true } u)))) ∧
  (∀ (vfeed : Nat) (vnode : Nat) (sense : Nat) (held : Nat) (u : State) (s : State), getF s fFED_STATUS_NODE = 3 → 50000 ≤ sense → 5000000 < held → u = setF fFED_STATUS_PG 0 (setFed { s.fed with nodeSince := s.clk } (setF fFED_STATUS_NODE 4 s)) →
      exec (.nodeTrip vfeed vnode sense held) s =
        .next (noteWarn (raiseTrip (warnLow (setFed { u.fed with retryAt := some (u.clk + 10000000000), tripOwed := true } u))))) ∧
  (∀ (d : Nat) (s : State), s.fed.retryAt = some d → getF s fFED_STATUS_NODE = 4 → d ≤ s.clk →
      exec .nodeRetry s =
        .next (nodeStart (nodeGo 0 (setFed { s.fed with retryAt := none } s)))) ∧
  (∀ (vnode : Nat) (held : Nat) (s : State), getF s fFED_STATUS_NODE = 3 → flag s fFED_STATUS_WARN = true →
      exec (.feedWarnAssert vnode held) s = .next (s)) ∧
  (∀ (vnode : Nat) (held : Nat) (u : State) (s : State), getF s fFED_STATUS_NODE = 3 → vnode < 250 * getF s fFED_CTL_WARN_V → 5000 ≤ held → flag s fFED_STATUS_WARN = false → u = setFed { s.fed with warnClear := none, shedding := true } (setF fFED_STATUS_WARN 1 s) →
      exec (.feedWarnAssert vnode held) s =
        .next (raise 14 (wrapF fFED_CNT_WARNS ((List.range 16).foldl (fun t n => if flag t (fFED_FSC_CTL_SHED n) then holdOn n 1 t else t) u)))) ∧
  (∀ (vnode : Nat) (held : Nat) (d : Nat) (s : State), s.fed.warnClear = some d → flag s fFED_STATUS_WARN = true → d + 10000000 ≤ s.clk → 250 * getF s fFED_CTL_WARN_V + 1000 ≤ vnode → 10000000 ≤ held →
      exec (.feedWarnRelease vnode held) s =
        .next ((List.range 16).foldl (fun t n => holdOff n 1 t) (setFed { s.fed with shedding := false } (setF fFED_STATUS_WARN 0 s))))

/-- The sixteen supply channels go through CHECK, PRECHARGE, RAMP and ON by the voltages sensed, and a check that fails
for 100 ms finds the FET shorted. A fast trip, an overcurrent and a short during the ramp count (TRIPS stays at 15,
log 109), record LAST, raise 16 + n and go to RETRY, or to LATCHED with 32 + n at LATCH_N. The retry, clear and
debounce timers act at their times. The probe finds a board by its voltage; removal and reinsertion follow the
board. FSC_EN_WRITE turns a channel on from OFF and off from ON; UNLATCH frees a latched channel and leaves a
shorted one that still fails its test. A hold keeps a channel off, and its end lets an enabled one go on. Rests on
12_feeds_and_field_supplies. -/
def Obligations.FeedsChannels : Prop :=
  (∀ (n : Nat) (m : Sensed) (s : State), n < 16 → fscState s n = 1 → 10 * m.vout < 3 * m.vin →
      exec (.fscCheckEnd n m) s = .next (fscGo n 2 s)) ∧
  (∀ (n : Nat) (m : Sensed) (s : State), n < 16 → fscState s n = 1 → 3 * m.vin ≤ 10 * m.vout → (getFsc s n).since + 100000000 ≤ s.clk →
      exec (.fscCheckEnd n m) s =
        .next (raise (48 + n) (setF (fFED_FSC_STAT_LAST n) 4 (fscGo n 9 s)))) ∧
  (∀ (n : Nat) (m : Sensed) (s : State), n < 16 → fscState s n = 2 → m.vin < 2 * m.vout →
      exec (.fscRampStart n m) s = .next (fscGo n 3 s)) ∧
  (∀ (n : Nat) (m : Sensed) (s : State), n < 16 → fscState s n = 3 → 98 * m.vin ≤ 100 * m.vout → 100 * m.vout ≤ 102 * m.vin →
      exec (.fscOn n m true) s = .next (fscGo n 4 s)) ∧
  (∀ (n : Nat) (m : Sensed) (held : Nat) (s : State), n < 16 → fscState s n = 4 → 250 * getF s (fFED_FSC_LIM_ILIM n) ≤ m.sense → 10000 * getF s (fFED_FSC_TMR_SOA n) < held → getF s (fFED_FSC_RETRY_LATCH_N n) = 0 →
      ∃ t, exec (.fscTrip n .overcurrent m held) s = .next t ∧
        fscState t n = 5 ∧
        getF t (fFED_FSC_STAT_TRIPS n) = min 15 (getF s (fFED_FSC_STAT_TRIPS n) + 1) ∧
        getF t (fFED_FSC_STAT_LAST n) = 2 ∧
        16 + n ∈ t.flt.pulse ∧
        (getFsc t n).retryAt = s.clk + 100000000 * max 1 (getF s (fFED_FSC_RETRY_RETRY_T n))) ∧
  (∀ (n : Nat) (m : Sensed) (held : Nat) (s : State), n < 16 → fscState s n = 4 → 250 * getF s (fFED_FSC_LIM_ILIM n) ≤ m.sense → 2 * m.vout < m.vin → getF s (fFED_FSC_RETRY_LATCH_N n) ≠ 0 → min 15 (getF s (fFED_FSC_STAT_TRIPS n) + 1) = getF s (fFED_FSC_RETRY_LATCH_N n) →
      ∃ t, exec (.fscTrip n .overcurrent m held) s = .next t ∧
        fscState t n = 6 ∧
        getF t (fFED_FSC_STAT_LAST n) = 2 ∧
        16 + n ∈ t.flt.pulse ∧
        32 + n ∈ t.flt.pulse) ∧
  (∀ (n : Nat) (m : Sensed) (held : Nat) (s : State), n < 16 → 2 ≤ fscState s n → fscState s n ≤ 4 → 750 * getF s (fFED_FSC_LIM_ILIM n) ≤ m.sense → getF s (fFED_FSC_RETRY_LATCH_N n) = 0 →
      ∃ t, exec (.fscTrip n .fastTrip m held) s = .next t ∧
        fscState t n = 5 ∧
        getF t (fFED_FSC_STAT_LAST n) = 3 ∧
        16 + n ∈ t.flt.pulse) ∧
  (∀ (n : Nat) (m : Sensed) (held : Nat) (s : State), n < 16 → fscState s n = 2 → (getFsc s n).since + 1000000 * max 1 (getF s (fFED_FSC_TMR_PRE_T n)) ≤ s.clk → 2 * m.vout ≤ m.vin → getF s (fFED_FSC_RETRY_LATCH_N n) = 0 →
      ∃ t, exec (.fscTrip n .shortDuringRamp m held) s = .next t ∧
        fscState t n = 5 ∧
        getF t (fFED_FSC_STAT_LAST n) = 1 ∧
        16 + n ∈ t.flt.pulse) ∧
  (∀ (n : Nat) (s : State), n < 16 → fscState s n = 5 → (getFsc s n).retryAt ≤ s.clk →
      exec (.fscRetryExpiry n) s = .next (fscGo n (if fscMayOn s n then 1 else 0) s)) ∧
  (∀ (n : Nat) (s : State), n < 16 → fscState s n = 4 → (getFsc s n).since + 1000000000 * max 1 (getF s (fFED_FSC_RETRY_CLEAR_T n)) ≤ s.clk →
      exec (.fscClearTimer n) s = .next (setF (fFED_FSC_STAT_TRIPS n) 0 s)) ∧
  (∀ (n : Nat) (m : Sensed) (u : State) (s : State), n < 16 → flag s (fFED_FSC_CTL_PRES_EN n) = false → fscState s n = 7 → probeDue s n ≤ s.clk → 2000 ≤ m.vout → u = setFsc n { getFsc s n with probed := s.clk } s →
      exec (.fscProbe n m) s = .next (setF (fFED_FSC_STAT_PRESENT n) 1 (fscGo n 8 u))) ∧
  (∀ (n : Nat) (m : Sensed) (s : State), n < 16 → flag s (fFED_FSC_CTL_PRES_EN n) = false → fscState s n = 5 ∨ fscState s n = 8 → probeDue s n ≤ s.clk → m.vout < 2000 → 200 * m.sense < 250 * getF s (fFED_FSC_LIM_ILIM n) →
      exec (.fscProbe n m) s =
        .next (removeBoard n (setFsc n { getFsc s n with probed := s.clk } s))) ∧
  (∀ (n : Nat) (m : Sensed) (held : Nat) (s : State), n < 16 → fscState s n = 4 → m.vout < 2000 → 200 * m.sense < 250 * getF s (fFED_FSC_LIM_ILIM n) → 1000000 ≤ held →
      ∃ t, exec (.fscRemoval n false m held) s = .next t ∧
        fscState t n = 7 ∧
        flag t (fFED_FSC_STAT_PRESENT n) = false ∧
        getF t (fFED_FSC_STAT_LAST n) = 5 ∧
        (getFsc t n).absentAt = some s.clk) ∧
  (∀ (n : Nat) (m : Sensed) (held : Nat) (s : State), n < 16 → fscState s n = 4 → flag s (fFED_FSC_CTL_PRES_EN n) = true →
      ∃ t, exec (.fscRemoval n true m held) s = .next t ∧
        fscState t n = 7 ∧
        flag t (fFED_FSC_STAT_PRESENT n) = false ∧
        getF t (fFED_FSC_STAT_LAST n) = 5 ∧
        (getFsc t n).absentAt = some s.clk) ∧
  (∀ (n : Nat) (s : State), n < 16 → fscState s n = 7 → flag s (fFED_FSC_CTL_PRES_EN n) = true →
      exec (.fscReinsertion n) s = .next (setF (fFED_FSC_STAT_PRESENT n) 1 (fscGo n 8 s))) ∧
  (∀ (n : Nat) (d : Nat) (s : State), n < 16 → fscState s n = 8 → (getFsc s n).since + 100000000 ≤ s.clk → (getFsc s n).absentAt = some d → d + 2000000000 ≤ (getFsc s n).since →
      exec (.fscDebounceEnd n) s =
        .next (fscRest n (setFsc n { getFsc (setF (fFED_FSC_STAT_TRIPS n) 0 s) n with absentAt := none } (setF (fFED_FSC_STAT_TRIPS n) 0 s)))) ∧
  (∀ (n : Nat) (m : Sensed) (held : Nat) (s : State), n < 16 → fscState s n = 0 ∨ fscState s n = 5 ∨ fscState s n = 6 → 250 * getF s (fFED_FSC_LIM_ILIM n) < 20 * m.sense → 1000000 ≤ held →
      exec (.fscFetShort n m held) s =
        .next (raise (48 + n) (setF (fFED_FSC_STAT_LAST n) 4 (fscGo n 9 s)))) ∧
  (∀ (w : Writer) (n : Nat) (s : State), n < 16 → mayWrite w (oFED_FSC_CTL n) s = true → fscState (setF (fFED_FSC_CTL_EN n) 1 s) n = 0 →
      exec (.fscEnWrite w n true) s = .next (fscRest n (setF (fFED_FSC_CTL_EN n) 1 s))) ∧
  (∀ (w : Writer) (n : Nat) (s : State), n < 16 → mayWrite w (oFED_FSC_CTL n) s = true → fscState (setF (fFED_FSC_CTL_EN n) 0 s) n = 4 →
      exec (.fscEnWrite w n false) s = .next (fscGo n 0 (setF (fFED_FSC_CTL_EN n) 0 s))) ∧
  (∀ (w : Writer) (n : Nat) (m : Sensed) (s : State), n < 16 → mayWrite w (oFED_FSC_CTL n) s = true → fscState s n = 6 →
      exec (.fscUnlatch w n m) s = .next (fscRest n (setF (fFED_FSC_STAT_TRIPS n) 0 s))) ∧
  (∀ (w : Writer) (n : Nat) (m : Sensed) (s : State), n < 16 → mayWrite w (oFED_FSC_CTL n) s = true → fscState s n = 9 → 3 * m.vin ≤ 10 * m.vout →
      exec (.fscUnlatch w n m) s = .next (s)) ∧
  (∀ (n : Nat) (vin : Nat) (s : State), n < 16 → getF s fPWR_STATUS_STATE = 3 →
      exec (.fscHoldBegin n .powerState vin) s = .next (holdOn n 2 s)) ∧
  (∀ (n : Nat) (vin : Nat) (s : State), n < 16 → vin < 8000 →
      exec (.fscHoldBegin n .vinLow vin) s = .next (holdOn n 3 s)) ∧
  (∀ (n : Nat) (vin : Nat) (s : State), n < 16 → 9000 < vin → (getFsc s n).holds.contains 3 = true → fscState (setHolds n (delSet 3 (getFsc s n).holds) s) n = 0 →
      exec (.fscHoldEnd n .vinLow vin) s =
        .next (fscRest n (setHolds n (delSet 3 (getFsc s n).holds) s)))

/-- PWR_REQ_GO takes the request of the register written. DRAIN_COMPLETE completes a request whose drain has ended;
DRAIN_TIMEOUT at the limit forces it with source 1, or refuses it without FORCE. PWR_DOM_OFF_WRITE starts the drain
of the domains newly named. WAKE_EVENT wakes a sleeping hub and removes the cause that holds a MOTHBALLED one in
core reset (log 158). A wake edge during an entry is noted and wakes once the entry is over. PLL_LOCK_TIMEOUT and
DOMAIN_ACK_TIMEOUT raise 6 and 5; that the timeout learns of the reference clock is the model's choice (log 254).
NIGHT_ORDER to sleep is taken once and an order to wake sets the ring's wake source in CELLARED; ORDER_RESEND sends
a wake order again. XTAL_STOP clears XTAL_OK and raises 4. Orders received wait in a list until NIGHT_ORDER takes
them (the model's own, log 149). Rests on 13_power_states_and_retention, 16_start_up_and_boot. -/
def Obligations.PowerStates : Prop :=
  (∀ (w : Writer) (v : Word) (s : State), mayWrite w oPWR_REQ s = true → bitsOf v.toNat 4 1 = 1 →
      exec (.pwrReqGo w v) s = .next (goRequest (rowWrite oPWR_REQ v.toNat s))) ∧
  (∀ (r : PowerReq) (s : State), s.pwr.domDrain = none → s.pwr.req = some r → reqDrained s r = true →
      exec .drainComplete s = .next (completeRequest r s)) ∧
  (∀ (r : PowerReq) (s : State), s.pwr.domDrain = none → s.pwr.req = some r → r.began + 1000 * r.limitUs ≤ s.clk → reqDrained s r = false → r.force = true →
      exec .drainTimeout s = .next (completeRequest r (raise 1 (forceDrain r s)))) ∧
  (∀ (r : PowerReq) (s : State), s.pwr.domDrain = none → s.pwr.req = some r → r.began + 1000 * r.limitUs ≤ s.clk → reqDrained s r = false → r.force = false →
      exec .drainTimeout s = .next (refuseRequest r s)) ∧
  (∀ (w : Writer) (v : Word) (s : State), mayWrite w oPWR_DOM_OFF s = true → reg s oPWR_DOM_OFF = 0 → bitsOf v.toNat 0 6 ≠ 0 → s.pwr.domDrain = none →
      ∃ t, exec (.pwrDomOffWrite w v) s = .next t ∧
        t.pwr.domDrain = some (bitsOf v.toNat 0 6, s.clk) ∧
        reg t oPWR_DOM_OFF = wd (bitsOf v.toNat 0 6)) ∧
  (∀ (act : List Nat) (bad : RetentionFound) (u : State) (s : State), entering s = false → pwrState s = 3 → u = recordWake act s →
      exec (.wakeEvent act bad) s =
        .next ({ u with boot := { u.boot with causes := delSet 4 u.boot.causes, quietFrom := u.clk } })) ∧
  (∀ (act : List Nat) (u : State) (s : State), entering s = false → pwrState s = 1 ∨ pwrState s = 2 → u = recordWake act s →
      exec (.wakeEvent act ⟨0, 0, 0⟩) s = .next (wakeUp [] (setReg oPWR_RET_STAT 0 u))) ∧
  (∀ (act : List Nat) (bad : RetentionFound) (s : State), entering s = true → pwrState s ≠ 0 →
      exec (.wakeEvent act bad) s =
        .next ((edgeSources act s).foldl (fun t k => noteEdge k t) s)) ∧
  (∀ (b : Bool) (d : Nat) (s : State), s.pwr.pllAt = some d → d + 1300000 ≤ s.clk →
      exec (.pllLockTimeout b) s =
        .next (raise 6 (setF fPWR_STATUS_CLK 0 { s with pwr := { s.pwr with pllAt := none }, boot := { s.boot with refclk := b } }))) ∧
  (∀ (i : Nat) (d : Nat) (s : State), i < 16 → s.pwr.domAt = [(i, d)] → d + 1000000 ≤ s.clk → domOn s i = true →
      exec (.domainAckTimeout i) s =
        .next (raise 5 (domainOff i (setPwr { s.pwr with domAt := [] } s)))) ∧
  (∀ (s : State), s.pwr.orders = [] →
      exec .nightOrder s = .next (s)) ∧
  (∀ (r : Nat) (f : Nat) (l : List (Nat × Nat × Nat)) (v : State) (u : State) (s : State), s.pwr.orders = (r, 2, f) :: l → v = setPwr { s.pwr with orders := l } s → numbered v = true → r = ringId v → isCoupler v = false → u = setPwr { v.pwr with orderSeen := tset (fun _ => 0) r 1 v.pwr.orderSeen } v → isCoupler u = false →
      exec .nightOrder s = .next (takeOrder (f == 1) u)) ∧
  (∀ (r : Nat) (f : Nat) (l : List (Nat × Nat × Nat)) (v : State) (s : State), s.pwr.orders = (r, 0, f) :: l → v = setPwr { s.pwr with orders := l } s → numbered v = true → r = ringId v → pwrState v = 2 → entering v = false →
      ∃ t, exec .nightOrder s = .next t ∧
        4 ∈ t.pwr.wakePend ∧
        t.regs = s.regs ∧
        t.pwr.orders = l) ∧
  (∀ (f : Nat) (n : Nat) (d : Nat) (u : State) (s : State), s.pwr.orderLeft = some (f, n + 1, d) → d ≤ s.clk → u = sendOrder 0 (f == 1) s →
      exec .orderResend s =
        .next (setPwr { u.pwr with orderLeft := if n = 0 then none else some (f, n, d + 10000000) } u)) ∧
  (∀ (s : State), exec .xtalStop s = .next (raise 4 (setF fPWR_STATUS_XTAL_OK 0 s)))

/-- FAULT_RAISE with no active source ends every pulse; with one fresh source it writes the first-fault record and the
source's bit and reacts to it; with one source raised again it counts a repeat. FLT_FIRST_CLEAR clears the
first-fault record and its mask. FLT_FORCE_WRITE stores the forced sources. CNT_CLEAR_ALL and CNT_CLR clear
counters, CNT_CLR with the new selection. WEAR_HOUR_CHECK ends the hour and its counts. ROW_REPLACE of a worn row
uses a spare row and raises 626, and 627 with a planned swap where few are left. RINGB_STANDIN goes on with the
stand-in of ring B. Rests on 14_registrar_spares_and_twins. -/
def Obligations.FaultRegistrar : Prop :=
  (∀ (u : State) (s : State), u = atticRetry (drainRaises s) → Memory.wf u = true → activeSources u = [] →
      exec .faultRaise s = .next ({ u with flt := { u.flt with pulse := [], prev := [] } })) ∧
  (∀ (u : State) (i : Nat) (s : State), u = atticRetry (drainRaises s) → activeSources u = [i] → u.flt.prev = [] → fltStat u i = true → flag u fFLT_FIRST0_VALID = true →
      ∃ t, exec .faultRaise s = .next t ∧
        getF t fFLT_REPEATS_REPEATS = min (getF u fFLT_REPEATS_REPEATS + 1) 0xFFFFFF ∧
        t.flt.prev = [i] ∧
        t.flt.pulse = []) ∧
  (∀ (u : State) (i : Nat) (v : State) (x : State) (s : State), u = atticRetry (drainRaises s) → activeSources u = [i] → u.flt.prev = [] → v = addF fFLT_REPEATS_REPEATS 0 (countEv 1 i 1 { u with flt := { u.flt with pulse := [], prev := [i] } }) → fltStat (countEv 1 i 1 { u with flt := { u.flt with pulse := [], prev := [i] } }) i = false → flag v fFLT_FIRST0_VALID = false → x = setF ⟨0xC020 + i / 24, i % 24, 1⟩ 1 (firstFault i [] v) →
      exec .faultRaise s = .next (react i (faultWord x i true false) x)) ∧
  (∀ (u : State) (s : State), u = setF fFLT_STATUS_FIRST 0 (setReg oFLT_FIRST2 0 (setReg oFLT_FIRST1 0 (setReg oFLT_FIRST0 0 s))) →
      exec .fltFirstClear s =
        .next ((List.range 27).foldl (fun t i => setReg (oFLT_MASK i) 0 t) u)) ∧
  (∀ (w : Writer) (i : Nat) (v : Word) (s : State), i < 26 → mayWrite w (oFLT_FORCE i) s = true →
      exec (.fltForceWrite w i v) s = .next (noteForced (setReg (oFLT_FORCE i) v s))) ∧
  (∀ (w : Writer) (v : Word) (s : State), mayWrite w (oFLT_FORCE 26) s = true →
      exec (.fltForceWrite w 26 v) s =
        .next (noteForced (setReg (oFLT_FORCE 26) (wd (v.toNat % 2 ^ 16)) s))) ∧
  (∀ (k : Nat) (s : State), domOn s (offDomain 0x1_0000) = true →
      ∃ t, exec .cntClearAll s = .next t ∧
        (getCnt t k).val = 0) ∧
  (∀ (k : Nat) (v : Word) (s : State), k < 64 → domOn s (offDomain 0x1_0000) = true →
      ∃ t, exec (.cntClr k v) s = .next t ∧
        (getCnt t k).val = 0 ∧
        bitsOf (reg t (oCNT_SEL k)).toNat 0 18 = bitsOf v.toNat 0 18) ∧
  (∀ (s : State), s.flt.wearHour < s.ringNs / 3600000000000 →
      ∃ t, exec .wearHourCheck s = .next t ∧
        t.flt.wearHour = s.ringNs / 3600000000000 ∧
        t.stk.ceHour = [] ∧
        t.ana.drift = []) ∧
  (∀ (a : Nat) (w : Nat) (s : State), 5 ≤ a → a < 10 → 8 < getF s (fFLT_ROWS_LEFT a) - 1 →
      ∃ t, exec (.rowReplace a w) s = .next t ∧
        getF t (fFLT_ROWS_LEFT a) = getF s (fFLT_ROWS_LEFT a) - 1 ∧
        626 ∈ t.flt.pulse ∧
        t.flt.worn = s.flt.worn) ∧
  (∀ (a : Nat) (w : Nat) (s : State), a < 5 → rowWorn s a w = true → getF s (fFLT_ROWS_LEFT a) ≠ 0 → getF s (fFLT_ROWS_LEFT a) ≤ 9 →
      ∃ t, exec (.rowReplace a w) s = .next t ∧
        getF t (fFLT_ROWS_LEFT a) = getF s (fFLT_ROWS_LEFT a) - 1 ∧
        626 ∈ t.flt.pulse ∧
        627 ∈ t.flt.pulse ∧
        t.flt.worn = s.flt.worn ++ [(1, a)]) ∧
  (∀ (e : Nat) (f : Nat) (w : Swap) (s : State), atticFind s 5 (fun _ => true) = some w → selfTrained s 1 e f = true → getF (releasePair 0 s) (fRGx_BYP_STAT_STATE 1) = 1 →
      ∃ t, exec (.ringbStandin (.selfTrained e f)) s = .next t ∧
        getF t (fRGx_BYP_STAT_STATE 1) = 2 ∧
        flag t (fRGx_BYP_STAT_HOLD 1) = true ∧
        seedDone t 1 = false) ∧
  (∀ (w : Swap) (s : State), atticFind s 5 (fun _ => true) = some w → ringUp s 2 = true → ringUp s 3 = true → seedDone s 1 = true → pairInLine s 1 = true →
      exec (.ringbStandin .seeded) s =
        .next (atticEnd w 0 (causeOn 630 (setF fFLT_ATC_STAT_RINGB_ACTIVE 1 s))))

/-- TWIN_HELLO of the peer records its role, claim and readiness; another opcode is answered UNKNOWN_OPCODE (log 126).
TWIN_HELLO_TIMER sends once a millisecond; TWIN_PEER_LOST after 10 ms clears PEER_OK and turns 620 on. TWIN_HANDOVER
of a ready STANDBY hub is agreed to and the hub is TAKING; TWIN_HANDOVER_OK records the agreement; TWIN_CANCEL by
the peer returns to STANDBY, and with no agreement 200 microseconds before the time the hub cancels, raises 623 and
stays ACTIVE. TWIN_HANDOVER_REQ of an ACTIVE hub asks for a hand-over 1 ms ahead. Rests on
14_registrar_spares_and_twins. -/
def Obligations.TwinMessages : Prop :=
  (∀ (f : Frame) (u : State) (s : State), stwRuns s = true → takeTwin 1 (fun op => op != 0x81 && op != 0x82) s = some (f, u) → fromPeer u f = true → pw f 1 % 256 ≠ 0x80 →
      exec .twinHello s =
        .next (sendResponse f.src 7 f.aux (respWords (pw f 1 % 256) (bitsOf (pw f 1) 14 10) 1 0 []) u)) ∧
  (∀ (f : Frame) (u : State) (s : State), stwRuns s = true → takeTwin 1 (fun op => op != 0x81 && op != 0x82) s = some (f, u) → fromPeer u f = true → pw f 1 % 256 = 0x80 →
      exec .twinHello s =
        .next (noteBoth (causeOff 620 (setF fTWN_STAT_PEER_OK 1 (setTwin { u.twin with
          peerRole := bitsOf (pw f 2) 0 3, peerClaim := bitsOf (pw f 2) 3 4, peerReady := bitsOf (pw f 2) 7 1 == 1, helloRx := u.clk } u))))) ∧
  (∀ (u : State) (s : State), stwRuns s = true → twinOn s = true → twinRole s ≠ 0 → s.twin.helloDue ≤ s.clk → u = setTwin { s.twin with helloDue := s.clk + 1000000 } s →
      exec .twinHelloTimer s =
        .next (sendTwin 0x80 [wd (twinRole u + getF u fTWN_CTL_CLAIM_NUM * 8 + bit (twinReady u) * 128),
          wd (getF u fDSK_ED_ACTIVE_EDITION)] u)) ∧
  (∀ (s : State), twinOn s = true → twinRole s ≠ 0 → s.twin.helloRx + 10000000 ≤ s.clk →
      exec .twinPeerLost s =
        .next (causeOn 620 (setF fTWN_STAT_PEER_OK 0 (setTwin { s.twin with bothSince := none } s)))) ∧
  (∀ (f : Frame) (u : State) (s : State), stwRuns s = true → takeTwin 1 ((· == 0x81)) s = some (f, u) → fromPeer u f = true → twinRole u = 2 → twinReady u = true →
      exec .twinHandover s =
        .next (toPeer 2 (respWords 0x81 (bitsOf (pw f 1) 14 10) 0 0 []) (setTwin { u.twin with
          handover := some ⟨pw f 2 + 2 ^ 24 * pw f 3 + 2 ^ 48 * bitsOf (pw f 4) 0 16, true, true, false, 1⟩ } (setF fTWN_STAT_ROLE 3 u)))) ∧
  (∀ (f : Frame) (u : State) (h : Handover) (s : State), stwRuns s = true → takeTwin 2 (fun _ => true) s = some (f, u) → u.twin.handover = some h → fromPeer u f = true → pw f 1 % 256 = 0x81 → pw f 2 % 256 = 0 → h.taking = false →
      exec .twinHandoverOk s =
        .next (setTwin { u.twin with handover := some { h with ok := true } } u)) ∧
  (∀ (f : Frame) (u : State) (h : Handover) (s : State), stwRuns s = true → takeTwin 1 ((· == 0x82)) s = some (f, u) → fromPeer u f = true → u.twin.handover = some h → h.taking = true → u.twin.stages = false →
      exec .twinCancel s =
        .next (setF fTWN_STAT_ROLE 2 (setTwin { u.twin with handover := none } u))) ∧
  (∀ (h : Handover) (s : State), stwRuns s = true → takeTwin 1 (· == 0x82) s = none → s.twin.handover = some h → h.taking = false → h.ok = false → h.h ≤ s.ringNs + 200000 →
      exec .twinCancel s =
        .next (raise 623 (sendTwin 0x82 [] (setF fTWN_STAT_ROLE 1 (setTwin { s.twin with handover := none } s))))) ∧
  (∀ (w : Writer) (u : State) (s : State), mayWrite w oTWN_REQ s = true → twinOn s = true → twinRole s = 1 → s.twin.handover = none → stwRuns s = true → u = setTwin { s.twin with handover := some ⟨s.ringNs + 1000000, false, false, false, 1⟩ } s →
      exec (.twinHandoverReq w) s =
        .next (sendTwin 0x81 (timeWords (s.ringNs + 1000000)) (setF fTWN_STAT_ROLE 4 u)))

/-- CLAIM_ROUND shows the claim left after the bits of the round; a hub that claims and is not outdone shows WON and
notes the round. HANDOVER_PREPARE prepares 100 microseconds before the time. HANDOVER_TIME at the releasing hub does
nothing before 15 microseconds past the time and then disables its stages and changes its role, and at the taking
hub enables its stages. TWIN_CLAIM_IDLE after four idle rounds takes over. TWIN_ROTATION shows the hours.
TWIN_BOTH_ACTIVE for 2 ms raises 621 and the hub with the lower claim stands down. That claim rounds are counted in
intervals of 8 microseconds is a reading (log 128). Rests on 14_registrar_spares_and_twins. -/
def Obligations.TwinRoles : Prop :=
  (∀ (l : List Nat) (s : State), twinOn s = true → flag s fTWN_CTL_CLAIM_EN = true → twinClaims s = false →
      ∃ t, exec (.claimRound l) s = .next t ∧
        getF t fTWN_STAT_SEEN = (claimLeft (l.map (· % 16))).headD 0 ∧
        flag t fTWN_STAT_WON = false ∧
        twinRole t = twinRole s) ∧
  (∀ (l : List Nat) (s : State), twinOn s = true → twinClaims s = true → (l.map (· % 16)).foldl max 0 ≤ getF s fTWN_CTL_CLAIM_NUM → twinRole s ≠ 3 →
      ∃ t, exec (.claimRound l) s = .next t ∧
        flag t fTWN_STAT_WON = true ∧
        getF t fTWN_STAT_SEEN = getF s fTWN_CTL_CLAIM_NUM ∧
        t.twin.roundAt = s.ringNs / 8000) ∧
  (∀ (h : Handover) (s : State), s.twin.handover = some h → h.taking = true → h.prepared = false → h.h ≤ s.ringNs + 100000 → stwRuns s = true →
      exec .handoverPrepare s =
        .next (twinPrepare (setTwin { s.twin with handover := some { h with prepared := true } } s))) ∧
  (∀ (h : Handover) (s : State), s.twin.handover = some h → h.h ≤ s.ringNs → s.ringNs < h.h + 15000 → stwRuns s = true → h.ok = true → h.taking = false →
      exec .handoverTime s = .next (s)) ∧
  (∀ (h : Handover) (s : State), s.twin.handover = some h → h.h + 15000 ≤ s.ringNs → s.ringNs < h.h + 20000 → stwRuns s = true → h.ok = true → h.taking = false → s.twin.stages = true →
      exec .handoverTime s = .next (twinChange 2 h.cause (stagesDisable s))) ∧
  (∀ (h : Handover) (s : State), s.twin.handover = some h → h.h ≤ s.ringNs → s.ringNs < h.h + 20000 → stwRuns s = true → h.ok = true → h.taking = true → h.prepared = true → s.twin.stages = false →
      exec .handoverTime s = .next (stagesEnable s)) ∧
  (∀ (s : State), twinOn s = true → twinRole s = 2 → flag s fTWN_CTL_CLAIM_EN = true → stwRuns s = true → s.twin.roundAt + 4 ≤ s.ringNs / 8000 →
      exec .twinClaimIdle s =
        .next (stagesEnable (twinPrepare (setF fTWN_STAT_ROLE 3 (setTwin { s.twin with handover := none } s))))) ∧
  (∀ (n : Nat) (s : State), twinOn s = true → twinRole s ≠ 0 → getF s fTWN_CTL_ROT_PER = 0 → n = s.ringNs / 3600000000000 - s.twin.hourStart →
      ∃ t, exec .twinRotation s = .next t ∧
        t = setF fTWN_STAT_HOURS (min 1023 n) s) ∧
  (∀ (d : Nat) (u : State) (s : State), s.twin.bothSince = some d → twinOn s = true → twinRole s = 1 → d + 2000000 ≤ s.clk → u = raise 621 (setF fTWN_STAT_BOTH 1 (setTwin { s.twin with bothSince := none } s)) → getF u fTWN_CTL_CLAIM_NUM < u.twin.peerClaim →
      exec .twinBothActive s = .next (twinChange 2 6 (stagesDisable u)))

/-- EPOCH_ROLLOVER starts a new epoch where the count is used up; EPOCH_KEY_READY takes the new key into use. TRNG_FAIL
and TRNG_HEALTHY clear and set TRNG_OK, with source 615. UNLOCK_TOKEN unlocks debug and raises 611 where the token
is good, and 610 where it is not; DEBUG_EXPIRY locks it again. VOLUME_SWITCH at its time starts the trial of the
armed volume. VOLUME_HEALTHY shows the phase; TRIAL_DEADLINE falls back from a trial that is not healthy and commits
a healthy one with AUTO. Rests on 15_identity_and_firmware_volumes. -/
def Obligations.SecurityVolumes : Prop :=
  (∀ (p : Nat) (s : State), p < 4 → ringUp s p = true → protectedPort s p = true → 2 ^ 32 - 1 ≤ tget (fun _ => 0) s.sec.txCount p →
      exec (.epochRollover p) s = .next (newEpoch p s)) ∧
  (∀ (p : Nat) (e : Nat) (s : State), p < 4 → tget (fun _ => none) s.sec.rxNew p = some e → flag s fSEC_STATUS_TRNG_OK = true →
      exec (.epochKeyReady p) s =
        .next ({ s with sec := { s.sec with
          rxEpoch := tset (fun _ => none) p (some e) s.sec.rxEpoch, rxCount := tset (fun _ => none) p none s.sec.rxCount,
          rxNew := tset (fun _ => none) p none s.sec.rxNew } })) ∧
  (∀ (s : State), exec .trngFail s = .next (causeOn 615 (setF fSEC_STATUS_TRNG_OK 0 s))) ∧
  (∀ (s : State), 
      ∃ t, exec .trngHealthy s = .next t ∧
        flag t fSEC_STATUS_TRNG_OK = true ∧
        615 ∉ t.flt.level) ∧
  (∀ (bytes : List Nat) (s : State), 
      ∃ t, exec (.unlockToken bytes) s = .next t ∧
        flag t fSEC_STATUS_DEBUG_UNLOCKED = (tokenOk s bytes || flag s fSEC_STATUS_DEBUG_UNLOCKED) ∧
        (if tokenOk s bytes then 611 else 610) ∈ t.flt.pulse) ∧
  (∀ (e : Nat) (s : State), s.sec.debugUntil = some e → 1000000000 * e ≤ s.ringNs →
      exec .debugExpiry s =
        .next (closeSession 6 (setF fSEC_STATUS_DEBUG_UNLOCKED 0 (setSec { s.sec with debugUntil := none } s)))) ∧
  (∀ (v : Nat) (auto : Bool) (at0 : Nat) (s : State), v < 2 → s.sec.volArmed = some (v, auto, at0) → stwRuns s = true → at0 ≤ s.ringNs → s.ringNs ≤ at0 + 1000000 → s.sec.trial = none →
      ∃ t, exec .volumeSwitch s = .next t ∧
        t.sec.volArmed = none ∧
        getF t fSEC_VOL_RUNNING = v ∧
        getF t fSEC_VOL_PHASE = 1 ∧
        flag t fSEC_VOL_ARMED = false ∧
        t.stw.booted = false ∧
        t.sec.trial.map (fun x => (x.t, x.auto)) = some (at0, auto)) ∧
  (∀ (r : Trial) (s : State), s.sec.trial = some r → healthOk s r = true →
      exec .volumeHealthy s = .next (setF fSEC_VOL_PHASE 2 s)) ∧
  (∀ (r : Trial) (s : State), s.sec.trial = some r → r.t + 30000000000 ≤ s.ringNs → getF s fSEC_VOL_PHASE ≠ 2 →
      exec .trialDeadline s = .next (restartSteward (fallBack 2 s))) ∧
  (∀ (r : Trial) (s : State), s.sec.trial = some r → r.t + 30000000000 ≤ s.ringNs → getF s fSEC_VOL_PHASE = 2 → r.auto = true → flag s fSEC_STATUS_SETTINGS_DEFAULTED = false → stwRuns s = true →
      exec .trialDeadline s = .next (commitVolume s))

/-- LOCKSTEP_MISMATCH halts the pair, counts a takeover (log 99) and raises 512; CORE_SELFTEST_END restarts the pair
with 513, joins the spare, or stops it with 514. RESTART_POINT records a restart point. AON_WATCHDOG_EXPIRY after 1
s restarts the steward with 530 or ends a trial. AON_RESET and CORE_RESET hold the core in reset with their cause;
CORE_RESET_RELEASE, 100 microseconds after the causes ended, samples the straps and runs the boot ROM;
ARCHIVIST_START boots the steward; FIELD_START_TIMER after 10 s starts the field. Rests on
11_steward_desk_and_editions, 16_start_up_and_boot. -/
def Obligations.ResetsBoot : Prop :=
  (∀ (s : State), domOn s 4 = true → s.boot.coreReset = false → flag s fDSK_CORE_STOPPED = false → s.stw.haltedAt = none →
      exec .lockstepMismatch s =
        .next (raise 512 (incF fDSK_CORE_TAKEOVERS (setF fDSK_CORE_TAKEOVER 1 (setStw { s.stw with haltedAt := some s.clk } s))))) ∧
  (∀ (s : State), s.stw.haltedAt ≠ none →
      exec (.coreSelftestEnd false false) s =
        .next (restartPair 3 1 (raise 513 (incF fDSK_CORE_TRANSIENTS s)))) ∧
  (∀ (s : State), s.stw.haltedAt ≠ none →
      exec (.coreSelftestEnd true true) s =
        .next (raise 514 (setF fDSK_CORE_STOPPED 1 (setStw { s.stw with haltedAt := none } s)))) ∧
  (∀ (s : State), s.stw.haltedAt ≠ none → flag s fDSK_CORE_DEGRADED = false →
      exec (.coreSelftestEnd false true) s =
        .next (restartPair (getF s fDSK_CORE_PAIR_B) 0 (joinSpare true s))) ∧
  (∀ (s : State), stwRuns s = true →
      exec .restartPoint s = .next (Machine.restartPoint s)) ∧
  (∀ (s : State), s.stw.kickAt + 1000000000 ≤ s.clk → domOn s 4 = true → s.boot.coreReset = false → flag s fDSK_CORE_STOPPED = false → getF s fGLB_BOOT_STAGE < 14 → s.stw.booted = true → s.sec.trial = none →
      exec .aonWatchdogExpiry s = .next (watchdogRestart (raise 530 s))) ∧
  (∀ (s : State), s.stw.kickAt + 1000000000 ≤ s.clk → domOn s 4 = true → s.boot.coreReset = false → flag s fDSK_CORE_STOPPED = false → getF s fGLB_BOOT_STAGE < 14 → s.sec.trial ≠ none →
      exec .aonWatchdogExpiry s = .next (restartSteward (fallBack 3 s))) ∧
  (∀ (s : State), 
      exec (.aonReset true) s =
        .next ({ s with boot := { s.boot with causes := delSet 0 s.boot.causes, quietFrom := s.clk + 1000000 } })) ∧
  (∀ (s : State), exec (.aonReset false) s = .next (coreResetBy .aonReset s)) ∧
  (∀ (c : ResetCause) (s : State), 
      ∃ t, exec (.coreReset c) s = .next t ∧
        t = coreResetBy c s ∧
        t.boot.coreReset = true ∧
        resetCode c ∈ t.boot.causes ∧
        getF t fGLB_RST_CAUSE = resetCode c ∧
        t.stw.booted = false ∧
        t.ring.rx = []) ∧
  (∀ (straps : BitVec 9) (cores : List Nat) (ok : Bool) (u : State) (s : State), s.boot.coreReset = true → s.boot.quietFrom + 100000 ≤ s.clk → s.boot.causes.contains 0 = false → s.boot.causes.contains 4 = false → u = setReg oGLB_STRAP (wd straps.toNat) (setBoot { s.boot with coreReset := false, causes := [], bootFailN := true } s) →
      exec (.coreResetRelease straps cores ok) s =
        .next (bootRom cores ok (trainPcie (releaseDomains (setF fUSB_CTL_LEGACY (bitsOf straps.toNat 8 1) u))))) ∧
  (∀ (s : State), getF s fGLB_BOOT_STAGE = 4 → s.stw.booted = false → domOn s 4 = true → s.boot.coreReset = false → flag s fDSK_CORE_STOPPED = false → s.stw.haltedAt = none →
      ∃ t, exec .archivistStart s = .next t ∧
        t.stw.booted = true ∧
        t.boot.startedAt = some s.clk) ∧
  (∀ (d : Nat) (s : State), s.boot.startedAt = some d → d + 10000000000 ≤ s.clk → stwRuns s = true →
      exec .fieldStartTimer s = .next (startField s))

/-- VBUS_DETECTED sets VBUS and turns the pull-up on where it may. READ_REISSUE sends a read again at its time.
PCIE_LINK_UP shows speed and width. CONFIG_REQUEST is answered with a retry status until the bridge is ready and
then served. AUDIO_PLL_LOCK and REFERENCE_RESTORED set their bits and turn 508 and 507 off. ISO_IN_PACKET sends up
to seven frames and, every fourth microframe, the feedback value. Rests on 09_pcie_bridge, 10_usb_hub_and_streaming,
05_analog_channels, 07_yomel_ring_protocol. -/
def Obligations.HostRemainder : Prop :=
  (∀ (s : State), usbOn s = true →
      exec .vbusDetected s = .next (pullUpOn (setF fUSB_STATUS_VBUS 1 s))) ∧
  (∀ (tag : Nat) (r : ReadOut) (a : Unacked) (d : Nat) (s : State), tget (fun _ => none) s.ring.readTags tag = some r → r.retryDue = some d → readUnacked s tag = some a → d ≤ s.clk →
      exec (.readReissue tag) s =
        .next (resend a false { s with ring := { s.ring with
          readTags := tset (fun _ => none) tag (some { r with retryDue := none }) s.ring.readTags } })) ∧
  (∀ (speed : Nat) (width : Nat) (s : State), 1 ≤ speed → speed ≤ 4 → width = 1 ∨ width = 2 ∨ width = 4 → hifOn s = true → s.hif.perst = true → flag s fGLB_STRAP_PCIE = true → s.boot.coreReset = false →
      exec (.pcieLinkUp speed width) s =
        .next (setF fHIF_STATUS_LINK_UP 1 (setF fHIF_STATUS_SPEED speed (setF fHIF_STATUS_WIDTH width s)))) ∧
  (∀ (c : CfgRequest) (s : State), hifOn s = true → s.boot.coreReset = false → s.hif.ready = false →
      exec (.configRequest c) s = .next (emit .retryStatus s)) ∧
  (∀ (c : CfgRequest) (s : State), hifOn s = true → s.boot.coreReset = false → s.hif.ready = true →
      exec (.configRequest c) s = .next (cfgRequest c s)) ∧
  (∀ (s : State), anaOn s = true →
      exec .audioPllLock s = .next (causeOff 508 (setF fANA_STATUS_PLL_LOCK 1 s))) ∧
  (∀ (s : State), anaOn s = true →
      exec .referenceRestored s = .next (causeOff 507 (setF fANA_STATUS_REF_OK 1 s))) ∧
  (∀ (e : Ecc) (u : State) (s : State), deviceLive s = true → flag s fUSB_STATUS_STREAMING = true → u = emit (.usb 4 0 (((s.usb.frames.take 7).flatMap id).flatMap (fun w => bytesLE w.toNat 3))) (microframeEnds s) → u.usb.microframe % 4 ≠ 0 →
      exec (.isoInPacket .ok e) s = .next (u)) ∧
  (∀ (u : State) (v : Nat) (s : State), deviceLive s = true → flag s fUSB_STATUS_STREAMING = true → u = emit (.usb 4 0 (((s.usb.frames.take 7).flatMap id).flatMap (fun w => bytesLE w.toNat 3))) (microframeEnds s) → u.usb.microframe % 4 = 0 → v = feedback u.usb.perFrame →
      exec (.isoInPacket .ok .ok) s = .next (emit (.usb 5 0 (bytesLE v 4)) u))

/-- The first write of one member of a Paired pair (FED_FSC LIM and TMR) is held and changes no register. The write of
the other member applies both. A pair half-written for more than 10 ms is given up by PAIR_EXPIRY: the held value
goes, every register but DSK_PAIR_LOG keeps its value, DSK_PAIR_LOG holds the held member's word offset with VALID,
and source 515 is raised. States R379. -/
def Obligations.PairedRegisters : Prop :=
  (∀ (w : Writer) (n : Nat) (v : Word) (s : State), n < 16 → mayWrite w (oFED_FSC_LIM n) s = true → 10 ≤ bitsOf v.toNat 0 9 → bitsOf v.toNat 0 9 ≤ 400 → bitsOf v.toNat 0 9 ≠ bitsOf (reg s (oFED_FSC_LIM n)).toNat 0 9 → s.pairs.find? (fun h => h.offA == oFED_FSC_LIM n) = none →
      ∃ t, exec (.pairedWrite w (oFED_FSC_LIM n) v) s = .next t ∧
        t = { s with pairs := s.pairs ++ [⟨oFED_FSC_LIM n, oFED_FSC_TMR n, 0x1FF, bitsOf v.toNat 0 9, 0, 0, s.clk⟩] }) ∧
  (∀ (w : Writer) (n : Nat) (v : Word) (h : PairHold) (s : State), n < 16 → mayWrite w (oFED_FSC_LIM n) s = true → 10 ≤ bitsOf v.toNat 0 9 → bitsOf v.toNat 0 9 ≤ 400 → s.pairs.find? (fun h => h.offA == oFED_FSC_LIM n) = some h → h.maskA = 0 → h.maskB ≠ 0 →
      ∃ t, exec (.pairedWrite w (oFED_FSC_LIM n) v) s = .next t ∧
        t.pairs = s.pairs.filter (fun x => x.offA != oFED_FSC_LIM n) ∧
        bitsOf (reg t (oFED_FSC_LIM n)).toNat 0 9 = bitsOf v.toNat 0 9 ∧
        bitsOf (reg t (oFED_FSC_TMR n)).toNat 0 10 = bitsOf h.valB 0 10) ∧
  (∀ (off : Nat) (h : PairHold) (s : State), s.pairs.find? (fun h => heldMember h == off && h.since + 10000000 < s.clk) = some h →
      ∃ t, exec (.pairExpiry off) s = .next t ∧
        reg t oDSK_PAIR_LOG = wd (off + 2 ^ 23) ∧
        515 ∈ t.flt.pulse ∧
        (∀ o, o ≠ oDSK_PAIR_LOG → reg t o = reg s o) ∧
        t.pairs = s.pairs.filter (fun x => x.offA != h.offA))

/-- When completion ring c has held no free entry for 100 ms, source 581 is raised, and no waiting entry, no register
and nothing sent changes. States R321. -/
def Obligations.CompletionRingFull : Prop :=
  (∀ (c : Nat) (d : Nat) (s : State), c < 12 → (getCq s c).fullSince = some d → d + 100000000 ≤ s.clk → (getCq s c).fullRaised = false → cqFree s c = 0 →
      ∃ t, exec (.cqFullTimeout c) s = .next t ∧
        581 ∈ t.flt.pulse ∧
        t.hif.cqWait = s.hif.cqWait ∧
        t.regs = s.regs ∧
        t.out = s.out)

/-- EDITION_DISARM by a desk that may succeeds before T - 10 ms and answers ARM_LOCKED from then on. From T - 10 ms
DSK_ED_ARMED.STATE reads LOCKED (2) after ARM_LOCK. States R401. -/
def Obligations.DisarmWindow : Prop :=
  (∀ (d : Nat) (u : State) (a : Armed) (s : State), deskServes d 0x21 0 4 true s = true → u = takeDoorbell d s → u.stw.armed = some a → u.ringNs < a.t - 10000000 →
      exec (.editionDisarm d) s = .next (answer d 0 0 [] (setArmed none 0 u))) ∧
  (∀ (d : Nat) (u : State) (a : Armed) (s : State), deskServes d 0x21 0 4 true s = true → u = takeDoorbell d s → u.stw.armed = some a → a.t - 10000000 ≤ u.ringNs →
      exec (.editionDisarm d) s = .next (answer d 0x12 0 [] u)) ∧
  (∀ (a : Armed) (s : State), s.stw.armed = some a → stwRuns s = true → a.t - 10000000 ≤ s.ringNs →
      ∃ t, exec .armLock s = .next t ∧
        getF t fDSK_ED_ARMED_STATE = 2 ∧
        t.stw = s.stw)

/-- When a session closes, its desk keeps a command in progress with the mark that its response is to be discarded, its
staging transfer and window are gone, its lock is free, and an armed edition or volume stays armed. A response
marked so is discarded when it is published: the desk becomes IDLE (a reading, log 100). CONTROL CLOSE by the holder
closes the session. States R389. -/
def Obligations.SessionEnds : Prop :=
  (∀ (d : Nat) (s : State) (t : State), d < 8 → flag s (fDSK_DESK_SESSION d) = true → t = closeSession d s →
      flag t (fDSK_DESK_SESSION d) = false ∧ getF t (fDSK_DESK_STATE d) = getF s (fDSK_DESK_STATE d) ∧
        (getDesk t d).prepared = (getDesk s d).prepared ∧ (getDesk t d).cmd = (getDesk s d).cmd ∧
        (getDesk t d).discard = (getF s (fDSK_DESK_STATE d) == 1) ∧ (getDesk t d).window = [] ∧
        (∀ g, t.stw.staging = some g → g.desk ≠ d) ∧ t.stw.lock ≠ some d ∧
        t.stw.armed = s.stw.armed ∧ t.sec.volArmed = s.sec.volArmed) ∧
  (∀ (d : Nat) (ws : List Word) (s : State), d < 8 → (getDesk s d).discard = true →
      publish d ws s = setF (fDSK_DESK_STATE d) 0 (setDesk d { getDesk s d with prepared := none, discard := false } s)) ∧
  (∀ (f : Frame) (u : State) (s : State), stwRuns s = true → takeQ 34 (isControl 3) s = some (f, u) → holdsSession u f = true →
      exec .controlClose s = .next (closeSession (bitsOf (pw f 0) 2 3) u))

/-- A result below RGx_IR_ALARM sets ALARM and stands as the port's insulation source; a result at or above it clears
ALARM and the source. States R205. -/
def Obligations.InsulationAlarm : Prop :=
  (∀ (p : Nat) (kohm : Nat) (r : Nat) (s : State), p < 4 → flag s (fRGx_IR_STAT_RUNNING p) = true → irAllowed s p = true → (getPort s p).irRetry = none → (getPort s p).irSince + 360000000 ≤ s.clk → r = (if kohm < 100 then 0 else min kohm 1000000) →
      ∃ t, exec (.irComplete p kohm) s = .next t ∧
        flag t (fRGx_IR_STAT_ALARM p) = decide (r < getF s (fRGx_IR_ALARM_ALARM p)) ∧
        (64 + 8 * p + 5 ∈ t.flt.level ↔ r < getF s (fRGx_IR_ALARM_ALARM p)) ∧
        bitsOf (reg t (oRGx_IR_RES p)).toNat 0 20 = r)

/-- With AUTO_DROP = 1, a pair in line whose ports have been down for longer than DROP_TIME is released and self-trains
again (step 1). At the third such drop within 10 min it stays in the bypass position with LOCKED_OUT and the pair's
bypass source on. States R215. -/
def Obligations.AutomaticDrops : Prop :=
  (∀ (x : Nat) (d : Nat) (s : State), x < 2 → (getByp s x).downSince = some d → pairInLine s x = true → flag s (fRGx_BYP_CTL_AUTO_DROP x) = true → d + 250000000 * getF s (fRGx_BYP_CTL_DROP_TIME x) < s.clk → ((getByp s x).drops.filter (fun d => s.clk ≤ d + 600000000000)).length < 2 →
      ∃ t, exec (.autoDrop x) s = .next t ∧
        flag t (fRGx_BYP_STAT_HOLD x) = false ∧
        getF t (fRGx_BYP_STAT_STATE x) = 1 ∧
        flag t (fRGx_BYP_STAT_LOCKED_OUT x) = flag s (fRGx_BYP_STAT_LOCKED_OUT x)) ∧
  (∀ (x : Nat) (d : Nat) (s : State), x < 2 → (getByp s x).downSince = some d → pairInLine s x = true → flag s (fRGx_BYP_CTL_AUTO_DROP x) = true → d + 250000000 * getF s (fRGx_BYP_CTL_DROP_TIME x) < s.clk → 2 ≤ ((getByp s x).drops.filter (fun d => s.clk ≤ d + 600000000000)).length →
      ∃ t, exec (.autoDrop x) s = .next t ∧
        flag t (fRGx_BYP_STAT_HOLD x) = false ∧
        getF t (fRGx_BYP_STAT_STATE x) = 0 ∧
        flag t (fRGx_BYP_STAT_LOCKED_OUT x) = true ∧
        71 + 16 * x ∈ t.flt.level)

/-- A fabric write to space 0 that is not one word at W0 of a slot fails whole with READ_ONLY; one word at W0 is the
write of that record. A host write to space 0 that is not one word at W0 fails whole with READ_ONLY. States R69. -/
def Obligations.WritesOfRecords : Prop :=
  (∀ (ecc : Ecc) (f : Frame) (u : State) (s : State), takeQ 38 (fun f => f.typ == 17) s = some (f, u) → addrNode (reqAddr f) = nodeId u → addrSpace (reqAddr f) = 0 → 1 ≤ reqCount f → reqCount f ≤ 679 → reqCount f = (f.payload.drop 3).length → spanInExtent 0 (addrOff (reqAddr f)) (reqCount f) = true → reqCount f ≠ 1 ∨ addrOff (reqAddr f) % 4 ≠ 0 →
      exec (.write ecc) s = .next (writeError f.src f.aux (reqAddr f) cREAD_ONLY u)) ∧
  (∀ (ecc : Ecc) (f : Frame) (u : State) (v : Word) (s : State), takeQ 38 (fun f => f.typ == 17) s = some (f, u) → addrNode (reqAddr f) = nodeId u → addrSpace (reqAddr f) = 0 → reqCount f = 1 → f.payload.drop 3 = [v] → spanInExtent 0 (addrOff (reqAddr f)) 1 = true → addrOff (reqAddr f) % 4 = 0 →
      exec (.write ecc) s =
        .next (writeW0 (addrOff (reqAddr f) / 4) f.src f.aux (bitsOf (pw f 2) 10 1 == 1) v ecc u)) ∧
  (∀ (addr : Nat) (tag : Nat) (ws : List Word) (e : Ecc) (s : State), noSuchNode s (addrNode addr) = false → addrNode addr = nodeId s → addrSpace addr = 0 → ws ≠ [] → spanInExtent 0 (addrOff addr) ws.length = true → ws.length ≠ 1 ∨ addrOff addr % 4 ≠ 0 →
      hostWriteWords addr tag ws e s = writeError (nodeId s) tag addr cREAD_ONLY s)

/-- A trip whose condition holds adds 1 to TRIPS and raises source 16 + n; the channel goes to RETRY with its timer. The
trip that brings TRIPS to a nonzero LATCH_N goes to LATCHED and raises 32 + n. When the retry timer expires the
channel, if it may be on, goes to CHECK. TRIPS below 15 is assumed (log 109). States R426. -/
def Obligations.ChannelTrips : Prop :=
  (∀ (n : Nat) (cause : FscTrip) (m : Sensed) (held : Nat) (s : State), n < 16 → tripHolds s n cause m held = true → getF s (fFED_FSC_STAT_TRIPS n) < 15 → getF s (fFED_FSC_RETRY_LATCH_N n) = 0 ∨ getF s (fFED_FSC_RETRY_LATCH_N n) ≠ getF s (fFED_FSC_STAT_TRIPS n) + 1 →
      ∃ t, exec (.fscTrip n cause m held) s = .next t ∧
        fscState t n = 5 ∧
        getF t (fFED_FSC_STAT_TRIPS n) = getF s (fFED_FSC_STAT_TRIPS n) + 1 ∧
        getF t (fFED_FSC_STAT_LAST n) = tripCode cause ∧
        16 + n ∈ t.flt.pulse ∧
        (getFsc t n).retryAt = s.clk + 100000000 * max 1 (getF s (fFED_FSC_RETRY_RETRY_T n))) ∧
  (∀ (n : Nat) (cause : FscTrip) (m : Sensed) (held : Nat) (s : State), n < 16 → tripHolds s n cause m held = true → getF s (fFED_FSC_STAT_TRIPS n) < 15 → getF s (fFED_FSC_RETRY_LATCH_N n) = getF s (fFED_FSC_STAT_TRIPS n) + 1 →
      ∃ t, exec (.fscTrip n cause m held) s = .next t ∧
        fscState t n = 6 ∧
        getF t (fFED_FSC_STAT_TRIPS n) = getF s (fFED_FSC_STAT_TRIPS n) + 1 ∧
        getF t (fFED_FSC_STAT_LAST n) = tripCode cause ∧
        16 + n ∈ t.flt.pulse ∧
        32 + n ∈ t.flt.pulse) ∧
  (∀ (n : Nat) (s : State), n < 16 → fscState s n = 5 → (getFsc s n).retryAt ≤ s.clk → fscMayOn s n = true →
      ∃ t, exec (.fscRetryExpiry n) s = .next t ∧
        fscState t n = 1)

/-- A port that receives QUIET stops sending for 100 ms at most: a link that was up goes down with DOWN_CAUSE TDR and no
fault source; a port whose link is down waits too. At the time-out, or at an information field with QUIET = 0, it
starts detection. States R208. -/
def Obligations.QuietRequest : Prop :=
  (∀ (p : Nat) (s : State), p < 4 → portAlive s p = true → silent s p = false → linkUp s p = true →
      ∃ t, exec (.quietReceived p) s = .next t ∧
        linkUp t p = false ∧
        getF t (fRGx_PHY_STAT_DOWN_CAUSE p) = 7 ∧
        t.flt = s.flt ∧
        (getPort t p).quietUntil = some (s.clk + 100000000)) ∧
  (∀ (p : Nat) (s : State), p < 4 → portAlive s p = true → silent s p = false → linkUp s p = false → (getPort s p).tdrPhase = 0 →
      exec (.quietReceived p) s =
        .next (setPortState p 1 (setPort p { getPort s p with quietUntil := some (s.clk + 100000000), retryAt := none } s))) ∧
  (∀ (p : Nat) (d : Nat) (s : State), p < 4 → (getPort s p).quietUntil = some d → d ≤ s.clk →
      exec (.quietTimeout p) s =
        .next (startDetect p (setPort p { getPort s p with quietUntil := none } s))) ∧
  (∀ (p : Nat) (info : BitVec 48) (u : State) (v : State) (s : State), p < 4 → portAlive s p = true → (getPort s p).infoCand = some info.toNat → u = setReg (oRGx_PHY_INFO_HI p) (wd (info.toNat / 2 ^ 24)) (setReg (oRGx_PHY_INFO_LO p) (wd info.toNat) s) → v = setPort p { getPort u p with infoOk := true } u → farInfo v p 10 1 = 0 → silent v p = true →
      exec (.infoFieldRx p info) s =
        .next (startDetect p (setPort p { getPort v p with quietUntil := none } v)))

/-- What each event leaves in a point record, over the record as the event reads it (with no wrong bit held, the record
itself): a force, a release, a direct write, a failed write, a communication failure of the owning source, a source
write to a forced point (nothing), and CHANGED, which is set exactly where it was set or the value, the state, the
reason, STALE or FORCED differs. A write of one record leaves every other point's record. Rests on
02_stacks_and_catalogue. -/
def Obligations.RecordEvents : Prop :=
  (∀ (p : Nat) (v : Word) (st : PSt) (u : State) (s : State), u = preRead p .ok s →
      getPt (forceRec p v st s) p = { getPt u p with
          w0 := v, st := st, reason := .none, time := usNow u, stale := false, forced := true, changed := (getPt (forceRec p v st s) p).changed }) ∧
  (∀ (p : Nat) (u : State) (s : State), u = preRead p .ok s → (getPt u p).forced = true →
      getPt (releaseRec p s) p = { getPt u p with st := .uncertain, reason := .none, time := usNow u, stale := false, forced := false, changed := true }) ∧
  (∀ (p : Nat) (v : Word) (s : State), 
      getPt (directWrite p v s) p = { getPt s p with
          w0 := v, st := .good, reason := .none, time := usNow s, stale := false, changed := (getPt (directWrite p v s) p).changed }) ∧
  (∀ (p : Nat) (u : State) (s : State) (t : State), u = preRead p .ok s → t = writeFailed p s →
      getPt t p = { getPt u p with st := (getPt t p).st, reason := .writeFailed, changed := (getPt t p).changed } ∧
        ((getPt u p).st = .good → (getPt t p).st = .uncertain) ∧ ((getPt u p).st ≠ .good → (getPt t p).st = (getPt u p).st)) ∧
  (∀ (p : Nat) (src : Nat) (now : Nat) (u : State) (s : State) (t : State), u = preRead p .ok s → catSource (getCatK u (ptKey u p)) = src → (getCatK u (ptKey u p)).mark = .loaded → (getPt u p).forced = false → t = srcWrite src p .comms now s →
      getPt t p = { getPt u p with st := .bad, reason := .commsFail, time := now, stale := false, changed := (getPt t p).changed }) ∧
  (∀ (p : Nat) (src : Nat) (ev : SrcEv) (now : Nat) (u : State) (s : State), u = preRead p .ok s → (getPt u p).forced = true →
      getPt (srcWrite src p ev now s) p = getPt u p) ∧
  (∀ (p : Nat) (s : State), flipsAt s 0 (ptKey s p) = 0 → flipsAt s 1 (ptKey s p) = 0 →
      getPt (preRead p .ok s) p = getPt s p) ∧
  (∀ (p : Nat) (r : Rec) (s : State), 
      (getPt (writeRec p r s) p).changed = true ↔
        ((getPt s p).changed = true ∨ (getPt s p).w0 ≠ r.w0 ∨ (getPt s p).st ≠ r.st ∨ (getPt s p).reason ≠ r.reason ∨
          (getPt s p).stale ≠ r.stale ∨ (getPt s p).forced ≠ r.forced)) ∧
  (∀ (p : Nat) (r : Rec) (q : Nat) (s : State), s.stk.copy = none → ptKey s q ≠ ptKey s p →
      getPt (writeRec p r s) q = getPt s q)

/-- Every command of the feeds and the supply channels leaves the whole state unchanged but for registers, fault sources
and the feeds' own state. Rests on 12_feeds_and_field_supplies. -/
def Obligations.FeedsFrame : Prop :=
  (∀ (x : Nat) (v : Nat) (held : Nat) (s : State) (t : State), exec (.feedStateChange x v held) s = .next t →
      t = { s with regs := t.regs, flt := t.flt, fed := t.fed }) ∧
  (∀ (x : Nat) (v : Nat) (w : Nat) (s : State) (t : State), exec (.feedQualified x v w) s = .next t →
      t = { s with regs := t.regs, flt := t.flt, fed := t.fed }) ∧
  (∀ (x : Nat) (v : Nat) (w : Nat) (s : State) (t : State), exec (.oringReverse x v w) s = .next t →
      t = { s with regs := t.regs, flt := t.flt, fed := t.fed }) ∧
  (∀ (x : Nat) (a : Nat) (b : Nat) (c : Nat) (held : Nat) (s : State) (t : State), exec (.oringFetFault x a b c held) s = .next t →
      t = { s with regs := t.regs, flt := t.flt, fed := t.fed }) ∧
  (∀ (v : Nat) (w : Nat) (b : Bool) (s : State) (t : State), exec (.nodePhaseChange v w b) s = .next t →
      t = { s with regs := t.regs, flt := t.flt, fed := t.fed }) ∧
  (∀ (v : Nat) (w : Nat) (i : Nat) (held : Nat) (s : State) (t : State), exec (.nodeTrip v w i held) s = .next t →
      t = { s with regs := t.regs, flt := t.flt, fed := t.fed }) ∧
  (∀ (s : State) (t : State), exec .nodeRetry s = .next t →
      t = { s with regs := t.regs, flt := t.flt, fed := t.fed }) ∧
  (∀ (v : Nat) (held : Nat) (s : State) (t : State), exec (.feedWarnAssert v held) s = .next t →
      t = { s with regs := t.regs, flt := t.flt, fed := t.fed }) ∧
  (∀ (v : Nat) (held : Nat) (s : State) (t : State), exec (.feedWarnRelease v held) s = .next t →
      t = { s with regs := t.regs, flt := t.flt, fed := t.fed }) ∧
  (∀ (n : Nat) (m : Sensed) (s : State) (t : State), exec (.fscCheckEnd n m) s = .next t →
      t = { s with regs := t.regs, flt := t.flt, fed := t.fed }) ∧
  (∀ (n : Nat) (m : Sensed) (s : State) (t : State), exec (.fscRampStart n m) s = .next t →
      t = { s with regs := t.regs, flt := t.flt, fed := t.fed }) ∧
  (∀ (n : Nat) (m : Sensed) (b : Bool) (s : State) (t : State), exec (.fscOn n m b) s = .next t →
      t = { s with regs := t.regs, flt := t.flt, fed := t.fed }) ∧
  (∀ (n : Nat) (c : FscTrip) (m : Sensed) (held : Nat) (s : State) (t : State), exec (.fscTrip n c m held) s = .next t →
      t = { s with regs := t.regs, flt := t.flt, fed := t.fed }) ∧
  (∀ (n : Nat) (s : State) (t : State), exec (.fscRetryExpiry n) s = .next t →
      t = { s with regs := t.regs, flt := t.flt, fed := t.fed }) ∧
  (∀ (n : Nat) (s : State) (t : State), exec (.fscClearTimer n) s = .next t →
      t = { s with regs := t.regs, flt := t.flt, fed := t.fed }) ∧
  (∀ (n : Nat) (m : Sensed) (s : State) (t : State), exec (.fscProbe n m) s = .next t →
      t = { s with regs := t.regs, flt := t.flt, fed := t.fed }) ∧
  (∀ (n : Nat) (b : Bool) (m : Sensed) (held : Nat) (s : State) (t : State), exec (.fscRemoval n b m held) s = .next t →
      t = { s with regs := t.regs, flt := t.flt, fed := t.fed }) ∧
  (∀ (n : Nat) (s : State) (t : State), exec (.fscReinsertion n) s = .next t →
      t = { s with regs := t.regs, flt := t.flt, fed := t.fed }) ∧
  (∀ (n : Nat) (s : State) (t : State), exec (.fscDebounceEnd n) s = .next t →
      t = { s with regs := t.regs, flt := t.flt, fed := t.fed }) ∧
  (∀ (n : Nat) (m : Sensed) (held : Nat) (s : State) (t : State), exec (.fscFetShort n m held) s = .next t →
      t = { s with regs := t.regs, flt := t.flt, fed := t.fed }) ∧
  (∀ (w : Writer) (n : Nat) (b : Bool) (s : State) (t : State), exec (.fscEnWrite w n b) s = .next t →
      t = { s with regs := t.regs, flt := t.flt, fed := t.fed }) ∧
  (∀ (w : Writer) (n : Nat) (m : Sensed) (s : State) (t : State), exec (.fscUnlatch w n m) s = .next t →
      t = { s with regs := t.regs, flt := t.flt, fed := t.fed }) ∧
  (∀ (n : Nat) (c : FscHold) (v : Nat) (s : State) (t : State), exec (.fscHoldBegin n c v) s = .next t →
      t = { s with regs := t.regs, flt := t.flt, fed := t.fed }) ∧
  (∀ (n : Nat) (c : FscHold) (v : Nat) (s : State) (t : State), exec (.fscHoldEnd n c v) s = .next t →
      t = { s with regs := t.regs, flt := t.flt, fed := t.fed })

/-- The invariant holds at reset: the stores of registers, point records and Catalogue records keep their canonical
form, and every command that waits is well-formed. Rests on 02_stacks_and_catalogue, 17_register_space_index. -/
def Obligations.ResetInvariant : Prop :=
  (Inv State.reset)

/-- From every state that meets the invariant (stores in canonical form, well-formed commands waiting), a step that
answers a next state gives a state that meets it. Rests on 02_stacks_and_catalogue, 00_scope. -/
def Obligations.InvariantKept : Prop :=
  (∀ (s : State) (t : State), Inv s → step s = .next t →
      Inv t)

/-- A run from a state that meets the invariant, with well-formed commands waiting, never stops; and every well-formed
command answers a next state in every state. Rests on 00_scope. -/
def Obligations.RunsNeverStop : Prop :=
  (∀ (s : State), Inv s →
      SafeRun s) ∧
  (∀ (c : Instr) (s : State), c.wf = true →
      ∃ t, exec c s = .next t)

/-- No command is refused. The only fault is noSuchUnit, and only a command that is not well-formed answers it (a
command whose operand names no unit of the part; the model's own stop, log 190). Rests on 00_scope. -/
def Obligations.OnlyStopIsAnAbsentUnit : Prop :=
  (∀ (c : Instr) (s : State) (r : Refusal), exec c s ≠ .refused r) ∧
  (∀ (c : Instr) (s : State) (e : Fault), exec c s = .fault e →
      e = .noSuchUnit ∧ c.wf = false)

/-- A command that answers a next state leaves the clock and the queue (the model's choice, log 2). A tick advances the
clock by 1000 ns and leaves the queue. Rests on 00_scope. -/
def Obligations.CommandsTakeNoTime : Prop :=
  (∀ (c : Instr) (s : State) (t : State), exec c s = .next t →
      t.clk = s.clk ∧ t.pending = s.pending) ∧
  (∀ (s : State), (tick s).clk = s.clk + 1000 ∧ (tick s).pending = s.pending)

/-- What reset leaves: every point record zero, with state NO_VALUE, no reason, CHANGED set and not STALE or FORCED, the
four logical banks on the first four physical ones, bank 4 the spare, the hub unnumbered with node 0xFFF, no
session, every supply channel OFF, empty queues and no fault source. That STAGE reads 0 then is the model's choice
(log 1). Rests on 02_stacks_and_catalogue, 12_feeds_and_field_supplies, 16_start_up_and_boot,
17_register_space_index. -/
def Obligations.ResetState : Prop :=
  (∀ (p : Nat), getPt State.reset p = ⟨0, .noValue, false, false, true, .none, 0⟩) ∧
  (∀ (l : Nat), l < 4 →
      physBank State.reset l = l) ∧
  (
      spareBank State.reset = 4 ∧ getF State.reset fSWQ_CTL_MODE = 0 ∧ getF State.reset fGLB_BOOT_STAGE = 0 ∧
        flag State.reset fGLB_NODE2_NUMBERED = false ∧ getF State.reset fGLB_NODE_NODE = 0xFFF ∧ State.reset.pending = [] ∧
        (∀ d, d < 8 → flag State.reset (fDSK_DESK_SESSION d) = false) ∧ (∀ n, n < 16 → fscState State.reset n = 0) ∧
        State.reset.swq.queues = [] ∧ State.reset.flt.level = [] ∧ State.reset.flt.pulse = [])

/-- What commands of single units leave unchanged: each of the 45 commands named, where it answers a next state, leaves
the whole state but the parts named for it (its registers, its unit's state and, where it raises, the fault
sources). Rests on 00_scope. -/
def Obligations.UnitsFrame : Prop :=
  (∀ (w : Writer) (n : Nat) (v : Word) (s : State) (t : State), exec (.stkStaleLimWrite w n v) s = .next t →
      t = { s with regs := t.regs, staged := t.staged }) ∧
  (∀ (s : State) (t : State), exec .scrubPassEnd s = .next t →
      t = { s with regs := t.regs, flt := t.flt, stk := { s.stk with scrub := t.stk.scrub } }) ∧
  (∀ (e : Nat) (v : Word) (s : State) (t : State), exec (.clkEngBindWrite e v) s = .next t →
      t = { s with regs := t.regs }) ∧
  (∀ (w : Writer) (v : Word) (s : State) (t : State), exec (.dioWdogKick w v) s = .next t →
      t = { s with regs := t.regs, dio := t.dio, flt := t.flt }) ∧
  (∀ (w : Writer) (line : Nat) (cfg : Word) (par : Word) (s : State) (t : State), exec (.dioLineConfig w line cfg par) s = .next t →
      t = { s with regs := t.regs, dio := t.dio, ready := t.ready, cnts := t.cnts, flt := t.flt, stk := t.stk, stw := t.stw, swq := t.swq }) ∧
  (∀ (w : Writer) (k : Nat) (line : Nat) (s : State) (t : State), exec (.dioSpareStandin w k line) s = .next t →
      t = { s with regs := t.regs, dio := t.dio, ready := t.ready, cnts := t.cnts, flt := t.flt, stk := t.stk, stw := t.stw, swq := t.swq }) ∧
  (∀ (w : Writer) (k : Nat) (s : State) (t : State), exec (.dioSpareReturn w k) s = .next t →
      t = { s with regs := t.regs, dio := t.dio, ready := t.ready, cnts := t.cnts, flt := t.flt, stk := t.stk, stw := t.stw, swq := t.swq }) ∧
  (∀ (w : Writer) (ch : Nat) (v : Word) (s : State) (t : State), exec (.anaChcfgWrite w ch v) s = .next t →
      t = { s with regs := t.regs, ana := t.ana }) ∧
  (∀ (w : Writer) (ch : Nat) (cv : Nat) (s : State) (t : State), exec (.steerStart w ch cv) s = .next t →
      t = { s with regs := t.regs, ana := t.ana }) ∧
  (∀ (short : Int) (ref : Int) (offset : Word) (gain : Word) (s : State) (t : State), exec (.rotationCheckEnd short ref offset gain) s = .next t →
      t = { s with regs := t.regs, ana := t.ana, flt := t.flt }) ∧
  (∀ (s : State) (t : State), exec .audioPllLock s = .next t →
      t = { s with regs := t.regs, flt := t.flt }) ∧
  (∀ (s : State) (t : State), exec .referenceRestored s = .next t →
      t = { s with regs := t.regs, flt := t.flt }) ∧
  (∀ (p : Nat) (info : BitVec 48) (s : State) (t : State), exec (.infoFieldRx p info) s = .next t →
      t = { s with regs := t.regs, ports := t.ports, byps := t.byps, flt := t.flt, swq := t.swq }) ∧
  (∀ (p : Nat) (a : Nat) (b : Nat) (c : Nat) (s : State) (t : State), exec (.linkDegraded p a b c) s = .next t →
      t = { s with regs := t.regs, ports := t.ports, flt := t.flt }) ∧
  (∀ (p : Nat) (id : List Nat) (s : State) (t : State), exec (.moduleInserted p id) s = .next t →
      t = { s with regs := t.regs, ports := t.ports, flt := t.flt }) ∧
  (∀ (p : Nat) (s : State) (t : State), exec (.irGuardRetry p) s = .next t →
      t = { s with regs := t.regs, ports := t.ports, draw := t.draw }) ∧
  (∀ (p : Nat) (kohm : Nat) (s : State) (t : State), exec (.irComplete p kohm) s = .next t →
      t = { s with regs := t.regs, ports := t.ports, flt := t.flt }) ∧
  (∀ (s : State) (t : State), exec .irHourRollover s = .next t →
      t = { s with regs := t.regs, ports := t.ports }) ∧
  (∀ (p : Nat) (s : State) (t : State), exec (.quietTimeout p) s = .next t →
      t = { s with regs := t.regs, ports := t.ports }) ∧
  (∀ (x : Nat) (a : Nat) (b : Nat) (s : State) (t : State), exec (.selfTrainDone x a b) s = .next t →
      t = { s with regs := t.regs, flt := t.flt, byps := t.byps }) ∧
  (∀ (x : Nat) (s : State) (t : State), exec (.selfTrainFail x) s = .next t →
      t = { s with flt := t.flt, byps := t.byps }) ∧
  (∀ (p : Nat) (sq : Nat) (turn : Nat) (s : State) (t : State), exec (.dlyReq p sq turn) s = .next t →
      t = { s with out := t.out }) ∧
  (∀ (p : Nat) (sq : Nat) (turn : Nat) (el : Nat) (s : State) (t : State), exec (.dlyResp p sq turn el) s = .next t →
      t = { s with regs := t.regs, ports := t.ports }) ∧
  (∀ (p : Nat) (s : State) (t : State), exec (.delayMeasureTimer p) s = .next t →
      t = { s with ports := t.ports, out := t.out }) ∧
  (∀ (s : State) (t : State), exec .descriptorStarve s = .next t →
      t = { s with swq := t.swq, flt := t.flt }) ∧
  (∀ (cell : Nat) (bad : Bool) (link : Bool) (s : State) (t : State), exec (.cellPatrolVisit cell bad link) s = .next t →
      t = { s with regs := t.regs, swq := t.swq, flt := t.flt }) ∧
  (∀ (w : Writer) (off : Nat) (v : Word) (s : State) (t : State), exec (.swqLimitWrite w off v) s = .next t →
      t = { s with regs := t.regs, staged := t.staged }) ∧
  (∀ (k : PcieError) (s : State) (t : State), exec (.pcieError k) s = .next t →
      t = { s with regs := t.regs, hif := t.hif, flt := t.flt, out := t.out }) ∧
  (∀ (s : State) (t : State), exec .usbSuspend s = .next t →
      t = { s with regs := t.regs, usb := t.usb }) ∧
  (∀ (k : Nat) (s : State) (t : State), exec (.usbResume k) s = .next t →
      t = { s with regs := t.regs, usb := t.usb, pwr := t.pwr }) ∧
  (∀ (n : Nat) (a : Nat) (s : State) (t : State), exec (.usbOverCurrent n a) s = .next t →
      t = { s with regs := t.regs, usb := t.usb, flt := t.flt }) ∧
  (∀ (n : Nat) (b : Bool) (s : State) (t : State), exec (.setPortPower n b) s = .next t →
      t = { s with regs := t.regs, usb := t.usb }) ∧
  (∀ (e : Nat) (s : State) (t : State), exec (.clearEndpointHalt e) s = .next t →
      t = { s with usb := t.usb }) ∧
  (∀ (d : Nat) (o : Nat) (v : Word) (s : State) (t : State), exec (.deskAreaWrite d o v) s = .next t →
      t = { s with desks := t.desks, flt := t.flt }) ∧
  (∀ (s : State) (t : State), exec .armLock s = .next t →
      t = { s with regs := t.regs }) ∧
  (∀ (s : State) (t : State), exec .xtalStop s = .next t →
      t = { s with regs := t.regs, flt := t.flt }) ∧
  (∀ (b : Bool) (s : State) (t : State), exec (.pllLockTimeout b) s = .next t →
      t = { s with regs := t.regs, flt := t.flt, pwr := t.pwr, boot := t.boot }) ∧
  (∀ (s : State) (t : State), exec .fltFirstClear s = .next t →
      t = { s with regs := t.regs }) ∧
  (∀ (w : Writer) (i : Nat) (v : Word) (s : State) (t : State), exec (.fltForceWrite w i v) s = .next t →
      t = { s with regs := t.regs, flt := t.flt }) ∧
  (∀ (s : State) (t : State), exec .cntClearAll s = .next t →
      t = { s with cnts := t.cnts }) ∧
  (∀ (k : Nat) (v : Word) (s : State) (t : State), exec (.cntClr k v) s = .next t →
      t = { s with regs := t.regs, cnts := t.cnts }) ∧
  (∀ (s : State) (t : State), exec .wearHourCheck s = .next t →
      t = { s with engines := t.engines, flt := t.flt, ana := { s.ana with drift := t.ana.drift }, stk := { s.stk with ceHour := t.stk.ceHour } }) ∧
  (∀ (a : Nat) (w : Nat) (s : State) (t : State), exec (.rowReplace a w) s = .next t →
      t = { s with regs := t.regs, flt := t.flt, stk := { s.stk with ceRows := t.stk.ceRows } }) ∧
  (∀ (s : State) (t : State), exec .trngFail s = .next t →
      t = { s with regs := t.regs, flt := t.flt }) ∧
  (∀ (bytes : List Nat) (s : State) (t : State), exec (.unlockToken bytes) s = .next t →
      t = { s with regs := t.regs, flt := t.flt, sec := t.sec, out := t.out })
end

