-- ==== Sys2Proof/Decode.lean ====
section
/-! DEFINITION. The command a word spells. The rows of spec/opcode_table.json give no bits, so no word spells one. -/

namespace Sys2Proof

/-- The command that a word spells by the table's bits: none, for no row of the table gives bits. -/
def decodeTableWord (_nbits _w : Nat) : Option Instr := none

end Sys2Proof
end

