-- ==== Sys2Proof/Laws/Desk.lean ====
section
/-! SUPPORT. What the shared frame of a desk command can do (R389 to R391): where its command passes the checks it runs its
body, and where it does not it answers the check that fails. -/

open Sys2Proof Sys2Proof.Machine

namespace Sys2Proof.Laws

/-- A served command runs its body on the state that has left the queue. -/
theorem deskCmd_serves {d op n right : Nat} {lock : Bool} {ok : Nat → Bool} {run : List Nat → State → State} {s : State}
    (h : deskServes d op n right lock s = true) (hn : ok n = true) :
    deskCmd d op ok right lock run s = .next (run (cmdArgs (takeDoorbell d s) d) (takeDoorbell d s)) := by
  simp only [deskServes, Bool.and_eq_true, decide_eq_true_eq, beq_iff_eq, Bool.or_eq_true, bne_iff_ne] at h
  obtain ⟨⟨⟨⟨⟨⟨hd, hw⟩, ho⟩, hr⟩, hl⟩, hri⟩, hlo⟩ := h
  have e1 : (right != 0 && (getDesk (takeDoorbell d s) d).rights &&& right = 0) = false := by
    rcases hri with hri | hri <;> simp [hri]
  have e2 : (lock && !(!stwRuns s) && (takeDoorbell d s).stw.lock != some d) = false := by
    rcases hlo with hlo | hlo
    · cases lock <;> simp_all
    · simp [hlo]
  simp [deskCmd, unit, hd, hw, ho, hr, hl, hn] at e1 e2 ⊢
  rw [if_neg (by simpa using e1), if_neg (by simpa using e2)]

end Sys2Proof.Laws
end

