-- ==== Sys2Proof/Laws/Tab.lean ====
section
/-! SUPPORT. The laws of sparse tables: a read after a write, and that every operation keeps the canonical form. -/

namespace Sys2Proof.Machine

theorem tget_tput {α : Type} (d : Nat → α) (k j : Nat) (v : α) (t : Tab α) :
    tget d (tput k v t) j = if j = k then v else tget d t j := by
  induction t with
  | nil => simp [tput, tget]
  | cons a t ih =>
    obtain ⟨a, w⟩ := a
    simp only [tput]
    split
    · simp [tget]
    · split
      · subst_vars; simp only [tget]; split <;> rfl
      · simp only [tget, ih]
        split
        · subst_vars; rw [if_neg (by omega)]
        · rfl

theorem tget_tclear {α : Type} (d : Nat → α) (p : Nat → Bool) (j : Nat) (t : Tab α) :
    tget d (tclear p t) j = if p j = true then d j else tget d t j := by
  induction t with
  | nil => simp [tclear, tget]
  | cons a t ih =>
    obtain ⟨a, w⟩ := a
    simp only [tclear]
    split
    · simp only [ih, tget]
      split
      · rfl
      · rw [if_neg (by rintro rfl; contradiction)]
    · simp only [tget, ih]
      split
      · subst_vars; rw [if_neg (by assumption)]
      · rfl

/-- A read after a write gives the value written at its key, and what stood there at any other. -/
@[simp] theorem tget_tset {α : Type} [DecidableEq α] (d : Nat → α) (k j : Nat) (v : α) (t : Tab α) :
    tget d (tset d k v t) j = if j = k then v else tget d t j := by
  unfold tset
  split
  · rw [tget_tclear]
    simp only [beq_iff_eq]
    split <;> simp_all
  · exact tget_tput d k j v t

theorem tget_tset_self {α : Type} [DecidableEq α] (d : Nat → α) (k : Nat) (v : α) (t : Tab α) :
    tget d (tset d k v t) k = v := by simp

theorem twf_mono {α : Type} [DecidableEq α] {d : Nat → α} {t : Tab α} {lo lo' : Nat} (hl : lo' ≤ lo)
    (h : twf d lo t = true) : twf d lo' t = true := by
  cases t with
  | nil => rfl
  | cons a t =>
    obtain ⟨a, v⟩ := a
    simp only [twf, Bool.and_eq_true, decide_eq_true_eq] at h ⊢
    exact ⟨⟨by omega, h.1.2⟩, h.2⟩

theorem tput_wf {α : Type} [DecidableEq α] {d : Nat → α} {k lo : Nat} {v : α} {t : Tab α} (hl : lo ≤ k) (hv : v ≠ d k)
    (h : twf d lo t = true) : twf d lo (tput k v t) = true := by
  induction t generalizing lo with
  | nil => simp [tput, twf, *]
  | cons a t ih =>
    obtain ⟨a, w⟩ := a
    simp only [twf, Bool.and_eq_true, decide_eq_true_eq] at h
    obtain ⟨⟨h1, h2⟩, h3⟩ := h
    unfold tput
    split
    · simp [twf, *]
    · split
      · subst_vars; simp [twf, *]
      · simp only [twf, Bool.and_eq_true, decide_eq_true_eq]
        exact ⟨⟨h1, h2⟩, ih (by omega) h3⟩

theorem tclear_wf {α : Type} [DecidableEq α] {d : Nat → α} {p : Nat → Bool} {lo : Nat} {t : Tab α}
    (h : twf d lo t = true) : twf d lo (tclear p t) = true := by
  induction t generalizing lo with
  | nil => rfl
  | cons a t ih =>
    obtain ⟨a, w⟩ := a
    simp only [twf, Bool.and_eq_true, decide_eq_true_eq] at h
    obtain ⟨⟨h1, h2⟩, h3⟩ := h
    unfold tclear
    split
    · exact twf_mono (by omega) (ih h3)
    · simp [twf, *]

theorem tset_wf {α : Type} [DecidableEq α] {d : Nat → α} {k lo : Nat} {v : α} {t : Tab α} (hl : lo ≤ k)
    (h : twf d lo t = true) : twf d lo (tset d k v t) = true := by
  unfold tset
  split
  · exact tclear_wf h
  · exact tput_wf hl (by assumption) h

end Sys2Proof.Machine
end

