-- ==== Sys2Proof/Laws/State.lean ====
section
/-! SUPPORT. The small laws of the state: what each named update leaves of each field, the laws of registers and fields,
and a read after a write of every array of units. -/

namespace Sys2Proof.Machine

/-! ### Updates and the fields they leave -/

@[simp] theorem setReg_pending (o : Nat) (v : Word) (s : State) : (setReg o v s).pending = s.pending := rfl
@[simp] theorem setReg_clk (o : Nat) (v : Word) (s : State) : (setReg o v s).clk = s.clk := rfl
@[simp] theorem setReg_ringNs (o : Nat) (v : Word) (s : State) : (setReg o v s).ringNs = s.ringNs := rfl
@[simp] theorem setReg_cyc (o : Nat) (v : Word) (s : State) : (setReg o v s).cyc = s.cyc := rfl
@[simp] theorem setReg_draw (o : Nat) (v : Word) (s : State) : (setReg o v s).draw = s.draw := rfl
@[simp] theorem setReg_out (o : Nat) (v : Word) (s : State) : (setReg o v s).out = s.out := rfl
@[simp] theorem setReg_staged (o : Nat) (v : Word) (s : State) : (setReg o v s).staged = s.staged := rfl
@[simp] theorem setReg_pairs (o : Nat) (v : Word) (s : State) : (setReg o v s).pairs = s.pairs := rfl
@[simp] theorem setReg_ready (o : Nat) (v : Word) (s : State) : (setReg o v s).ready = s.ready := rfl
@[simp] theorem setReg_cnts (o : Nat) (v : Word) (s : State) : (setReg o v s).cnts = s.cnts := rfl
@[simp] theorem setReg_stk (o : Nat) (v : Word) (s : State) : (setReg o v s).stk = s.stk := rfl
@[simp] theorem setReg_swq (o : Nat) (v : Word) (s : State) : (setReg o v s).swq = s.swq := rfl
@[simp] theorem setReg_places (o : Nat) (v : Word) (s : State) : (setReg o v s).places = s.places := rfl
@[simp] theorem setReg_engines (o : Nat) (v : Word) (s : State) : (setReg o v s).engines = s.engines := rfl
@[simp] theorem setReg_dio (o : Nat) (v : Word) (s : State) : (setReg o v s).dio = s.dio := rfl
@[simp] theorem setReg_ana (o : Nat) (v : Word) (s : State) : (setReg o v s).ana = s.ana := rfl
@[simp] theorem setReg_ports (o : Nat) (v : Word) (s : State) : (setReg o v s).ports = s.ports := rfl
@[simp] theorem setReg_byps (o : Nat) (v : Word) (s : State) : (setReg o v s).byps = s.byps := rfl
@[simp] theorem setReg_ring (o : Nat) (v : Word) (s : State) : (setReg o v s).ring = s.ring := rfl
@[simp] theorem setReg_rtime (o : Nat) (v : Word) (s : State) : (setReg o v s).rtime = s.rtime := rfl
@[simp] theorem setReg_hif (o : Nat) (v : Word) (s : State) : (setReg o v s).hif = s.hif := rfl
@[simp] theorem setReg_usb (o : Nat) (v : Word) (s : State) : (setReg o v s).usb = s.usb := rfl
@[simp] theorem setReg_desks (o : Nat) (v : Word) (s : State) : (setReg o v s).desks = s.desks := rfl
@[simp] theorem setReg_stw (o : Nat) (v : Word) (s : State) : (setReg o v s).stw = s.stw := rfl
@[simp] theorem setReg_fed (o : Nat) (v : Word) (s : State) : (setReg o v s).fed = s.fed := rfl
@[simp] theorem setReg_pwr (o : Nat) (v : Word) (s : State) : (setReg o v s).pwr = s.pwr := rfl
@[simp] theorem setReg_flt (o : Nat) (v : Word) (s : State) : (setReg o v s).flt = s.flt := rfl
@[simp] theorem setReg_twin (o : Nat) (v : Word) (s : State) : (setReg o v s).twin = s.twin := rfl
@[simp] theorem setReg_sec (o : Nat) (v : Word) (s : State) : (setReg o v s).sec = s.sec := rfl
@[simp] theorem setReg_boot (o : Nat) (v : Word) (s : State) : (setReg o v s).boot = s.boot := rfl

@[simp] theorem setF_pending (f : Fld) (v : Nat) (s : State) : (setF f v s).pending = s.pending := rfl
@[simp] theorem setF_clk (f : Fld) (v : Nat) (s : State) : (setF f v s).clk = s.clk := rfl
@[simp] theorem setF_ringNs (f : Fld) (v : Nat) (s : State) : (setF f v s).ringNs = s.ringNs := rfl
@[simp] theorem setF_cyc (f : Fld) (v : Nat) (s : State) : (setF f v s).cyc = s.cyc := rfl
@[simp] theorem setF_draw (f : Fld) (v : Nat) (s : State) : (setF f v s).draw = s.draw := rfl
@[simp] theorem setF_out (f : Fld) (v : Nat) (s : State) : (setF f v s).out = s.out := rfl
@[simp] theorem setF_staged (f : Fld) (v : Nat) (s : State) : (setF f v s).staged = s.staged := rfl
@[simp] theorem setF_pairs (f : Fld) (v : Nat) (s : State) : (setF f v s).pairs = s.pairs := rfl
@[simp] theorem setF_ready (f : Fld) (v : Nat) (s : State) : (setF f v s).ready = s.ready := rfl
@[simp] theorem setF_cnts (f : Fld) (v : Nat) (s : State) : (setF f v s).cnts = s.cnts := rfl
@[simp] theorem setF_stk (f : Fld) (v : Nat) (s : State) : (setF f v s).stk = s.stk := rfl
@[simp] theorem setF_swq (f : Fld) (v : Nat) (s : State) : (setF f v s).swq = s.swq := rfl
@[simp] theorem setF_places (f : Fld) (v : Nat) (s : State) : (setF f v s).places = s.places := rfl
@[simp] theorem setF_engines (f : Fld) (v : Nat) (s : State) : (setF f v s).engines = s.engines := rfl
@[simp] theorem setF_dio (f : Fld) (v : Nat) (s : State) : (setF f v s).dio = s.dio := rfl
@[simp] theorem setF_ana (f : Fld) (v : Nat) (s : State) : (setF f v s).ana = s.ana := rfl
@[simp] theorem setF_ports (f : Fld) (v : Nat) (s : State) : (setF f v s).ports = s.ports := rfl
@[simp] theorem setF_byps (f : Fld) (v : Nat) (s : State) : (setF f v s).byps = s.byps := rfl
@[simp] theorem setF_ring (f : Fld) (v : Nat) (s : State) : (setF f v s).ring = s.ring := rfl
@[simp] theorem setF_rtime (f : Fld) (v : Nat) (s : State) : (setF f v s).rtime = s.rtime := rfl
@[simp] theorem setF_hif (f : Fld) (v : Nat) (s : State) : (setF f v s).hif = s.hif := rfl
@[simp] theorem setF_usb (f : Fld) (v : Nat) (s : State) : (setF f v s).usb = s.usb := rfl
@[simp] theorem setF_desks (f : Fld) (v : Nat) (s : State) : (setF f v s).desks = s.desks := rfl
@[simp] theorem setF_stw (f : Fld) (v : Nat) (s : State) : (setF f v s).stw = s.stw := rfl
@[simp] theorem setF_fed (f : Fld) (v : Nat) (s : State) : (setF f v s).fed = s.fed := rfl
@[simp] theorem setF_pwr (f : Fld) (v : Nat) (s : State) : (setF f v s).pwr = s.pwr := rfl
@[simp] theorem setF_flt (f : Fld) (v : Nat) (s : State) : (setF f v s).flt = s.flt := rfl
@[simp] theorem setF_twin (f : Fld) (v : Nat) (s : State) : (setF f v s).twin = s.twin := rfl
@[simp] theorem setF_sec (f : Fld) (v : Nat) (s : State) : (setF f v s).sec = s.sec := rfl
@[simp] theorem setF_boot (f : Fld) (v : Nat) (s : State) : (setF f v s).boot = s.boot := rfl

@[simp] theorem addF_pending (f : Fld) (v : Nat) (s : State) : (addF f v s).pending = s.pending := rfl
@[simp] theorem addF_clk (f : Fld) (v : Nat) (s : State) : (addF f v s).clk = s.clk := rfl
@[simp] theorem addF_ringNs (f : Fld) (v : Nat) (s : State) : (addF f v s).ringNs = s.ringNs := rfl
@[simp] theorem addF_cyc (f : Fld) (v : Nat) (s : State) : (addF f v s).cyc = s.cyc := rfl
@[simp] theorem addF_draw (f : Fld) (v : Nat) (s : State) : (addF f v s).draw = s.draw := rfl
@[simp] theorem addF_out (f : Fld) (v : Nat) (s : State) : (addF f v s).out = s.out := rfl
@[simp] theorem addF_staged (f : Fld) (v : Nat) (s : State) : (addF f v s).staged = s.staged := rfl
@[simp] theorem addF_pairs (f : Fld) (v : Nat) (s : State) : (addF f v s).pairs = s.pairs := rfl
@[simp] theorem addF_ready (f : Fld) (v : Nat) (s : State) : (addF f v s).ready = s.ready := rfl
@[simp] theorem addF_cnts (f : Fld) (v : Nat) (s : State) : (addF f v s).cnts = s.cnts := rfl
@[simp] theorem addF_stk (f : Fld) (v : Nat) (s : State) : (addF f v s).stk = s.stk := rfl
@[simp] theorem addF_swq (f : Fld) (v : Nat) (s : State) : (addF f v s).swq = s.swq := rfl
@[simp] theorem addF_places (f : Fld) (v : Nat) (s : State) : (addF f v s).places = s.places := rfl
@[simp] theorem addF_engines (f : Fld) (v : Nat) (s : State) : (addF f v s).engines = s.engines := rfl
@[simp] theorem addF_dio (f : Fld) (v : Nat) (s : State) : (addF f v s).dio = s.dio := rfl
@[simp] theorem addF_ana (f : Fld) (v : Nat) (s : State) : (addF f v s).ana = s.ana := rfl
@[simp] theorem addF_ports (f : Fld) (v : Nat) (s : State) : (addF f v s).ports = s.ports := rfl
@[simp] theorem addF_byps (f : Fld) (v : Nat) (s : State) : (addF f v s).byps = s.byps := rfl
@[simp] theorem addF_ring (f : Fld) (v : Nat) (s : State) : (addF f v s).ring = s.ring := rfl
@[simp] theorem addF_rtime (f : Fld) (v : Nat) (s : State) : (addF f v s).rtime = s.rtime := rfl
@[simp] theorem addF_hif (f : Fld) (v : Nat) (s : State) : (addF f v s).hif = s.hif := rfl
@[simp] theorem addF_usb (f : Fld) (v : Nat) (s : State) : (addF f v s).usb = s.usb := rfl
@[simp] theorem addF_desks (f : Fld) (v : Nat) (s : State) : (addF f v s).desks = s.desks := rfl
@[simp] theorem addF_stw (f : Fld) (v : Nat) (s : State) : (addF f v s).stw = s.stw := rfl
@[simp] theorem addF_fed (f : Fld) (v : Nat) (s : State) : (addF f v s).fed = s.fed := rfl
@[simp] theorem addF_pwr (f : Fld) (v : Nat) (s : State) : (addF f v s).pwr = s.pwr := rfl
@[simp] theorem addF_flt (f : Fld) (v : Nat) (s : State) : (addF f v s).flt = s.flt := rfl
@[simp] theorem addF_twin (f : Fld) (v : Nat) (s : State) : (addF f v s).twin = s.twin := rfl
@[simp] theorem addF_sec (f : Fld) (v : Nat) (s : State) : (addF f v s).sec = s.sec := rfl
@[simp] theorem addF_boot (f : Fld) (v : Nat) (s : State) : (addF f v s).boot = s.boot := rfl

@[simp] theorem incF_pending (f : Fld) (s : State) : (incF f s).pending = s.pending := rfl
@[simp] theorem incF_clk (f : Fld) (s : State) : (incF f s).clk = s.clk := rfl
@[simp] theorem incF_ringNs (f : Fld) (s : State) : (incF f s).ringNs = s.ringNs := rfl
@[simp] theorem incF_cyc (f : Fld) (s : State) : (incF f s).cyc = s.cyc := rfl
@[simp] theorem incF_draw (f : Fld) (s : State) : (incF f s).draw = s.draw := rfl
@[simp] theorem incF_out (f : Fld) (s : State) : (incF f s).out = s.out := rfl
@[simp] theorem incF_staged (f : Fld) (s : State) : (incF f s).staged = s.staged := rfl
@[simp] theorem incF_pairs (f : Fld) (s : State) : (incF f s).pairs = s.pairs := rfl
@[simp] theorem incF_ready (f : Fld) (s : State) : (incF f s).ready = s.ready := rfl
@[simp] theorem incF_cnts (f : Fld) (s : State) : (incF f s).cnts = s.cnts := rfl
@[simp] theorem incF_stk (f : Fld) (s : State) : (incF f s).stk = s.stk := rfl
@[simp] theorem incF_swq (f : Fld) (s : State) : (incF f s).swq = s.swq := rfl
@[simp] theorem incF_places (f : Fld) (s : State) : (incF f s).places = s.places := rfl
@[simp] theorem incF_engines (f : Fld) (s : State) : (incF f s).engines = s.engines := rfl
@[simp] theorem incF_dio (f : Fld) (s : State) : (incF f s).dio = s.dio := rfl
@[simp] theorem incF_ana (f : Fld) (s : State) : (incF f s).ana = s.ana := rfl
@[simp] theorem incF_ports (f : Fld) (s : State) : (incF f s).ports = s.ports := rfl
@[simp] theorem incF_byps (f : Fld) (s : State) : (incF f s).byps = s.byps := rfl
@[simp] theorem incF_ring (f : Fld) (s : State) : (incF f s).ring = s.ring := rfl
@[simp] theorem incF_rtime (f : Fld) (s : State) : (incF f s).rtime = s.rtime := rfl
@[simp] theorem incF_hif (f : Fld) (s : State) : (incF f s).hif = s.hif := rfl
@[simp] theorem incF_usb (f : Fld) (s : State) : (incF f s).usb = s.usb := rfl
@[simp] theorem incF_desks (f : Fld) (s : State) : (incF f s).desks = s.desks := rfl
@[simp] theorem incF_stw (f : Fld) (s : State) : (incF f s).stw = s.stw := rfl
@[simp] theorem incF_fed (f : Fld) (s : State) : (incF f s).fed = s.fed := rfl
@[simp] theorem incF_pwr (f : Fld) (s : State) : (incF f s).pwr = s.pwr := rfl
@[simp] theorem incF_flt (f : Fld) (s : State) : (incF f s).flt = s.flt := rfl
@[simp] theorem incF_twin (f : Fld) (s : State) : (incF f s).twin = s.twin := rfl
@[simp] theorem incF_sec (f : Fld) (s : State) : (incF f s).sec = s.sec := rfl
@[simp] theorem incF_boot (f : Fld) (s : State) : (incF f s).boot = s.boot := rfl

@[simp] theorem wrapF_pending (f : Fld) (s : State) : (wrapF f s).pending = s.pending := rfl
@[simp] theorem wrapF_clk (f : Fld) (s : State) : (wrapF f s).clk = s.clk := rfl
@[simp] theorem wrapF_ringNs (f : Fld) (s : State) : (wrapF f s).ringNs = s.ringNs := rfl
@[simp] theorem wrapF_cyc (f : Fld) (s : State) : (wrapF f s).cyc = s.cyc := rfl
@[simp] theorem wrapF_draw (f : Fld) (s : State) : (wrapF f s).draw = s.draw := rfl
@[simp] theorem wrapF_out (f : Fld) (s : State) : (wrapF f s).out = s.out := rfl
@[simp] theorem wrapF_staged (f : Fld) (s : State) : (wrapF f s).staged = s.staged := rfl
@[simp] theorem wrapF_pairs (f : Fld) (s : State) : (wrapF f s).pairs = s.pairs := rfl
@[simp] theorem wrapF_ready (f : Fld) (s : State) : (wrapF f s).ready = s.ready := rfl
@[simp] theorem wrapF_cnts (f : Fld) (s : State) : (wrapF f s).cnts = s.cnts := rfl
@[simp] theorem wrapF_stk (f : Fld) (s : State) : (wrapF f s).stk = s.stk := rfl
@[simp] theorem wrapF_swq (f : Fld) (s : State) : (wrapF f s).swq = s.swq := rfl
@[simp] theorem wrapF_places (f : Fld) (s : State) : (wrapF f s).places = s.places := rfl
@[simp] theorem wrapF_engines (f : Fld) (s : State) : (wrapF f s).engines = s.engines := rfl
@[simp] theorem wrapF_dio (f : Fld) (s : State) : (wrapF f s).dio = s.dio := rfl
@[simp] theorem wrapF_ana (f : Fld) (s : State) : (wrapF f s).ana = s.ana := rfl
@[simp] theorem wrapF_ports (f : Fld) (s : State) : (wrapF f s).ports = s.ports := rfl
@[simp] theorem wrapF_byps (f : Fld) (s : State) : (wrapF f s).byps = s.byps := rfl
@[simp] theorem wrapF_ring (f : Fld) (s : State) : (wrapF f s).ring = s.ring := rfl
@[simp] theorem wrapF_rtime (f : Fld) (s : State) : (wrapF f s).rtime = s.rtime := rfl
@[simp] theorem wrapF_hif (f : Fld) (s : State) : (wrapF f s).hif = s.hif := rfl
@[simp] theorem wrapF_usb (f : Fld) (s : State) : (wrapF f s).usb = s.usb := rfl
@[simp] theorem wrapF_desks (f : Fld) (s : State) : (wrapF f s).desks = s.desks := rfl
@[simp] theorem wrapF_stw (f : Fld) (s : State) : (wrapF f s).stw = s.stw := rfl
@[simp] theorem wrapF_fed (f : Fld) (s : State) : (wrapF f s).fed = s.fed := rfl
@[simp] theorem wrapF_pwr (f : Fld) (s : State) : (wrapF f s).pwr = s.pwr := rfl
@[simp] theorem wrapF_flt (f : Fld) (s : State) : (wrapF f s).flt = s.flt := rfl
@[simp] theorem wrapF_twin (f : Fld) (s : State) : (wrapF f s).twin = s.twin := rfl
@[simp] theorem wrapF_sec (f : Fld) (s : State) : (wrapF f s).sec = s.sec := rfl
@[simp] theorem wrapF_boot (f : Fld) (s : State) : (wrapF f s).boot = s.boot := rfl

@[simp] theorem emit_pending (o : Out) (s : State) : (emit o s).pending = s.pending := rfl
@[simp] theorem emit_clk (o : Out) (s : State) : (emit o s).clk = s.clk := rfl
@[simp] theorem emit_ringNs (o : Out) (s : State) : (emit o s).ringNs = s.ringNs := rfl
@[simp] theorem emit_cyc (o : Out) (s : State) : (emit o s).cyc = s.cyc := rfl
@[simp] theorem emit_draw (o : Out) (s : State) : (emit o s).draw = s.draw := rfl
@[simp] theorem emit_regs (o : Out) (s : State) : (emit o s).regs = s.regs := rfl
@[simp] theorem emit_staged (o : Out) (s : State) : (emit o s).staged = s.staged := rfl
@[simp] theorem emit_pairs (o : Out) (s : State) : (emit o s).pairs = s.pairs := rfl
@[simp] theorem emit_ready (o : Out) (s : State) : (emit o s).ready = s.ready := rfl
@[simp] theorem emit_cnts (o : Out) (s : State) : (emit o s).cnts = s.cnts := rfl
@[simp] theorem emit_stk (o : Out) (s : State) : (emit o s).stk = s.stk := rfl
@[simp] theorem emit_swq (o : Out) (s : State) : (emit o s).swq = s.swq := rfl
@[simp] theorem emit_places (o : Out) (s : State) : (emit o s).places = s.places := rfl
@[simp] theorem emit_engines (o : Out) (s : State) : (emit o s).engines = s.engines := rfl
@[simp] theorem emit_dio (o : Out) (s : State) : (emit o s).dio = s.dio := rfl
@[simp] theorem emit_ana (o : Out) (s : State) : (emit o s).ana = s.ana := rfl
@[simp] theorem emit_ports (o : Out) (s : State) : (emit o s).ports = s.ports := rfl
@[simp] theorem emit_byps (o : Out) (s : State) : (emit o s).byps = s.byps := rfl
@[simp] theorem emit_ring (o : Out) (s : State) : (emit o s).ring = s.ring := rfl
@[simp] theorem emit_rtime (o : Out) (s : State) : (emit o s).rtime = s.rtime := rfl
@[simp] theorem emit_hif (o : Out) (s : State) : (emit o s).hif = s.hif := rfl
@[simp] theorem emit_usb (o : Out) (s : State) : (emit o s).usb = s.usb := rfl
@[simp] theorem emit_desks (o : Out) (s : State) : (emit o s).desks = s.desks := rfl
@[simp] theorem emit_stw (o : Out) (s : State) : (emit o s).stw = s.stw := rfl
@[simp] theorem emit_fed (o : Out) (s : State) : (emit o s).fed = s.fed := rfl
@[simp] theorem emit_pwr (o : Out) (s : State) : (emit o s).pwr = s.pwr := rfl
@[simp] theorem emit_flt (o : Out) (s : State) : (emit o s).flt = s.flt := rfl
@[simp] theorem emit_twin (o : Out) (s : State) : (emit o s).twin = s.twin := rfl
@[simp] theorem emit_sec (o : Out) (s : State) : (emit o s).sec = s.sec := rfl
@[simp] theorem emit_boot (o : Out) (s : State) : (emit o s).boot = s.boot := rfl

@[simp] theorem drawn_pending  (s : State) : (drawn s).pending = s.pending := rfl
@[simp] theorem drawn_clk  (s : State) : (drawn s).clk = s.clk := rfl
@[simp] theorem drawn_ringNs  (s : State) : (drawn s).ringNs = s.ringNs := rfl
@[simp] theorem drawn_cyc  (s : State) : (drawn s).cyc = s.cyc := rfl
@[simp] theorem drawn_out  (s : State) : (drawn s).out = s.out := rfl
@[simp] theorem drawn_regs  (s : State) : (drawn s).regs = s.regs := rfl
@[simp] theorem drawn_staged  (s : State) : (drawn s).staged = s.staged := rfl
@[simp] theorem drawn_pairs  (s : State) : (drawn s).pairs = s.pairs := rfl
@[simp] theorem drawn_ready  (s : State) : (drawn s).ready = s.ready := rfl
@[simp] theorem drawn_cnts  (s : State) : (drawn s).cnts = s.cnts := rfl
@[simp] theorem drawn_stk  (s : State) : (drawn s).stk = s.stk := rfl
@[simp] theorem drawn_swq  (s : State) : (drawn s).swq = s.swq := rfl
@[simp] theorem drawn_places  (s : State) : (drawn s).places = s.places := rfl
@[simp] theorem drawn_engines  (s : State) : (drawn s).engines = s.engines := rfl
@[simp] theorem drawn_dio  (s : State) : (drawn s).dio = s.dio := rfl
@[simp] theorem drawn_ana  (s : State) : (drawn s).ana = s.ana := rfl
@[simp] theorem drawn_ports  (s : State) : (drawn s).ports = s.ports := rfl
@[simp] theorem drawn_byps  (s : State) : (drawn s).byps = s.byps := rfl
@[simp] theorem drawn_ring  (s : State) : (drawn s).ring = s.ring := rfl
@[simp] theorem drawn_rtime  (s : State) : (drawn s).rtime = s.rtime := rfl
@[simp] theorem drawn_hif  (s : State) : (drawn s).hif = s.hif := rfl
@[simp] theorem drawn_usb  (s : State) : (drawn s).usb = s.usb := rfl
@[simp] theorem drawn_desks  (s : State) : (drawn s).desks = s.desks := rfl
@[simp] theorem drawn_stw  (s : State) : (drawn s).stw = s.stw := rfl
@[simp] theorem drawn_fed  (s : State) : (drawn s).fed = s.fed := rfl
@[simp] theorem drawn_pwr  (s : State) : (drawn s).pwr = s.pwr := rfl
@[simp] theorem drawn_flt  (s : State) : (drawn s).flt = s.flt := rfl
@[simp] theorem drawn_twin  (s : State) : (drawn s).twin = s.twin := rfl
@[simp] theorem drawn_sec  (s : State) : (drawn s).sec = s.sec := rfl
@[simp] theorem drawn_boot  (s : State) : (drawn s).boot = s.boot := rfl

@[simp] theorem raise_pending (n : Nat) (s : State) : (raise n s).pending = s.pending := rfl
@[simp] theorem raise_clk (n : Nat) (s : State) : (raise n s).clk = s.clk := rfl
@[simp] theorem raise_ringNs (n : Nat) (s : State) : (raise n s).ringNs = s.ringNs := rfl
@[simp] theorem raise_cyc (n : Nat) (s : State) : (raise n s).cyc = s.cyc := rfl
@[simp] theorem raise_draw (n : Nat) (s : State) : (raise n s).draw = s.draw := rfl
@[simp] theorem raise_out (n : Nat) (s : State) : (raise n s).out = s.out := rfl
@[simp] theorem raise_regs (n : Nat) (s : State) : (raise n s).regs = s.regs := rfl
@[simp] theorem raise_staged (n : Nat) (s : State) : (raise n s).staged = s.staged := rfl
@[simp] theorem raise_pairs (n : Nat) (s : State) : (raise n s).pairs = s.pairs := rfl
@[simp] theorem raise_ready (n : Nat) (s : State) : (raise n s).ready = s.ready := rfl
@[simp] theorem raise_cnts (n : Nat) (s : State) : (raise n s).cnts = s.cnts := rfl
@[simp] theorem raise_stk (n : Nat) (s : State) : (raise n s).stk = s.stk := rfl
@[simp] theorem raise_swq (n : Nat) (s : State) : (raise n s).swq = s.swq := rfl
@[simp] theorem raise_places (n : Nat) (s : State) : (raise n s).places = s.places := rfl
@[simp] theorem raise_engines (n : Nat) (s : State) : (raise n s).engines = s.engines := rfl
@[simp] theorem raise_dio (n : Nat) (s : State) : (raise n s).dio = s.dio := rfl
@[simp] theorem raise_ana (n : Nat) (s : State) : (raise n s).ana = s.ana := rfl
@[simp] theorem raise_ports (n : Nat) (s : State) : (raise n s).ports = s.ports := rfl
@[simp] theorem raise_byps (n : Nat) (s : State) : (raise n s).byps = s.byps := rfl
@[simp] theorem raise_ring (n : Nat) (s : State) : (raise n s).ring = s.ring := rfl
@[simp] theorem raise_rtime (n : Nat) (s : State) : (raise n s).rtime = s.rtime := rfl
@[simp] theorem raise_hif (n : Nat) (s : State) : (raise n s).hif = s.hif := rfl
@[simp] theorem raise_usb (n : Nat) (s : State) : (raise n s).usb = s.usb := rfl
@[simp] theorem raise_desks (n : Nat) (s : State) : (raise n s).desks = s.desks := rfl
@[simp] theorem raise_stw (n : Nat) (s : State) : (raise n s).stw = s.stw := rfl
@[simp] theorem raise_fed (n : Nat) (s : State) : (raise n s).fed = s.fed := rfl
@[simp] theorem raise_pwr (n : Nat) (s : State) : (raise n s).pwr = s.pwr := rfl
@[simp] theorem raise_twin (n : Nat) (s : State) : (raise n s).twin = s.twin := rfl
@[simp] theorem raise_sec (n : Nat) (s : State) : (raise n s).sec = s.sec := rfl
@[simp] theorem raise_boot (n : Nat) (s : State) : (raise n s).boot = s.boot := rfl

@[simp] theorem causeOn_pending (n : Nat) (s : State) : (causeOn n s).pending = s.pending := rfl
@[simp] theorem causeOn_clk (n : Nat) (s : State) : (causeOn n s).clk = s.clk := rfl
@[simp] theorem causeOn_ringNs (n : Nat) (s : State) : (causeOn n s).ringNs = s.ringNs := rfl
@[simp] theorem causeOn_cyc (n : Nat) (s : State) : (causeOn n s).cyc = s.cyc := rfl
@[simp] theorem causeOn_draw (n : Nat) (s : State) : (causeOn n s).draw = s.draw := rfl
@[simp] theorem causeOn_out (n : Nat) (s : State) : (causeOn n s).out = s.out := rfl
@[simp] theorem causeOn_regs (n : Nat) (s : State) : (causeOn n s).regs = s.regs := rfl
@[simp] theorem causeOn_staged (n : Nat) (s : State) : (causeOn n s).staged = s.staged := rfl
@[simp] theorem causeOn_pairs (n : Nat) (s : State) : (causeOn n s).pairs = s.pairs := rfl
@[simp] theorem causeOn_ready (n : Nat) (s : State) : (causeOn n s).ready = s.ready := rfl
@[simp] theorem causeOn_cnts (n : Nat) (s : State) : (causeOn n s).cnts = s.cnts := rfl
@[simp] theorem causeOn_stk (n : Nat) (s : State) : (causeOn n s).stk = s.stk := rfl
@[simp] theorem causeOn_swq (n : Nat) (s : State) : (causeOn n s).swq = s.swq := rfl
@[simp] theorem causeOn_places (n : Nat) (s : State) : (causeOn n s).places = s.places := rfl
@[simp] theorem causeOn_engines (n : Nat) (s : State) : (causeOn n s).engines = s.engines := rfl
@[simp] theorem causeOn_dio (n : Nat) (s : State) : (causeOn n s).dio = s.dio := rfl
@[simp] theorem causeOn_ana (n : Nat) (s : State) : (causeOn n s).ana = s.ana := rfl
@[simp] theorem causeOn_ports (n : Nat) (s : State) : (causeOn n s).ports = s.ports := rfl
@[simp] theorem causeOn_byps (n : Nat) (s : State) : (causeOn n s).byps = s.byps := rfl
@[simp] theorem causeOn_ring (n : Nat) (s : State) : (causeOn n s).ring = s.ring := rfl
@[simp] theorem causeOn_rtime (n : Nat) (s : State) : (causeOn n s).rtime = s.rtime := rfl
@[simp] theorem causeOn_hif (n : Nat) (s : State) : (causeOn n s).hif = s.hif := rfl
@[simp] theorem causeOn_usb (n : Nat) (s : State) : (causeOn n s).usb = s.usb := rfl
@[simp] theorem causeOn_desks (n : Nat) (s : State) : (causeOn n s).desks = s.desks := rfl
@[simp] theorem causeOn_stw (n : Nat) (s : State) : (causeOn n s).stw = s.stw := rfl
@[simp] theorem causeOn_fed (n : Nat) (s : State) : (causeOn n s).fed = s.fed := rfl
@[simp] theorem causeOn_pwr (n : Nat) (s : State) : (causeOn n s).pwr = s.pwr := rfl
@[simp] theorem causeOn_twin (n : Nat) (s : State) : (causeOn n s).twin = s.twin := rfl
@[simp] theorem causeOn_sec (n : Nat) (s : State) : (causeOn n s).sec = s.sec := rfl
@[simp] theorem causeOn_boot (n : Nat) (s : State) : (causeOn n s).boot = s.boot := rfl

@[simp] theorem causeOff_pending (n : Nat) (s : State) : (causeOff n s).pending = s.pending := rfl
@[simp] theorem causeOff_clk (n : Nat) (s : State) : (causeOff n s).clk = s.clk := rfl
@[simp] theorem causeOff_ringNs (n : Nat) (s : State) : (causeOff n s).ringNs = s.ringNs := rfl
@[simp] theorem causeOff_cyc (n : Nat) (s : State) : (causeOff n s).cyc = s.cyc := rfl
@[simp] theorem causeOff_draw (n : Nat) (s : State) : (causeOff n s).draw = s.draw := rfl
@[simp] theorem causeOff_out (n : Nat) (s : State) : (causeOff n s).out = s.out := rfl
@[simp] theorem causeOff_regs (n : Nat) (s : State) : (causeOff n s).regs = s.regs := rfl
@[simp] theorem causeOff_staged (n : Nat) (s : State) : (causeOff n s).staged = s.staged := rfl
@[simp] theorem causeOff_pairs (n : Nat) (s : State) : (causeOff n s).pairs = s.pairs := rfl
@[simp] theorem causeOff_ready (n : Nat) (s : State) : (causeOff n s).ready = s.ready := rfl
@[simp] theorem causeOff_cnts (n : Nat) (s : State) : (causeOff n s).cnts = s.cnts := rfl
@[simp] theorem causeOff_stk (n : Nat) (s : State) : (causeOff n s).stk = s.stk := rfl
@[simp] theorem causeOff_swq (n : Nat) (s : State) : (causeOff n s).swq = s.swq := rfl
@[simp] theorem causeOff_places (n : Nat) (s : State) : (causeOff n s).places = s.places := rfl
@[simp] theorem causeOff_engines (n : Nat) (s : State) : (causeOff n s).engines = s.engines := rfl
@[simp] theorem causeOff_dio (n : Nat) (s : State) : (causeOff n s).dio = s.dio := rfl
@[simp] theorem causeOff_ana (n : Nat) (s : State) : (causeOff n s).ana = s.ana := rfl
@[simp] theorem causeOff_ports (n : Nat) (s : State) : (causeOff n s).ports = s.ports := rfl
@[simp] theorem causeOff_byps (n : Nat) (s : State) : (causeOff n s).byps = s.byps := rfl
@[simp] theorem causeOff_ring (n : Nat) (s : State) : (causeOff n s).ring = s.ring := rfl
@[simp] theorem causeOff_rtime (n : Nat) (s : State) : (causeOff n s).rtime = s.rtime := rfl
@[simp] theorem causeOff_hif (n : Nat) (s : State) : (causeOff n s).hif = s.hif := rfl
@[simp] theorem causeOff_usb (n : Nat) (s : State) : (causeOff n s).usb = s.usb := rfl
@[simp] theorem causeOff_desks (n : Nat) (s : State) : (causeOff n s).desks = s.desks := rfl
@[simp] theorem causeOff_stw (n : Nat) (s : State) : (causeOff n s).stw = s.stw := rfl
@[simp] theorem causeOff_fed (n : Nat) (s : State) : (causeOff n s).fed = s.fed := rfl
@[simp] theorem causeOff_pwr (n : Nat) (s : State) : (causeOff n s).pwr = s.pwr := rfl
@[simp] theorem causeOff_twin (n : Nat) (s : State) : (causeOff n s).twin = s.twin := rfl
@[simp] theorem causeOff_sec (n : Nat) (s : State) : (causeOff n s).sec = s.sec := rfl
@[simp] theorem causeOff_boot (n : Nat) (s : State) : (causeOff n s).boot = s.boot := rfl

@[simp] theorem setCnt_pending (k : Nat) (c : Counter) (s : State) : (setCnt k c s).pending = s.pending := rfl
@[simp] theorem setCnt_clk (k : Nat) (c : Counter) (s : State) : (setCnt k c s).clk = s.clk := rfl
@[simp] theorem setCnt_ringNs (k : Nat) (c : Counter) (s : State) : (setCnt k c s).ringNs = s.ringNs := rfl
@[simp] theorem setCnt_cyc (k : Nat) (c : Counter) (s : State) : (setCnt k c s).cyc = s.cyc := rfl
@[simp] theorem setCnt_draw (k : Nat) (c : Counter) (s : State) : (setCnt k c s).draw = s.draw := rfl
@[simp] theorem setCnt_out (k : Nat) (c : Counter) (s : State) : (setCnt k c s).out = s.out := rfl
@[simp] theorem setCnt_regs (k : Nat) (c : Counter) (s : State) : (setCnt k c s).regs = s.regs := rfl
@[simp] theorem setCnt_staged (k : Nat) (c : Counter) (s : State) : (setCnt k c s).staged = s.staged := rfl
@[simp] theorem setCnt_pairs (k : Nat) (c : Counter) (s : State) : (setCnt k c s).pairs = s.pairs := rfl
@[simp] theorem setCnt_ready (k : Nat) (c : Counter) (s : State) : (setCnt k c s).ready = s.ready := rfl
@[simp] theorem setCnt_stk (k : Nat) (c : Counter) (s : State) : (setCnt k c s).stk = s.stk := rfl
@[simp] theorem setCnt_swq (k : Nat) (c : Counter) (s : State) : (setCnt k c s).swq = s.swq := rfl
@[simp] theorem setCnt_places (k : Nat) (c : Counter) (s : State) : (setCnt k c s).places = s.places := rfl
@[simp] theorem setCnt_engines (k : Nat) (c : Counter) (s : State) : (setCnt k c s).engines = s.engines := rfl
@[simp] theorem setCnt_dio (k : Nat) (c : Counter) (s : State) : (setCnt k c s).dio = s.dio := rfl
@[simp] theorem setCnt_ana (k : Nat) (c : Counter) (s : State) : (setCnt k c s).ana = s.ana := rfl
@[simp] theorem setCnt_ports (k : Nat) (c : Counter) (s : State) : (setCnt k c s).ports = s.ports := rfl
@[simp] theorem setCnt_byps (k : Nat) (c : Counter) (s : State) : (setCnt k c s).byps = s.byps := rfl
@[simp] theorem setCnt_ring (k : Nat) (c : Counter) (s : State) : (setCnt k c s).ring = s.ring := rfl
@[simp] theorem setCnt_rtime (k : Nat) (c : Counter) (s : State) : (setCnt k c s).rtime = s.rtime := rfl
@[simp] theorem setCnt_hif (k : Nat) (c : Counter) (s : State) : (setCnt k c s).hif = s.hif := rfl
@[simp] theorem setCnt_usb (k : Nat) (c : Counter) (s : State) : (setCnt k c s).usb = s.usb := rfl
@[simp] theorem setCnt_desks (k : Nat) (c : Counter) (s : State) : (setCnt k c s).desks = s.desks := rfl
@[simp] theorem setCnt_stw (k : Nat) (c : Counter) (s : State) : (setCnt k c s).stw = s.stw := rfl
@[simp] theorem setCnt_fed (k : Nat) (c : Counter) (s : State) : (setCnt k c s).fed = s.fed := rfl
@[simp] theorem setCnt_pwr (k : Nat) (c : Counter) (s : State) : (setCnt k c s).pwr = s.pwr := rfl
@[simp] theorem setCnt_flt (k : Nat) (c : Counter) (s : State) : (setCnt k c s).flt = s.flt := rfl
@[simp] theorem setCnt_twin (k : Nat) (c : Counter) (s : State) : (setCnt k c s).twin = s.twin := rfl
@[simp] theorem setCnt_sec (k : Nat) (c : Counter) (s : State) : (setCnt k c s).sec = s.sec := rfl
@[simp] theorem setCnt_boot (k : Nat) (c : Counter) (s : State) : (setCnt k c s).boot = s.boot := rfl

@[simp] theorem setPlace_pending (n : Nat) (p : Place) (s : State) : (setPlace n p s).pending = s.pending := rfl
@[simp] theorem setPlace_clk (n : Nat) (p : Place) (s : State) : (setPlace n p s).clk = s.clk := rfl
@[simp] theorem setPlace_ringNs (n : Nat) (p : Place) (s : State) : (setPlace n p s).ringNs = s.ringNs := rfl
@[simp] theorem setPlace_cyc (n : Nat) (p : Place) (s : State) : (setPlace n p s).cyc = s.cyc := rfl
@[simp] theorem setPlace_draw (n : Nat) (p : Place) (s : State) : (setPlace n p s).draw = s.draw := rfl
@[simp] theorem setPlace_out (n : Nat) (p : Place) (s : State) : (setPlace n p s).out = s.out := rfl
@[simp] theorem setPlace_regs (n : Nat) (p : Place) (s : State) : (setPlace n p s).regs = s.regs := rfl
@[simp] theorem setPlace_staged (n : Nat) (p : Place) (s : State) : (setPlace n p s).staged = s.staged := rfl
@[simp] theorem setPlace_pairs (n : Nat) (p : Place) (s : State) : (setPlace n p s).pairs = s.pairs := rfl
@[simp] theorem setPlace_ready (n : Nat) (p : Place) (s : State) : (setPlace n p s).ready = s.ready := rfl
@[simp] theorem setPlace_cnts (n : Nat) (p : Place) (s : State) : (setPlace n p s).cnts = s.cnts := rfl
@[simp] theorem setPlace_stk (n : Nat) (p : Place) (s : State) : (setPlace n p s).stk = s.stk := rfl
@[simp] theorem setPlace_swq (n : Nat) (p : Place) (s : State) : (setPlace n p s).swq = s.swq := rfl
@[simp] theorem setPlace_engines (n : Nat) (p : Place) (s : State) : (setPlace n p s).engines = s.engines := rfl
@[simp] theorem setPlace_dio (n : Nat) (p : Place) (s : State) : (setPlace n p s).dio = s.dio := rfl
@[simp] theorem setPlace_ana (n : Nat) (p : Place) (s : State) : (setPlace n p s).ana = s.ana := rfl
@[simp] theorem setPlace_ports (n : Nat) (p : Place) (s : State) : (setPlace n p s).ports = s.ports := rfl
@[simp] theorem setPlace_byps (n : Nat) (p : Place) (s : State) : (setPlace n p s).byps = s.byps := rfl
@[simp] theorem setPlace_ring (n : Nat) (p : Place) (s : State) : (setPlace n p s).ring = s.ring := rfl
@[simp] theorem setPlace_rtime (n : Nat) (p : Place) (s : State) : (setPlace n p s).rtime = s.rtime := rfl
@[simp] theorem setPlace_hif (n : Nat) (p : Place) (s : State) : (setPlace n p s).hif = s.hif := rfl
@[simp] theorem setPlace_usb (n : Nat) (p : Place) (s : State) : (setPlace n p s).usb = s.usb := rfl
@[simp] theorem setPlace_desks (n : Nat) (p : Place) (s : State) : (setPlace n p s).desks = s.desks := rfl
@[simp] theorem setPlace_stw (n : Nat) (p : Place) (s : State) : (setPlace n p s).stw = s.stw := rfl
@[simp] theorem setPlace_fed (n : Nat) (p : Place) (s : State) : (setPlace n p s).fed = s.fed := rfl
@[simp] theorem setPlace_pwr (n : Nat) (p : Place) (s : State) : (setPlace n p s).pwr = s.pwr := rfl
@[simp] theorem setPlace_flt (n : Nat) (p : Place) (s : State) : (setPlace n p s).flt = s.flt := rfl
@[simp] theorem setPlace_twin (n : Nat) (p : Place) (s : State) : (setPlace n p s).twin = s.twin := rfl
@[simp] theorem setPlace_sec (n : Nat) (p : Place) (s : State) : (setPlace n p s).sec = s.sec := rfl
@[simp] theorem setPlace_boot (n : Nat) (p : Place) (s : State) : (setPlace n p s).boot = s.boot := rfl

@[simp] theorem setEngine_pending (n : Nat) (x : Engine) (s : State) : (setEngine n x s).pending = s.pending := rfl
@[simp] theorem setEngine_clk (n : Nat) (x : Engine) (s : State) : (setEngine n x s).clk = s.clk := rfl
@[simp] theorem setEngine_ringNs (n : Nat) (x : Engine) (s : State) : (setEngine n x s).ringNs = s.ringNs := rfl
@[simp] theorem setEngine_cyc (n : Nat) (x : Engine) (s : State) : (setEngine n x s).cyc = s.cyc := rfl
@[simp] theorem setEngine_draw (n : Nat) (x : Engine) (s : State) : (setEngine n x s).draw = s.draw := rfl
@[simp] theorem setEngine_out (n : Nat) (x : Engine) (s : State) : (setEngine n x s).out = s.out := rfl
@[simp] theorem setEngine_regs (n : Nat) (x : Engine) (s : State) : (setEngine n x s).regs = s.regs := rfl
@[simp] theorem setEngine_staged (n : Nat) (x : Engine) (s : State) : (setEngine n x s).staged = s.staged := rfl
@[simp] theorem setEngine_pairs (n : Nat) (x : Engine) (s : State) : (setEngine n x s).pairs = s.pairs := rfl
@[simp] theorem setEngine_ready (n : Nat) (x : Engine) (s : State) : (setEngine n x s).ready = s.ready := rfl
@[simp] theorem setEngine_cnts (n : Nat) (x : Engine) (s : State) : (setEngine n x s).cnts = s.cnts := rfl
@[simp] theorem setEngine_stk (n : Nat) (x : Engine) (s : State) : (setEngine n x s).stk = s.stk := rfl
@[simp] theorem setEngine_swq (n : Nat) (x : Engine) (s : State) : (setEngine n x s).swq = s.swq := rfl
@[simp] theorem setEngine_places (n : Nat) (x : Engine) (s : State) : (setEngine n x s).places = s.places := rfl
@[simp] theorem setEngine_dio (n : Nat) (x : Engine) (s : State) : (setEngine n x s).dio = s.dio := rfl
@[simp] theorem setEngine_ana (n : Nat) (x : Engine) (s : State) : (setEngine n x s).ana = s.ana := rfl
@[simp] theorem setEngine_ports (n : Nat) (x : Engine) (s : State) : (setEngine n x s).ports = s.ports := rfl
@[simp] theorem setEngine_byps (n : Nat) (x : Engine) (s : State) : (setEngine n x s).byps = s.byps := rfl
@[simp] theorem setEngine_ring (n : Nat) (x : Engine) (s : State) : (setEngine n x s).ring = s.ring := rfl
@[simp] theorem setEngine_rtime (n : Nat) (x : Engine) (s : State) : (setEngine n x s).rtime = s.rtime := rfl
@[simp] theorem setEngine_hif (n : Nat) (x : Engine) (s : State) : (setEngine n x s).hif = s.hif := rfl
@[simp] theorem setEngine_usb (n : Nat) (x : Engine) (s : State) : (setEngine n x s).usb = s.usb := rfl
@[simp] theorem setEngine_desks (n : Nat) (x : Engine) (s : State) : (setEngine n x s).desks = s.desks := rfl
@[simp] theorem setEngine_stw (n : Nat) (x : Engine) (s : State) : (setEngine n x s).stw = s.stw := rfl
@[simp] theorem setEngine_fed (n : Nat) (x : Engine) (s : State) : (setEngine n x s).fed = s.fed := rfl
@[simp] theorem setEngine_pwr (n : Nat) (x : Engine) (s : State) : (setEngine n x s).pwr = s.pwr := rfl
@[simp] theorem setEngine_flt (n : Nat) (x : Engine) (s : State) : (setEngine n x s).flt = s.flt := rfl
@[simp] theorem setEngine_twin (n : Nat) (x : Engine) (s : State) : (setEngine n x s).twin = s.twin := rfl
@[simp] theorem setEngine_sec (n : Nat) (x : Engine) (s : State) : (setEngine n x s).sec = s.sec := rfl
@[simp] theorem setEngine_boot (n : Nat) (x : Engine) (s : State) : (setEngine n x s).boot = s.boot := rfl

@[simp] theorem setLine_pending (n : Nat) (x : Line) (s : State) : (setLine n x s).pending = s.pending := rfl
@[simp] theorem setLine_clk (n : Nat) (x : Line) (s : State) : (setLine n x s).clk = s.clk := rfl
@[simp] theorem setLine_ringNs (n : Nat) (x : Line) (s : State) : (setLine n x s).ringNs = s.ringNs := rfl
@[simp] theorem setLine_cyc (n : Nat) (x : Line) (s : State) : (setLine n x s).cyc = s.cyc := rfl
@[simp] theorem setLine_draw (n : Nat) (x : Line) (s : State) : (setLine n x s).draw = s.draw := rfl
@[simp] theorem setLine_out (n : Nat) (x : Line) (s : State) : (setLine n x s).out = s.out := rfl
@[simp] theorem setLine_regs (n : Nat) (x : Line) (s : State) : (setLine n x s).regs = s.regs := rfl
@[simp] theorem setLine_staged (n : Nat) (x : Line) (s : State) : (setLine n x s).staged = s.staged := rfl
@[simp] theorem setLine_pairs (n : Nat) (x : Line) (s : State) : (setLine n x s).pairs = s.pairs := rfl
@[simp] theorem setLine_ready (n : Nat) (x : Line) (s : State) : (setLine n x s).ready = s.ready := rfl
@[simp] theorem setLine_cnts (n : Nat) (x : Line) (s : State) : (setLine n x s).cnts = s.cnts := rfl
@[simp] theorem setLine_stk (n : Nat) (x : Line) (s : State) : (setLine n x s).stk = s.stk := rfl
@[simp] theorem setLine_swq (n : Nat) (x : Line) (s : State) : (setLine n x s).swq = s.swq := rfl
@[simp] theorem setLine_places (n : Nat) (x : Line) (s : State) : (setLine n x s).places = s.places := rfl
@[simp] theorem setLine_engines (n : Nat) (x : Line) (s : State) : (setLine n x s).engines = s.engines := rfl
@[simp] theorem setLine_ana (n : Nat) (x : Line) (s : State) : (setLine n x s).ana = s.ana := rfl
@[simp] theorem setLine_ports (n : Nat) (x : Line) (s : State) : (setLine n x s).ports = s.ports := rfl
@[simp] theorem setLine_byps (n : Nat) (x : Line) (s : State) : (setLine n x s).byps = s.byps := rfl
@[simp] theorem setLine_ring (n : Nat) (x : Line) (s : State) : (setLine n x s).ring = s.ring := rfl
@[simp] theorem setLine_rtime (n : Nat) (x : Line) (s : State) : (setLine n x s).rtime = s.rtime := rfl
@[simp] theorem setLine_hif (n : Nat) (x : Line) (s : State) : (setLine n x s).hif = s.hif := rfl
@[simp] theorem setLine_usb (n : Nat) (x : Line) (s : State) : (setLine n x s).usb = s.usb := rfl
@[simp] theorem setLine_desks (n : Nat) (x : Line) (s : State) : (setLine n x s).desks = s.desks := rfl
@[simp] theorem setLine_stw (n : Nat) (x : Line) (s : State) : (setLine n x s).stw = s.stw := rfl
@[simp] theorem setLine_fed (n : Nat) (x : Line) (s : State) : (setLine n x s).fed = s.fed := rfl
@[simp] theorem setLine_pwr (n : Nat) (x : Line) (s : State) : (setLine n x s).pwr = s.pwr := rfl
@[simp] theorem setLine_flt (n : Nat) (x : Line) (s : State) : (setLine n x s).flt = s.flt := rfl
@[simp] theorem setLine_twin (n : Nat) (x : Line) (s : State) : (setLine n x s).twin = s.twin := rfl
@[simp] theorem setLine_sec (n : Nat) (x : Line) (s : State) : (setLine n x s).sec = s.sec := rfl
@[simp] theorem setLine_boot (n : Nat) (x : Line) (s : State) : (setLine n x s).boot = s.boot := rfl

@[simp] theorem setChan_pending (n : Nat) (x : Chan) (s : State) : (setChan n x s).pending = s.pending := rfl
@[simp] theorem setChan_clk (n : Nat) (x : Chan) (s : State) : (setChan n x s).clk = s.clk := rfl
@[simp] theorem setChan_ringNs (n : Nat) (x : Chan) (s : State) : (setChan n x s).ringNs = s.ringNs := rfl
@[simp] theorem setChan_cyc (n : Nat) (x : Chan) (s : State) : (setChan n x s).cyc = s.cyc := rfl
@[simp] theorem setChan_draw (n : Nat) (x : Chan) (s : State) : (setChan n x s).draw = s.draw := rfl
@[simp] theorem setChan_out (n : Nat) (x : Chan) (s : State) : (setChan n x s).out = s.out := rfl
@[simp] theorem setChan_regs (n : Nat) (x : Chan) (s : State) : (setChan n x s).regs = s.regs := rfl
@[simp] theorem setChan_staged (n : Nat) (x : Chan) (s : State) : (setChan n x s).staged = s.staged := rfl
@[simp] theorem setChan_pairs (n : Nat) (x : Chan) (s : State) : (setChan n x s).pairs = s.pairs := rfl
@[simp] theorem setChan_ready (n : Nat) (x : Chan) (s : State) : (setChan n x s).ready = s.ready := rfl
@[simp] theorem setChan_cnts (n : Nat) (x : Chan) (s : State) : (setChan n x s).cnts = s.cnts := rfl
@[simp] theorem setChan_stk (n : Nat) (x : Chan) (s : State) : (setChan n x s).stk = s.stk := rfl
@[simp] theorem setChan_swq (n : Nat) (x : Chan) (s : State) : (setChan n x s).swq = s.swq := rfl
@[simp] theorem setChan_places (n : Nat) (x : Chan) (s : State) : (setChan n x s).places = s.places := rfl
@[simp] theorem setChan_engines (n : Nat) (x : Chan) (s : State) : (setChan n x s).engines = s.engines := rfl
@[simp] theorem setChan_dio (n : Nat) (x : Chan) (s : State) : (setChan n x s).dio = s.dio := rfl
@[simp] theorem setChan_ports (n : Nat) (x : Chan) (s : State) : (setChan n x s).ports = s.ports := rfl
@[simp] theorem setChan_byps (n : Nat) (x : Chan) (s : State) : (setChan n x s).byps = s.byps := rfl
@[simp] theorem setChan_ring (n : Nat) (x : Chan) (s : State) : (setChan n x s).ring = s.ring := rfl
@[simp] theorem setChan_rtime (n : Nat) (x : Chan) (s : State) : (setChan n x s).rtime = s.rtime := rfl
@[simp] theorem setChan_hif (n : Nat) (x : Chan) (s : State) : (setChan n x s).hif = s.hif := rfl
@[simp] theorem setChan_usb (n : Nat) (x : Chan) (s : State) : (setChan n x s).usb = s.usb := rfl
@[simp] theorem setChan_desks (n : Nat) (x : Chan) (s : State) : (setChan n x s).desks = s.desks := rfl
@[simp] theorem setChan_stw (n : Nat) (x : Chan) (s : State) : (setChan n x s).stw = s.stw := rfl
@[simp] theorem setChan_fed (n : Nat) (x : Chan) (s : State) : (setChan n x s).fed = s.fed := rfl
@[simp] theorem setChan_pwr (n : Nat) (x : Chan) (s : State) : (setChan n x s).pwr = s.pwr := rfl
@[simp] theorem setChan_flt (n : Nat) (x : Chan) (s : State) : (setChan n x s).flt = s.flt := rfl
@[simp] theorem setChan_twin (n : Nat) (x : Chan) (s : State) : (setChan n x s).twin = s.twin := rfl
@[simp] theorem setChan_sec (n : Nat) (x : Chan) (s : State) : (setChan n x s).sec = s.sec := rfl
@[simp] theorem setChan_boot (n : Nat) (x : Chan) (s : State) : (setChan n x s).boot = s.boot := rfl

@[simp] theorem setPort_pending (n : Nat) (x : Port) (s : State) : (setPort n x s).pending = s.pending := rfl
@[simp] theorem setPort_clk (n : Nat) (x : Port) (s : State) : (setPort n x s).clk = s.clk := rfl
@[simp] theorem setPort_ringNs (n : Nat) (x : Port) (s : State) : (setPort n x s).ringNs = s.ringNs := rfl
@[simp] theorem setPort_cyc (n : Nat) (x : Port) (s : State) : (setPort n x s).cyc = s.cyc := rfl
@[simp] theorem setPort_draw (n : Nat) (x : Port) (s : State) : (setPort n x s).draw = s.draw := rfl
@[simp] theorem setPort_out (n : Nat) (x : Port) (s : State) : (setPort n x s).out = s.out := rfl
@[simp] theorem setPort_regs (n : Nat) (x : Port) (s : State) : (setPort n x s).regs = s.regs := rfl
@[simp] theorem setPort_staged (n : Nat) (x : Port) (s : State) : (setPort n x s).staged = s.staged := rfl
@[simp] theorem setPort_pairs (n : Nat) (x : Port) (s : State) : (setPort n x s).pairs = s.pairs := rfl
@[simp] theorem setPort_ready (n : Nat) (x : Port) (s : State) : (setPort n x s).ready = s.ready := rfl
@[simp] theorem setPort_cnts (n : Nat) (x : Port) (s : State) : (setPort n x s).cnts = s.cnts := rfl
@[simp] theorem setPort_stk (n : Nat) (x : Port) (s : State) : (setPort n x s).stk = s.stk := rfl
@[simp] theorem setPort_swq (n : Nat) (x : Port) (s : State) : (setPort n x s).swq = s.swq := rfl
@[simp] theorem setPort_places (n : Nat) (x : Port) (s : State) : (setPort n x s).places = s.places := rfl
@[simp] theorem setPort_engines (n : Nat) (x : Port) (s : State) : (setPort n x s).engines = s.engines := rfl
@[simp] theorem setPort_dio (n : Nat) (x : Port) (s : State) : (setPort n x s).dio = s.dio := rfl
@[simp] theorem setPort_ana (n : Nat) (x : Port) (s : State) : (setPort n x s).ana = s.ana := rfl
@[simp] theorem setPort_byps (n : Nat) (x : Port) (s : State) : (setPort n x s).byps = s.byps := rfl
@[simp] theorem setPort_ring (n : Nat) (x : Port) (s : State) : (setPort n x s).ring = s.ring := rfl
@[simp] theorem setPort_rtime (n : Nat) (x : Port) (s : State) : (setPort n x s).rtime = s.rtime := rfl
@[simp] theorem setPort_hif (n : Nat) (x : Port) (s : State) : (setPort n x s).hif = s.hif := rfl
@[simp] theorem setPort_usb (n : Nat) (x : Port) (s : State) : (setPort n x s).usb = s.usb := rfl
@[simp] theorem setPort_desks (n : Nat) (x : Port) (s : State) : (setPort n x s).desks = s.desks := rfl
@[simp] theorem setPort_stw (n : Nat) (x : Port) (s : State) : (setPort n x s).stw = s.stw := rfl
@[simp] theorem setPort_fed (n : Nat) (x : Port) (s : State) : (setPort n x s).fed = s.fed := rfl
@[simp] theorem setPort_pwr (n : Nat) (x : Port) (s : State) : (setPort n x s).pwr = s.pwr := rfl
@[simp] theorem setPort_flt (n : Nat) (x : Port) (s : State) : (setPort n x s).flt = s.flt := rfl
@[simp] theorem setPort_twin (n : Nat) (x : Port) (s : State) : (setPort n x s).twin = s.twin := rfl
@[simp] theorem setPort_sec (n : Nat) (x : Port) (s : State) : (setPort n x s).sec = s.sec := rfl
@[simp] theorem setPort_boot (n : Nat) (x : Port) (s : State) : (setPort n x s).boot = s.boot := rfl

@[simp] theorem setByp_pending (n : Nat) (x : Bypass) (s : State) : (setByp n x s).pending = s.pending := rfl
@[simp] theorem setByp_clk (n : Nat) (x : Bypass) (s : State) : (setByp n x s).clk = s.clk := rfl
@[simp] theorem setByp_ringNs (n : Nat) (x : Bypass) (s : State) : (setByp n x s).ringNs = s.ringNs := rfl
@[simp] theorem setByp_cyc (n : Nat) (x : Bypass) (s : State) : (setByp n x s).cyc = s.cyc := rfl
@[simp] theorem setByp_draw (n : Nat) (x : Bypass) (s : State) : (setByp n x s).draw = s.draw := rfl
@[simp] theorem setByp_out (n : Nat) (x : Bypass) (s : State) : (setByp n x s).out = s.out := rfl
@[simp] theorem setByp_regs (n : Nat) (x : Bypass) (s : State) : (setByp n x s).regs = s.regs := rfl
@[simp] theorem setByp_staged (n : Nat) (x : Bypass) (s : State) : (setByp n x s).staged = s.staged := rfl
@[simp] theorem setByp_pairs (n : Nat) (x : Bypass) (s : State) : (setByp n x s).pairs = s.pairs := rfl
@[simp] theorem setByp_ready (n : Nat) (x : Bypass) (s : State) : (setByp n x s).ready = s.ready := rfl
@[simp] theorem setByp_cnts (n : Nat) (x : Bypass) (s : State) : (setByp n x s).cnts = s.cnts := rfl
@[simp] theorem setByp_stk (n : Nat) (x : Bypass) (s : State) : (setByp n x s).stk = s.stk := rfl
@[simp] theorem setByp_swq (n : Nat) (x : Bypass) (s : State) : (setByp n x s).swq = s.swq := rfl
@[simp] theorem setByp_places (n : Nat) (x : Bypass) (s : State) : (setByp n x s).places = s.places := rfl
@[simp] theorem setByp_engines (n : Nat) (x : Bypass) (s : State) : (setByp n x s).engines = s.engines := rfl
@[simp] theorem setByp_dio (n : Nat) (x : Bypass) (s : State) : (setByp n x s).dio = s.dio := rfl
@[simp] theorem setByp_ana (n : Nat) (x : Bypass) (s : State) : (setByp n x s).ana = s.ana := rfl
@[simp] theorem setByp_ports (n : Nat) (x : Bypass) (s : State) : (setByp n x s).ports = s.ports := rfl
@[simp] theorem setByp_ring (n : Nat) (x : Bypass) (s : State) : (setByp n x s).ring = s.ring := rfl
@[simp] theorem setByp_rtime (n : Nat) (x : Bypass) (s : State) : (setByp n x s).rtime = s.rtime := rfl
@[simp] theorem setByp_hif (n : Nat) (x : Bypass) (s : State) : (setByp n x s).hif = s.hif := rfl
@[simp] theorem setByp_usb (n : Nat) (x : Bypass) (s : State) : (setByp n x s).usb = s.usb := rfl
@[simp] theorem setByp_desks (n : Nat) (x : Bypass) (s : State) : (setByp n x s).desks = s.desks := rfl
@[simp] theorem setByp_stw (n : Nat) (x : Bypass) (s : State) : (setByp n x s).stw = s.stw := rfl
@[simp] theorem setByp_fed (n : Nat) (x : Bypass) (s : State) : (setByp n x s).fed = s.fed := rfl
@[simp] theorem setByp_pwr (n : Nat) (x : Bypass) (s : State) : (setByp n x s).pwr = s.pwr := rfl
@[simp] theorem setByp_flt (n : Nat) (x : Bypass) (s : State) : (setByp n x s).flt = s.flt := rfl
@[simp] theorem setByp_twin (n : Nat) (x : Bypass) (s : State) : (setByp n x s).twin = s.twin := rfl
@[simp] theorem setByp_sec (n : Nat) (x : Bypass) (s : State) : (setByp n x s).sec = s.sec := rfl
@[simp] theorem setByp_boot (n : Nat) (x : Bypass) (s : State) : (setByp n x s).boot = s.boot := rfl

@[simp] theorem setDesk_pending (n : Nat) (x : Desk) (s : State) : (setDesk n x s).pending = s.pending := rfl
@[simp] theorem setDesk_clk (n : Nat) (x : Desk) (s : State) : (setDesk n x s).clk = s.clk := rfl
@[simp] theorem setDesk_ringNs (n : Nat) (x : Desk) (s : State) : (setDesk n x s).ringNs = s.ringNs := rfl
@[simp] theorem setDesk_cyc (n : Nat) (x : Desk) (s : State) : (setDesk n x s).cyc = s.cyc := rfl
@[simp] theorem setDesk_draw (n : Nat) (x : Desk) (s : State) : (setDesk n x s).draw = s.draw := rfl
@[simp] theorem setDesk_out (n : Nat) (x : Desk) (s : State) : (setDesk n x s).out = s.out := rfl
@[simp] theorem setDesk_regs (n : Nat) (x : Desk) (s : State) : (setDesk n x s).regs = s.regs := rfl
@[simp] theorem setDesk_staged (n : Nat) (x : Desk) (s : State) : (setDesk n x s).staged = s.staged := rfl
@[simp] theorem setDesk_pairs (n : Nat) (x : Desk) (s : State) : (setDesk n x s).pairs = s.pairs := rfl
@[simp] theorem setDesk_ready (n : Nat) (x : Desk) (s : State) : (setDesk n x s).ready = s.ready := rfl
@[simp] theorem setDesk_cnts (n : Nat) (x : Desk) (s : State) : (setDesk n x s).cnts = s.cnts := rfl
@[simp] theorem setDesk_stk (n : Nat) (x : Desk) (s : State) : (setDesk n x s).stk = s.stk := rfl
@[simp] theorem setDesk_swq (n : Nat) (x : Desk) (s : State) : (setDesk n x s).swq = s.swq := rfl
@[simp] theorem setDesk_places (n : Nat) (x : Desk) (s : State) : (setDesk n x s).places = s.places := rfl
@[simp] theorem setDesk_engines (n : Nat) (x : Desk) (s : State) : (setDesk n x s).engines = s.engines := rfl
@[simp] theorem setDesk_dio (n : Nat) (x : Desk) (s : State) : (setDesk n x s).dio = s.dio := rfl
@[simp] theorem setDesk_ana (n : Nat) (x : Desk) (s : State) : (setDesk n x s).ana = s.ana := rfl
@[simp] theorem setDesk_ports (n : Nat) (x : Desk) (s : State) : (setDesk n x s).ports = s.ports := rfl
@[simp] theorem setDesk_byps (n : Nat) (x : Desk) (s : State) : (setDesk n x s).byps = s.byps := rfl
@[simp] theorem setDesk_ring (n : Nat) (x : Desk) (s : State) : (setDesk n x s).ring = s.ring := rfl
@[simp] theorem setDesk_rtime (n : Nat) (x : Desk) (s : State) : (setDesk n x s).rtime = s.rtime := rfl
@[simp] theorem setDesk_hif (n : Nat) (x : Desk) (s : State) : (setDesk n x s).hif = s.hif := rfl
@[simp] theorem setDesk_usb (n : Nat) (x : Desk) (s : State) : (setDesk n x s).usb = s.usb := rfl
@[simp] theorem setDesk_stw (n : Nat) (x : Desk) (s : State) : (setDesk n x s).stw = s.stw := rfl
@[simp] theorem setDesk_fed (n : Nat) (x : Desk) (s : State) : (setDesk n x s).fed = s.fed := rfl
@[simp] theorem setDesk_pwr (n : Nat) (x : Desk) (s : State) : (setDesk n x s).pwr = s.pwr := rfl
@[simp] theorem setDesk_flt (n : Nat) (x : Desk) (s : State) : (setDesk n x s).flt = s.flt := rfl
@[simp] theorem setDesk_twin (n : Nat) (x : Desk) (s : State) : (setDesk n x s).twin = s.twin := rfl
@[simp] theorem setDesk_sec (n : Nat) (x : Desk) (s : State) : (setDesk n x s).sec = s.sec := rfl
@[simp] theorem setDesk_boot (n : Nat) (x : Desk) (s : State) : (setDesk n x s).boot = s.boot := rfl

@[simp] theorem setFsc_pending (n : Nat) (x : Fsc) (s : State) : (setFsc n x s).pending = s.pending := rfl
@[simp] theorem setFsc_clk (n : Nat) (x : Fsc) (s : State) : (setFsc n x s).clk = s.clk := rfl
@[simp] theorem setFsc_ringNs (n : Nat) (x : Fsc) (s : State) : (setFsc n x s).ringNs = s.ringNs := rfl
@[simp] theorem setFsc_cyc (n : Nat) (x : Fsc) (s : State) : (setFsc n x s).cyc = s.cyc := rfl
@[simp] theorem setFsc_draw (n : Nat) (x : Fsc) (s : State) : (setFsc n x s).draw = s.draw := rfl
@[simp] theorem setFsc_out (n : Nat) (x : Fsc) (s : State) : (setFsc n x s).out = s.out := rfl
@[simp] theorem setFsc_regs (n : Nat) (x : Fsc) (s : State) : (setFsc n x s).regs = s.regs := rfl
@[simp] theorem setFsc_staged (n : Nat) (x : Fsc) (s : State) : (setFsc n x s).staged = s.staged := rfl
@[simp] theorem setFsc_pairs (n : Nat) (x : Fsc) (s : State) : (setFsc n x s).pairs = s.pairs := rfl
@[simp] theorem setFsc_ready (n : Nat) (x : Fsc) (s : State) : (setFsc n x s).ready = s.ready := rfl
@[simp] theorem setFsc_cnts (n : Nat) (x : Fsc) (s : State) : (setFsc n x s).cnts = s.cnts := rfl
@[simp] theorem setFsc_stk (n : Nat) (x : Fsc) (s : State) : (setFsc n x s).stk = s.stk := rfl
@[simp] theorem setFsc_swq (n : Nat) (x : Fsc) (s : State) : (setFsc n x s).swq = s.swq := rfl
@[simp] theorem setFsc_places (n : Nat) (x : Fsc) (s : State) : (setFsc n x s).places = s.places := rfl
@[simp] theorem setFsc_engines (n : Nat) (x : Fsc) (s : State) : (setFsc n x s).engines = s.engines := rfl
@[simp] theorem setFsc_dio (n : Nat) (x : Fsc) (s : State) : (setFsc n x s).dio = s.dio := rfl
@[simp] theorem setFsc_ana (n : Nat) (x : Fsc) (s : State) : (setFsc n x s).ana = s.ana := rfl
@[simp] theorem setFsc_ports (n : Nat) (x : Fsc) (s : State) : (setFsc n x s).ports = s.ports := rfl
@[simp] theorem setFsc_byps (n : Nat) (x : Fsc) (s : State) : (setFsc n x s).byps = s.byps := rfl
@[simp] theorem setFsc_ring (n : Nat) (x : Fsc) (s : State) : (setFsc n x s).ring = s.ring := rfl
@[simp] theorem setFsc_rtime (n : Nat) (x : Fsc) (s : State) : (setFsc n x s).rtime = s.rtime := rfl
@[simp] theorem setFsc_hif (n : Nat) (x : Fsc) (s : State) : (setFsc n x s).hif = s.hif := rfl
@[simp] theorem setFsc_usb (n : Nat) (x : Fsc) (s : State) : (setFsc n x s).usb = s.usb := rfl
@[simp] theorem setFsc_desks (n : Nat) (x : Fsc) (s : State) : (setFsc n x s).desks = s.desks := rfl
@[simp] theorem setFsc_stw (n : Nat) (x : Fsc) (s : State) : (setFsc n x s).stw = s.stw := rfl
@[simp] theorem setFsc_pwr (n : Nat) (x : Fsc) (s : State) : (setFsc n x s).pwr = s.pwr := rfl
@[simp] theorem setFsc_flt (n : Nat) (x : Fsc) (s : State) : (setFsc n x s).flt = s.flt := rfl
@[simp] theorem setFsc_twin (n : Nat) (x : Fsc) (s : State) : (setFsc n x s).twin = s.twin := rfl
@[simp] theorem setFsc_sec (n : Nat) (x : Fsc) (s : State) : (setFsc n x s).sec = s.sec := rfl
@[simp] theorem setFsc_boot (n : Nat) (x : Fsc) (s : State) : (setFsc n x s).boot = s.boot := rfl

@[simp] theorem setFeed_pending (n : Nat) (x : Feed) (s : State) : (setFeed n x s).pending = s.pending := rfl
@[simp] theorem setFeed_clk (n : Nat) (x : Feed) (s : State) : (setFeed n x s).clk = s.clk := rfl
@[simp] theorem setFeed_ringNs (n : Nat) (x : Feed) (s : State) : (setFeed n x s).ringNs = s.ringNs := rfl
@[simp] theorem setFeed_cyc (n : Nat) (x : Feed) (s : State) : (setFeed n x s).cyc = s.cyc := rfl
@[simp] theorem setFeed_draw (n : Nat) (x : Feed) (s : State) : (setFeed n x s).draw = s.draw := rfl
@[simp] theorem setFeed_out (n : Nat) (x : Feed) (s : State) : (setFeed n x s).out = s.out := rfl
@[simp] theorem setFeed_regs (n : Nat) (x : Feed) (s : State) : (setFeed n x s).regs = s.regs := rfl
@[simp] theorem setFeed_staged (n : Nat) (x : Feed) (s : State) : (setFeed n x s).staged = s.staged := rfl
@[simp] theorem setFeed_pairs (n : Nat) (x : Feed) (s : State) : (setFeed n x s).pairs = s.pairs := rfl
@[simp] theorem setFeed_ready (n : Nat) (x : Feed) (s : State) : (setFeed n x s).ready = s.ready := rfl
@[simp] theorem setFeed_cnts (n : Nat) (x : Feed) (s : State) : (setFeed n x s).cnts = s.cnts := rfl
@[simp] theorem setFeed_stk (n : Nat) (x : Feed) (s : State) : (setFeed n x s).stk = s.stk := rfl
@[simp] theorem setFeed_swq (n : Nat) (x : Feed) (s : State) : (setFeed n x s).swq = s.swq := rfl
@[simp] theorem setFeed_places (n : Nat) (x : Feed) (s : State) : (setFeed n x s).places = s.places := rfl
@[simp] theorem setFeed_engines (n : Nat) (x : Feed) (s : State) : (setFeed n x s).engines = s.engines := rfl
@[simp] theorem setFeed_dio (n : Nat) (x : Feed) (s : State) : (setFeed n x s).dio = s.dio := rfl
@[simp] theorem setFeed_ana (n : Nat) (x : Feed) (s : State) : (setFeed n x s).ana = s.ana := rfl
@[simp] theorem setFeed_ports (n : Nat) (x : Feed) (s : State) : (setFeed n x s).ports = s.ports := rfl
@[simp] theorem setFeed_byps (n : Nat) (x : Feed) (s : State) : (setFeed n x s).byps = s.byps := rfl
@[simp] theorem setFeed_ring (n : Nat) (x : Feed) (s : State) : (setFeed n x s).ring = s.ring := rfl
@[simp] theorem setFeed_rtime (n : Nat) (x : Feed) (s : State) : (setFeed n x s).rtime = s.rtime := rfl
@[simp] theorem setFeed_hif (n : Nat) (x : Feed) (s : State) : (setFeed n x s).hif = s.hif := rfl
@[simp] theorem setFeed_usb (n : Nat) (x : Feed) (s : State) : (setFeed n x s).usb = s.usb := rfl
@[simp] theorem setFeed_desks (n : Nat) (x : Feed) (s : State) : (setFeed n x s).desks = s.desks := rfl
@[simp] theorem setFeed_stw (n : Nat) (x : Feed) (s : State) : (setFeed n x s).stw = s.stw := rfl
@[simp] theorem setFeed_pwr (n : Nat) (x : Feed) (s : State) : (setFeed n x s).pwr = s.pwr := rfl
@[simp] theorem setFeed_flt (n : Nat) (x : Feed) (s : State) : (setFeed n x s).flt = s.flt := rfl
@[simp] theorem setFeed_twin (n : Nat) (x : Feed) (s : State) : (setFeed n x s).twin = s.twin := rfl
@[simp] theorem setFeed_sec (n : Nat) (x : Feed) (s : State) : (setFeed n x s).sec = s.sec := rfl
@[simp] theorem setFeed_boot (n : Nat) (x : Feed) (s : State) : (setFeed n x s).boot = s.boot := rfl

@[simp] theorem setSq_pending (n : Nat) (x : Sq) (s : State) : (setSq n x s).pending = s.pending := rfl
@[simp] theorem setSq_clk (n : Nat) (x : Sq) (s : State) : (setSq n x s).clk = s.clk := rfl
@[simp] theorem setSq_ringNs (n : Nat) (x : Sq) (s : State) : (setSq n x s).ringNs = s.ringNs := rfl
@[simp] theorem setSq_cyc (n : Nat) (x : Sq) (s : State) : (setSq n x s).cyc = s.cyc := rfl
@[simp] theorem setSq_draw (n : Nat) (x : Sq) (s : State) : (setSq n x s).draw = s.draw := rfl
@[simp] theorem setSq_out (n : Nat) (x : Sq) (s : State) : (setSq n x s).out = s.out := rfl
@[simp] theorem setSq_regs (n : Nat) (x : Sq) (s : State) : (setSq n x s).regs = s.regs := rfl
@[simp] theorem setSq_staged (n : Nat) (x : Sq) (s : State) : (setSq n x s).staged = s.staged := rfl
@[simp] theorem setSq_pairs (n : Nat) (x : Sq) (s : State) : (setSq n x s).pairs = s.pairs := rfl
@[simp] theorem setSq_ready (n : Nat) (x : Sq) (s : State) : (setSq n x s).ready = s.ready := rfl
@[simp] theorem setSq_cnts (n : Nat) (x : Sq) (s : State) : (setSq n x s).cnts = s.cnts := rfl
@[simp] theorem setSq_stk (n : Nat) (x : Sq) (s : State) : (setSq n x s).stk = s.stk := rfl
@[simp] theorem setSq_swq (n : Nat) (x : Sq) (s : State) : (setSq n x s).swq = s.swq := rfl
@[simp] theorem setSq_places (n : Nat) (x : Sq) (s : State) : (setSq n x s).places = s.places := rfl
@[simp] theorem setSq_engines (n : Nat) (x : Sq) (s : State) : (setSq n x s).engines = s.engines := rfl
@[simp] theorem setSq_dio (n : Nat) (x : Sq) (s : State) : (setSq n x s).dio = s.dio := rfl
@[simp] theorem setSq_ana (n : Nat) (x : Sq) (s : State) : (setSq n x s).ana = s.ana := rfl
@[simp] theorem setSq_ports (n : Nat) (x : Sq) (s : State) : (setSq n x s).ports = s.ports := rfl
@[simp] theorem setSq_byps (n : Nat) (x : Sq) (s : State) : (setSq n x s).byps = s.byps := rfl
@[simp] theorem setSq_ring (n : Nat) (x : Sq) (s : State) : (setSq n x s).ring = s.ring := rfl
@[simp] theorem setSq_rtime (n : Nat) (x : Sq) (s : State) : (setSq n x s).rtime = s.rtime := rfl
@[simp] theorem setSq_usb (n : Nat) (x : Sq) (s : State) : (setSq n x s).usb = s.usb := rfl
@[simp] theorem setSq_desks (n : Nat) (x : Sq) (s : State) : (setSq n x s).desks = s.desks := rfl
@[simp] theorem setSq_stw (n : Nat) (x : Sq) (s : State) : (setSq n x s).stw = s.stw := rfl
@[simp] theorem setSq_fed (n : Nat) (x : Sq) (s : State) : (setSq n x s).fed = s.fed := rfl
@[simp] theorem setSq_pwr (n : Nat) (x : Sq) (s : State) : (setSq n x s).pwr = s.pwr := rfl
@[simp] theorem setSq_flt (n : Nat) (x : Sq) (s : State) : (setSq n x s).flt = s.flt := rfl
@[simp] theorem setSq_twin (n : Nat) (x : Sq) (s : State) : (setSq n x s).twin = s.twin := rfl
@[simp] theorem setSq_sec (n : Nat) (x : Sq) (s : State) : (setSq n x s).sec = s.sec := rfl
@[simp] theorem setSq_boot (n : Nat) (x : Sq) (s : State) : (setSq n x s).boot = s.boot := rfl

@[simp] theorem setCq_pending (n : Nat) (x : Cq) (s : State) : (setCq n x s).pending = s.pending := rfl
@[simp] theorem setCq_clk (n : Nat) (x : Cq) (s : State) : (setCq n x s).clk = s.clk := rfl
@[simp] theorem setCq_ringNs (n : Nat) (x : Cq) (s : State) : (setCq n x s).ringNs = s.ringNs := rfl
@[simp] theorem setCq_cyc (n : Nat) (x : Cq) (s : State) : (setCq n x s).cyc = s.cyc := rfl
@[simp] theorem setCq_draw (n : Nat) (x : Cq) (s : State) : (setCq n x s).draw = s.draw := rfl
@[simp] theorem setCq_out (n : Nat) (x : Cq) (s : State) : (setCq n x s).out = s.out := rfl
@[simp] theorem setCq_regs (n : Nat) (x : Cq) (s : State) : (setCq n x s).regs = s.regs := rfl
@[simp] theorem setCq_staged (n : Nat) (x : Cq) (s : State) : (setCq n x s).staged = s.staged := rfl
@[simp] theorem setCq_pairs (n : Nat) (x : Cq) (s : State) : (setCq n x s).pairs = s.pairs := rfl
@[simp] theorem setCq_ready (n : Nat) (x : Cq) (s : State) : (setCq n x s).ready = s.ready := rfl
@[simp] theorem setCq_cnts (n : Nat) (x : Cq) (s : State) : (setCq n x s).cnts = s.cnts := rfl
@[simp] theorem setCq_stk (n : Nat) (x : Cq) (s : State) : (setCq n x s).stk = s.stk := rfl
@[simp] theorem setCq_swq (n : Nat) (x : Cq) (s : State) : (setCq n x s).swq = s.swq := rfl
@[simp] theorem setCq_places (n : Nat) (x : Cq) (s : State) : (setCq n x s).places = s.places := rfl
@[simp] theorem setCq_engines (n : Nat) (x : Cq) (s : State) : (setCq n x s).engines = s.engines := rfl
@[simp] theorem setCq_dio (n : Nat) (x : Cq) (s : State) : (setCq n x s).dio = s.dio := rfl
@[simp] theorem setCq_ana (n : Nat) (x : Cq) (s : State) : (setCq n x s).ana = s.ana := rfl
@[simp] theorem setCq_ports (n : Nat) (x : Cq) (s : State) : (setCq n x s).ports = s.ports := rfl
@[simp] theorem setCq_byps (n : Nat) (x : Cq) (s : State) : (setCq n x s).byps = s.byps := rfl
@[simp] theorem setCq_ring (n : Nat) (x : Cq) (s : State) : (setCq n x s).ring = s.ring := rfl
@[simp] theorem setCq_rtime (n : Nat) (x : Cq) (s : State) : (setCq n x s).rtime = s.rtime := rfl
@[simp] theorem setCq_usb (n : Nat) (x : Cq) (s : State) : (setCq n x s).usb = s.usb := rfl
@[simp] theorem setCq_desks (n : Nat) (x : Cq) (s : State) : (setCq n x s).desks = s.desks := rfl
@[simp] theorem setCq_stw (n : Nat) (x : Cq) (s : State) : (setCq n x s).stw = s.stw := rfl
@[simp] theorem setCq_fed (n : Nat) (x : Cq) (s : State) : (setCq n x s).fed = s.fed := rfl
@[simp] theorem setCq_pwr (n : Nat) (x : Cq) (s : State) : (setCq n x s).pwr = s.pwr := rfl
@[simp] theorem setCq_flt (n : Nat) (x : Cq) (s : State) : (setCq n x s).flt = s.flt := rfl
@[simp] theorem setCq_twin (n : Nat) (x : Cq) (s : State) : (setCq n x s).twin = s.twin := rfl
@[simp] theorem setCq_sec (n : Nat) (x : Cq) (s : State) : (setCq n x s).sec = s.sec := rfl
@[simp] theorem setCq_boot (n : Nat) (x : Cq) (s : State) : (setCq n x s).boot = s.boot := rfl

@[simp] theorem setSlot_pending (n : Nat) (x : KeySlot) (s : State) : (setSlot n x s).pending = s.pending := rfl
@[simp] theorem setSlot_clk (n : Nat) (x : KeySlot) (s : State) : (setSlot n x s).clk = s.clk := rfl
@[simp] theorem setSlot_ringNs (n : Nat) (x : KeySlot) (s : State) : (setSlot n x s).ringNs = s.ringNs := rfl
@[simp] theorem setSlot_cyc (n : Nat) (x : KeySlot) (s : State) : (setSlot n x s).cyc = s.cyc := rfl
@[simp] theorem setSlot_draw (n : Nat) (x : KeySlot) (s : State) : (setSlot n x s).draw = s.draw := rfl
@[simp] theorem setSlot_out (n : Nat) (x : KeySlot) (s : State) : (setSlot n x s).out = s.out := rfl
@[simp] theorem setSlot_regs (n : Nat) (x : KeySlot) (s : State) : (setSlot n x s).regs = s.regs := rfl
@[simp] theorem setSlot_staged (n : Nat) (x : KeySlot) (s : State) : (setSlot n x s).staged = s.staged := rfl
@[simp] theorem setSlot_pairs (n : Nat) (x : KeySlot) (s : State) : (setSlot n x s).pairs = s.pairs := rfl
@[simp] theorem setSlot_ready (n : Nat) (x : KeySlot) (s : State) : (setSlot n x s).ready = s.ready := rfl
@[simp] theorem setSlot_cnts (n : Nat) (x : KeySlot) (s : State) : (setSlot n x s).cnts = s.cnts := rfl
@[simp] theorem setSlot_stk (n : Nat) (x : KeySlot) (s : State) : (setSlot n x s).stk = s.stk := rfl
@[simp] theorem setSlot_swq (n : Nat) (x : KeySlot) (s : State) : (setSlot n x s).swq = s.swq := rfl
@[simp] theorem setSlot_places (n : Nat) (x : KeySlot) (s : State) : (setSlot n x s).places = s.places := rfl
@[simp] theorem setSlot_engines (n : Nat) (x : KeySlot) (s : State) : (setSlot n x s).engines = s.engines := rfl
@[simp] theorem setSlot_dio (n : Nat) (x : KeySlot) (s : State) : (setSlot n x s).dio = s.dio := rfl
@[simp] theorem setSlot_ana (n : Nat) (x : KeySlot) (s : State) : (setSlot n x s).ana = s.ana := rfl
@[simp] theorem setSlot_ports (n : Nat) (x : KeySlot) (s : State) : (setSlot n x s).ports = s.ports := rfl
@[simp] theorem setSlot_byps (n : Nat) (x : KeySlot) (s : State) : (setSlot n x s).byps = s.byps := rfl
@[simp] theorem setSlot_ring (n : Nat) (x : KeySlot) (s : State) : (setSlot n x s).ring = s.ring := rfl
@[simp] theorem setSlot_rtime (n : Nat) (x : KeySlot) (s : State) : (setSlot n x s).rtime = s.rtime := rfl
@[simp] theorem setSlot_hif (n : Nat) (x : KeySlot) (s : State) : (setSlot n x s).hif = s.hif := rfl
@[simp] theorem setSlot_usb (n : Nat) (x : KeySlot) (s : State) : (setSlot n x s).usb = s.usb := rfl
@[simp] theorem setSlot_desks (n : Nat) (x : KeySlot) (s : State) : (setSlot n x s).desks = s.desks := rfl
@[simp] theorem setSlot_stw (n : Nat) (x : KeySlot) (s : State) : (setSlot n x s).stw = s.stw := rfl
@[simp] theorem setSlot_fed (n : Nat) (x : KeySlot) (s : State) : (setSlot n x s).fed = s.fed := rfl
@[simp] theorem setSlot_pwr (n : Nat) (x : KeySlot) (s : State) : (setSlot n x s).pwr = s.pwr := rfl
@[simp] theorem setSlot_flt (n : Nat) (x : KeySlot) (s : State) : (setSlot n x s).flt = s.flt := rfl
@[simp] theorem setSlot_twin (n : Nat) (x : KeySlot) (s : State) : (setSlot n x s).twin = s.twin := rfl
@[simp] theorem setSlot_boot (n : Nat) (x : KeySlot) (s : State) : (setSlot n x s).boot = s.boot := rfl

@[simp] theorem setVol_pending (n : Nat) (x : Volume) (s : State) : (setVol n x s).pending = s.pending := rfl
@[simp] theorem setVol_clk (n : Nat) (x : Volume) (s : State) : (setVol n x s).clk = s.clk := rfl
@[simp] theorem setVol_ringNs (n : Nat) (x : Volume) (s : State) : (setVol n x s).ringNs = s.ringNs := rfl
@[simp] theorem setVol_cyc (n : Nat) (x : Volume) (s : State) : (setVol n x s).cyc = s.cyc := rfl
@[simp] theorem setVol_draw (n : Nat) (x : Volume) (s : State) : (setVol n x s).draw = s.draw := rfl
@[simp] theorem setVol_out (n : Nat) (x : Volume) (s : State) : (setVol n x s).out = s.out := rfl
@[simp] theorem setVol_regs (n : Nat) (x : Volume) (s : State) : (setVol n x s).regs = s.regs := rfl
@[simp] theorem setVol_staged (n : Nat) (x : Volume) (s : State) : (setVol n x s).staged = s.staged := rfl
@[simp] theorem setVol_pairs (n : Nat) (x : Volume) (s : State) : (setVol n x s).pairs = s.pairs := rfl
@[simp] theorem setVol_ready (n : Nat) (x : Volume) (s : State) : (setVol n x s).ready = s.ready := rfl
@[simp] theorem setVol_cnts (n : Nat) (x : Volume) (s : State) : (setVol n x s).cnts = s.cnts := rfl
@[simp] theorem setVol_stk (n : Nat) (x : Volume) (s : State) : (setVol n x s).stk = s.stk := rfl
@[simp] theorem setVol_swq (n : Nat) (x : Volume) (s : State) : (setVol n x s).swq = s.swq := rfl
@[simp] theorem setVol_places (n : Nat) (x : Volume) (s : State) : (setVol n x s).places = s.places := rfl
@[simp] theorem setVol_engines (n : Nat) (x : Volume) (s : State) : (setVol n x s).engines = s.engines := rfl
@[simp] theorem setVol_dio (n : Nat) (x : Volume) (s : State) : (setVol n x s).dio = s.dio := rfl
@[simp] theorem setVol_ana (n : Nat) (x : Volume) (s : State) : (setVol n x s).ana = s.ana := rfl
@[simp] theorem setVol_ports (n : Nat) (x : Volume) (s : State) : (setVol n x s).ports = s.ports := rfl
@[simp] theorem setVol_byps (n : Nat) (x : Volume) (s : State) : (setVol n x s).byps = s.byps := rfl
@[simp] theorem setVol_ring (n : Nat) (x : Volume) (s : State) : (setVol n x s).ring = s.ring := rfl
@[simp] theorem setVol_rtime (n : Nat) (x : Volume) (s : State) : (setVol n x s).rtime = s.rtime := rfl
@[simp] theorem setVol_hif (n : Nat) (x : Volume) (s : State) : (setVol n x s).hif = s.hif := rfl
@[simp] theorem setVol_usb (n : Nat) (x : Volume) (s : State) : (setVol n x s).usb = s.usb := rfl
@[simp] theorem setVol_desks (n : Nat) (x : Volume) (s : State) : (setVol n x s).desks = s.desks := rfl
@[simp] theorem setVol_stw (n : Nat) (x : Volume) (s : State) : (setVol n x s).stw = s.stw := rfl
@[simp] theorem setVol_fed (n : Nat) (x : Volume) (s : State) : (setVol n x s).fed = s.fed := rfl
@[simp] theorem setVol_pwr (n : Nat) (x : Volume) (s : State) : (setVol n x s).pwr = s.pwr := rfl
@[simp] theorem setVol_flt (n : Nat) (x : Volume) (s : State) : (setVol n x s).flt = s.flt := rfl
@[simp] theorem setVol_twin (n : Nat) (x : Volume) (s : State) : (setVol n x s).twin = s.twin := rfl
@[simp] theorem setVol_boot (n : Nat) (x : Volume) (s : State) : (setVol n x s).boot = s.boot := rfl

@[simp] theorem setQ_pending (n : Nat) (l : List Nat) (s : State) : (setQ n l s).pending = s.pending := rfl
@[simp] theorem setQ_clk (n : Nat) (l : List Nat) (s : State) : (setQ n l s).clk = s.clk := rfl
@[simp] theorem setQ_ringNs (n : Nat) (l : List Nat) (s : State) : (setQ n l s).ringNs = s.ringNs := rfl
@[simp] theorem setQ_cyc (n : Nat) (l : List Nat) (s : State) : (setQ n l s).cyc = s.cyc := rfl
@[simp] theorem setQ_draw (n : Nat) (l : List Nat) (s : State) : (setQ n l s).draw = s.draw := rfl
@[simp] theorem setQ_out (n : Nat) (l : List Nat) (s : State) : (setQ n l s).out = s.out := rfl
@[simp] theorem setQ_regs (n : Nat) (l : List Nat) (s : State) : (setQ n l s).regs = s.regs := rfl
@[simp] theorem setQ_staged (n : Nat) (l : List Nat) (s : State) : (setQ n l s).staged = s.staged := rfl
@[simp] theorem setQ_pairs (n : Nat) (l : List Nat) (s : State) : (setQ n l s).pairs = s.pairs := rfl
@[simp] theorem setQ_ready (n : Nat) (l : List Nat) (s : State) : (setQ n l s).ready = s.ready := rfl
@[simp] theorem setQ_cnts (n : Nat) (l : List Nat) (s : State) : (setQ n l s).cnts = s.cnts := rfl
@[simp] theorem setQ_stk (n : Nat) (l : List Nat) (s : State) : (setQ n l s).stk = s.stk := rfl
@[simp] theorem setQ_places (n : Nat) (l : List Nat) (s : State) : (setQ n l s).places = s.places := rfl
@[simp] theorem setQ_engines (n : Nat) (l : List Nat) (s : State) : (setQ n l s).engines = s.engines := rfl
@[simp] theorem setQ_dio (n : Nat) (l : List Nat) (s : State) : (setQ n l s).dio = s.dio := rfl
@[simp] theorem setQ_ana (n : Nat) (l : List Nat) (s : State) : (setQ n l s).ana = s.ana := rfl
@[simp] theorem setQ_ports (n : Nat) (l : List Nat) (s : State) : (setQ n l s).ports = s.ports := rfl
@[simp] theorem setQ_byps (n : Nat) (l : List Nat) (s : State) : (setQ n l s).byps = s.byps := rfl
@[simp] theorem setQ_ring (n : Nat) (l : List Nat) (s : State) : (setQ n l s).ring = s.ring := rfl
@[simp] theorem setQ_rtime (n : Nat) (l : List Nat) (s : State) : (setQ n l s).rtime = s.rtime := rfl
@[simp] theorem setQ_hif (n : Nat) (l : List Nat) (s : State) : (setQ n l s).hif = s.hif := rfl
@[simp] theorem setQ_usb (n : Nat) (l : List Nat) (s : State) : (setQ n l s).usb = s.usb := rfl
@[simp] theorem setQ_desks (n : Nat) (l : List Nat) (s : State) : (setQ n l s).desks = s.desks := rfl
@[simp] theorem setQ_stw (n : Nat) (l : List Nat) (s : State) : (setQ n l s).stw = s.stw := rfl
@[simp] theorem setQ_fed (n : Nat) (l : List Nat) (s : State) : (setQ n l s).fed = s.fed := rfl
@[simp] theorem setQ_pwr (n : Nat) (l : List Nat) (s : State) : (setQ n l s).pwr = s.pwr := rfl
@[simp] theorem setQ_flt (n : Nat) (l : List Nat) (s : State) : (setQ n l s).flt = s.flt := rfl
@[simp] theorem setQ_twin (n : Nat) (l : List Nat) (s : State) : (setQ n l s).twin = s.twin := rfl
@[simp] theorem setQ_sec (n : Nat) (l : List Nat) (s : State) : (setQ n l s).sec = s.sec := rfl
@[simp] theorem setQ_boot (n : Nat) (l : List Nat) (s : State) : (setQ n l s).boot = s.boot := rfl

@[simp] theorem setItem_pending (n : Nat) (x : Option Item) (s : State) : (setItem n x s).pending = s.pending := rfl
@[simp] theorem setItem_clk (n : Nat) (x : Option Item) (s : State) : (setItem n x s).clk = s.clk := rfl
@[simp] theorem setItem_ringNs (n : Nat) (x : Option Item) (s : State) : (setItem n x s).ringNs = s.ringNs := rfl
@[simp] theorem setItem_cyc (n : Nat) (x : Option Item) (s : State) : (setItem n x s).cyc = s.cyc := rfl
@[simp] theorem setItem_draw (n : Nat) (x : Option Item) (s : State) : (setItem n x s).draw = s.draw := rfl
@[simp] theorem setItem_out (n : Nat) (x : Option Item) (s : State) : (setItem n x s).out = s.out := rfl
@[simp] theorem setItem_regs (n : Nat) (x : Option Item) (s : State) : (setItem n x s).regs = s.regs := rfl
@[simp] theorem setItem_staged (n : Nat) (x : Option Item) (s : State) : (setItem n x s).staged = s.staged := rfl
@[simp] theorem setItem_pairs (n : Nat) (x : Option Item) (s : State) : (setItem n x s).pairs = s.pairs := rfl
@[simp] theorem setItem_ready (n : Nat) (x : Option Item) (s : State) : (setItem n x s).ready = s.ready := rfl
@[simp] theorem setItem_cnts (n : Nat) (x : Option Item) (s : State) : (setItem n x s).cnts = s.cnts := rfl
@[simp] theorem setItem_stk (n : Nat) (x : Option Item) (s : State) : (setItem n x s).stk = s.stk := rfl
@[simp] theorem setItem_places (n : Nat) (x : Option Item) (s : State) : (setItem n x s).places = s.places := rfl
@[simp] theorem setItem_engines (n : Nat) (x : Option Item) (s : State) : (setItem n x s).engines = s.engines := rfl
@[simp] theorem setItem_dio (n : Nat) (x : Option Item) (s : State) : (setItem n x s).dio = s.dio := rfl
@[simp] theorem setItem_ana (n : Nat) (x : Option Item) (s : State) : (setItem n x s).ana = s.ana := rfl
@[simp] theorem setItem_ports (n : Nat) (x : Option Item) (s : State) : (setItem n x s).ports = s.ports := rfl
@[simp] theorem setItem_byps (n : Nat) (x : Option Item) (s : State) : (setItem n x s).byps = s.byps := rfl
@[simp] theorem setItem_ring (n : Nat) (x : Option Item) (s : State) : (setItem n x s).ring = s.ring := rfl
@[simp] theorem setItem_rtime (n : Nat) (x : Option Item) (s : State) : (setItem n x s).rtime = s.rtime := rfl
@[simp] theorem setItem_hif (n : Nat) (x : Option Item) (s : State) : (setItem n x s).hif = s.hif := rfl
@[simp] theorem setItem_usb (n : Nat) (x : Option Item) (s : State) : (setItem n x s).usb = s.usb := rfl
@[simp] theorem setItem_desks (n : Nat) (x : Option Item) (s : State) : (setItem n x s).desks = s.desks := rfl
@[simp] theorem setItem_stw (n : Nat) (x : Option Item) (s : State) : (setItem n x s).stw = s.stw := rfl
@[simp] theorem setItem_fed (n : Nat) (x : Option Item) (s : State) : (setItem n x s).fed = s.fed := rfl
@[simp] theorem setItem_pwr (n : Nat) (x : Option Item) (s : State) : (setItem n x s).pwr = s.pwr := rfl
@[simp] theorem setItem_flt (n : Nat) (x : Option Item) (s : State) : (setItem n x s).flt = s.flt := rfl
@[simp] theorem setItem_twin (n : Nat) (x : Option Item) (s : State) : (setItem n x s).twin = s.twin := rfl
@[simp] theorem setItem_sec (n : Nat) (x : Option Item) (s : State) : (setItem n x s).sec = s.sec := rfl
@[simp] theorem setItem_boot (n : Nat) (x : Option Item) (s : State) : (setItem n x s).boot = s.boot := rfl

@[simp] theorem setRecK_pending (k : Nat) (r : Rec) (s : State) : (setRecK k r s).pending = s.pending := rfl
@[simp] theorem setRecK_clk (k : Nat) (r : Rec) (s : State) : (setRecK k r s).clk = s.clk := rfl
@[simp] theorem setRecK_ringNs (k : Nat) (r : Rec) (s : State) : (setRecK k r s).ringNs = s.ringNs := rfl
@[simp] theorem setRecK_cyc (k : Nat) (r : Rec) (s : State) : (setRecK k r s).cyc = s.cyc := rfl
@[simp] theorem setRecK_draw (k : Nat) (r : Rec) (s : State) : (setRecK k r s).draw = s.draw := rfl
@[simp] theorem setRecK_out (k : Nat) (r : Rec) (s : State) : (setRecK k r s).out = s.out := rfl
@[simp] theorem setRecK_regs (k : Nat) (r : Rec) (s : State) : (setRecK k r s).regs = s.regs := rfl
@[simp] theorem setRecK_staged (k : Nat) (r : Rec) (s : State) : (setRecK k r s).staged = s.staged := rfl
@[simp] theorem setRecK_pairs (k : Nat) (r : Rec) (s : State) : (setRecK k r s).pairs = s.pairs := rfl
@[simp] theorem setRecK_ready (k : Nat) (r : Rec) (s : State) : (setRecK k r s).ready = s.ready := rfl
@[simp] theorem setRecK_cnts (k : Nat) (r : Rec) (s : State) : (setRecK k r s).cnts = s.cnts := rfl
@[simp] theorem setRecK_swq (k : Nat) (r : Rec) (s : State) : (setRecK k r s).swq = s.swq := rfl
@[simp] theorem setRecK_places (k : Nat) (r : Rec) (s : State) : (setRecK k r s).places = s.places := rfl
@[simp] theorem setRecK_engines (k : Nat) (r : Rec) (s : State) : (setRecK k r s).engines = s.engines := rfl
@[simp] theorem setRecK_dio (k : Nat) (r : Rec) (s : State) : (setRecK k r s).dio = s.dio := rfl
@[simp] theorem setRecK_ana (k : Nat) (r : Rec) (s : State) : (setRecK k r s).ana = s.ana := rfl
@[simp] theorem setRecK_ports (k : Nat) (r : Rec) (s : State) : (setRecK k r s).ports = s.ports := rfl
@[simp] theorem setRecK_byps (k : Nat) (r : Rec) (s : State) : (setRecK k r s).byps = s.byps := rfl
@[simp] theorem setRecK_ring (k : Nat) (r : Rec) (s : State) : (setRecK k r s).ring = s.ring := rfl
@[simp] theorem setRecK_rtime (k : Nat) (r : Rec) (s : State) : (setRecK k r s).rtime = s.rtime := rfl
@[simp] theorem setRecK_hif (k : Nat) (r : Rec) (s : State) : (setRecK k r s).hif = s.hif := rfl
@[simp] theorem setRecK_usb (k : Nat) (r : Rec) (s : State) : (setRecK k r s).usb = s.usb := rfl
@[simp] theorem setRecK_desks (k : Nat) (r : Rec) (s : State) : (setRecK k r s).desks = s.desks := rfl
@[simp] theorem setRecK_stw (k : Nat) (r : Rec) (s : State) : (setRecK k r s).stw = s.stw := rfl
@[simp] theorem setRecK_fed (k : Nat) (r : Rec) (s : State) : (setRecK k r s).fed = s.fed := rfl
@[simp] theorem setRecK_pwr (k : Nat) (r : Rec) (s : State) : (setRecK k r s).pwr = s.pwr := rfl
@[simp] theorem setRecK_flt (k : Nat) (r : Rec) (s : State) : (setRecK k r s).flt = s.flt := rfl
@[simp] theorem setRecK_twin (k : Nat) (r : Rec) (s : State) : (setRecK k r s).twin = s.twin := rfl
@[simp] theorem setRecK_sec (k : Nat) (r : Rec) (s : State) : (setRecK k r s).sec = s.sec := rfl
@[simp] theorem setRecK_boot (k : Nat) (r : Rec) (s : State) : (setRecK k r s).boot = s.boot := rfl

@[simp] theorem setCatK_pending (k : Nat) (c : Cat) (s : State) : (setCatK k c s).pending = s.pending := rfl
@[simp] theorem setCatK_clk (k : Nat) (c : Cat) (s : State) : (setCatK k c s).clk = s.clk := rfl
@[simp] theorem setCatK_ringNs (k : Nat) (c : Cat) (s : State) : (setCatK k c s).ringNs = s.ringNs := rfl
@[simp] theorem setCatK_cyc (k : Nat) (c : Cat) (s : State) : (setCatK k c s).cyc = s.cyc := rfl
@[simp] theorem setCatK_draw (k : Nat) (c : Cat) (s : State) : (setCatK k c s).draw = s.draw := rfl
@[simp] theorem setCatK_out (k : Nat) (c : Cat) (s : State) : (setCatK k c s).out = s.out := rfl
@[simp] theorem setCatK_regs (k : Nat) (c : Cat) (s : State) : (setCatK k c s).regs = s.regs := rfl
@[simp] theorem setCatK_staged (k : Nat) (c : Cat) (s : State) : (setCatK k c s).staged = s.staged := rfl
@[simp] theorem setCatK_pairs (k : Nat) (c : Cat) (s : State) : (setCatK k c s).pairs = s.pairs := rfl
@[simp] theorem setCatK_ready (k : Nat) (c : Cat) (s : State) : (setCatK k c s).ready = s.ready := rfl
@[simp] theorem setCatK_cnts (k : Nat) (c : Cat) (s : State) : (setCatK k c s).cnts = s.cnts := rfl
@[simp] theorem setCatK_swq (k : Nat) (c : Cat) (s : State) : (setCatK k c s).swq = s.swq := rfl
@[simp] theorem setCatK_places (k : Nat) (c : Cat) (s : State) : (setCatK k c s).places = s.places := rfl
@[simp] theorem setCatK_engines (k : Nat) (c : Cat) (s : State) : (setCatK k c s).engines = s.engines := rfl
@[simp] theorem setCatK_dio (k : Nat) (c : Cat) (s : State) : (setCatK k c s).dio = s.dio := rfl
@[simp] theorem setCatK_ana (k : Nat) (c : Cat) (s : State) : (setCatK k c s).ana = s.ana := rfl
@[simp] theorem setCatK_ports (k : Nat) (c : Cat) (s : State) : (setCatK k c s).ports = s.ports := rfl
@[simp] theorem setCatK_byps (k : Nat) (c : Cat) (s : State) : (setCatK k c s).byps = s.byps := rfl
@[simp] theorem setCatK_ring (k : Nat) (c : Cat) (s : State) : (setCatK k c s).ring = s.ring := rfl
@[simp] theorem setCatK_rtime (k : Nat) (c : Cat) (s : State) : (setCatK k c s).rtime = s.rtime := rfl
@[simp] theorem setCatK_hif (k : Nat) (c : Cat) (s : State) : (setCatK k c s).hif = s.hif := rfl
@[simp] theorem setCatK_usb (k : Nat) (c : Cat) (s : State) : (setCatK k c s).usb = s.usb := rfl
@[simp] theorem setCatK_desks (k : Nat) (c : Cat) (s : State) : (setCatK k c s).desks = s.desks := rfl
@[simp] theorem setCatK_stw (k : Nat) (c : Cat) (s : State) : (setCatK k c s).stw = s.stw := rfl
@[simp] theorem setCatK_fed (k : Nat) (c : Cat) (s : State) : (setCatK k c s).fed = s.fed := rfl
@[simp] theorem setCatK_pwr (k : Nat) (c : Cat) (s : State) : (setCatK k c s).pwr = s.pwr := rfl
@[simp] theorem setCatK_flt (k : Nat) (c : Cat) (s : State) : (setCatK k c s).flt = s.flt := rfl
@[simp] theorem setCatK_twin (k : Nat) (c : Cat) (s : State) : (setCatK k c s).twin = s.twin := rfl
@[simp] theorem setCatK_sec (k : Nat) (c : Cat) (s : State) : (setCatK k c s).sec = s.sec := rfl
@[simp] theorem setCatK_boot (k : Nat) (c : Cat) (s : State) : (setCatK k c s).boot = s.boot := rfl

@[simp] theorem setStw_pending (x : Steward) (s : State) : (setStw x s).pending = s.pending := rfl
@[simp] theorem setStw_clk (x : Steward) (s : State) : (setStw x s).clk = s.clk := rfl
@[simp] theorem setStw_ringNs (x : Steward) (s : State) : (setStw x s).ringNs = s.ringNs := rfl
@[simp] theorem setStw_cyc (x : Steward) (s : State) : (setStw x s).cyc = s.cyc := rfl
@[simp] theorem setStw_draw (x : Steward) (s : State) : (setStw x s).draw = s.draw := rfl
@[simp] theorem setStw_out (x : Steward) (s : State) : (setStw x s).out = s.out := rfl
@[simp] theorem setStw_regs (x : Steward) (s : State) : (setStw x s).regs = s.regs := rfl
@[simp] theorem setStw_staged (x : Steward) (s : State) : (setStw x s).staged = s.staged := rfl
@[simp] theorem setStw_pairs (x : Steward) (s : State) : (setStw x s).pairs = s.pairs := rfl
@[simp] theorem setStw_ready (x : Steward) (s : State) : (setStw x s).ready = s.ready := rfl
@[simp] theorem setStw_cnts (x : Steward) (s : State) : (setStw x s).cnts = s.cnts := rfl
@[simp] theorem setStw_stk (x : Steward) (s : State) : (setStw x s).stk = s.stk := rfl
@[simp] theorem setStw_swq (x : Steward) (s : State) : (setStw x s).swq = s.swq := rfl
@[simp] theorem setStw_places (x : Steward) (s : State) : (setStw x s).places = s.places := rfl
@[simp] theorem setStw_engines (x : Steward) (s : State) : (setStw x s).engines = s.engines := rfl
@[simp] theorem setStw_dio (x : Steward) (s : State) : (setStw x s).dio = s.dio := rfl
@[simp] theorem setStw_ana (x : Steward) (s : State) : (setStw x s).ana = s.ana := rfl
@[simp] theorem setStw_ports (x : Steward) (s : State) : (setStw x s).ports = s.ports := rfl
@[simp] theorem setStw_byps (x : Steward) (s : State) : (setStw x s).byps = s.byps := rfl
@[simp] theorem setStw_ring (x : Steward) (s : State) : (setStw x s).ring = s.ring := rfl
@[simp] theorem setStw_rtime (x : Steward) (s : State) : (setStw x s).rtime = s.rtime := rfl
@[simp] theorem setStw_hif (x : Steward) (s : State) : (setStw x s).hif = s.hif := rfl
@[simp] theorem setStw_usb (x : Steward) (s : State) : (setStw x s).usb = s.usb := rfl
@[simp] theorem setStw_desks (x : Steward) (s : State) : (setStw x s).desks = s.desks := rfl
@[simp] theorem setStw_fed (x : Steward) (s : State) : (setStw x s).fed = s.fed := rfl
@[simp] theorem setStw_pwr (x : Steward) (s : State) : (setStw x s).pwr = s.pwr := rfl
@[simp] theorem setStw_flt (x : Steward) (s : State) : (setStw x s).flt = s.flt := rfl
@[simp] theorem setStw_twin (x : Steward) (s : State) : (setStw x s).twin = s.twin := rfl
@[simp] theorem setStw_sec (x : Steward) (s : State) : (setStw x s).sec = s.sec := rfl
@[simp] theorem setStw_boot (x : Steward) (s : State) : (setStw x s).boot = s.boot := rfl

@[simp] theorem setTwin_pending (x : Twin) (s : State) : (setTwin x s).pending = s.pending := rfl
@[simp] theorem setTwin_clk (x : Twin) (s : State) : (setTwin x s).clk = s.clk := rfl
@[simp] theorem setTwin_ringNs (x : Twin) (s : State) : (setTwin x s).ringNs = s.ringNs := rfl
@[simp] theorem setTwin_cyc (x : Twin) (s : State) : (setTwin x s).cyc = s.cyc := rfl
@[simp] theorem setTwin_draw (x : Twin) (s : State) : (setTwin x s).draw = s.draw := rfl
@[simp] theorem setTwin_out (x : Twin) (s : State) : (setTwin x s).out = s.out := rfl
@[simp] theorem setTwin_regs (x : Twin) (s : State) : (setTwin x s).regs = s.regs := rfl
@[simp] theorem setTwin_staged (x : Twin) (s : State) : (setTwin x s).staged = s.staged := rfl
@[simp] theorem setTwin_pairs (x : Twin) (s : State) : (setTwin x s).pairs = s.pairs := rfl
@[simp] theorem setTwin_ready (x : Twin) (s : State) : (setTwin x s).ready = s.ready := rfl
@[simp] theorem setTwin_cnts (x : Twin) (s : State) : (setTwin x s).cnts = s.cnts := rfl
@[simp] theorem setTwin_stk (x : Twin) (s : State) : (setTwin x s).stk = s.stk := rfl
@[simp] theorem setTwin_swq (x : Twin) (s : State) : (setTwin x s).swq = s.swq := rfl
@[simp] theorem setTwin_places (x : Twin) (s : State) : (setTwin x s).places = s.places := rfl
@[simp] theorem setTwin_engines (x : Twin) (s : State) : (setTwin x s).engines = s.engines := rfl
@[simp] theorem setTwin_dio (x : Twin) (s : State) : (setTwin x s).dio = s.dio := rfl
@[simp] theorem setTwin_ana (x : Twin) (s : State) : (setTwin x s).ana = s.ana := rfl
@[simp] theorem setTwin_ports (x : Twin) (s : State) : (setTwin x s).ports = s.ports := rfl
@[simp] theorem setTwin_byps (x : Twin) (s : State) : (setTwin x s).byps = s.byps := rfl
@[simp] theorem setTwin_ring (x : Twin) (s : State) : (setTwin x s).ring = s.ring := rfl
@[simp] theorem setTwin_rtime (x : Twin) (s : State) : (setTwin x s).rtime = s.rtime := rfl
@[simp] theorem setTwin_hif (x : Twin) (s : State) : (setTwin x s).hif = s.hif := rfl
@[simp] theorem setTwin_usb (x : Twin) (s : State) : (setTwin x s).usb = s.usb := rfl
@[simp] theorem setTwin_desks (x : Twin) (s : State) : (setTwin x s).desks = s.desks := rfl
@[simp] theorem setTwin_stw (x : Twin) (s : State) : (setTwin x s).stw = s.stw := rfl
@[simp] theorem setTwin_fed (x : Twin) (s : State) : (setTwin x s).fed = s.fed := rfl
@[simp] theorem setTwin_pwr (x : Twin) (s : State) : (setTwin x s).pwr = s.pwr := rfl
@[simp] theorem setTwin_flt (x : Twin) (s : State) : (setTwin x s).flt = s.flt := rfl
@[simp] theorem setTwin_sec (x : Twin) (s : State) : (setTwin x s).sec = s.sec := rfl
@[simp] theorem setTwin_boot (x : Twin) (s : State) : (setTwin x s).boot = s.boot := rfl

@[simp] theorem setFed_pending (x : Fed) (s : State) : (setFed x s).pending = s.pending := rfl
@[simp] theorem setFed_clk (x : Fed) (s : State) : (setFed x s).clk = s.clk := rfl
@[simp] theorem setFed_ringNs (x : Fed) (s : State) : (setFed x s).ringNs = s.ringNs := rfl
@[simp] theorem setFed_cyc (x : Fed) (s : State) : (setFed x s).cyc = s.cyc := rfl
@[simp] theorem setFed_draw (x : Fed) (s : State) : (setFed x s).draw = s.draw := rfl
@[simp] theorem setFed_out (x : Fed) (s : State) : (setFed x s).out = s.out := rfl
@[simp] theorem setFed_regs (x : Fed) (s : State) : (setFed x s).regs = s.regs := rfl
@[simp] theorem setFed_staged (x : Fed) (s : State) : (setFed x s).staged = s.staged := rfl
@[simp] theorem setFed_pairs (x : Fed) (s : State) : (setFed x s).pairs = s.pairs := rfl
@[simp] theorem setFed_ready (x : Fed) (s : State) : (setFed x s).ready = s.ready := rfl
@[simp] theorem setFed_cnts (x : Fed) (s : State) : (setFed x s).cnts = s.cnts := rfl
@[simp] theorem setFed_stk (x : Fed) (s : State) : (setFed x s).stk = s.stk := rfl
@[simp] theorem setFed_swq (x : Fed) (s : State) : (setFed x s).swq = s.swq := rfl
@[simp] theorem setFed_places (x : Fed) (s : State) : (setFed x s).places = s.places := rfl
@[simp] theorem setFed_engines (x : Fed) (s : State) : (setFed x s).engines = s.engines := rfl
@[simp] theorem setFed_dio (x : Fed) (s : State) : (setFed x s).dio = s.dio := rfl
@[simp] theorem setFed_ana (x : Fed) (s : State) : (setFed x s).ana = s.ana := rfl
@[simp] theorem setFed_ports (x : Fed) (s : State) : (setFed x s).ports = s.ports := rfl
@[simp] theorem setFed_byps (x : Fed) (s : State) : (setFed x s).byps = s.byps := rfl
@[simp] theorem setFed_ring (x : Fed) (s : State) : (setFed x s).ring = s.ring := rfl
@[simp] theorem setFed_rtime (x : Fed) (s : State) : (setFed x s).rtime = s.rtime := rfl
@[simp] theorem setFed_hif (x : Fed) (s : State) : (setFed x s).hif = s.hif := rfl
@[simp] theorem setFed_usb (x : Fed) (s : State) : (setFed x s).usb = s.usb := rfl
@[simp] theorem setFed_desks (x : Fed) (s : State) : (setFed x s).desks = s.desks := rfl
@[simp] theorem setFed_stw (x : Fed) (s : State) : (setFed x s).stw = s.stw := rfl
@[simp] theorem setFed_pwr (x : Fed) (s : State) : (setFed x s).pwr = s.pwr := rfl
@[simp] theorem setFed_flt (x : Fed) (s : State) : (setFed x s).flt = s.flt := rfl
@[simp] theorem setFed_twin (x : Fed) (s : State) : (setFed x s).twin = s.twin := rfl
@[simp] theorem setFed_sec (x : Fed) (s : State) : (setFed x s).sec = s.sec := rfl
@[simp] theorem setFed_boot (x : Fed) (s : State) : (setFed x s).boot = s.boot := rfl

@[simp] theorem bumpCnt_pending (k n : Nat) (s : State) : (bumpCnt k n s).pending = s.pending := rfl
@[simp] theorem bumpCnt_clk (k n : Nat) (s : State) : (bumpCnt k n s).clk = s.clk := rfl
@[simp] theorem bumpCnt_ringNs (k n : Nat) (s : State) : (bumpCnt k n s).ringNs = s.ringNs := rfl
@[simp] theorem bumpCnt_cyc (k n : Nat) (s : State) : (bumpCnt k n s).cyc = s.cyc := rfl
@[simp] theorem bumpCnt_draw (k n : Nat) (s : State) : (bumpCnt k n s).draw = s.draw := rfl
@[simp] theorem bumpCnt_out (k n : Nat) (s : State) : (bumpCnt k n s).out = s.out := rfl
@[simp] theorem bumpCnt_regs (k n : Nat) (s : State) : (bumpCnt k n s).regs = s.regs := rfl
@[simp] theorem bumpCnt_staged (k n : Nat) (s : State) : (bumpCnt k n s).staged = s.staged := rfl
@[simp] theorem bumpCnt_pairs (k n : Nat) (s : State) : (bumpCnt k n s).pairs = s.pairs := rfl
@[simp] theorem bumpCnt_ready (k n : Nat) (s : State) : (bumpCnt k n s).ready = s.ready := rfl
@[simp] theorem bumpCnt_stk (k n : Nat) (s : State) : (bumpCnt k n s).stk = s.stk := rfl
@[simp] theorem bumpCnt_swq (k n : Nat) (s : State) : (bumpCnt k n s).swq = s.swq := rfl
@[simp] theorem bumpCnt_places (k n : Nat) (s : State) : (bumpCnt k n s).places = s.places := rfl
@[simp] theorem bumpCnt_engines (k n : Nat) (s : State) : (bumpCnt k n s).engines = s.engines := rfl
@[simp] theorem bumpCnt_dio (k n : Nat) (s : State) : (bumpCnt k n s).dio = s.dio := rfl
@[simp] theorem bumpCnt_ana (k n : Nat) (s : State) : (bumpCnt k n s).ana = s.ana := rfl
@[simp] theorem bumpCnt_ports (k n : Nat) (s : State) : (bumpCnt k n s).ports = s.ports := rfl
@[simp] theorem bumpCnt_byps (k n : Nat) (s : State) : (bumpCnt k n s).byps = s.byps := rfl
@[simp] theorem bumpCnt_ring (k n : Nat) (s : State) : (bumpCnt k n s).ring = s.ring := rfl
@[simp] theorem bumpCnt_rtime (k n : Nat) (s : State) : (bumpCnt k n s).rtime = s.rtime := rfl
@[simp] theorem bumpCnt_hif (k n : Nat) (s : State) : (bumpCnt k n s).hif = s.hif := rfl
@[simp] theorem bumpCnt_usb (k n : Nat) (s : State) : (bumpCnt k n s).usb = s.usb := rfl
@[simp] theorem bumpCnt_desks (k n : Nat) (s : State) : (bumpCnt k n s).desks = s.desks := rfl
@[simp] theorem bumpCnt_stw (k n : Nat) (s : State) : (bumpCnt k n s).stw = s.stw := rfl
@[simp] theorem bumpCnt_fed (k n : Nat) (s : State) : (bumpCnt k n s).fed = s.fed := rfl
@[simp] theorem bumpCnt_pwr (k n : Nat) (s : State) : (bumpCnt k n s).pwr = s.pwr := rfl
@[simp] theorem bumpCnt_flt (k n : Nat) (s : State) : (bumpCnt k n s).flt = s.flt := rfl
@[simp] theorem bumpCnt_twin (k n : Nat) (s : State) : (bumpCnt k n s).twin = s.twin := rfl
@[simp] theorem bumpCnt_sec (k n : Nat) (s : State) : (bumpCnt k n s).sec = s.sec := rfl
@[simp] theorem bumpCnt_boot (k n : Nat) (s : State) : (bumpCnt k n s).boot = s.boot := rfl

/-! ### Updates and registers -/

@[simp] theorem reg_emit (x : Out) (s : State) (o : Nat) : reg (emit x s) o = reg s o := rfl
@[simp] theorem getF_emit (o : Out) (s : State) (f : Fld) : getF (emit o s) f = getF s f := rfl
@[simp] theorem flag_emit (o : Out) (s : State) (f : Fld) : flag (emit o s) f = flag s f := rfl
@[simp] theorem domOn_emit (o : Out) (s : State) (i : Nat) : domOn (emit o s) i = domOn s i := rfl
@[simp] theorem reg_drawn  (s : State) (o : Nat) : reg (drawn s) o = reg s o := rfl
@[simp] theorem getF_drawn  (s : State) (f : Fld) : getF (drawn s) f = getF s f := rfl
@[simp] theorem flag_drawn  (s : State) (f : Fld) : flag (drawn s) f = flag s f := rfl
@[simp] theorem domOn_drawn  (s : State) (i : Nat) : domOn (drawn s) i = domOn s i := rfl
@[simp] theorem reg_raise (n : Nat) (s : State) (o : Nat) : reg (raise n s) o = reg s o := rfl
@[simp] theorem getF_raise (n : Nat) (s : State) (f : Fld) : getF (raise n s) f = getF s f := rfl
@[simp] theorem flag_raise (n : Nat) (s : State) (f : Fld) : flag (raise n s) f = flag s f := rfl
@[simp] theorem domOn_raise (n : Nat) (s : State) (i : Nat) : domOn (raise n s) i = domOn s i := rfl
@[simp] theorem reg_causeOn (n : Nat) (s : State) (o : Nat) : reg (causeOn n s) o = reg s o := rfl
@[simp] theorem getF_causeOn (n : Nat) (s : State) (f : Fld) : getF (causeOn n s) f = getF s f := rfl
@[simp] theorem flag_causeOn (n : Nat) (s : State) (f : Fld) : flag (causeOn n s) f = flag s f := rfl
@[simp] theorem domOn_causeOn (n : Nat) (s : State) (i : Nat) : domOn (causeOn n s) i = domOn s i := rfl
@[simp] theorem reg_causeOff (n : Nat) (s : State) (o : Nat) : reg (causeOff n s) o = reg s o := rfl
@[simp] theorem getF_causeOff (n : Nat) (s : State) (f : Fld) : getF (causeOff n s) f = getF s f := rfl
@[simp] theorem flag_causeOff (n : Nat) (s : State) (f : Fld) : flag (causeOff n s) f = flag s f := rfl
@[simp] theorem domOn_causeOff (n : Nat) (s : State) (i : Nat) : domOn (causeOff n s) i = domOn s i := rfl
@[simp] theorem reg_setCnt (k : Nat) (c : Counter) (s : State) (o : Nat) : reg (setCnt k c s) o = reg s o := rfl
@[simp] theorem getF_setCnt (k : Nat) (c : Counter) (s : State) (f : Fld) : getF (setCnt k c s) f = getF s f := rfl
@[simp] theorem flag_setCnt (k : Nat) (c : Counter) (s : State) (f : Fld) : flag (setCnt k c s) f = flag s f := rfl
@[simp] theorem domOn_setCnt (k : Nat) (c : Counter) (s : State) (i : Nat) : domOn (setCnt k c s) i = domOn s i := rfl
@[simp] theorem reg_setPlace (n : Nat) (p : Place) (s : State) (o : Nat) : reg (setPlace n p s) o = reg s o := rfl
@[simp] theorem getF_setPlace (n : Nat) (p : Place) (s : State) (f : Fld) : getF (setPlace n p s) f = getF s f := rfl
@[simp] theorem flag_setPlace (n : Nat) (p : Place) (s : State) (f : Fld) : flag (setPlace n p s) f = flag s f := rfl
@[simp] theorem domOn_setPlace (n : Nat) (p : Place) (s : State) (i : Nat) : domOn (setPlace n p s) i = domOn s i := rfl
@[simp] theorem reg_setEngine (n : Nat) (x : Engine) (s : State) (o : Nat) : reg (setEngine n x s) o = reg s o := rfl
@[simp] theorem getF_setEngine (n : Nat) (x : Engine) (s : State) (f : Fld) : getF (setEngine n x s) f = getF s f := rfl
@[simp] theorem flag_setEngine (n : Nat) (x : Engine) (s : State) (f : Fld) : flag (setEngine n x s) f = flag s f := rfl
@[simp] theorem domOn_setEngine (n : Nat) (x : Engine) (s : State) (i : Nat) : domOn (setEngine n x s) i = domOn s i := rfl
@[simp] theorem reg_setLine (n : Nat) (x : Line) (s : State) (o : Nat) : reg (setLine n x s) o = reg s o := rfl
@[simp] theorem getF_setLine (n : Nat) (x : Line) (s : State) (f : Fld) : getF (setLine n x s) f = getF s f := rfl
@[simp] theorem flag_setLine (n : Nat) (x : Line) (s : State) (f : Fld) : flag (setLine n x s) f = flag s f := rfl
@[simp] theorem domOn_setLine (n : Nat) (x : Line) (s : State) (i : Nat) : domOn (setLine n x s) i = domOn s i := rfl
@[simp] theorem reg_setChan (n : Nat) (x : Chan) (s : State) (o : Nat) : reg (setChan n x s) o = reg s o := rfl
@[simp] theorem getF_setChan (n : Nat) (x : Chan) (s : State) (f : Fld) : getF (setChan n x s) f = getF s f := rfl
@[simp] theorem flag_setChan (n : Nat) (x : Chan) (s : State) (f : Fld) : flag (setChan n x s) f = flag s f := rfl
@[simp] theorem domOn_setChan (n : Nat) (x : Chan) (s : State) (i : Nat) : domOn (setChan n x s) i = domOn s i := rfl
@[simp] theorem reg_setPort (n : Nat) (x : Port) (s : State) (o : Nat) : reg (setPort n x s) o = reg s o := rfl
@[simp] theorem getF_setPort (n : Nat) (x : Port) (s : State) (f : Fld) : getF (setPort n x s) f = getF s f := rfl
@[simp] theorem flag_setPort (n : Nat) (x : Port) (s : State) (f : Fld) : flag (setPort n x s) f = flag s f := rfl
@[simp] theorem domOn_setPort (n : Nat) (x : Port) (s : State) (i : Nat) : domOn (setPort n x s) i = domOn s i := rfl
@[simp] theorem reg_setByp (n : Nat) (x : Bypass) (s : State) (o : Nat) : reg (setByp n x s) o = reg s o := rfl
@[simp] theorem getF_setByp (n : Nat) (x : Bypass) (s : State) (f : Fld) : getF (setByp n x s) f = getF s f := rfl
@[simp] theorem flag_setByp (n : Nat) (x : Bypass) (s : State) (f : Fld) : flag (setByp n x s) f = flag s f := rfl
@[simp] theorem domOn_setByp (n : Nat) (x : Bypass) (s : State) (i : Nat) : domOn (setByp n x s) i = domOn s i := rfl
@[simp] theorem reg_setDesk (n : Nat) (x : Desk) (s : State) (o : Nat) : reg (setDesk n x s) o = reg s o := rfl
@[simp] theorem getF_setDesk (n : Nat) (x : Desk) (s : State) (f : Fld) : getF (setDesk n x s) f = getF s f := rfl
@[simp] theorem flag_setDesk (n : Nat) (x : Desk) (s : State) (f : Fld) : flag (setDesk n x s) f = flag s f := rfl
@[simp] theorem domOn_setDesk (n : Nat) (x : Desk) (s : State) (i : Nat) : domOn (setDesk n x s) i = domOn s i := rfl
@[simp] theorem reg_setFsc (n : Nat) (x : Fsc) (s : State) (o : Nat) : reg (setFsc n x s) o = reg s o := rfl
@[simp] theorem getF_setFsc (n : Nat) (x : Fsc) (s : State) (f : Fld) : getF (setFsc n x s) f = getF s f := rfl
@[simp] theorem flag_setFsc (n : Nat) (x : Fsc) (s : State) (f : Fld) : flag (setFsc n x s) f = flag s f := rfl
@[simp] theorem domOn_setFsc (n : Nat) (x : Fsc) (s : State) (i : Nat) : domOn (setFsc n x s) i = domOn s i := rfl
@[simp] theorem reg_setFeed (n : Nat) (x : Feed) (s : State) (o : Nat) : reg (setFeed n x s) o = reg s o := rfl
@[simp] theorem getF_setFeed (n : Nat) (x : Feed) (s : State) (f : Fld) : getF (setFeed n x s) f = getF s f := rfl
@[simp] theorem flag_setFeed (n : Nat) (x : Feed) (s : State) (f : Fld) : flag (setFeed n x s) f = flag s f := rfl
@[simp] theorem domOn_setFeed (n : Nat) (x : Feed) (s : State) (i : Nat) : domOn (setFeed n x s) i = domOn s i := rfl
@[simp] theorem reg_setSq (n : Nat) (x : Sq) (s : State) (o : Nat) : reg (setSq n x s) o = reg s o := rfl
@[simp] theorem getF_setSq (n : Nat) (x : Sq) (s : State) (f : Fld) : getF (setSq n x s) f = getF s f := rfl
@[simp] theorem flag_setSq (n : Nat) (x : Sq) (s : State) (f : Fld) : flag (setSq n x s) f = flag s f := rfl
@[simp] theorem domOn_setSq (n : Nat) (x : Sq) (s : State) (i : Nat) : domOn (setSq n x s) i = domOn s i := rfl
@[simp] theorem reg_setCq (n : Nat) (x : Cq) (s : State) (o : Nat) : reg (setCq n x s) o = reg s o := rfl
@[simp] theorem getF_setCq (n : Nat) (x : Cq) (s : State) (f : Fld) : getF (setCq n x s) f = getF s f := rfl
@[simp] theorem flag_setCq (n : Nat) (x : Cq) (s : State) (f : Fld) : flag (setCq n x s) f = flag s f := rfl
@[simp] theorem domOn_setCq (n : Nat) (x : Cq) (s : State) (i : Nat) : domOn (setCq n x s) i = domOn s i := rfl
@[simp] theorem reg_setSlot (n : Nat) (x : KeySlot) (s : State) (o : Nat) : reg (setSlot n x s) o = reg s o := rfl
@[simp] theorem getF_setSlot (n : Nat) (x : KeySlot) (s : State) (f : Fld) : getF (setSlot n x s) f = getF s f := rfl
@[simp] theorem flag_setSlot (n : Nat) (x : KeySlot) (s : State) (f : Fld) : flag (setSlot n x s) f = flag s f := rfl
@[simp] theorem domOn_setSlot (n : Nat) (x : KeySlot) (s : State) (i : Nat) : domOn (setSlot n x s) i = domOn s i := rfl
@[simp] theorem reg_setVol (n : Nat) (x : Volume) (s : State) (o : Nat) : reg (setVol n x s) o = reg s o := rfl
@[simp] theorem getF_setVol (n : Nat) (x : Volume) (s : State) (f : Fld) : getF (setVol n x s) f = getF s f := rfl
@[simp] theorem flag_setVol (n : Nat) (x : Volume) (s : State) (f : Fld) : flag (setVol n x s) f = flag s f := rfl
@[simp] theorem domOn_setVol (n : Nat) (x : Volume) (s : State) (i : Nat) : domOn (setVol n x s) i = domOn s i := rfl
@[simp] theorem reg_setQ (n : Nat) (l : List Nat) (s : State) (o : Nat) : reg (setQ n l s) o = reg s o := rfl
@[simp] theorem getF_setQ (n : Nat) (l : List Nat) (s : State) (f : Fld) : getF (setQ n l s) f = getF s f := rfl
@[simp] theorem flag_setQ (n : Nat) (l : List Nat) (s : State) (f : Fld) : flag (setQ n l s) f = flag s f := rfl
@[simp] theorem domOn_setQ (n : Nat) (l : List Nat) (s : State) (i : Nat) : domOn (setQ n l s) i = domOn s i := rfl
@[simp] theorem reg_setItem (n : Nat) (x : Option Item) (s : State) (o : Nat) : reg (setItem n x s) o = reg s o := rfl
@[simp] theorem getF_setItem (n : Nat) (x : Option Item) (s : State) (f : Fld) : getF (setItem n x s) f = getF s f := rfl
@[simp] theorem flag_setItem (n : Nat) (x : Option Item) (s : State) (f : Fld) : flag (setItem n x s) f = flag s f := rfl
@[simp] theorem domOn_setItem (n : Nat) (x : Option Item) (s : State) (i : Nat) : domOn (setItem n x s) i = domOn s i := rfl
@[simp] theorem reg_setRecK (k : Nat) (r : Rec) (s : State) (o : Nat) : reg (setRecK k r s) o = reg s o := rfl
@[simp] theorem getF_setRecK (k : Nat) (r : Rec) (s : State) (f : Fld) : getF (setRecK k r s) f = getF s f := rfl
@[simp] theorem flag_setRecK (k : Nat) (r : Rec) (s : State) (f : Fld) : flag (setRecK k r s) f = flag s f := rfl
@[simp] theorem domOn_setRecK (k : Nat) (r : Rec) (s : State) (i : Nat) : domOn (setRecK k r s) i = domOn s i := rfl
@[simp] theorem reg_setCatK (k : Nat) (c : Cat) (s : State) (o : Nat) : reg (setCatK k c s) o = reg s o := rfl
@[simp] theorem getF_setCatK (k : Nat) (c : Cat) (s : State) (f : Fld) : getF (setCatK k c s) f = getF s f := rfl
@[simp] theorem flag_setCatK (k : Nat) (c : Cat) (s : State) (f : Fld) : flag (setCatK k c s) f = flag s f := rfl
@[simp] theorem domOn_setCatK (k : Nat) (c : Cat) (s : State) (i : Nat) : domOn (setCatK k c s) i = domOn s i := rfl
@[simp] theorem reg_setStw (x : Steward) (s : State) (o : Nat) : reg (setStw x s) o = reg s o := rfl
@[simp] theorem getF_setStw (x : Steward) (s : State) (f : Fld) : getF (setStw x s) f = getF s f := rfl
@[simp] theorem flag_setStw (x : Steward) (s : State) (f : Fld) : flag (setStw x s) f = flag s f := rfl
@[simp] theorem domOn_setStw (x : Steward) (s : State) (i : Nat) : domOn (setStw x s) i = domOn s i := rfl
@[simp] theorem reg_setTwin (x : Twin) (s : State) (o : Nat) : reg (setTwin x s) o = reg s o := rfl
@[simp] theorem getF_setTwin (x : Twin) (s : State) (f : Fld) : getF (setTwin x s) f = getF s f := rfl
@[simp] theorem flag_setTwin (x : Twin) (s : State) (f : Fld) : flag (setTwin x s) f = flag s f := rfl
@[simp] theorem domOn_setTwin (x : Twin) (s : State) (i : Nat) : domOn (setTwin x s) i = domOn s i := rfl
@[simp] theorem reg_setFed (x : Fed) (s : State) (o : Nat) : reg (setFed x s) o = reg s o := rfl
@[simp] theorem getF_setFed (x : Fed) (s : State) (f : Fld) : getF (setFed x s) f = getF s f := rfl
@[simp] theorem flag_setFed (x : Fed) (s : State) (f : Fld) : flag (setFed x s) f = flag s f := rfl
@[simp] theorem domOn_setFed (x : Fed) (s : State) (i : Nat) : domOn (setFed x s) i = domOn s i := rfl
@[simp] theorem reg_bumpCnt (k n : Nat) (s : State) (o : Nat) : reg (bumpCnt k n s) o = reg s o := rfl
@[simp] theorem getF_bumpCnt (k n : Nat) (s : State) (f : Fld) : getF (bumpCnt k n s) f = getF s f := rfl
@[simp] theorem flag_bumpCnt (k n : Nat) (s : State) (f : Fld) : flag (bumpCnt k n s) f = flag s f := rfl
@[simp] theorem domOn_bumpCnt (k n : Nat) (s : State) (i : Nat) : domOn (bumpCnt k n s) i = domOn s i := rfl

/-- An update of fields other than the registers leaves every register. -/
theorem reg_congr {s t : State} (h : t.regs = s.regs) (o : Nat) : reg t o = reg s o := by simp only [reg, h]
theorem getF_congr {s t : State} (h : t.regs = s.regs) (f : Fld) : getF t f = getF s f := by simp only [getF, reg, h]
theorem flag_congr {s t : State} (h : t.regs = s.regs) (f : Fld) : flag t f = flag s f := by simp only [flag, getF, reg, h]

@[simp] theorem reg_setReg (o p : Nat) (v : Word) (s : State) : reg (setReg o v s) p = if p = o then v else reg s p :=
  tget_tset _ _ _ _ _

/-! ### Fields -/

theorem bitsOf_lt (n lo w : Nat) : bitsOf n lo w < 2 ^ w := Nat.mod_lt _ (Nat.two_pow_pos w)

theorem getF_lt (s : State) (f : Fld) : getF s f < 2 ^ f.w := bitsOf_lt _ _ _

theorem testBit_bitsOf (n lo w i : Nat) : (bitsOf n lo w).testBit i = (decide (i < w) && n.testBit (lo + i)) := by
  simp only [bitsOf, Nat.testBit_mod_two_pow, Nat.testBit_shiftRight]

theorem testBit_putBits (n lo w v i : Nat) : (putBits n lo w v).testBit i =
    if i < lo then n.testBit i else if i < lo + w then v.testBit (i - lo) else n.testBit i := by
  have h1 : (v % 2 ^ w) <<< lo + n % 2 ^ lo = (v % 2 ^ w) <<< lo ||| n % 2 ^ lo := by
    rw [Nat.shiftLeft_eq, Nat.mul_comm]
    exact Nat.two_pow_add_eq_or_of_lt (Nat.mod_lt _ (Nat.two_pow_pos lo)) _
  have hlt : (v % 2 ^ w) <<< lo + n % 2 ^ lo < 2 ^ (lo + w) := by
    have a := Nat.mod_lt v (Nat.two_pow_pos w)
    have b := Nat.mod_lt n (Nat.two_pow_pos lo)
    rw [Nat.shiftLeft_eq, Nat.pow_add, Nat.mul_comm (2 ^ lo)]
    calc v % 2 ^ w * 2 ^ lo + n % 2 ^ lo < v % 2 ^ w * 2 ^ lo + 2 ^ lo := by omega
      _ = (v % 2 ^ w + 1) * 2 ^ lo := by ring
      _ ≤ 2 ^ w * 2 ^ lo := Nat.mul_le_mul_right _ a
  have h2 : putBits n lo w v = (n >>> (lo + w)) <<< (lo + w) ||| ((v % 2 ^ w) <<< lo + n % 2 ^ lo) := by
    unfold putBits
    rw [Nat.add_assoc, Nat.shiftLeft_eq _ (lo + w), Nat.mul_comm]
    exact Nat.two_pow_add_eq_or_of_lt hlt _
  rw [h2, h1]
  simp only [Nat.testBit_or, Nat.testBit_shiftLeft, Nat.testBit_shiftRight, Nat.testBit_mod_two_pow]
  by_cases h : i < lo
  · have a1 : ¬ lo + w ≤ i := by omega
    have a2 : ¬ lo ≤ i := by omega
    simp [h, a1, a2]
  · by_cases k : i < lo + w
    · have a1 : ¬ lo + w ≤ i := by omega
      have a2 : lo ≤ i := by omega
      have a3 : i - lo < w := by omega
      simp [h, k, a1, a2, a3]
    · have a1 : lo + w ≤ i := by omega
      have a3 : ¬ i - lo < w := by omega
      have a4 : lo + w + (i - (lo + w)) = i := by omega
      simp [h, k, a1, a3, a4]

theorem putBits_lt {n lo w v m : Nat} (hn : n < 2 ^ m) (hw : lo + w ≤ m) : putBits n lo w v < 2 ^ m := by
  apply Nat.lt_pow_two_of_testBit
  intro i hi
  rw [testBit_putBits, if_neg (by omega), if_neg (by omega)]
  exact Nat.testBit_lt_two_pow (lt_of_lt_of_le hn (Nat.pow_le_pow_right (by omega) hi))

theorem bitsOf_putBits (n lo w v : Nat) : bitsOf (putBits n lo w v) lo w = v % 2 ^ w := by
  apply Nat.eq_of_testBit_eq
  intro i
  rw [testBit_bitsOf, testBit_putBits, Nat.testBit_mod_two_pow]
  by_cases h : i < w
  · rw [if_neg (by omega), if_pos (by omega)]
    simp [h]
  · simp [h]

/-- The fields of a register do not disturb each other. -/
theorem bitsOf_putBits_disjoint {n lo w v lo' w' : Nat} (h : lo' + w' ≤ lo ∨ lo + w ≤ lo') :
    bitsOf (putBits n lo w v) lo' w' = bitsOf n lo' w' := by
  apply Nat.eq_of_testBit_eq
  intro i
  rw [testBit_bitsOf, testBit_bitsOf, testBit_putBits]
  by_cases k : i < w'
  · rcases h with h | h
    · rw [if_pos (by omega)]
    · rw [if_neg (by omega), if_neg (by omega)]
  · simp [k]

theorem toNat_putBits {v : Word} {lo w x : Nat} (h : lo + w ≤ 24) : (wd (putBits v.toNat lo w x)).toNat = putBits v.toNat lo w x := by
  rw [BitVec.toNat_ofNat]
  exact Nat.mod_eq_of_lt (putBits_lt v.isLt h)

/-- A field reads back as written, modulo its width. -/
theorem getF_setF_self {f : Fld} (v : Nat) (s : State) (h : f.lo + f.w ≤ 24) : getF (setF f v s) f = v % 2 ^ f.w := by
  simp only [getF, setF, reg_setReg, if_true, toNat_putBits h, bitsOf_putBits]

/-- A write of one field leaves a field of another register, and a disjoint field of the same one. -/
theorem getF_setF_other {f g : Fld} (v : Nat) (s : State) (hf : f.lo + f.w ≤ 24)
    (h : g.off ≠ f.off ∨ g.lo + g.w ≤ f.lo ∨ f.lo + f.w ≤ g.lo) : getF (setF f v s) g = getF s g := by
  simp only [getF, setF, reg_setReg]
  split
  · next e =>
    rw [toNat_putBits hf, bitsOf_putBits_disjoint (h.resolve_left (by omega)), e]
  · rfl

theorem getF_setReg_other {o : Nat} {v : Word} {s : State} {g : Fld} (h : g.off ≠ o) : getF (setReg o v s) g = getF s g := by
  simp only [getF, reg_setReg, if_neg h]

theorem getF_setReg_self {v : Word} {s : State} {g : Fld} : getF (setReg g.off v s) g = bitsOf v.toNat g.lo g.w := by
  simp only [getF, reg_setReg, if_true]

theorem reg_setF_other {f : Fld} {v o : Nat} {s : State} (h : o ≠ f.off) : reg (setF f v s) o = reg s o := by
  simp only [setF, reg_setReg, if_neg h]

theorem domOn_setReg {o : Nat} {v : Word} {s : State} {i : Nat} (h : o ≠ 0x4003 ∧ o ≠ 0x4004) : domOn (setReg o v s) i = domOn s i := by
  simp only [domOn, domState, reg_setReg, if_neg h.1.symm, if_neg h.2.symm]

theorem domOn_setF {f : Fld} {v : Nat} {s : State} {i : Nat} (h : f.off ≠ 0x4003 ∧ f.off ≠ 0x4004) : domOn (setF f v s) i = domOn s i :=
  domOn_setReg h

theorem flag_setF_self {f : Fld} (v : Nat) (s : State) (h : f.lo + f.w ≤ 24) : flag (setF f v s) f = (v % 2 ^ f.w != 0) := by
  simp only [flag, getF_setF_self v s h]

theorem flag_setF_other {f g : Fld} (v : Nat) (s : State) (hf : f.lo + f.w ≤ 24)
    (h : g.off ≠ f.off ∨ g.lo + g.w ≤ f.lo ∨ f.lo + f.w ≤ g.lo) : flag (setF f v s) g = flag s g := by
  simp only [flag, getF_setF_other v s hf h]

/-- A saturating counter field. -/
theorem getF_addF_self {f : Fld} (n : Nat) (s : State) (h : f.lo + f.w ≤ 24) :
    getF (addF f n s) f = min (2 ^ f.w - 1) (getF s f + n) := by
  have := Nat.two_pow_pos f.w
  rw [addF, getF_setF_self _ _ h, Nat.mod_eq_of_lt (by omega)]

/-! ### Counters of events -/

/-- Counting changes the counters and nothing else. -/
theorem countEv_only (g i n : Nat) (s : State) : ∃ c, countEv g i n s = { s with cnts := c } := by
  unfold countEv
  split
  · exact ⟨s.cnts, rfl⟩
  · suffices h : ∀ (l : Tab Word) (t : State), (∃ c, t = { s with cnts := c }) →
        ∃ c, l.foldl (fun t e => if 0x1_0100 ≤ e.1 && e.1 < 0x1_0140 && selects g i e.2 then
          bumpCnt (e.1 - 0x1_0100) n t else t) t = { s with cnts := c } from h s.regs s ⟨s.cnts, rfl⟩
    intro l
    induction l with
    | nil => exact fun t h => h
    | cons e l ih =>
      rintro t ⟨c, rfl⟩
      rw [List.foldl_cons]
      apply ih
      split
      · exact ⟨_, rfl⟩
      · exact ⟨c, rfl⟩

@[simp] theorem countEv_pending (g i n : Nat) (s : State) : (countEv g i n s).pending = s.pending := by
  obtain ⟨c, h⟩ := countEv_only g i n s; rw [h]
@[simp] theorem countEv_clk (g i n : Nat) (s : State) : (countEv g i n s).clk = s.clk := by
  obtain ⟨c, h⟩ := countEv_only g i n s; rw [h]
@[simp] theorem countEv_ringNs (g i n : Nat) (s : State) : (countEv g i n s).ringNs = s.ringNs := by
  obtain ⟨c, h⟩ := countEv_only g i n s; rw [h]
@[simp] theorem countEv_cyc (g i n : Nat) (s : State) : (countEv g i n s).cyc = s.cyc := by
  obtain ⟨c, h⟩ := countEv_only g i n s; rw [h]
@[simp] theorem countEv_draw (g i n : Nat) (s : State) : (countEv g i n s).draw = s.draw := by
  obtain ⟨c, h⟩ := countEv_only g i n s; rw [h]
@[simp] theorem countEv_out (g i n : Nat) (s : State) : (countEv g i n s).out = s.out := by
  obtain ⟨c, h⟩ := countEv_only g i n s; rw [h]
@[simp] theorem countEv_regs (g i n : Nat) (s : State) : (countEv g i n s).regs = s.regs := by
  obtain ⟨c, h⟩ := countEv_only g i n s; rw [h]
@[simp] theorem countEv_staged (g i n : Nat) (s : State) : (countEv g i n s).staged = s.staged := by
  obtain ⟨c, h⟩ := countEv_only g i n s; rw [h]
@[simp] theorem countEv_pairs (g i n : Nat) (s : State) : (countEv g i n s).pairs = s.pairs := by
  obtain ⟨c, h⟩ := countEv_only g i n s; rw [h]
@[simp] theorem countEv_ready (g i n : Nat) (s : State) : (countEv g i n s).ready = s.ready := by
  obtain ⟨c, h⟩ := countEv_only g i n s; rw [h]
@[simp] theorem countEv_stk (g i n : Nat) (s : State) : (countEv g i n s).stk = s.stk := by
  obtain ⟨c, h⟩ := countEv_only g i n s; rw [h]
@[simp] theorem countEv_swq (g i n : Nat) (s : State) : (countEv g i n s).swq = s.swq := by
  obtain ⟨c, h⟩ := countEv_only g i n s; rw [h]
@[simp] theorem countEv_places (g i n : Nat) (s : State) : (countEv g i n s).places = s.places := by
  obtain ⟨c, h⟩ := countEv_only g i n s; rw [h]
@[simp] theorem countEv_engines (g i n : Nat) (s : State) : (countEv g i n s).engines = s.engines := by
  obtain ⟨c, h⟩ := countEv_only g i n s; rw [h]
@[simp] theorem countEv_dio (g i n : Nat) (s : State) : (countEv g i n s).dio = s.dio := by
  obtain ⟨c, h⟩ := countEv_only g i n s; rw [h]
@[simp] theorem countEv_ana (g i n : Nat) (s : State) : (countEv g i n s).ana = s.ana := by
  obtain ⟨c, h⟩ := countEv_only g i n s; rw [h]
@[simp] theorem countEv_ports (g i n : Nat) (s : State) : (countEv g i n s).ports = s.ports := by
  obtain ⟨c, h⟩ := countEv_only g i n s; rw [h]
@[simp] theorem countEv_byps (g i n : Nat) (s : State) : (countEv g i n s).byps = s.byps := by
  obtain ⟨c, h⟩ := countEv_only g i n s; rw [h]
@[simp] theorem countEv_ring (g i n : Nat) (s : State) : (countEv g i n s).ring = s.ring := by
  obtain ⟨c, h⟩ := countEv_only g i n s; rw [h]
@[simp] theorem countEv_rtime (g i n : Nat) (s : State) : (countEv g i n s).rtime = s.rtime := by
  obtain ⟨c, h⟩ := countEv_only g i n s; rw [h]
@[simp] theorem countEv_hif (g i n : Nat) (s : State) : (countEv g i n s).hif = s.hif := by
  obtain ⟨c, h⟩ := countEv_only g i n s; rw [h]
@[simp] theorem countEv_usb (g i n : Nat) (s : State) : (countEv g i n s).usb = s.usb := by
  obtain ⟨c, h⟩ := countEv_only g i n s; rw [h]
@[simp] theorem countEv_desks (g i n : Nat) (s : State) : (countEv g i n s).desks = s.desks := by
  obtain ⟨c, h⟩ := countEv_only g i n s; rw [h]
@[simp] theorem countEv_stw (g i n : Nat) (s : State) : (countEv g i n s).stw = s.stw := by
  obtain ⟨c, h⟩ := countEv_only g i n s; rw [h]
@[simp] theorem countEv_fed (g i n : Nat) (s : State) : (countEv g i n s).fed = s.fed := by
  obtain ⟨c, h⟩ := countEv_only g i n s; rw [h]
@[simp] theorem countEv_pwr (g i n : Nat) (s : State) : (countEv g i n s).pwr = s.pwr := by
  obtain ⟨c, h⟩ := countEv_only g i n s; rw [h]
@[simp] theorem countEv_flt (g i n : Nat) (s : State) : (countEv g i n s).flt = s.flt := by
  obtain ⟨c, h⟩ := countEv_only g i n s; rw [h]
@[simp] theorem countEv_twin (g i n : Nat) (s : State) : (countEv g i n s).twin = s.twin := by
  obtain ⟨c, h⟩ := countEv_only g i n s; rw [h]
@[simp] theorem countEv_sec (g i n : Nat) (s : State) : (countEv g i n s).sec = s.sec := by
  obtain ⟨c, h⟩ := countEv_only g i n s; rw [h]
@[simp] theorem countEv_boot (g i n : Nat) (s : State) : (countEv g i n s).boot = s.boot := by
  obtain ⟨c, h⟩ := countEv_only g i n s; rw [h]

@[simp] theorem reg_countEv (g i n : Nat) (s : State) (o : Nat) : reg (countEv g i n s) o = reg s o := reg_congr (by simp) o
@[simp] theorem getF_countEv (g i n : Nat) (s : State) (f : Fld) : getF (countEv g i n s) f = getF s f := getF_congr (by simp) f
@[simp] theorem flag_countEv (g i n : Nat) (s : State) (f : Fld) : flag (countEv g i n s) f = flag s f := flag_congr (by simp) f
@[simp] theorem domOn_countEv (g i n : Nat) (s : State) (d : Nat) : domOn (countEv g i n s) d = domOn s d := by
  simp only [domOn, domState, reg_countEv]

/-! ### Arrays of units: a read after a write -/

@[simp] theorem getCnt_setCnt (k j : Nat) (x : Counter) (s : State) :
    getCnt (setCnt k x s) j = if j = k then x else getCnt s j := tget_tset _ _ _ _ _
@[simp] theorem getPlace_setPlace (k j : Nat) (x : Place) (s : State) :
    getPlace (setPlace k x s) j = if j = k then x else getPlace s j := tget_tset _ _ _ _ _
@[simp] theorem getEngine_setEngine (k j : Nat) (x : Engine) (s : State) :
    getEngine (setEngine k x s) j = if j = k then x else getEngine s j := tget_tset _ _ _ _ _
@[simp] theorem getLine_setLine (k j : Nat) (x : Line) (s : State) :
    getLine (setLine k x s) j = if j = k then x else getLine s j := tget_tset _ _ _ _ _
@[simp] theorem getChan_setChan (k j : Nat) (x : Chan) (s : State) :
    getChan (setChan k x s) j = if j = k then x else getChan s j := tget_tset _ _ _ _ _
@[simp] theorem getPort_setPort (k j : Nat) (x : Port) (s : State) :
    getPort (setPort k x s) j = if j = k then x else getPort s j := tget_tset _ _ _ _ _
@[simp] theorem getByp_setByp (k j : Nat) (x : Bypass) (s : State) :
    getByp (setByp k x s) j = if j = k then x else getByp s j := tget_tset _ _ _ _ _
@[simp] theorem getDesk_setDesk (k j : Nat) (x : Desk) (s : State) :
    getDesk (setDesk k x s) j = if j = k then x else getDesk s j := tget_tset _ _ _ _ _
@[simp] theorem getFsc_setFsc (k j : Nat) (x : Fsc) (s : State) :
    getFsc (setFsc k x s) j = if j = k then x else getFsc s j := tget_tset _ _ _ _ _
@[simp] theorem getFeed_setFeed (k j : Nat) (x : Feed) (s : State) :
    getFeed (setFeed k x s) j = if j = k then x else getFeed s j := tget_tset _ _ _ _ _
@[simp] theorem getSq_setSq (k j : Nat) (x : Sq) (s : State) :
    getSq (setSq k x s) j = if j = k then x else getSq s j := tget_tset _ _ _ _ _
@[simp] theorem getCq_setCq (k j : Nat) (x : Cq) (s : State) :
    getCq (setCq k x s) j = if j = k then x else getCq s j := tget_tset _ _ _ _ _
@[simp] theorem getSlot_setSlot (k j : Nat) (x : KeySlot) (s : State) :
    getSlot (setSlot k x s) j = if j = k then x else getSlot s j := tget_tset _ _ _ _ _
@[simp] theorem getVol_setVol (k j : Nat) (x : Volume) (s : State) :
    getVol (setVol k x s) j = if j = k then x else getVol s j := tget_tset _ _ _ _ _
@[simp] theorem getQ_setQ (k j : Nat) (x : List Nat) (s : State) :
    getQ (setQ k x s) j = if j = k then x else getQ s j := tget_tset _ _ _ _ _
@[simp] theorem getItem_setItem (k j : Nat) (x : Option Item) (s : State) :
    getItem (setItem k x s) j = if j = k then x else getItem s j := tget_tset _ _ _ _ _
@[simp] theorem getRecK_setRecK (k j : Nat) (x : Rec) (s : State) :
    getRecK (setRecK k x s) j = if j = k then x else getRecK s j := tget_tset _ _ _ _ _
@[simp] theorem getCatK_setCatK (k j : Nat) (x : Cat) (s : State) :
    getCatK (setCatK k x s) j = if j = k then x else getCatK s j := tget_tset _ _ _ _ _

theorem mem_insSet (k j : Nat) (l : List Nat) : j ∈ insSet k l ↔ j = k ∨ j ∈ l := by
  induction l with
  | nil => simp [insSet]
  | cons a l ih =>
    unfold insSet
    split
    · simp
    · split
      · subst_vars; simp
      · simp only [List.mem_cons, ih]; tauto

theorem mem_delSet (k j : Nat) (l : List Nat) : j ∈ delSet k l ↔ j ≠ k ∧ j ∈ l := by
  simp only [delSet, List.mem_filter, bne_iff_ne, and_comm]

/-- A source raised is among the lines sampled in the next Registrar cycle. -/
theorem mem_pulse_raise (n : Nat) (s : State) : n ∈ (raise n s).flt.pulse := (mem_insSet _ _ _).2 (.inl rfl)
theorem mem_level_causeOn (n : Nat) (s : State) : n ∈ (causeOn n s).flt.level := (mem_insSet _ _ _).2 (.inl rfl)
theorem mem_level_causeOff (n : Nat) (s : State) : n ∉ (causeOff n s).flt.level := fun h => ((mem_delSet _ _ _).1 h).1 rfl

/-! ### Guards -/

@[simp] theorem when_true (f : State → State) (s : State) : when true f s = f s := rfl
@[simp] theorem when_false (f : State → State) (s : State) : when false f s = s := rfl
@[simp] theorem unit_true (t : State) : unit true t = .next t := rfl
@[simp] theorem unit_false (t : State) : unit false t = .fault .noSuchUnit := rfl

end Sys2Proof.Machine
end

