-- ==== Sys2Proof/Laws/Guards.lean ====
section
/-! SUPPORT. What the shared guards say: a write that reaches its register, and one that does not. -/

namespace Sys2Proof.Machine

/-- A write by a writer who may write the register reaches it. -/
theorem guardWrite_may {w : Writer} {off : Nat} {f : State → State} {s : State} (h : mayWrite w off s = true) :
    guardWrite w off f s = f s := by
  unfold mayWrite at h
  simp only [Bool.and_eq_true] at h
  obtain ⟨⟨hb, hd⟩, hw⟩ := h
  unfold guardWrite
  cases w <;> simp_all

/-- A write to an offset that names no register is ignored (R9). -/
theorem guardWrite_none {w : Writer} {off : Nat} {f : State → State} {s : State} (h : regAt off = false) :
    guardWrite w off f s = s := by
  simp [guardWrite, h]

/-- A write to a register whose domain is off is ignored and recorded (R552). -/
theorem guardWrite_off {off : Nat} {f : State → State} {s : State} (hb : regAt off = true)
    (hd : regDomOn s off = false) : guardWrite .steward off f s = setF fGLB_STATUS_DOMAIN_OFF 1 s := by
  unfold guardWrite
  have : regDomOn (setF fGLB_STATUS_DOMAIN_OFF 1 s) off = false := by
    rw [regDomOn, domOn_setF (by decide)]
    exact hd
  simp [hb, hd, this]

/-- A place at work on an item takes no other one. -/
theorem wakePlace_busy {n : Nat} {s : State} (h : (getPlace s n).item.isSome = true) : wakePlace n s = s := by
  unfold wakePlace
  cases hi : (getPlace s n).item <;> simp_all

theorem testBit_ones {j : Nat} : Nat.testBit 0xFFFFFF j = decide (j < 24) := by
  have e : (0xFFFFFF : Nat) = 2 ^ 24 - 1 := by norm_num
  rw [e, Nat.testBit_two_pow_sub_one]

/-- A write under a mask takes the mask's bits from the value and leaves the others. -/
theorem testBit_mergeBits {o m v j : Nat} (hj : j < 24) :
    (mergeBits o m v).testBit j = if m.testBit j then v.testBit j else o.testBit j := by
  simp only [mergeBits, Nat.testBit_or, Nat.testBit_and, Nat.testBit_xor, testBit_ones, hj, decide_true, Bool.true_bne]
  cases m.testBit j <;> simp

/-- A write of every bit stores the word. -/
theorem wd_mergeBits_full (o : Nat) (v : Word) : wd (mergeBits o 0xFFFFFF v.toNat) = v := by
  apply BitVec.eq_of_getLsbD_eq
  intro j hj
  have h : (mergeBits o 0xFFFFFF v.toNat).testBit j = v.toNat.testBit j := by
    rw [testBit_mergeBits hj, testBit_ones]
    simp [hj]
  simp only [BitVec.getLsbD, BitVec.toNat_ofNat, Nat.testBit_mod_two_pow, hj, decide_true, Bool.true_and, h]

theorem writeBits_full (off : Nat) (v : Word) (s : State) : writeBits off 0xFFFFFF v.toNat s = setReg off v s := by
  rw [writeBits, wd_mergeBits_full]

end Sys2Proof.Machine
end

