-- ==== Sys2Proof/Laws/Kept.lean ====
section
/-! SUPPORT. What every operation of the machine leaves alone: the queue and the hub's own clock, and the canonical form of
its memories. `f_kept` says it of the operation `f`; the lemmas below are the rules that the others are proved by. -/

namespace Sys2Proof.Machine

/-- `t` follows from `s` by operations that leave the queue and the clock alone and keep the memories canonical. -/
def Kept (s t : State) : Prop :=
  t.pending = s.pending ∧ t.clk = s.clk ∧ (Memory.wf s = true → Memory.wf t = true)

theorem Kept.refl (s : State) : Kept s s := ⟨rfl, rfl, id⟩

theorem Kept.trans {s t u : State} (h : Kept s t) (k : Kept t u) : Kept s u :=
  ⟨k.1.trans h.1, k.2.1.trans h.2.1, fun w => k.2.2 (h.2.2 w)⟩

@[simp] theorem kept_refl (s : State) : Kept s s := Kept.refl s

@[simp ↓] theorem ite_kept {s₀ a b : State} {c : Prop} [Decidable c] (ha : Kept s₀ a) (hb : Kept s₀ b) :
    Kept s₀ (if c then a else b) := by split <;> assumption

@[simp ↓] theorem foldl_kept {s₀ s : State} {α : Type} {f : State → α → State} (h : Kept s₀ s) {l : List α}
    (hf : ∀ t a, Kept t (f t a)) : Kept s₀ (l.foldl f s) := by
  induction l generalizing s with
  | nil => exact h
  | cons a l ih => exact ih (h.trans (hf _ _))

/-- An update of fields other than the queue, the clock and the memories. -/
@[simp ↓] theorem mk_kept {s₀ t : State} (h : Kept s₀ t)
    (ringNs cyc draw out staged pairs ready cnts swq places engines dio ana ports byps ring rtime hif usb desks stw fed pwr
      flt twin sec boot) :
    Kept s₀ (State.mk t.pending t.clk ringNs cyc draw out t.regs staged pairs ready cnts t.stk swq places engines dio
      ana ports byps ring rtime hif usb desks stw fed pwr flt twin sec boot) := h

/-- An update of the archive besides its records. -/
@[simp ↓] theorem mkStk_kept {s₀ t : State} (h : Kept s₀ t)
    (ringNs cyc draw out staged pairs ready cnts flips undef copy scrub ceHour ceRows alarms swq places engines dio ana ports
      byps ring rtime hif usb desks stw fed pwr flt twin sec boot) :
    Kept s₀ (State.mk t.pending t.clk ringNs cyc draw out t.regs staged pairs ready cnts
      ⟨t.stk.recs, t.stk.cats, t.stk.fill, flips, undef, copy, scrub, ceHour, ceRows, alarms⟩ swq places engines dio
      ana ports byps ring rtime hif usb desks stw fed pwr flt twin sec boot) := h

/-- Registers put back to their reset contents. -/
@[simp ↓] theorem mkClear_kept {s₀ t : State} {p : Nat → Bool} (h : Kept s₀ t)
    (ringNs cyc draw out staged pairs ready cnts swq places engines dio ana ports byps ring rtime hif usb desks stw fed pwr
      flt twin sec boot) :
    Kept s₀ (State.mk t.pending t.clk ringNs cyc draw out (tclear p t.regs) staged pairs ready cnts t.stk swq places engines
      dio ana ports byps ring rtime hif usb desks stw fed pwr flt twin sec boot) := by
  refine ⟨h.1, h.2.1, fun w => ?_⟩
  have := h.2.2 w
  simp only [Memory.wf, Bool.and_eq_true] at this ⊢
  exact ⟨tclear_wf this.1, this.2⟩

/-- Memories that keep their form make a kept state of a kept one. -/
theorem kept_of_mem {s₀ t u : State} (h : Kept s₀ t) (hp : u.pending = t.pending) (hc : u.clk = t.clk)
    (hr : twf regReset 0 t.regs = true → twf regReset 0 u.regs = true)
    (ha : archiveWf t.stk = true → archiveWf u.stk = true) : Kept s₀ u := by
  refine ⟨hp.trans h.1, hc.trans h.2.1, fun w => ?_⟩
  have := h.2.2 w
  simp only [Memory.wf, Bool.and_eq_true] at this ⊢
  exact ⟨hr this.1, ha this.2⟩

/-- A table is canonical over another default that agrees with the first at its keys. -/
theorem twf_default {α : Type} [DecidableEq α] {d e : Nat → α} {t : Tab α} {lo : Nat}
    (h : twf d lo t = true) (hd : ∀ k ∈ t.map (·.1), e k = d k) : twf e lo t = true := by
  induction t generalizing lo with
  | nil => rfl
  | cons a t ih =>
    obtain ⟨a, v⟩ := a
    simp only [twf, Bool.and_eq_true, decide_eq_true_eq] at h ⊢
    refine ⟨⟨h.1.1, ?_⟩, ih h.2 fun k hk => hd k (by simp only [List.map_cons, List.mem_cons]; exact .inr hk)⟩
    rw [hd a (by simp)]
    exact h.1.2

/-- No key that satisfies the test is left. -/
theorem tclear_keys {α : Type} {p : Nat → Bool} {t : Tab α} {k : Nat} (h : k ∈ (tclear p t).map (·.1)) :
    p k = false := by
  induction t with
  | nil => simp [tclear] at h
  | cons a t ih =>
    obtain ⟨a, v⟩ := a
    unfold tclear at h
    split at h
    · exact ih h
    · simp only [List.map_cons, List.mem_cons] at h
      obtain rfl | h := h
      · simpa using ‹¬p _ = true›
      · exact ih h

/-- A canonical table grows canonically under writes of a list. -/
theorem foldl_tset_wf {α β : Type} [DecidableEq α] {d : Nat → α} {f : Tab α → β → Tab α}
    (hf : ∀ t b, twf d 0 t = true → twf d 0 (f t b) = true) {l : List β} {t : Tab α} (h : twf d 0 t = true) :
    twf d 0 (l.foldl f t) = true := by
  induction l generalizing t with
  | nil => exact h
  | cons b l ih => exact ih (hf _ _ h)

/-- Setting one bank's fill leaves the table canonical once that bank's records are cleared. -/
theorem recs_fill_wf {fill : List Rec} {b : Nat} {r : Rec} {p : Nat → Bool} {t : Tab Rec}
    (hp : ∀ k, p k = false → k / bankSize ≠ b) (h : twf (recFill fill) 0 t = true) :
    twf (recFill (fill.set b r)) 0 (tclear p t) = true := by
  refine twf_default (tclear_wf h) fun k hk => ?_
  have := hp k (tclear_keys hk)
  simp only [recFill, List.getD_eq_getElem?_getD, List.getElem?_set, this.symm, if_false]

end Sys2Proof.Machine
end

