-- ==== Sys2Proof/Laws/KeptMemory.lean ====
section
/-! SUPPORT. The queue, the clock and the form of the memories are left alone by every operation of
the named operations, registers and points. -/

namespace Sys2Proof.Machine

set_option linter.unusedTactic false
set_option linter.unnecessarySeqFocus false
set_option linter.unreachableTactic false

/-! ### Ops -/

@[simp ↓] theorem when_kept {s₀ : State} (c : Bool) (f : State → State) (s : State) (hf : ∀ t, Kept t (f t))
    (hk : Kept s₀ s) : Kept s₀ (when c f s) := by
  have hf2 := hf; replace hf : ∀ t, Kept s₀ t → Kept s₀ (f t) := fun t hk => hk.trans (hf2 t)
  unfold when; (repeat' split) <;> simp (maxDischargeDepth := 100) [*]

@[simp ↓] theorem setReg_kept {s₀ : State} (off : Nat) (v : Word) (s : State) (hk : Kept s₀ s) : Kept s₀
    (setReg off v s) :=
  kept_of_mem hk rfl rfl (tset_wf (Nat.zero_le _)) id

@[simp ↓] theorem setF_kept {s₀ : State} (f : Fld) (v : Nat) (s : State) (hk : Kept s₀ s) : Kept s₀ (setF f v s) := by
  unfold setF; (repeat' split) <;> simp (maxDischargeDepth := 100) [*]

@[simp ↓] theorem addF_kept {s₀ : State} (f : Fld) (n : Nat) (s : State) (hk : Kept s₀ s) : Kept s₀ (addF f n s) := by
  unfold addF; (repeat' split) <;> simp (maxDischargeDepth := 100) [*]

@[simp ↓] theorem incF_kept {s₀ : State} (f : Fld) (s : State) (hk : Kept s₀ s) : Kept s₀ (incF f s) := by
  unfold incF; (repeat' split) <;> simp (maxDischargeDepth := 100) [*]

@[simp ↓] theorem wrapF_kept {s₀ : State} (f : Fld) (s : State) (hk : Kept s₀ s) : Kept s₀ (wrapF f s) := by
  unfold wrapF; (repeat' split) <;> simp (maxDischargeDepth := 100) [*]

@[simp ↓] theorem emit_kept {s₀ : State} (o : Out) (s : State) (hk : Kept s₀ s) : Kept s₀ (emit o s) := by
  unfold emit; (repeat' split) <;> simp (maxDischargeDepth := 100) [*]

@[simp ↓] theorem drawn_kept {s₀ : State} (s : State) (hk : Kept s₀ s) : Kept s₀ (drawn s) := by
  unfold drawn; (repeat' split) <;> simp (maxDischargeDepth := 100) [*]

@[simp ↓] theorem setDom_kept {s₀ : State} (i v : Nat) (s : State) (hk : Kept s₀ s) : Kept s₀ (setDom i v s) := by
  unfold setDom; (repeat' split) <;> simp (maxDischargeDepth := 100) [*]

@[simp ↓] theorem raise_kept {s₀ : State} (src : Nat) (s : State) (hk : Kept s₀ s) : Kept s₀ (raise src s) := by
  unfold raise; (repeat' split) <;> simp (maxDischargeDepth := 100) [*]

@[simp ↓] theorem wornUnit_kept {s₀ : State} (src kind u : Nat) (s : State) (hk : Kept s₀ s) : Kept s₀
    (wornUnit src kind u s) := by
  unfold wornUnit; (repeat' split) <;> simp (maxDischargeDepth := 100) [*]

@[simp ↓] theorem wearStep_kept {s₀ : State} (src kind u limit count : Nat) (s : State) (hk : Kept s₀ s) : Kept s₀
    (wearStep src kind u limit count s) := by
  unfold wearStep; (repeat' split) <;> simp (maxDischargeDepth := 100) [*]

@[simp ↓] theorem causeOn_kept {s₀ : State} (src : Nat) (s : State) (hk : Kept s₀ s) : Kept s₀ (causeOn src s) := by
  unfold causeOn; (repeat' split) <;> simp (maxDischargeDepth := 100) [*]

@[simp ↓] theorem causeOff_kept {s₀ : State} (src : Nat) (s : State) (hk : Kept s₀ s) : Kept s₀ (causeOff src s) := by
  unfold causeOff; (repeat' split) <;> simp (maxDischargeDepth := 100) [*]

@[simp ↓] theorem causeIs_kept {s₀ : State} (b : Bool) (src : Nat) (s : State) (hk : Kept s₀ s) : Kept s₀
    (causeIs b src s) := by
  unfold causeIs; (repeat' split) <;> simp (maxDischargeDepth := 100) [*]

@[simp ↓] theorem setCnt_kept {s₀ : State} (k : Nat) (c : Counter) (s : State) (hk : Kept s₀ s) : Kept s₀
    (setCnt k c s) := by
  unfold setCnt; (repeat' split) <;> simp (maxDischargeDepth := 100) [*]

@[simp ↓] theorem bumpCnt_kept {s₀ : State} (k n : Nat) (s : State) (hk : Kept s₀ s) : Kept s₀ (bumpCnt k n s) := by
  unfold bumpCnt; (repeat' split) <;> simp (maxDischargeDepth := 100) [*]

@[simp ↓] theorem countEv_kept {s₀ : State} (group index n : Nat) (s : State) (hk : Kept s₀ s) : Kept s₀
    (countEv group index n s) := by
  unfold countEv; (repeat' split) <;> simp (maxDischargeDepth := 100) [*]

@[simp ↓] theorem setPlace_kept {s₀ : State} (n : Nat) (p : Place) (s : State) (hk : Kept s₀ s) : Kept s₀
    (setPlace n p s) := by
  unfold setPlace; (repeat' split) <;> simp (maxDischargeDepth := 100) [*]

@[simp ↓] theorem setEngine_kept {s₀ : State} (e : Nat) (x : Engine) (s : State) (hk : Kept s₀ s) : Kept s₀
    (setEngine e x s) := by
  unfold setEngine; (repeat' split) <;> simp (maxDischargeDepth := 100) [*]

@[simp ↓] theorem setLine_kept {s₀ : State} (n : Nat) (l : Line) (s : State) (hk : Kept s₀ s) : Kept s₀
    (setLine n l s) := by
  unfold setLine; (repeat' split) <;> simp (maxDischargeDepth := 100) [*]

@[simp ↓] theorem setChan_kept {s₀ : State} (n : Nat) (c : Chan) (s : State) (hk : Kept s₀ s) : Kept s₀
    (setChan n c s) := by
  unfold setChan; (repeat' split) <;> simp (maxDischargeDepth := 100) [*]

@[simp ↓] theorem setPort_kept {s₀ : State} (p : Nat) (x : Port) (s : State) (hk : Kept s₀ s) : Kept s₀
    (setPort p x s) := by
  unfold setPort; (repeat' split) <;> simp (maxDischargeDepth := 100) [*]

@[simp ↓] theorem setByp_kept {s₀ : State} (x : Nat) (b : Bypass) (s : State) (hk : Kept s₀ s) : Kept s₀
    (setByp x b s) := by
  unfold setByp; (repeat' split) <;> simp (maxDischargeDepth := 100) [*]

@[simp ↓] theorem setDesk_kept {s₀ : State} (d : Nat) (x : Desk) (s : State) (hk : Kept s₀ s) : Kept s₀
    (setDesk d x s) := by
  unfold setDesk; (repeat' split) <;> simp (maxDischargeDepth := 100) [*]

@[simp ↓] theorem setFsc_kept {s₀ : State} (n : Nat) (x : Fsc) (s : State) (hk : Kept s₀ s) : Kept s₀
    (setFsc n x s) := by
  unfold setFsc; (repeat' split) <;> simp (maxDischargeDepth := 100) [*]

@[simp ↓] theorem setFeed_kept {s₀ : State} (x : Nat) (f : Feed) (s : State) (hk : Kept s₀ s) : Kept s₀
    (setFeed x f s) := by
  unfold setFeed; (repeat' split) <;> simp (maxDischargeDepth := 100) [*]

@[simp ↓] theorem setSq_kept {s₀ : State} (i : Nat) (x : Sq) (s : State) (hk : Kept s₀ s) : Kept s₀
    (setSq i x s) := by
  unfold setSq; (repeat' split) <;> simp (maxDischargeDepth := 100) [*]

@[simp ↓] theorem setCq_kept {s₀ : State} (c : Nat) (x : Cq) (s : State) (hk : Kept s₀ s) : Kept s₀
    (setCq c x s) := by
  unfold setCq; (repeat' split) <;> simp (maxDischargeDepth := 100) [*]

@[simp ↓] theorem setSlot_kept {s₀ : State} (i : Nat) (k : KeySlot) (s : State) (hk : Kept s₀ s) : Kept s₀
    (setSlot i k s) := by
  unfold setSlot; (repeat' split) <;> simp (maxDischargeDepth := 100) [*]

@[simp ↓] theorem setVol_kept {s₀ : State} (v : Nat) (x : Volume) (s : State) (hk : Kept s₀ s) : Kept s₀
    (setVol v x s) := by
  unfold setVol; (repeat' split) <;> simp (maxDischargeDepth := 100) [*]

@[simp ↓] theorem noteEdge_kept {s₀ : State} (k : Nat) (s : State) (hk : Kept s₀ s) : Kept s₀ (noteEdge k s) := by
  unfold noteEdge; (repeat' split) <;> simp (maxDischargeDepth := 100) [*]

@[simp ↓] theorem setQ_kept {s₀ : State} (q : Nat) (l : List Nat) (s : State) (hk : Kept s₀ s) : Kept s₀
    (setQ q l s) := by
  unfold setQ; (repeat' split) <;> simp (maxDischargeDepth := 100) [*]

@[simp ↓] theorem setItem_kept {s₀ : State} (i : Nat) (x : Option Item) (s : State) (hk : Kept s₀ s) : Kept s₀
    (setItem i x s) := by
  unfold setItem; (repeat' split) <;> simp (maxDischargeDepth := 100) [*]

@[simp ↓] theorem joinQ_kept {s₀ : State} (i : Nat) (s : State) (q : Nat) (hk : Kept s₀ s) : Kept s₀
    (joinQ i s q) := by
  unfold joinQ; (repeat' split) <;> simp (maxDischargeDepth := 100) [*]

@[simp ↓] theorem mirrorTo_kept {s₀ : State} (i : Nat) (qs : List Nat) (s : State) (k : Nat)
    (hk : Kept s₀ s) : Kept s₀ (mirrorTo i qs s k) := by
  unfold mirrorTo; (repeat' split) <;> simp (maxDischargeDepth := 100) [*]

@[simp ↓] theorem enterQ_kept {s₀ : State} (qs : List Nat) (b : Body) (cls : Nat) (transit : Bool)
    (ch : List (Charge × Nat)) (s : State) (hk : Kept s₀ s) : Kept s₀ (enterQ qs b cls transit ch s) := by
  unfold enterQ; (repeat' split) <;> simp (maxDischargeDepth := 100) [*]

@[simp ↓] theorem noteDesc_kept {s₀ : State} (s : State) (hk : Kept s₀ s) : Kept s₀ (noteDesc s) := by
  unfold noteDesc; (repeat' split) <;> simp (maxDischargeDepth := 100) [*]

@[simp ↓] theorem pushBody_kept {s₀ : State} (qs : List Nat) (b : Body) (cls : Nat) (s : State)
    (hk : Kept s₀ s) : Kept s₀ (pushBody qs b cls s) := by
  unfold pushBody; (repeat' split) <;> simp (maxDischargeDepth := 100) [*]

@[simp ↓] theorem pushWords_kept {s₀ : State} (q : Nat) (ws : List Word) (s : State) (hk : Kept s₀ s) : Kept s₀
    (pushWords q ws s) := by
  unfold pushWords; (repeat' split) <;> simp (maxDischargeDepth := 100) [*]

@[simp ↓] theorem release_kept {s₀ : State} (i : Nat) (s : State) (hk : Kept s₀ s) : Kept s₀ (release i s) := by
  unfold release; (repeat' split) <;> simp (maxDischargeDepth := 100) [*]

@[simp ↓] theorem dropFront_kept {s₀ : State} (q : Nat) (s : State) (hk : Kept s₀ s) : Kept s₀ (dropFront q s) := by
  unfold dropFront; (repeat' split) <;> simp (maxDischargeDepth := 100) [*]

@[simp ↓] theorem resumePush_kept {s₀ : State} (q : Nat) (seen l : List PushWait) (s : State)
    (hk : Kept s₀ s) : Kept s₀ (resumePush q seen l s) := by
  induction l generalizing s seen with
  | nil => exact hk
  | cons w l ih => unfold resumePush; (repeat' split) <;> simp (maxDischargeDepth := 100) [*]

@[simp ↓] theorem flushQ_kept {s₀ : State} (q : Nat) (s : State) (hk : Kept s₀ s) : Kept s₀ (flushQ q s) := by
  unfold flushQ; (repeat' split) <;> simp (maxDischargeDepth := 100) [*]

@[simp ↓] theorem ledger_kept {s₀ : State} (kind code timeUs : Nat) (body : List Word) (s : State)
    (hk : Kept s₀ s) : Kept s₀ (ledger kind code timeUs body s) := by
  unfold ledger; (repeat' split) <;> simp (maxDischargeDepth := 100) [*]

@[simp ↓] theorem toEgress_kept {s₀ : State} (ports : List Nat) (f : Frame) (s : State) (hk : Kept s₀ s) : Kept s₀
    (toEgress ports f s) := by
  unfold toEgress; (repeat' split) <;> simp (maxDischargeDepth := 100) [*]

@[simp ↓] theorem beaconLeaves_kept {s₀ : State} (sq : Nat) (s : State) (hk : Kept s₀ s) : Kept s₀ (beaconLeaves sq s) := by
  unfold beaconLeaves; (repeat' split) <;> simp (maxDischargeDepth := 100) [*]

@[simp ↓] theorem sendNow_kept {s₀ : State} (f : Frame) (s : State) (hk : Kept s₀ s) : Kept s₀ (sendNow f s) := by
  unfold sendNow; (repeat' split) <;> simp (maxDischargeDepth := 100) [*]

@[simp ↓] theorem originate_kept {s₀ : State} (f : Frame) (s : State) (hk : Kept s₀ s) : Kept s₀ (originate f s) := by
  unfold originate; (repeat' split) <;> simp (maxDischargeDepth := 100) [*]

@[simp ↓] theorem pumpHeld_kept {s₀ : State} (l : List Frame) (s : State) (hk : Kept s₀ s) : Kept s₀
    (pumpHeld l s) := by
  induction l generalizing s with
  | nil => exact hk
  | cons f l ih => unfold pumpHeld; split <;> exact ih _ (by simp (maxDischargeDepth := 100) [*])

@[simp ↓] theorem sendEventFrame_kept {s₀ : State} (typ cls dest : Nat) (bcast : Bool) (payload : List Word)
    (s : State) (hk : Kept s₀ s) : Kept s₀ (sendEventFrame typ cls dest bcast payload s) := by
  unfold sendEventFrame; (repeat' split) <;> simp (maxDischargeDepth := 100) [*]

@[simp ↓] theorem cqDrain_kept {s₀ : State} (c : Nat) (l : List CqEnt) (s : State) (hk : Kept s₀ s) : Kept s₀
    (cqDrain c l s) := by
  induction l generalizing s with
  | nil => unfold cqDrain; simp (maxDischargeDepth := 100) [*]
  | cons e l ih =>
    unfold cqDrain
    split
    · simp (maxDischargeDepth := 100) [*]
    · split
      · dsimp only; split <;> simp (maxDischargeDepth := 100) [*]
      · exact ih _ (by simp (maxDischargeDepth := 100) [*])

@[simp ↓] theorem cqPost_kept {s₀ : State} (c : Nat) (e : CqEnt) (s : State) (hk : Kept s₀ s) : Kept s₀
    (cqPost c e s) := by
  unfold cqPost; (repeat' split) <;> simp (maxDischargeDepth := 100) [*]

@[simp ↓] theorem signalVec_kept {s₀ : State} (v : Nat) (s : State) (hk : Kept s₀ s) : Kept s₀ (signalVec v s) := by
  unfold signalVec; (repeat' split) <;> simp (maxDischargeDepth := 100) [*]

@[simp ↓] theorem placeReport_kept {s₀ : State} (ws : List Word) (s : State) (hk : Kept s₀ s) : Kept s₀
    (placeReport ws s) := by
  unfold placeReport; (repeat' split) <;> simp (maxDischargeDepth := 100) [*]

@[simp ↓] theorem report_kept {s₀ : State} (node tag handle cause : Nat) (s : State) (hk : Kept s₀ s) : Kept s₀
    (report node tag handle cause s) := by
  unfold report; (repeat' split) <;> simp (maxDischargeDepth := 100) [*]

@[simp ↓] theorem event_kept {s₀ : State} (code cls route : Nat) (body : List Word) (s : State)
    (hk : Kept s₀ s) : Kept s₀ (event code cls route body s) := by
  unfold event; (repeat' split) <;> simp (maxDischargeDepth := 100) [*]

@[simp ↓] theorem atticLog_kept {s₀ : State} (w : Swap) (result : Nat) (s : State) (hk : Kept s₀ s) : Kept s₀
    (atticLog w result s) := by
  unfold atticLog; (repeat' split) <;> simp (maxDischargeDepth := 100) [*]

@[simp ↓] theorem atticBegin_kept {s₀ : State} (w : Swap) (s : State) (hk : Kept s₀ s) : Kept s₀
    (atticBegin w s) := by
  unfold atticBegin; (repeat' split) <;> simp (maxDischargeDepth := 100) [*]

@[simp ↓] theorem spareChanged_kept {s₀ : State} (w : Swap) (result : Nat) (s : State) (hk : Kept s₀ s) : Kept s₀
    (spareChanged w result s) := by
  unfold spareChanged; (repeat' split) <;> simp (maxDischargeDepth := 100) [*]

@[simp ↓] theorem atticEnd_kept {s₀ : State} (w : Swap) (result : Nat) (s : State) (hk : Kept s₀ s) : Kept s₀
    (atticEnd w result s) := by
  unfold atticEnd; (repeat' split) <;> simp (maxDischargeDepth := 100) [*]

/-! ### RegOps -/

@[simp ↓] theorem ownerReject_kept {s₀ : State} (w : Writer) (off : Nat) (s : State) (hk : Kept s₀ s) : Kept s₀
    (ownerReject w off s) := by
  unfold ownerReject; (repeat' split) <;> simp (maxDischargeDepth := 100) [*]

@[simp ↓] theorem guardWrite_kept {s₀ : State} (w : Writer) (off : Nat) (f : State → State) (s : State)
    (hf : ∀ t, Kept t (f t)) (hk : Kept s₀ s) : Kept s₀ (guardWrite w off f s) := by
  have hf2 := hf; replace hf : ∀ t, Kept s₀ t → Kept s₀ (f t) := fun t hk => hk.trans (hf2 t)
  unfold guardWrite; (repeat' split) <;> simp (maxDischargeDepth := 100) [*]

@[simp ↓] theorem scrubBegin_kept {s₀ : State} (s : State) (hk : Kept s₀ s) : Kept s₀ (scrubBegin s) := by
  unfold scrubBegin; (repeat' split) <;> simp (maxDischargeDepth := 100) [*]

@[simp ↓] theorem scrubWatch_kept {s₀ : State} (s : State) (hk : Kept s₀ s) : Kept s₀ (scrubWatch s) := by
  unfold scrubWatch; (repeat' split) <;> simp (maxDischargeDepth := 100) [*]

@[simp ↓] theorem reject_kept {s₀ : State} (off : Nat) (s : State) (hk : Kept s₀ s) : Kept s₀ (reject off s) := by
  unfold reject; (repeat' split) <;> simp (maxDischargeDepth := 100) [*]

@[simp ↓] theorem writeBits_kept {s₀ : State} (off mask v : Nat) (s : State) (hk : Kept s₀ s) : Kept s₀
    (writeBits off mask v s) := by
  unfold writeBits; (repeat' split) <;> simp (maxDischargeDepth := 100) [*]

@[simp ↓] theorem stageBits_kept {s₀ : State} (off mask v : Nat) (s : State) (hk : Kept s₀ s) : Kept s₀
    (stageBits off mask v s) := by
  unfold stageBits; (repeat' split) <;> simp (maxDischargeDepth := 100) [*]

@[simp ↓] theorem applyOwed_kept {s₀ : State} (s : State) (hk : Kept s₀ s) : Kept s₀ (applyOwed s) := by
  unfold applyOwed; (repeat' split) <;> simp (maxDischargeDepth := 100) [*]

@[simp ↓] theorem clearBits_kept {s₀ : State} (off mask v : Nat) (s : State) (hk : Kept s₀ s) : Kept s₀
    (clearBits off mask v s) := by
  unfold clearBits; (repeat' split) <;> simp (maxDischargeDepth := 100) [*]

@[simp ↓] theorem writeRow_kept {s₀ : State} (off : Nat) (flds : List FldRow) (v : Nat) (s : State)
    (hk : Kept s₀ s) : Kept s₀ (writeRow off flds v s) := by
  unfold writeRow; (repeat' split) <;> simp (maxDischargeDepth := 100) [*]

@[simp ↓] theorem writeWindow_kept {s₀ : State} (n off : Nat) (v : Word) (s : State) (hk : Kept s₀ s) : Kept s₀
    (writeWindow n off v s) := by
  unfold writeWindow; (repeat' split) <;> simp (maxDischargeDepth := 100) [*]

@[simp ↓] theorem readEffect_kept {s₀ : State} (off : Nat) (s : State) (hk : Kept s₀ s) : Kept s₀
    (readEffect off s) := by
  unfold readEffect; (repeat' split) <;> simp (maxDischargeDepth := 100) [*]

/-! ### Points -/

@[simp ↓] theorem setRecK_kept {s₀ : State} (k : Nat) (r : Rec) (s : State) (hk : Kept s₀ s) : Kept s₀
    (setRecK k r s) :=
  kept_of_mem hk rfl rfl id fun w => by
    simp only [archiveWf, setRecK, Bool.and_eq_true] at w ⊢
    exact ⟨w.1, tset_wf (Nat.zero_le _) w.2.1, w.2.2⟩

@[simp ↓] theorem setCatK_kept {s₀ : State} (k : Nat) (c : Cat) (s : State) (hk : Kept s₀ s) : Kept s₀
    (setCatK k c s) :=
  kept_of_mem hk rfl rfl id fun w => by
    simp only [archiveWf, setCatK, Bool.and_eq_true] at w ⊢
    exact ⟨w.1, w.2.1, tset_wf (Nat.zero_le _) w.2.2⟩

@[simp ↓] theorem strike_kept {s₀ : State} (arr k : Nat) (e : Ecc) (s : State)
    (hk : Kept s₀ s) : Kept s₀ (strike arr k e s) := by
  unfold strike; (repeat' split) <;> simp (maxDischargeDepth := 100) [*]

@[simp ↓] theorem strikes_kept {s₀ : State} (arr : Nat) (ecc : List (Nat × Ecc)) (s : State)
    (hk : Kept s₀ s) : Kept s₀ (strikes arr ecc s) := by
  unfold strikes; (repeat' split) <;> simp (maxDischargeDepth := 100) [*]

@[simp ↓] theorem mend_kept {s₀ : State} (arr k : Nat) (s : State) (hk : Kept s₀ s) : Kept s₀ (mend arr k s) := by
  unfold mend; (repeat' split) <;> simp (maxDischargeDepth := 100) [*]

@[simp ↓] theorem putRec_kept {s₀ : State} (k : Nat) (r : Rec) (s : State) (hk : Kept s₀ s) : Kept s₀
    (putRec k r s) := by
  unfold putRec; (repeat' split) <;> simp (maxDischargeDepth := 100) [*]

@[simp ↓] theorem putCat_kept {s₀ : State} (k : Nat) (c : Cat) (s : State) (hk : Kept s₀ s) : Kept s₀
    (putCat k c s) := by
  unfold putCat; (repeat' split) <;> simp (maxDischargeDepth := 100) [*]

@[simp ↓] theorem alarmItem_kept {s₀ : State} (p : Nat) (s : State) (hk : Kept s₀ s) : Kept s₀ (alarmItem p s) := by
  unfold alarmItem; (repeat' split) <;> simp (maxDischargeDepth := 100) [*]

@[simp ↓] theorem storeRec_kept {s₀ : State} (p : Nat) (new : Rec) (s : State) (hk : Kept s₀ s) : Kept s₀
    (storeRec p new s) := by
  unfold storeRec; (repeat' split) <;> simp (maxDischargeDepth := 100) [*]

@[simp ↓] theorem writeRec_kept {s₀ : State} (p : Nat) (new : Rec) (s : State) (hk : Kept s₀ s) : Kept s₀
    (writeRec p new s) := by
  unfold writeRec; (repeat' split) <;> simp (maxDischargeDepth := 100) [*]

@[simp ↓] theorem staleCheck_kept {s₀ : State} (p : Nat) (s : State) (hk : Kept s₀ s) : Kept s₀ (staleCheck p s) := by
  unfold staleCheck; (repeat' split) <;> simp (maxDischargeDepth := 100) [*]

@[simp ↓] theorem noteRow_kept {s₀ : State} (b row : Nat) (s : State) (hk : Kept s₀ s) : Kept s₀ (noteRow b row s) := by
  unfold noteRow; (repeat' split) <;> simp (maxDischargeDepth := 100) [*]

@[simp ↓] theorem bankCe_kept {s₀ : State} (b at_ : Nat) (s : State) (hk : Kept s₀ s) : Kept s₀ (bankCe b at_ s) := by
  unfold bankCe; (repeat' split) <;> simp (maxDischargeDepth := 100) [*]

@[simp ↓] theorem ueLast_kept {s₀ : State} (b idx arr : Nat) (s : State) (hk : Kept s₀ s) : Kept s₀
    (ueLast b idx arr s) := by
  unfold ueLast; (repeat' split) <;> simp (maxDischargeDepth := 100) [*]

@[simp ↓] theorem alarmOfKey_kept {s₀ : State} (b idx : Nat) (s : State) (hk : Kept s₀ s) : Kept s₀
    (alarmOfKey b idx s) := by
  unfold alarmOfKey; (repeat' split) <;> simp (maxDischargeDepth := 100) [*]

@[simp ↓] theorem checkRec_kept {s₀ : State} (b idx : Nat) (e : Ecc) (s : State) (hk : Kept s₀ s) : Kept s₀
    (checkRec b idx e s) := by
  unfold checkRec; (repeat' split) <;> simp (maxDischargeDepth := 100) [*]

@[simp ↓] theorem spoilCat_kept {s₀ : State} (k : Nat) (s : State) (hk : Kept s₀ s) : Kept s₀ (spoilCat k s) :=
  kept_of_mem hk rfl rfl id fun w => by
    simp only [archiveWf, spoilCat, Bool.and_eq_true] at w ⊢
    exact ⟨w.1, w.2.1, tset_wf (Nat.zero_le _) w.2.2⟩

@[simp ↓] theorem checkCat_kept {s₀ : State} (b idx : Nat) (e : Ecc) (s : State) (hk : Kept s₀ s) : Kept s₀
    (checkCat b idx e s) := by
  unfold checkCat; (repeat' split) <;> simp (maxDischargeDepth := 100) [*]

@[simp ↓] theorem touchCat_kept {s₀ : State} (p : Nat) (e : Ecc) (s : State)
    (hk : Kept s₀ s) : Kept s₀ (touchCat p e s) := by
  unfold touchCat; (repeat' split) <;> simp (maxDischargeDepth := 100) [*]

@[simp ↓] theorem preRead_kept {s₀ : State} (p : Nat) (e : Ecc) (s : State) (hk : Kept s₀ s) : Kept s₀
    (preRead p e s) := by
  unfold preRead; (repeat' split) <;> simp (maxDischargeDepth := 100) [*]

@[simp ↓] theorem touchPt_kept {s₀ : State} (p : Nat) (e : Ecc) (s : State) (hk : Kept s₀ s) : Kept s₀
    (touchPt p e s) := by
  unfold touchPt; (repeat' split) <;> simp (maxDischargeDepth := 100) [*]

@[simp ↓] theorem strayWrite_kept {s₀ : State} (src : Nat) (s : State) (hk : Kept s₀ s) : Kept s₀ (strayWrite src s) := by
  unfold strayWrite; (repeat' split) <;> simp (maxDischargeDepth := 100) [*]

@[simp ↓] theorem srcWrite_kept {s₀ : State} (src p : Nat) (ev : SrcEv) (time : Nat) (s : State)
    (hk : Kept s₀ s) : Kept s₀ (srcWrite src p ev time s) := by
  unfold srcWrite; (repeat' split) <;> simp (maxDischargeDepth := 100) [*]

@[simp ↓] theorem stewardWrite_kept {s₀ : State} (p : Nat) (v : Word) (s : State)
    (hk : Kept s₀ s) : Kept s₀ (stewardWrite p v s) := by
  unfold stewardWrite; (repeat' split) <;> simp (maxDischargeDepth := 100) [*]

@[simp ↓] theorem writeFailed_kept {s₀ : State} (p : Nat) (s : State) (hk : Kept s₀ s) : Kept s₀
    (writeFailed p s) := by
  unfold writeFailed; (repeat' split) <;> simp (maxDischargeDepth := 100) [*]

@[simp ↓] theorem failWrite_kept {s₀ : State} (p node tag cause : Nat) (s : State) (hk : Kept s₀ s) : Kept s₀
    (failWrite p node tag cause s) := by
  unfold failWrite; (repeat' split) <;> simp (maxDischargeDepth := 100) [*]

@[simp ↓] theorem directWrite_kept {s₀ : State} (p : Nat) (v : Word) (s : State) (hk : Kept s₀ s) : Kept s₀
    (directWrite p v s) := by
  unfold directWrite; (repeat' split) <;> simp (maxDischargeDepth := 100) [*]

@[simp ↓] theorem forceRec_kept {s₀ : State} (p : Nat) (v : Word) (st : PSt) (s : State) (hk : Kept s₀ s) : Kept s₀
    (forceRec p v st s) := by
  unfold forceRec; (repeat' split) <;> simp (maxDischargeDepth := 100) [*]

@[simp ↓] theorem releaseRec_kept {s₀ : State} (p : Nat) (s : State) (hk : Kept s₀ s) : Kept s₀ (releaseRec p s) := by
  unfold releaseRec; (repeat' split) <;> simp (maxDischargeDepth := 100) [*]

end Sys2Proof.Machine
end

