-- ==== Sys2Proof/Laws/KeptField.lean ====
section
/-! SUPPORT. The queue, the clock and the form of the memories are left alone by every operation of
the field side: converters, feeds, media, clerks and lines. -/

namespace Sys2Proof.Machine

set_option linter.unusedTactic false
set_option linter.unnecessarySeqFocus false
set_option linter.unreachableTactic false

/-! ### Analog -/

@[simp ↓] theorem closeSeg_kept {s₀ : State} (n : Nat) (s : State) (hk : Kept s₀ s) : Kept s₀ (closeSeg n s) := by
  unfold closeSeg; (repeat' split) <;> simp (maxDischargeDepth := 100) [*]

@[simp ↓] theorem closeConv_kept {s₀ : State} (v : Nat) (s : State) (hk : Kept s₀ s) : Kept s₀ (closeConv v s) := by
  unfold closeConv; (repeat' split) <;> simp (maxDischargeDepth := 100) [*]

@[simp ↓] theorem loadTrim_kept {s₀ : State} (v g : Nat) (s : State) (hk : Kept s₀ s) : Kept s₀ (loadTrim v g s) := by
  unfold loadTrim; (repeat' split) <;> simp (maxDischargeDepth := 100) [*]

@[simp ↓] theorem useGain_kept {s₀ : State} (v g : Nat) (s : State) (hk : Kept s₀ s) : Kept s₀ (useGain v g s) := by
  unfold useGain; (repeat' split) <;> simp (maxDischargeDepth := 100) [*]

@[simp ↓] theorem excludeChan_kept {s₀ : State} (n extra : Nat) (s : State) (hk : Kept s₀ s) : Kept s₀
    (excludeChan n extra s) := by
  unfold excludeChan; (repeat' split) <;> simp (maxDischargeDepth := 100) [*]

@[simp ↓] theorem freshWindow_kept {s₀ : State} (n : Nat) (s : State) (hk : Kept s₀ s) : Kept s₀ (freshWindow n s) := by
  unfold freshWindow; (repeat' split) <;> simp (maxDischargeDepth := 100) [*]

@[simp ↓] theorem excludeAll_kept {s₀ : State} (s : State) (hk : Kept s₀ s) : Kept s₀ (excludeAll s) := by
  unfold excludeAll; (repeat' split) <;> simp (maxDischargeDepth := 100) [*]

@[simp ↓] theorem realign_kept {s₀ : State} (t : Nat) (s : State) (hk : Kept s₀ s) : Kept s₀ (realign t s) := by
  unfold realign; (repeat' split) <;> simp (maxDischargeDepth := 100) [*]

@[simp ↓] theorem anaWrite_kept {s₀ : State} (n q time : Nat) (ev : State → Cat → SrcEv) (s : State)
    (hk : Kept s₀ s) : Kept s₀ (anaWrite n q time ev s) := by
  unfold anaWrite; (repeat' split) <;> simp (maxDischargeDepth := 100) [*]

@[simp ↓] theorem anaAll_kept {s₀ : State} (n : Nat) (ev : SrcEv) (s : State) (hk : Kept s₀ s) : Kept s₀
    (anaAll n ev s) := by
  unfold anaAll; (repeat' split) <;> simp (maxDischargeDepth := 100) [*]

@[simp ↓] theorem anaConvAll_kept {s₀ : State} (s : State) (hk : Kept s₀ s) : Kept s₀ (anaConvAll s) := by
  unfold anaConvAll; (repeat' split) <;> simp (maxDischargeDepth := 100) [*]

@[simp ↓] theorem raiseUntrue_kept {s₀ : State} (s : State) (hk : Kept s₀ s) : Kept s₀ (raiseUntrue s) := by
  unfold raiseUntrue; (repeat' split) <;> simp (maxDischargeDepth := 100) [*]

@[simp ↓] theorem nextWindow_kept {s₀ : State} (n len : Nat) (s : State)
    (hk : Kept s₀ s) : Kept s₀ (nextWindow n len s) := by
  unfold nextWindow; (repeat' split) <;> simp (maxDischargeDepth := 100) [*]

@[simp ↓] theorem windowPoints_kept {s₀ : State} (n time : Nat) (ovl : Bool) (l : List Int) (s : State)
    (hk : Kept s₀ s) : Kept s₀ (windowPoints n time ovl l s) := by
  unfold windowPoints; (repeat' split) <;> simp (maxDischargeDepth := 100) [*]

@[simp ↓] theorem windowEnds_kept {s₀ : State} (n : Nat) (volts : List Int) (s : State)
    (hk : Kept s₀ s) : Kept s₀ (windowEnds n volts s) := by
  unfold windowEnds; (repeat' split) <;> simp (maxDischargeDepth := 100) [*]

@[simp ↓] theorem chcfgWrite_kept {s₀ : State} (n : Nat) (v : Word) (s : State) (hk : Kept s₀ s) : Kept s₀
    (chcfgWrite n v s) := by
  unfold chcfgWrite; dsimp only; (repeat' split) <;> simp (maxDischargeDepth := 100) [*]

@[simp ↓] theorem steerDone_kept {s₀ : State} (n : Nat) (s : State) (hk : Kept s₀ s) : Kept s₀ (steerDone n s) := by
  unfold steerDone; dsimp only; (repeat' split) <;> simp (maxDischargeDepth := 100) [*]

@[simp ↓] theorem fenceConv_kept {s₀ : State} (v : Nat) (s : State) (hk : Kept s₀ s) : Kept s₀ (fenceConv v s) := by
  unfold fenceConv; dsimp only; (repeat' split) <;> simp (maxDischargeDepth := 100) [*]

@[simp ↓] theorem steerBegin_kept {s₀ : State} (n w : Nat) (s : State) (hk : Kept s₀ s) : Kept s₀
    (steerBegin n w s) := by
  unfold steerBegin; (repeat' split) <;> simp (maxDischargeDepth := 100) [*]

@[simp ↓] theorem atticSteer_kept {s₀ : State} (ch u w diff : Nat) (s : State) (hk : Kept s₀ s) : Kept s₀
    (atticSteer ch u w diff s) := by
  unfold atticSteer; (repeat' split) <;> simp (maxDischargeDepth := 100) [*]

@[simp ↓] theorem servingFault_kept {s₀ : State} (n : Nat) (s : State) (hk : Kept s₀ s) : Kept s₀
    (servingFault n s) := by
  unfold servingFault; dsimp only; (repeat' split) <;> simp (maxDischargeDepth := 100) [*]

@[simp ↓] theorem chselWrite_kept {s₀ : State} (n w : Nat) (s : State) (hk : Kept s₀ s) : Kept s₀
    (chselWrite n w s) := by
  unfold chselWrite; (repeat' split) <;> simp (maxDischargeDepth := 100) [*]

@[simp ↓] theorem rotTake_kept {s₀ : State} (v : Nat) (s : State) (hk : Kept s₀ s) : Kept s₀ (rotTake v s) := by
  unfold rotTake; (repeat' split) <;> simp (maxDischargeDepth := 100) [*]

@[simp ↓] theorem rotNextConv_kept {s₀ : State} (v : Nat) (s : State) (hk : Kept s₀ s) : Kept s₀
    (rotNextConv v s) := by
  unfold rotNextConv; (repeat' split) <;> simp (maxDischargeDepth := 100) [*]

@[simp ↓] theorem rotIdle_kept {s₀ : State} (s : State) (hk : Kept s₀ s) : Kept s₀ (rotIdle s) := by
  unfold rotIdle; (repeat' split) <;> simp (maxDischargeDepth := 100) [*]

@[simp ↓] theorem rotWatch_kept {s₀ : State} (s : State) (hk : Kept s₀ s) : Kept s₀ (rotWatch s) := by
  unfold rotWatch; (repeat' split) <;> simp (maxDischargeDepth := 100) [*]

@[simp ↓] theorem steerAway_kept {s₀ : State} (n : Nat) (s : State) (hk : Kept s₀ s) : Kept s₀ (steerAway n s) := by
  unfold steerAway; dsimp only; (repeat' split) <;> simp (maxDischargeDepth := 100) [*]

@[simp ↓] theorem steerFenced_kept {s₀ : State} (s : State) (hk : Kept s₀ s) : Kept s₀ (steerFenced s) := by
  unfold steerFenced; (repeat' split) <;> simp (maxDischargeDepth := 100) [*]

/-! ### Feeds -/

@[simp ↓] theorem setFed_kept {s₀ : State} (f : Fed) (s : State) (hk : Kept s₀ s) : Kept s₀ (setFed f s) := by
  unfold setFed; (repeat' split) <;> simp (maxDischargeDepth := 100) [*]

@[simp ↓] theorem fscGo_kept {s₀ : State} (n st : Nat) (s : State) (hk : Kept s₀ s) : Kept s₀ (fscGo n st s) := by
  unfold fscGo; (repeat' split) <;> simp (maxDischargeDepth := 100) [*]

@[simp ↓] theorem fscRest_kept {s₀ : State} (n : Nat) (s : State) (hk : Kept s₀ s) : Kept s₀ (fscRest n s) := by
  unfold fscRest; (repeat' split) <;> simp (maxDischargeDepth := 100) [*]

@[simp ↓] theorem fetShorted_kept {s₀ : State} (n : Nat) (s : State) (hk : Kept s₀ s) : Kept s₀ (fetShorted n s) := by
  unfold fetShorted; (repeat' split) <;> simp (maxDischargeDepth := 100) [*]

@[simp ↓] theorem tripChannel_kept {s₀ : State} (n code : Nat) (s : State) (hk : Kept s₀ s) : Kept s₀
    (tripChannel n code s) := by
  unfold tripChannel; (repeat' split) <;> simp (maxDischargeDepth := 100) [*]

@[simp ↓] theorem removeBoard_kept {s₀ : State} (n : Nat) (s : State) (hk : Kept s₀ s) : Kept s₀
    (removeBoard n s) := by
  unfold removeBoard; (repeat' split) <;> simp (maxDischargeDepth := 100) [*]

@[simp ↓] theorem boardSeen_kept {s₀ : State} (n : Nat) (s : State) (hk : Kept s₀ s) : Kept s₀ (boardSeen n s) := by
  unfold boardSeen; (repeat' split) <;> simp (maxDischargeDepth := 100) [*]

@[simp ↓] theorem fscEnable_kept {s₀ : State} (n : Nat) (en : Bool) (s : State) (hk : Kept s₀ s) : Kept s₀
    (fscEnable n en s) := by
  unfold fscEnable; (repeat' split) <;> simp (maxDischargeDepth := 100) [*]

@[simp ↓] theorem unlatch_kept {s₀ : State} (n : Nat) (testHolds : Bool) (s : State) (hk : Kept s₀ s) : Kept s₀
    (unlatch n testHolds s) := by
  unfold unlatch; (repeat' split) <;> simp (maxDischargeDepth := 100) [*]

@[simp ↓] theorem setHolds_kept {s₀ : State} (n : Nat) (l : List Nat) (s : State) (hk : Kept s₀ s) : Kept s₀
    (setHolds n l s) := by
  unfold setHolds; (repeat' split) <;> simp (maxDischargeDepth := 100) [*]

@[simp ↓] theorem holdOn_kept {s₀ : State} (n code : Nat) (s : State) (hk : Kept s₀ s) : Kept s₀
    (holdOn n code s) := by
  unfold holdOn; (repeat' split) <;> simp (maxDischargeDepth := 100) [*]

@[simp ↓] theorem holdOff_kept {s₀ : State} (n code : Nat) (s : State) (hk : Kept s₀ s) : Kept s₀
    (holdOff n code s) := by
  unfold holdOff; (repeat' split) <;> simp (maxDischargeDepth := 100) [*]

@[simp ↓] theorem noteWarn_kept {s₀ : State} (s : State) (hk : Kept s₀ s) : Kept s₀ (noteWarn s) := by
  unfold noteWarn; (repeat' split) <;> simp (maxDischargeDepth := 100) [*]

@[simp ↓] theorem warnLow_kept {s₀ : State} (s : State) (hk : Kept s₀ s) : Kept s₀ (warnLow s) := by
  unfold warnLow; (repeat' split) <;> simp (maxDischargeDepth := 100) [*]

@[simp ↓] theorem nodeGo_kept {s₀ : State} (st : Nat) (s : State) (hk : Kept s₀ s) : Kept s₀ (nodeGo st s) := by
  unfold nodeGo; (repeat' split) <;> simp (maxDischargeDepth := 100) [*]

@[simp ↓] theorem nodeStart_kept {s₀ : State} (s : State) (hk : Kept s₀ s) : Kept s₀ (nodeStart s) := by
  unfold nodeStart; (repeat' split) <;> simp (maxDischargeDepth := 100) [*]

@[simp ↓] theorem feedLost_kept {s₀ : State} (x : Nat) (high : Bool) (s : State) (hk : Kept s₀ s) : Kept s₀
    (feedLost x high s) := by
  unfold feedLost; (repeat' split) <;> simp (maxDischargeDepth := 100) [*]

@[simp ↓] theorem moveFeed_kept {s₀ : State} (x : Nat) (st : FeedTo) (s : State) (hk : Kept s₀ s) : Kept s₀
    (moveFeed x st s) := by
  unfold moveFeed; (repeat' split) <;> simp (maxDischargeDepth := 100) [*]

@[simp ↓] theorem fetOver_kept {s₀ : State} (x : Nat) (s : State) (hk : Kept s₀ s) : Kept s₀ (fetOver x s) := by
  unfold fetOver; (repeat' split) <;> simp (maxDischargeDepth := 100) [*]

@[simp ↓] theorem fetCheck_kept {s₀ : State} (s : State) (hk : Kept s₀ s) : Kept s₀ (fetCheck s) := by
  unfold fetCheck; (repeat' split) <;> simp (maxDischargeDepth := 100) [*]

@[simp ↓] theorem feedBand_kept {s₀ : State} (x v : Nat) (s : State) (hk : Kept s₀ s) : Kept s₀ (feedBand x v s) := by
  unfold feedBand; (repeat' split) <;> simp (maxDischargeDepth := 100) [*]

@[simp ↓] theorem fetFault_kept {s₀ : State} (x : Nat) (shorted : Bool) (s : State)
    (hk : Kept s₀ s) : Kept s₀ (fetFault x shorted s) := by
  unfold fetFault; (repeat' split) <;> simp (maxDischargeDepth := 100) [*]

@[simp ↓] theorem raiseTrip_kept {s₀ : State} (s : State) (hk : Kept s₀ s) : Kept s₀ (raiseTrip s) := by
  unfold raiseTrip; (repeat' split) <;> simp (maxDischargeDepth := 100) [*]

@[simp ↓] theorem retryWrite_kept {s₀ : State} (n : Nat) (v : Word) (s : State) (hk : Kept s₀ s) : Kept s₀
    (retryWrite n v s) := by
  unfold retryWrite; (repeat' split) <;> simp (maxDischargeDepth := 100) [*]

@[simp ↓] theorem warnVWrite_kept {s₀ : State} (v : Word) (s : State) (hk : Kept s₀ s) : Kept s₀
    (warnVWrite v s) := by
  unfold warnVWrite; (repeat' split) <;> simp (maxDischargeDepth := 100) [*]

@[simp ↓] theorem fscCtlWrite_kept {s₀ : State} (n : Nat) (v : Word) (s : State) (hk : Kept s₀ s) : Kept s₀
    (fscCtlWrite n v s) := by
  unfold fscCtlWrite; (repeat' split) <;> simp (maxDischargeDepth := 100) [*]

/-! ### Media -/

@[simp ↓] theorem setPortState_kept {s₀ : State} (p v : Nat) (s : State) (hk : Kept s₀ s) : Kept s₀
    (setPortState p v s) := by
  unfold setPortState; (repeat' split) <;> simp (maxDischargeDepth := 100) [*]

@[simp ↓] theorem downCause_kept {s₀ : State} (p v : Nat) (s : State) (hk : Kept s₀ s) : Kept s₀
    (downCause p v s) := by
  unfold downCause; (repeat' split) <;> simp (maxDischargeDepth := 100) [*]

@[simp ↓] theorem sendInfo_kept {s₀ : State} (p : Nat) (s : State) (hk : Kept s₀ s) : Kept s₀ (sendInfo p s) := by
  unfold sendInfo; (repeat' split) <;> simp (maxDischargeDepth := 100) [*]

@[simp ↓] theorem sendInfos_kept {s₀ : State} (s : State) (hk : Kept s₀ s) : Kept s₀ (sendInfos s) := by
  unfold sendInfos; (repeat' split) <;> simp (maxDischargeDepth := 100) [*]

@[simp ↓] theorem dropWaits_kept {s₀ : State} (p : Nat) (s : State) (hk : Kept s₀ s) : Kept s₀ (dropWaits p s) := by
  unfold dropWaits; (repeat' split) <;> simp (maxDischargeDepth := 100) [*]

@[simp ↓] theorem flushPort_kept {s₀ : State} (p : Nat) (s : State) (hk : Kept s₀ s) : Kept s₀ (flushPort p s) := by
  unfold flushPort; (repeat' split) <;> simp (maxDischargeDepth := 100) [*]

@[simp ↓] theorem notePair_kept {s₀ : State} (p : Nat) (s : State) (hk : Kept s₀ s) : Kept s₀ (notePair p s) := by
  unfold notePair; (repeat' split) <;> simp (maxDischargeDepth := 100) [*]

@[simp ↓] theorem unkeyPort_kept {s₀ : State} (p : Nat) (s : State) (hk : Kept s₀ s) : Kept s₀ (unkeyPort p s) := by
  unfold unkeyPort; (repeat' split) <;> simp (maxDischargeDepth := 100) [*]

@[simp ↓] theorem forgetLink_kept {s₀ : State} (p : Nat) (s : State) (hk : Kept s₀ s) : Kept s₀ (forgetLink p s) := by
  unfold forgetLink; (repeat' split) <;> simp (maxDischargeDepth := 100) [*]

@[simp ↓] theorem takeDown_kept {s₀ : State} (p cause : Nat) (lost : Bool) (s : State) (hk : Kept s₀ s) : Kept s₀
    (takeDown p cause lost s) := by
  unfold takeDown; (repeat' split) <;> simp (maxDischargeDepth := 100) [*]

@[simp ↓] theorem startDetect_kept {s₀ : State} (p : Nat) (s : State) (hk : Kept s₀ s) : Kept s₀
    (startDetect p s) := by
  unfold startDetect; (repeat' split) <;> simp (maxDischargeDepth := 100) [*]

@[simp ↓] theorem newEpoch_kept {s₀ : State} (p : Nat) (s : State) (hk : Kept s₀ s) : Kept s₀ (newEpoch p s) := by
  unfold newEpoch; (repeat' split) <;> simp (maxDischargeDepth := 100) [*]

@[simp ↓] theorem keyPort_kept {s₀ : State} (p : Nat) (s : State) (hk : Kept s₀ s) : Kept s₀ (keyPort p s) := by
  unfold keyPort; dsimp only; (repeat' split) <;> simp (maxDischargeDepth := 100) [*]

@[simp ↓] theorem seedPair_kept {s₀ : State} (x : Nat) (s : State) (hk : Kept s₀ s) : Kept s₀ (seedPair x s) := by
  unfold seedPair; (repeat' split) <;> simp (maxDischargeDepth := 100) [*]

@[simp ↓] theorem comeUp_kept {s₀ : State} (p rate : Nat) (s : State) (hk : Kept s₀ s) : Kept s₀
    (comeUp p rate s) := by
  unfold comeUp; (repeat' split) <;> simp (maxDischargeDepth := 100) [*]

@[simp ↓] theorem writeEn_kept {s₀ : State} (p : Nat) (en : Bool) (s : State) (hk : Kept s₀ s) : Kept s₀
    (writeEn p en s) := by
  unfold writeEn; (repeat' split) <;> simp (maxDischargeDepth := 100) [*]

@[simp ↓] theorem fencePort_kept {s₀ : State} (p : Nat) (s : State) (hk : Kept s₀ s) : Kept s₀ (fencePort p s) := by
  unfold fencePort; (repeat' split) <;> simp (maxDischargeDepth := 100) [*]

@[simp ↓] theorem retrainPort_kept {s₀ : State} (p : Nat) (s : State) (hk : Kept s₀ s) : Kept s₀
    (retrainPort p s) := by
  unfold retrainPort; (repeat' split) <;> simp (maxDischargeDepth := 100) [*]

@[simp ↓] theorem irHalt_kept {s₀ : State} (p : Nat) (s : State) (hk : Kept s₀ s) : Kept s₀ (irHalt p s) := by
  unfold irHalt; (repeat' split) <;> simp (maxDischargeDepth := 100) [*]

@[simp ↓] theorem phyWrite_kept {s₀ : State} (p : Nat) (v : Word) (s : State) (hk : Kept s₀ s) : Kept s₀
    (phyWrite p v s) := by
  unfold phyWrite; (repeat' split) <;> simp (maxDischargeDepth := 100) [*]

@[simp ↓] theorem wiringStop_kept {s₀ : State} (p : Nat) (s : State) (hk : Kept s₀ s) : Kept s₀ (wiringStop p s) := by
  unfold wiringStop; (repeat' split) <;> simp (maxDischargeDepth := 100) [*]

@[simp ↓] theorem rateLow_kept {s₀ : State} (p : Nat) (s : State) (hk : Kept s₀ s) : Kept s₀ (rateLow p s) := by
  unfold rateLow; (repeat' split) <;> simp (maxDischargeDepth := 100) [*]

@[simp ↓] theorem qualify_kept {s₀ : State} (p rate : Nat) (s : State) (hk : Kept s₀ s) : Kept s₀ (qualify p rate s) := by
  unfold qualify; (repeat' split) <;> simp (maxDischargeDepth := 100) [*]

@[simp ↓] theorem goQuiet_kept {s₀ : State} (p : Nat) (s : State) (hk : Kept s₀ s) : Kept s₀ (goQuiet p s) := by
  unfold goQuiet; (repeat' split) <;> simp (maxDischargeDepth := 100) [*]

@[simp ↓] theorem endQuiet_kept {s₀ : State} (p : Nat) (s : State) (hk : Kept s₀ s) : Kept s₀ (endQuiet p s) := by
  unfold endQuiet; (repeat' split) <;> simp (maxDischargeDepth := 100) [*]

@[simp ↓] theorem infoAccepted_kept {s₀ : State} (p : Nat) (s : State) (hk : Kept s₀ s) : Kept s₀ (infoAccepted p s) := by
  unfold infoAccepted; (repeat' split) <;> simp (maxDischargeDepth := 100) [*]

@[simp ↓] theorem cellarRest_kept {s₀ : State} (s : State) (hk : Kept s₀ s) : Kept s₀ (cellarRest s) := by
  unfold cellarRest; (repeat' split) <;> simp (maxDischargeDepth := 100) [*]

@[simp ↓] theorem sendShift_kept {s₀ : State} (p : Nat) (s : State) (hk : Kept s₀ s) : Kept s₀ (sendShift p s) := by
  unfold sendShift; (repeat' split) <;> simp (maxDischargeDepth := 100) [*]

@[simp ↓] theorem toKeepalive_kept {s₀ : State} (p : Nat) (s : State) (hk : Kept s₀ s) : Kept s₀
    (toKeepalive p s) := by
  unfold toKeepalive; (repeat' split) <;> simp (maxDischargeDepth := 100) [*]

@[simp ↓] theorem beginShift_kept {s₀ : State} (p : Nat) (s : State) (hk : Kept s₀ s) : Kept s₀ (beginShift p s) := by
  unfold beginShift; (repeat' split) <;> simp (maxDischargeDepth := 100) [*]

@[simp ↓] theorem guardFailed_kept {s₀ : State} (p : Nat) (s : State) (hk : Kept s₀ s) : Kept s₀
    (guardFailed p s) := by
  unfold guardFailed; (repeat' split) <;> simp (maxDischargeDepth := 100) [*]

@[simp ↓] theorem irTry_kept {s₀ : State} (p : Nat) (s : State) (hk : Kept s₀ s) : Kept s₀ (irTry p s) := by
  unfold irTry; (repeat' split) <;> simp (maxDischargeDepth := 100) [*]

@[simp ↓] theorem irBegin_kept {s₀ : State} (p : Nat) (s : State) (hk : Kept s₀ s) : Kept s₀ (irBegin p s) := by
  unfold irBegin; (repeat' split) <;> simp (maxDischargeDepth := 100) [*]

@[simp ↓] theorem irDueNow_kept {s₀ : State} (p : Nat) (s : State) (hk : Kept s₀ s) : Kept s₀ (irDueNow p s) := by
  unfold irDueNow; (repeat' split) <;> simp (maxDischargeDepth := 100) [*]

@[simp ↓] theorem irShift_kept {s₀ : State} (p : Nat) (s : State) (hk : Kept s₀ s) : Kept s₀ (irShift p s) := by
  unfold irShift; (repeat' split) <;> simp (maxDischargeDepth := 100) [*]

@[simp ↓] theorem tdrReturn_kept {s₀ : State} (p : Nat) (s : State) (hk : Kept s₀ s) : Kept s₀ (tdrReturn p s) := by
  unfold tdrReturn; (repeat' split) <;> simp (maxDischargeDepth := 100) [*]

@[simp ↓] theorem tdrWrite_kept {s₀ : State} (p : Nat) (v : Word) (s : State) (hk : Kept s₀ s) : Kept s₀
    (tdrWrite p v s) := by
  unfold tdrWrite; (repeat' split) <;> simp (maxDischargeDepth := 100) [*]

@[simp ↓] theorem bypState_kept {s₀ : State} (x v : Nat) (s : State) (hk : Kept s₀ s) : Kept s₀ (bypState x v s) := by
  unfold bypState; (repeat' split) <;> simp (maxDischargeDepth := 100) [*]

@[simp ↓] theorem insertPair_kept {s₀ : State} (x : Nat) (s : State) (hk : Kept s₀ s) : Kept s₀ (insertPair x s) := by
  unfold insertPair; (repeat' split) <;> simp (maxDischargeDepth := 100) [*]

@[simp ↓] theorem energise_kept {s₀ : State} (x : Nat) (s : State) (hk : Kept s₀ s) : Kept s₀ (energise x s) := by
  unfold energise; (repeat' split) <;> simp (maxDischargeDepth := 100) [*]

@[simp ↓] theorem releasePair_kept {s₀ : State} (x : Nat) (s : State) (hk : Kept s₀ s) : Kept s₀
    (releasePair x s) := by
  unfold releasePair; (repeat' split) <;> simp (maxDischargeDepth := 100) [*]

@[simp ↓] theorem noteServing_kept {s₀ : State} (s : State) (hk : Kept s₀ s) : Kept s₀ (noteServing s) := by
  unfold noteServing; (repeat' split) <;> simp (maxDischargeDepth := 100) [*]

@[simp ↓] theorem lockOut_kept {s₀ : State} (x : Nat) (s : State) (hk : Kept s₀ s) : Kept s₀ (lockOut x s) := by
  unfold lockOut; (repeat' split) <;> simp (maxDischargeDepth := 100) [*]

@[simp ↓] theorem writeHoldEn_kept {s₀ : State} (x : Nat) (en : Bool) (s : State) (hk : Kept s₀ s) : Kept s₀
    (writeHoldEn x en s) := by
  unfold writeHoldEn; (repeat' split) <;> simp (maxDischargeDepth := 100) [*]

@[simp ↓] theorem bypWrite_kept {s₀ : State} (x : Nat) (v : Word) (s : State) (hk : Kept s₀ s) : Kept s₀
    (bypWrite x v s) := by
  unfold bypWrite; (repeat' split) <;> simp (maxDischargeDepth := 100) [*]

/-! ### Clerks -/

@[simp ↓] theorem engineHalt_kept {s₀ : State} (e : Nat) (s : State) (hk : Kept s₀ s) : Kept s₀ (engineHalt e s) := by
  unfold engineHalt; (repeat' split) <;> simp (maxDischargeDepth := 100) [*]

@[simp ↓] theorem engineIdle_kept {s₀ : State} (e : Nat) (s : State) (hk : Kept s₀ s) : Kept s₀ (engineIdle e s) := by
  unfold engineIdle; (repeat' split) <;> simp (maxDischargeDepth := 100) [*]

@[simp ↓] theorem showCause_kept {s₀ : State} (n : Nat) (s : State) (hk : Kept s₀ s) : Kept s₀ (showCause n s) := by
  unfold showCause; (repeat' split) <;> simp (maxDischargeDepth := 100) [*]

@[simp ↓] theorem cmdLeaves_kept {s₀ : State} (n : Nat) (s : State) (hk : Kept s₀ s) : Kept s₀ (cmdLeaves n s) := by
  unfold cmdLeaves; (repeat' split) <;> simp (maxDischargeDepth := 100) [*]

@[simp ↓] theorem failCmd_kept {s₀ : State} (n cause : Nat) (s : State) (hk : Kept s₀ s) : Kept s₀
    (failCmd n cause s) := by
  unfold failCmd; (repeat' split) <;> simp (maxDischargeDepth := 100) [*]

@[simp ↓] theorem failReadback_kept {s₀ : State} (n : Nat) (s : State) (hk : Kept s₀ s) : Kept s₀
    (failReadback n s) := by
  unfold failReadback; (repeat' split) <;> simp (maxDischargeDepth := 100) [*]

@[simp ↓] theorem failAllCmds_kept {s₀ : State} (n cause k : Nat) (s : State) (hk : Kept s₀ s) : Kept s₀
    (failAllCmds n cause k s) := by
  induction k generalizing s with
  | zero => exact hk
  | succ k ih => unfold failAllCmds; (repeat' split) <;> simp (maxDischargeDepth := 100) [*]

@[simp ↓] theorem holdExpire_kept {s₀ : State} (n : Nat) (s : State) (hk : Kept s₀ s) : Kept s₀ (holdExpire n s) := by
  unfold holdExpire; (repeat' split) <;> simp (maxDischargeDepth := 100) [*]

@[simp ↓] theorem commsFailAll_kept {s₀ : State} (n : Nat) (s : State) (hk : Kept s₀ s) : Kept s₀
    (commsFailAll n s) := by
  unfold commsFailAll; (repeat' split) <;> simp (maxDischargeDepth := 100) [*]

@[simp ↓] theorem applyLive_kept {s₀ : State} (n : Nat) (s : State) (hk : Kept s₀ s) : Kept s₀ (applyLive n s) := by
  unfold applyLive; (repeat' split) <;> simp (maxDischargeDepth := 100) [*]

@[simp ↓] theorem leaveItem_kept {s₀ : State} (n : Nat) (s : State) (hk : Kept s₀ s) : Kept s₀ (leaveItem n s) := by
  unfold leaveItem; (repeat' split) <;> simp (maxDischargeDepth := 100) [*]

@[simp ↓] theorem portDown_kept {s₀ : State} (n : Nat) (s : State) (hk : Kept s₀ s) : Kept s₀ (portDown n s) := by
  unfold portDown; (repeat' split) <;> simp (maxDischargeDepth := 100) [*]

@[simp ↓] theorem portCheck_kept {s₀ : State} (n : Nat) (s : State) (hk : Kept s₀ s) : Kept s₀ (portCheck n s) := by
  unfold portCheck; (repeat' split) <;> simp (maxDischargeDepth := 100) [*]

@[simp ↓] theorem engineServe_kept {s₀ : State} (n e : Nat) (s : State) (hk : Kept s₀ s) : Kept s₀ (engineServe n e s) := by
  unfold engineServe; (repeat' split) <;> simp (maxDischargeDepth := 100) [*]

@[simp ↓] theorem unserve_kept {s₀ : State} (n : Nat) (s : State) (hk : Kept s₀ s) : Kept s₀ (unserve n s) := by
  unfold unserve; dsimp only; (repeat' split) <;> simp (maxDischargeDepth := 100) [*]

@[simp ↓] theorem applyEnginePair_kept {s₀ : State} (e role pl : Nat) (s : State) (hk : Kept s₀ s) : Kept s₀
    (applyEnginePair e role pl s) := by
  unfold applyEnginePair; dsimp only; (repeat' split) <;> simp (maxDischargeDepth := 100) [*]

@[simp ↓] theorem drainPairs_kept {s₀ : State} (k : Nat) (s : State) (hk : Kept s₀ s) : Kept s₀ (drainPairs k s) := by
  induction k generalizing s with
  | zero => exact hk
  | succ k ih => unfold drainPairs; (repeat' split) <;> simp (maxDischargeDepth := 100) [*]

@[simp ↓] theorem settlePairs_kept {s₀ : State} (s : State) (hk : Kept s₀ s) : Kept s₀ (settlePairs s) :=
  drainPairs_kept _ _ hk

@[simp ↓] theorem portTest_kept {s₀ : State} (n : Nat) (s : State) (hk : Kept s₀ s) : Kept s₀ (portTest n s) := by
  unfold portTest; (repeat' split) <;> simp (maxDischargeDepth := 100) [*]

@[simp ↓] theorem fenceEngine_kept {s₀ : State} (e : Nat) (s : State) (hk : Kept s₀ s) : Kept s₀
    (fenceEngine e s) := by
  unfold fenceEngine; (repeat' split) <;> simp (maxDischargeDepth := 100) [*]

@[simp ↓] theorem enginePair_kept {s₀ : State} (e role pl : Nat) (s : State) (hk : Kept s₀ s) : Kept s₀
    (enginePair e role pl s) := by
  unfold enginePair; (repeat' split) <;> simp (maxDischargeDepth := 100) [*]

@[simp ↓] theorem atticShadow_kept {s₀ : State} (n : Nat) (s : State) (hk : Kept s₀ s) : Kept s₀
    (atticShadow n s) := by
  unfold atticShadow; (repeat' split) <;> simp (maxDischargeDepth := 100) [*]

@[simp ↓] theorem handOver_kept {s₀ : State} (n : Nat) (s : State) (hk : Kept s₀ s) : Kept s₀ (handOver n s) := by
  unfold handOver; dsimp only; (repeat' split) <;> simp (maxDischargeDepth := 100) [*]

@[simp ↓] theorem startCycle_kept {s₀ : State} (n k d : Nat) (s : State)
    (hk : Kept s₀ s) : Kept s₀ (startCycle n k d s) := by
  unfold startCycle; (repeat' split) <;> simp (maxDischargeDepth := 100) [*]

@[simp ↓] theorem freshCycles_kept {s₀ : State} (n : Nat) (s : State) (hk : Kept s₀ s) : Kept s₀
    (freshCycles n s) := by
  unfold freshCycles; (repeat' split) <;> simp (maxDischargeDepth := 100) [*]

@[simp ↓] theorem endCycle_kept {s₀ : State} (n k : Nat) (s : State) (hk : Kept s₀ s) : Kept s₀ (endCycle n k s) := by
  unfold endCycle; (repeat' split) <;> simp (maxDischargeDepth := 100) [*]

@[simp ↓] theorem sendEntry_kept {s₀ : State} (n i : Nat) (new : Option (Nat × Int)) (s : State)
    (hk : Kept s₀ s) : Kept s₀ (sendEntry n i new s) := by
  unfold sendEntry; (repeat' split) <;> simp (maxDischargeDepth := 100) [*]

@[simp ↓] theorem sendCmd_kept {s₀ : State} (n : Nat) (c : Cmd) (s : State) (hk : Kept s₀ s) : Kept s₀ (sendCmd n c s) := by
  unfold sendCmd; (repeat' split) <;> simp (maxDischargeDepth := 100) [*]

@[simp ↓] theorem tagWaits_kept {s₀ : State} (n before : Nat) (s : State)
    (hk : Kept s₀ s) : Kept s₀ (tagWaits n before s) := by
  unfold tagWaits; (repeat' split) <;> simp (maxDischargeDepth := 100) [*]

@[simp ↓] theorem endWork_kept {s₀ : State} (n : Nat) (s : State) (hk : Kept s₀ s) : Kept s₀ (endWork n s) := by
  unfold endWork; dsimp only; (repeat' split) <;> simp (maxDischargeDepth := 100) [*]

@[simp ↓] theorem atBoundary_kept {s₀ : State} (n : Nat) (s : State) (hk : Kept s₀ s) : Kept s₀ (atBoundary n s) := by
  unfold atBoundary; dsimp only; (repeat' split) <;> simp (maxDischargeDepth := 100) [*]

@[simp ↓] theorem countStream_kept {s₀ : State} (n i : Nat) (s : State) (hk : Kept s₀ s) : Kept s₀ (countStream n i s) := by
  unfold countStream; (repeat' split) <;> simp (maxDischargeDepth := 100) [*]

@[simp ↓] theorem takeUnsolicited_kept {s₀ : State} (n time : Nat) (u : Unsolicited) (s : State)
    (hk : Kept s₀ s) : Kept s₀ (takeUnsolicited n time u s) := by
  unfold takeUnsolicited; (repeat' split) <;> simp (maxDischargeDepth := 100) [*]

@[simp ↓] theorem startItem_kept {s₀ : State} (n : Nat) (it : PlaceItem) (s : State)
    (hk : Kept s₀ s) : Kept s₀ (startItem n it s) := by
  unfold startItem; (repeat' split) <;> simp (maxDischargeDepth := 100) [*]

@[simp ↓] theorem sendPoll_kept {s₀ : State} (n : Nat) (pts : List Nat) (s : State)
    (hk : Kept s₀ s) : Kept s₀ (sendPoll n pts s) := by
  unfold sendPoll; (repeat' split) <;> simp (maxDischargeDepth := 100) [*]

@[simp ↓] theorem startPoll_kept {s₀ : State} (n k : Nat) (s : State) (hk : Kept s₀ s) : Kept s₀
    (startPoll n k s) := by
  unfold startPoll; (repeat' split) <;> simp (maxDischargeDepth := 100) [*]

@[simp ↓] theorem startCmd_kept {s₀ : State} (n : Nat) (s : State) (hk : Kept s₀ s) : Kept s₀ (startCmd n s).1 := by
  unfold startCmd; dsimp only; (repeat' split) <;> simp (maxDischargeDepth := 100) [*]

@[simp ↓] theorem choose_kept {s₀ : State} (n k : Nat) (s : State) (hk : Kept s₀ s) : Kept s₀ (choose n k s) := by
  induction k generalizing s with
  | zero => exact hk
  | succ k ih => unfold choose; dsimp only; (repeat' split) <;> simp (maxDischargeDepth := 100) [*]

@[simp ↓] theorem chooseNext_kept {s₀ : State} (n : Nat) (s : State) (hk : Kept s₀ s) : Kept s₀ (chooseNext n s) := by
  unfold chooseNext; (repeat' split) <;> simp (maxDischargeDepth := 100) [*]

@[simp ↓] theorem finishItem_kept {s₀ : State} (n before : Nat) (s : State)
    (hk : Kept s₀ s) : Kept s₀ (finishItem n before s) := by
  unfold finishItem; (repeat' split) <;> simp (maxDischargeDepth := 100) [*]

@[simp ↓] theorem releaseItem_kept {s₀ : State} (n : Nat) (s : State) (hk : Kept s₀ s) : Kept s₀ (releaseItem n s) := by
  unfold releaseItem; (repeat' split) <;> simp (maxDischargeDepth := 100) [*]

@[simp ↓] theorem releaseItems_kept {s₀ : State} (s : State) (hk : Kept s₀ s) : Kept s₀ (releaseItems s) := by
  unfold releaseItems; (repeat' split) <;> simp (maxDischargeDepth := 100) [*]

@[simp ↓] theorem wakePlace_kept {s₀ : State} (n : Nat) (s : State) (hk : Kept s₀ s) : Kept s₀ (wakePlace n s) := by
  unfold wakePlace; (repeat' split) <;> simp (maxDischargeDepth := 100) [*]

@[simp ↓] theorem portUp_kept {s₀ : State} (n : Nat) (s : State) (hk : Kept s₀ s) : Kept s₀ (portUp n s) := by
  unfold portUp; (repeat' split) <;> simp (maxDischargeDepth := 100) [*]

@[simp ↓] theorem shadowCompare_kept {s₀ : State} (n : Nat) (differs : Bool) (s : State) (hk : Kept s₀ s) : Kept s₀
    (shadowCompare n differs s) := by
  unfold shadowCompare; (repeat' split) <;> simp (maxDischargeDepth := 100) [*]

@[simp ↓] theorem placeWrite_kept {s₀ : State} (n time : Nat) (s : State) (v : Nat × Reading) (hk : Kept s₀ s) : Kept s₀
    (placeWrite n time s v) := by
  unfold placeWrite; (repeat' split) <;> simp (maxDischargeDepth := 100) [*]

@[simp ↓] theorem endPoll_kept {s₀ : State} (n k : Nat) (pts : List Nat) (failed differs : Bool) (before : Nat)
    (s : State) (hk : Kept s₀ s) : Kept s₀ (endPoll n k pts failed differs before s) := by
  unfold endPoll; (repeat' split) <;> simp (maxDischargeDepth := 100) [*]

@[simp ↓] theorem pollFails_kept {s₀ : State} (n k : Nat) (pts : List Nat) (differs : Bool) (time : Nat) (s : State)
    (hk : Kept s₀ s) : Kept s₀ (pollFails n k pts differs time s) := by
  unfold pollFails; (repeat' split) <;> simp (maxDischargeDepth := 100) [*]

@[simp ↓] theorem canPoll_kept {s₀ : State} (n k : Nat) (pts : List Nat) (differs : Bool) (s : State)
    (hk : Kept s₀ s) : Kept s₀ (canPoll n k pts differs s) := by
  unfold canPoll; (repeat' split) <;> simp (maxDischargeDepth := 100) [*]

@[simp ↓] theorem nextAttempt_kept {s₀ : State} (n : Nat) (s : State) (hk : Kept s₀ s) : Kept s₀ (nextAttempt n s) := by
  unfold nextAttempt; dsimp only; (repeat' split) <;> simp (maxDischargeDepth := 100) [*]

@[simp ↓] theorem cmdAttemptsOver_kept {s₀ : State} (n cause : Nat) (s : State)
    (hk : Kept s₀ s) : Kept s₀ (cmdAttemptsOver n cause s) := by
  unfold cmdAttemptsOver; (repeat' split) <;> simp (maxDischargeDepth := 100) [*]

@[simp ↓] theorem attemptFails_kept {s₀ : State} (n : Nat) (differs : Bool) (cause time : Nat) (s : State)
    (hk : Kept s₀ s) : Kept s₀ (attemptFails n differs cause time s) := by
  unfold attemptFails; dsimp only; (repeat' split) <;> simp (maxDischargeDepth := 100) [*]

@[simp ↓] theorem illegalStep_kept {s₀ : State} (n : Nat) (s : State) (hk : Kept s₀ s) : Kept s₀ (illegalStep n s) := by
  unfold illegalStep; (repeat' split) <;> simp (maxDischargeDepth := 100) [*]

@[simp ↓] theorem pollAnswered_kept {s₀ : State} (n k : Nat) (pts : List Nat) (differs : Bool) (vals : Option
    (List (Nat × Reading))) (s : State) (hk : Kept s₀ s) : Kept s₀ (pollAnswered n k pts differs vals s) := by
  unfold pollAnswered; (repeat' split) <;> simp (maxDischargeDepth := 100) [*]

@[simp ↓] theorem pollEnds_kept {s₀ : State} (n k : Nat) (pts : List Nat) (differs : Bool) (r : PollEnd) (s : State)
    (hk : Kept s₀ s) : Kept s₀ (pollEnds n k pts differs r s) := by
  unfold pollEnds; (repeat' split) <;> simp (maxDischargeDepth := 100) [*]

@[simp ↓] theorem sendStream_kept {s₀ : State} (n : Nat) (s : State) (hk : Kept s₀ s) : Kept s₀ (sendStream n s) := by
  unfold sendStream; (repeat' split) <;> simp (maxDischargeDepth := 100) [*]

@[simp ↓] theorem houseWork_kept {s₀ : State} (n : Nat) (h : House) (s : State)
    (hk : Kept s₀ s) : Kept s₀ (houseWork n h s) := by
  unfold houseWork; (repeat' split) <;> simp (maxDischargeDepth := 100) [*]

@[simp ↓] theorem confirmCmd_kept {s₀ : State} (n : Nat) (c : Cmd) (r : Reading) (s : State)
    (hk : Kept s₀ s) : Kept s₀ (confirmCmd n c r s) := by
  unfold confirmCmd; (repeat' split) <;> simp (maxDischargeDepth := 100) [*]

@[simp ↓] theorem cmdAccepted_kept {s₀ : State} (n : Nat) (c : Cmd) (s : State)
    (hk : Kept s₀ s) : Kept s₀ (cmdAccepted n c s) := by
  unfold cmdAccepted; (repeat' split) <;> simp (maxDischargeDepth := 100) [*]

@[simp ↓] theorem cmdValue_kept {s₀ : State} (n : Nat) (c : Cmd) (d : FieldData) (s : State)
    (hk : Kept s₀ s) : Kept s₀ (cmdValue n c d s) := by
  unfold cmdValue; (repeat' split) <;> simp (maxDischargeDepth := 100) [*]

@[simp ↓] theorem cmdEnds_kept {s₀ : State} (n : Nat) (c : Cmd) (r : CmdEnd) (s : State)
    (hk : Kept s₀ s) : Kept s₀ (cmdEnds n c r s) := by
  unfold cmdEnds; (repeat' split) <;> simp (maxDischargeDepth := 100) [*]

@[simp ↓] theorem engRunWrite_kept {s₀ : State} (e : Nat) (run : Bool) (s : State) (hk : Kept s₀ s) : Kept s₀
    (engRunWrite e run s) := by
  unfold engRunWrite; (repeat' split) <;> simp (maxDischargeDepth := 100) [*]

@[simp ↓] theorem engBindWrite_kept {s₀ : State} (e : Nat) (v : Word) (s : State) (hk : Kept s₀ s) : Kept s₀
    (engBindWrite e v s) := by
  unfold engBindWrite; (repeat' split) <;> simp (maxDischargeDepth := 100) [*]

@[simp ↓] theorem attachGroup_kept {s₀ : State} (n g : Nat) (s : State) (hk : Kept s₀ s) : Kept s₀ (attachGroup n g s) := by
  unfold attachGroup; (repeat' split) <;> simp (maxDischargeDepth := 100) [*]

@[simp ↓] theorem pinselWrite_kept {s₀ : State} (n g : Nat) (s : State) (hk : Kept s₀ s) : Kept s₀
    (pinselWrite n g s) := by
  unfold pinselWrite; (repeat' split) <;> simp (maxDischargeDepth := 100) [*]

@[simp ↓] theorem writeRun_kept {s₀ : State} (off : Nat) (l : List Word) (s : State) (hk : Kept s₀ s) : Kept s₀
    (writeRun off l s) := by
  induction l generalizing s off with
  | nil => exact hk
  | cons w l ih => exact ih _ _ (by simp (maxDischargeDepth := 100) [*])

@[simp ↓] theorem loadBinding_kept {s₀ : State} (e : Nat) (pl : Placement) (s : State) (hk : Kept s₀ s) : Kept s₀
    (loadBinding e pl s) := by
  unfold loadBinding; (repeat' split) <;> simp (maxDischargeDepth := 100) [*]

/-! ### Dio -/

@[simp ↓] theorem dioWrite_kept {s₀ : State} (n q : Nat) (v : Int) (s : State) (hk : Kept s₀ s) : Kept s₀
    (dioWrite n q v s) := by
  unfold dioWrite; (repeat' split) <;> simp (maxDischargeDepth := 100) [*]

@[simp ↓] theorem dioOverflow_kept {s₀ : State} (n : Nat) (s : State) (hk : Kept s₀ s) : Kept s₀
    (dioOverflow n s) := by
  unfold dioOverflow; (repeat' split) <;> simp (maxDischargeDepth := 100) [*]

@[simp ↓] theorem countFilter_kept {s₀ : State} (n : Nat) (s : State) (hk : Kept s₀ s) : Kept s₀ (countFilter n s) := by
  unfold countFilter; dsimp only; (repeat' split) <;> simp (maxDischargeDepth := 100) [*]

@[simp ↓] theorem enterMode_kept {s₀ : State} (n mode par : Nat) (s : State) (hk : Kept s₀ s) : Kept s₀
    (enterMode n mode par s) := by
  unfold enterMode; (repeat' split) <;> simp (maxDischargeDepth := 100) [*]

@[simp ↓] theorem applyLine_kept {s₀ : State} (n mode par : Nat) (s : State) (hk : Kept s₀ s) : Kept s₀
    (applyLine n mode par s) := by
  unfold applyLine; (repeat' split) <;> simp (maxDischargeDepth := 100) [*]

@[simp ↓] theorem resample_kept {s₀ : State} (n : Nat) (s : State) (hk : Kept s₀ s) : Kept s₀ (resample n s) := by
  unfold resample; (repeat' split) <;> simp (maxDischargeDepth := 100) [*]

@[simp ↓] theorem applySpare_kept {s₀ : State} (k line : Nat) (en : Bool) (s : State) (hk : Kept s₀ s) : Kept s₀
    (applySpare k line en s) := by
  unfold applySpare; (repeat' split) <;> simp (maxDischargeDepth := 100) [*]

@[simp ↓] theorem applyLineLive_kept {s₀ : State} (n mask v : Nat) (s : State)
    (hk : Kept s₀ s) : Kept s₀ (applyLineLive n mask v s) := by
  unfold applyLineLive; (repeat' split) <;> simp (maxDischargeDepth := 100) [*]

@[simp ↓] theorem lineBoundary_kept {s₀ : State} (n : Nat) (s : State) (hk : Kept s₀ s) : Kept s₀
    (lineBoundary n s) := by
  unfold lineBoundary; (repeat' split) <;> simp (maxDischargeDepth := 100) [*]

@[simp ↓] theorem linePairWrite_kept {s₀ : State} (n mode par : Nat) (s : State) (hk : Kept s₀ s) : Kept s₀
    (linePairWrite n mode par s) := by
  unfold linePairWrite; (repeat' split) <;> simp (maxDischargeDepth := 100) [*]

@[simp ↓] theorem spareWrite_kept {s₀ : State} (k : Nat) (v : Word) (s : State) (hk : Kept s₀ s) : Kept s₀
    (spareWrite k v s) := by
  unfold spareWrite; (repeat' split) <;> simp (maxDischargeDepth := 100) [*]

@[simp ↓] theorem lineLive_kept {s₀ : State} (n : Nat) (v : Word) (s : State) (hk : Kept s₀ s) : Kept s₀
    (lineLive n v s) := by
  unfold lineLive; (repeat' split) <;> simp (maxDischargeDepth := 100) [*]

@[simp ↓] theorem driveFromPoint_kept {s₀ : State} (n : Nat) (s : State) (hk : Kept s₀ s) : Kept s₀
    (driveFromPoint n s) := by
  unfold driveFromPoint; (repeat' split) <;> simp (maxDischargeDepth := 100) [*]

@[simp ↓] theorem startLine_kept {s₀ : State} (n : Nat) (s : State) (hk : Kept s₀ s) : Kept s₀ (startLine n s) := by
  unfold startLine; dsimp only; (repeat' split) <;> simp (maxDischargeDepth := 100) [*]

@[simp ↓] theorem edgeItem_kept {s₀ : State} (n : Nat) (lv : Bool) (s : State) (hk : Kept s₀ s) : Kept s₀
    (edgeItem n lv s) := by
  unfold edgeItem; (repeat' split) <;> simp (maxDischargeDepth := 100) [*]

@[simp ↓] theorem periodEdge_kept {s₀ : State} (n : Nat) (l : Line) (s : State) (hk : Kept s₀ s) : Kept s₀
    (periodEdge n l s) := by
  unfold periodEdge; (repeat' split) <;> simp (maxDischargeDepth := 100) [*]

@[simp ↓] theorem edgeByMode_kept {s₀ : State} (n : Nat) (raw : Bool) (s : State)
    (hk : Kept s₀ s) : Kept s₀ (edgeByMode n raw s) := by
  unfold edgeByMode; (repeat' split) <;> simp (maxDischargeDepth := 100) [*]

@[simp ↓] theorem refreshLine_kept {s₀ : State} (differ : List Nat) (s : State) (n : Nat)
    (hk : Kept s₀ s) : Kept s₀ (refreshLine differ s n) := by
  unfold refreshLine; dsimp only; (repeat' split) <;> simp (maxDischargeDepth := 100) [*]

@[simp ↓] theorem popCmd_kept {s₀ : State} (n : Nat) (s : State) (hk : Kept s₀ s) : Kept s₀ (popCmd n s) := by
  unfold popCmd; (repeat' split) <;> simp (maxDischargeDepth := 100) [*]

@[simp ↓] theorem failLineCmd_kept {s₀ : State} (n : Nat) (c : Cmd) (cause : Nat) (s : State)
    (hk : Kept s₀ s) : Kept s₀ (failLineCmd n c cause s) := by
  unfold failLineCmd; (repeat' split) <;> simp (maxDischargeDepth := 100) [*]

@[simp ↓] theorem confirmLineCmd_kept {s₀ : State} (n : Nat) (c : Cmd) (s : State) (hk : Kept s₀ s) : Kept s₀
    (confirmLineCmd n c s) := by
  unfold confirmLineCmd; (repeat' split) <;> simp (maxDischargeDepth := 100) [*]

@[simp ↓] theorem enterLineCmd_kept {s₀ : State} (n : Nat) (c : Cmd) (s : State) (hk : Kept s₀ s) : Kept s₀
    (enterLineCmd n c s) := by
  unfold enterLineCmd; (repeat' split) <;> simp (maxDischargeDepth := 100) [*]

@[simp ↓] theorem failLineCmds_kept {s₀ : State} (n cause k : Nat) (s : State) (hk : Kept s₀ s) : Kept s₀
    (failLineCmds n cause k s) := by
  induction k generalizing s with
  | zero => exact hk
  | succ k ih => unfold failLineCmds; (repeat' split) <;> simp (maxDischargeDepth := 100) [*]

@[simp ↓] theorem takeSafe_kept {s₀ : State} (n : Nat) (s : State) (hk : Kept s₀ s) : Kept s₀ (takeSafe n s) := by
  unfold takeSafe; (repeat' split) <;> simp (maxDischargeDepth := 100) [*]

@[simp ↓] theorem safeLines_kept {s₀ : State} (f : Nat → Bool) (s : State) (hk : Kept s₀ s) : Kept s₀
    (safeLines f s) := by
  unfold safeLines; (repeat' split) <;> simp (maxDischargeDepth := 100) [*]

@[simp ↓] theorem fenceDio_kept {s₀ : State} (c : Nat) (s : State) (hk : Kept s₀ s) : Kept s₀ (fenceDio c s) := by
  unfold fenceDio; (repeat' split) <;> simp (maxDischargeDepth := 100) [*]

@[simp ↓] theorem wdogWrite_kept {s₀ : State} (v : Word) (s : State) (hk : Kept s₀ s) : Kept s₀ (wdogWrite v s) := by
  unfold wdogWrite; (repeat' split) <;> simp (maxDischargeDepth := 100) [*]

/-! ### Field -/

@[simp ↓] theorem startChan_kept {s₀ : State} (n : Nat) (s : State) (hk : Kept s₀ s) : Kept s₀ (startChan n s) := by
  unfold startChan; (repeat' split) <;> simp (maxDischargeDepth := 100) [*]

@[simp ↓] theorem startPlace_kept {s₀ : State} (n : Nat) (s : State) (hk : Kept s₀ s) : Kept s₀ (startPlace n s) := by
  unfold startPlace; dsimp only; (repeat' split) <;> simp (maxDischargeDepth := 100) [*]

@[simp ↓] theorem startField_kept {s₀ : State} (s : State) (hk : Kept s₀ s) : Kept s₀ (startField s) := by
  unfold startField; (repeat' split) <;> simp (maxDischargeDepth := 100) [*]

@[simp ↓] theorem firstLock_kept {s₀ : State} (s : State) (hk : Kept s₀ s) : Kept s₀ (firstLock s) := by
  unfold firstLock; (repeat' split) <;> simp (maxDischargeDepth := 100) [*]

end Sys2Proof.Machine
end

