-- ==== Sys2Proof/Laws/KeptRing.lean ====
section
/-! SUPPORT. The queue, the clock and the form of the memories are left alone by every operation of
the bridge, the switch core and the ring. -/

namespace Sys2Proof.Machine

set_option linter.unusedTactic false
set_option linter.unnecessarySeqFocus false
set_option linter.unreachableTactic false

/-! ### Commands -/

@[simp ↓] theorem sendCommand_kept {s₀ : State} (p : Nat) (c : Cmd) (s : State)
    (hk : Kept s₀ s) : Kept s₀ (sendCommand p c s) := by
  unfold sendCommand; (repeat' split) <;> simp (maxDischargeDepth := 100) [*]

@[simp ↓] theorem commandWrite_kept {s₀ : State} (p node tag : Nat) (host : Bool) (v : Word) (s : State)
    (hk : Kept s₀ s) : Kept s₀ (commandWrite p node tag host v s) := by
  unfold commandWrite; (repeat' split) <;> simp (maxDischargeDepth := 100) [*]

@[simp ↓] theorem forceCommand_kept {s₀ : State} (p : Nat) (v : Word) (s : State) (hk : Kept s₀ s) : Kept s₀
    (forceCommand p v s) := by
  unfold forceCommand; (repeat' split) <;> simp (maxDischargeDepth := 100) [*]

/-! ### Session -/

@[simp ↓] theorem openSession_kept {s₀ : State} (d node rights : Nat) (s : State) (hk : Kept s₀ s) : Kept s₀
    (openSession d node rights s) := by
  unfold openSession; (repeat' split) <;> simp (maxDischargeDepth := 100) [*]

@[simp ↓] theorem closeSession_kept {s₀ : State} (d : Nat) (s : State) (hk : Kept s₀ s) : Kept s₀
    (closeSession d s) := by
  unfold closeSession; (repeat' split) <;> simp (maxDischargeDepth := 100) [*]

@[simp ↓] theorem noteNotif_kept {s₀ : State} (s : State) (hk : Kept s₀ s) : Kept s₀ (noteNotif s) := by
  unfold noteNotif; (repeat' split) <;> simp (maxDischargeDepth := 100) [*]

@[simp ↓] theorem ringDesk_kept {s₀ : State} (d : Nat) (s : State) (hk : Kept s₀ s) : Kept s₀ (ringDesk d s) := by
  unfold ringDesk; (repeat' split) <;> simp (maxDischargeDepth := 100) [*]

@[simp ↓] theorem cmdAreaWrite_kept {s₀ : State} (d i : Nat) (v : Word) (s : State) (hk : Kept s₀ s) : Kept s₀
    (cmdAreaWrite d i v s) := by
  unfold cmdAreaWrite; (repeat' split) <;> simp (maxDischargeDepth := 100) [*]

@[simp ↓] theorem deskWordWrite_kept {s₀ : State} (d o : Nat) (v : Word) (s : State) (hk : Kept s₀ s) : Kept s₀
    (deskWordWrite d o v s) := by
  unfold deskWordWrite; (repeat' split) <;> simp (maxDischargeDepth := 100) [*]

@[simp ↓] theorem windowWrite_kept {s₀ : State} (d i : Nat) (v : Word) (s : State) (hk : Kept s₀ s) : Kept s₀
    (windowWrite d i v s) := by
  unfold windowWrite; (repeat' split) <;> simp (maxDischargeDepth := 100) [*]

@[simp ↓] theorem pipeItem_kept {s₀ : State} (b : Body) (s : State) (hk : Kept s₀ s) : Kept s₀ (pipeItem b s) := by
  unfold pipeItem; (repeat' split) <;> simp (maxDischargeDepth := 100) [*]

/-! ### Bridge -/

@[simp ↓] theorem errLog_kept {s₀ : State} (kind which cause hostErr : Nat) (s : State) (hk : Kept s₀ s) : Kept s₀
    (errLog kind which cause hostErr s) := by
  unfold errLog; (repeat' split) <;> simp (maxDischargeDepth := 100) [*]

@[simp ↓] theorem startDesc_kept {s₀ : State} (q : Nat) (bs : List Nat) (s : State) (hk : Kept s₀ s) : Kept s₀
    (startDesc q bs s) := by
  unfold startDesc; (repeat' split) <;> simp (maxDischargeDepth := 100) [*]

@[simp ↓] theorem startDescs_kept {s₀ : State} (q k : Nat) (s : State) (hk : Kept s₀ s) : Kept s₀
    (startDescs q k s) := by
  induction k generalizing s with
  | zero => exact hk
  | succ k ih => unfold startDescs; (repeat' split) <;> simp (maxDischargeDepth := 100) [*]

@[simp ↓] theorem retireDescs_kept {s₀ : State} (q k : Nat) (s : State) (hk : Kept s₀ s) : Kept s₀
    (retireDescs q k s) := by
  induction k generalizing s with
  | zero => exact hk
  | succ k ih => unfold retireDescs; dsimp only; (repeat' split) <;> simp (maxDischargeDepth := 100) [*]

@[simp ↓] theorem fetchUpTo_kept {s₀ : State} (q k : Nat) (s : State) (hk : Kept s₀ s) : Kept s₀
    (fetchUpTo q k s) := by
  induction k generalizing s with
  | zero => exact hk
  | succ k ih => unfold fetchUpTo; dsimp only; split <;> simp (maxDischargeDepth := 100) [*]

@[simp ↓] theorem issueWrites_kept {s₀ : State} (q : Nat) (s : State) (hk : Kept s₀ s) : Kept s₀ (issueWrites q s) := by
  unfold issueWrites; (repeat' split) <;> simp (maxDischargeDepth := 100) [*]

@[simp ↓] theorem pumpReads_kept {s₀ : State} (s : State) (hk : Kept s₀ s) : Kept s₀ (pumpReads s) := by
  unfold pumpReads; (repeat' split) <;> simp (maxDischargeDepth := 100) [*]

@[simp ↓] theorem runRing_kept {s₀ : State} (q : Nat) (s : State) (hk : Kept s₀ s) : Kept s₀ (runRing q s) := by
  unfold runRing; (repeat' split) <;> simp (maxDischargeDepth := 100) [*]

@[simp ↓] theorem setDesc_kept {s₀ : State} (q : Nat) (d : Desc) (s : State) (hk : Kept s₀ s) : Kept s₀
    (setDesc q d s) := by
  unfold setDesc; (repeat' split) <;> simp (maxDischargeDepth := 100) [*]

@[simp ↓] theorem endDesc_kept {s₀ : State} (q : Nat) (d : Desc) (typ cause info : Nat) (s : State)
    (hk : Kept s₀ s) : Kept s₀ (endDesc q d typ cause info s) := by
  unfold endDesc; (repeat' split) <;> simp (maxDischargeDepth := 100) [*]

@[simp ↓] theorem setRead_kept {s₀ : State} (id : Nat) (r : Option Bar2Read) (s : State) (hk : Kept s₀ s) : Kept s₀
    (setRead id r s) := by
  unfold setRead; (repeat' split) <;> simp (maxDischargeDepth := 100) [*]

@[simp ↓] theorem toBuffer_kept {s₀ : State} (haddr : Nat) (ws : List (Nat × Word)) (s : State)
    (hk : Kept s₀ s) : Kept s₀ (toBuffer haddr ws s) := by
  unfold toBuffer; (repeat' split) <;> simp (maxDischargeDepth := 100) [*]

@[simp ↓] theorem readArrive_kept {s₀ : State} (who : ReadFor) (at_ : Nat) (ws : List Word) (s : State)
    (hk : Kept s₀ s) : Kept s₀ (readArrive who at_ ws s) := by
  unfold readArrive; (repeat' split) <;> simp (maxDischargeDepth := 100) [*]

@[simp ↓] theorem readFails_kept {s₀ : State} (who : ReadFor) (cause : Nat) (s : State) (hk : Kept s₀ s) : Kept s₀
    (readFails who cause s) := by
  unfold readFails; (repeat' split) <;> simp (maxDischargeDepth := 100) [*]

@[simp ↓] theorem failTlp_kept {s₀ : State} (id kind cause : Nat) (r : Bar2Read) (s : State)
    (hk : Kept s₀ s) : Kept s₀ (failTlp id kind cause r s) := by
  unfold failTlp; (repeat' split) <;> simp (maxDischargeDepth := 100) [*]

@[simp ↓] theorem tailWrite_kept {s₀ : State} (q : Nat) (v : Word) (s : State) (hk : Kept s₀ s) : Kept s₀
    (tailWrite q v s) := by
  unfold tailWrite; (repeat' split) <;> simp (maxDischargeDepth := 100) [*]

@[simp ↓] theorem sqEnable_kept {s₀ : State} (q : Nat) (en : Bool) (s : State) (hk : Kept s₀ s) : Kept s₀
    (sqEnable q en s) := by
  unfold sqEnable; (repeat' split) <;> simp (maxDischargeDepth := 100) [*]

@[simp ↓] theorem cqEnable_kept {s₀ : State} (c : Nat) (en : Bool) (s : State) (hk : Kept s₀ s) : Kept s₀
    (cqEnable c en s) := by
  unfold cqEnable; (repeat' split) <;> simp (maxDischargeDepth := 100) [*]

@[simp ↓] theorem sqCfgWrite_kept {s₀ : State} (q : Nat) (v : Word) (s : State) (hk : Kept s₀ s) : Kept s₀
    (sqCfgWrite q v s) := by
  unfold sqCfgWrite; (repeat' split) <;> simp (maxDischargeDepth := 100) [*]

@[simp ↓] theorem cqCfgWrite_kept {s₀ : State} (c : Nat) (v : Word) (s : State) (hk : Kept s₀ s) : Kept s₀
    (cqCfgWrite c v s) := by
  unfold cqCfgWrite; (repeat' split) <;> simp (maxDischargeDepth := 100) [*]

@[simp ↓] theorem cqHeadWrite_kept {s₀ : State} (c : Nat) (v : Word) (s : State) (hk : Kept s₀ s) : Kept s₀
    (cqHeadWrite c v s) := by
  unfold cqHeadWrite; (repeat' split) <;> simp (maxDischargeDepth := 100) [*]

@[simp ↓] theorem irqPendWrite_kept {s₀ : State} (i : Nat) (v : Word) (s : State) (hk : Kept s₀ s) : Kept s₀
    (irqPendWrite i v s) := by
  unfold irqPendWrite; (repeat' split) <;> simp (maxDischargeDepth := 100) [*]

@[simp ↓] theorem fetchItems_kept {s₀ : State} (q haddr room k dw items : Nat) (s : State) (hk : Kept s₀ s) :
    Kept s₀ (fetchItems q haddr room k dw items s).2.2 := by
  induction k generalizing s dw items with
  | zero => exact hk
  | succ k ih => unfold fetchItems; dsimp only; (repeat' split) <;> simp (maxDischargeDepth := 100) [*]

@[simp ↓] theorem runFetch_kept {s₀ : State} (q : Nat) (s : State) (hk : Kept s₀ s) : Kept s₀ (runFetch q s) := by
  unfold runFetch; (repeat' split) <;> simp (maxDischargeDepth := 100) [*]

@[simp ↓] theorem setMsix_kept {s₀ : State} (i : Nat) (v : BitVec 32) (s : State) (hk : Kept s₀ s) : Kept s₀
    (setMsix i v s) := by
  unfold setMsix; (repeat' split) <;> simp (maxDischargeDepth := 100) [*]

@[simp ↓] theorem sendPending_kept {s₀ : State} (v : Nat) (s : State) (hk : Kept s₀ s) : Kept s₀
    (sendPending v s) := by
  unfold sendPending; (repeat' split) <;> simp (maxDischargeDepth := 100) [*]

@[simp ↓] theorem trainPcie_kept {s₀ : State} (s : State) (hk : Kept s₀ s) : Kept s₀ (trainPcie s) := by
  unfold trainPcie; (repeat' split) <;> simp (maxDischargeDepth := 100) [*]

/-! ### Switch -/

@[simp ↓] theorem wakeQueues_kept {s₀ : State} (qs : List Nat) (s : State)
    (hk : Kept s₀ s) : Kept s₀ (wakeQueues qs s) := by
  unfold wakeQueues; (repeat' split) <;> simp (maxDischargeDepth := 100) [*]

@[simp ↓] theorem freezeFor_kept {s₀ : State} (i q : Nat) (s : State) (hk : Kept s₀ s) : Kept s₀
    (freezeFor i q s) := by
  unfold freezeFor; (repeat' split) <;> simp (maxDischargeDepth := 100) [*]

@[simp ↓] theorem sendOut_kept {s₀ : State} (p : Nat) (transit : Bool) (f : Frame) (fin : EndCode) (s : State)
    (hk : Kept s₀ s) : Kept s₀ (sendOut p transit f fin s) := by
  unfold sendOut; (repeat' split) <;> simp (maxDischargeDepth := 100) [*]

@[simp ↓] theorem badItem_kept {s₀ : State} (q src : Nat) (s : State) (hk : Kept s₀ s) : Kept s₀
    (badItem q src s) := by
  unfold badItem; dsimp only; (repeat' split) <;> simp (maxDischargeDepth := 100) [*]

@[simp ↓] theorem emptyPop_kept {s₀ : State} (q : Nat) (s : State) (hk : Kept s₀ s) : Kept s₀ (emptyPop q s) := by
  unfold emptyPop; (repeat' split) <;> simp (maxDischargeDepth := 100) [*]

@[simp ↓] theorem setStream_kept {s₀ : State} (key : Nat) (st : Stream) (s : State) (hk : Kept s₀ s) : Kept s₀
    (setStream key st s) := by
  unfold setStream; (repeat' split) <;> simp (maxDischargeDepth := 100) [*]

@[simp ↓] theorem openGap_kept {s₀ : State} (key : Nat) (st : Stream) (first : Nat) (s : State)
    (hk : Kept s₀ s) : Kept s₀ (openGap key st first s) := by
  unfold openGap; (repeat' split) <;> simp (maxDischargeDepth := 100) [*]

@[simp ↓] theorem stalledReplays_kept {s₀ : State} (q : Nat) (s : State) (hk : Kept s₀ s) : Kept s₀
    (stalledReplays q s) := by
  unfold stalledReplays; (repeat' split) <;> (try (refine foldl_kept (by simp (maxDischargeDepth := 100) [*]) fun t a => ?_)) <;> (repeat' split) <;> simp (maxDischargeDepth := 100) [*]

@[simp ↓] theorem popChecked_kept {s₀ : State} (q : Nat) (chk : ItemCheck) (s : State) (hk : Kept s₀ s) : Kept s₀
    (popChecked q chk s) := by
  unfold popChecked; (repeat' split) <;> simp (maxDischargeDepth := 100) [*]

@[simp ↓] theorem stewardCopies_kept {s₀ : State} (copies : List (Nat × Nat)) (f : Frame) (s : State)
    (hk : Kept s₀ s) : Kept s₀ (stewardCopies copies f s) := by
  unfold stewardCopies; (repeat' split) <;> simp (maxDischargeDepth := 100) [*]

@[simp ↓] theorem retireCell_kept {s₀ : State} (c : Nat) (s : State) (hk : Kept s₀ s) : Kept s₀ (retireCell c s) := by
  unfold retireCell; (repeat' split) <;> simp (maxDischargeDepth := 100) [*]

@[simp ↓] theorem freezeFree_kept {s₀ : State} (s : State) (hk : Kept s₀ s) : Kept s₀ (freezeFree s) := by
  unfold freezeFree; (repeat' split) <;> simp (maxDischargeDepth := 100) [*]

@[simp ↓] theorem limitWrite_kept {s₀ : State} (off : Nat) (v : Word) (s : State) (hk : Kept s₀ s) : Kept s₀
    (limitWrite off v s) := by
  unfold limitWrite; (repeat' split) <;> simp (maxDischargeDepth := 100) [*]

@[simp ↓] theorem rebuildQ_kept {s₀ : State} (kept : List (Nat × Nat)) (s : State) (q : Nat)
    (hk : Kept s₀ s) : Kept s₀ (rebuildQ kept s q) := by
  unfold rebuildQ; (repeat' split) <;> simp (maxDischargeDepth := 100) [*]

/-! ### Ring -/

@[simp ↓] theorem setDup_kept {s₀ : State} (k : Nat) (w : Window) (s : State) (hk : Kept s₀ s) : Kept s₀
    (setDup k w s) := by
  unfold setDup; (repeat' split) <;> simp (maxDischargeDepth := 100) [*]

theorem crossFresh_kept {s₀ t : State} {k sq : Nat} {s : State} (hk : Kept s₀ s)
    (e : crossFresh k sq s = some t) : Kept s₀ t := by
  unfold crossFresh at e
  (repeat' split at e) <;> cases e
  exact mk_kept hk ..

/-- `crossFresh`, or the state itself where it finds no fresh copy. -/
@[simp ↓] theorem crossFresh_getD_kept {s₀ : State} (k sq : Nat) (s : State) (hk : Kept s₀ s) :
    Kept s₀ ((crossFresh k sq s).getD s) := by
  cases e : crossFresh k sq s with
  | none => exact hk
  | some t => exact crossFresh_kept hk e

theorem crossCheck_kept {s₀ t : State} {x : Nat} {f : Frame} {s : State} (hk : Kept s₀ s)
    (e : crossCheck x f s = some t) : Kept s₀ t := by
  unfold crossCheck at e
  dsimp only at e
  split at e
  · split at e <;> cases e
    exact mk_kept (crossFresh_getD_kept _ _ _ hk) ..
  · exact crossFresh_kept hk e

@[simp ↓] theorem dropRecross_kept {s₀ : State} (x : Nat) (f : Frame) (s : State)
    (hk : Kept s₀ s) : Kept s₀ (dropRecross x f s) := by
  unfold dropRecross; (repeat' split) <;> simp (maxDischargeDepth := 100) [*]

@[simp ↓] theorem setArb_kept {s₀ : State} (p : Nat) (a : Arb) (s : State) (hk : Kept s₀ s) : Kept s₀
    (setArb p a s) := by
  unfold setArb; (repeat' split) <;> simp (maxDischargeDepth := 100) [*]

@[simp ↓] theorem takeFromQ_kept {s₀ : State} (q i : Nat) (s : State) (hk : Kept s₀ s) : Kept s₀
    (takeFromQ q i s) := by
  unfold takeFromQ; (repeat' split) <;> simp (maxDischargeDepth := 100) [*]

@[simp ↓] theorem slotLate_kept {s₀ : State} (p : Nat) (x : Item) (f : Frame) (s : State)
    (hk : Kept s₀ s) : Kept s₀ (slotLate p x f s) := by
  unfold slotLate; (repeat' split) <;> simp (maxDischargeDepth := 100) [*]

@[simp ↓] theorem noteSent_kept {s₀ : State} (f : Frame) (s : State) (hk : Kept s₀ s) : Kept s₀ (noteSent f s) := by
  unfold noteSent; (repeat' split) <;> simp (maxDischargeDepth := 100) [*]

@[simp ↓] theorem serve_kept {s₀ : State} (p c i : Nat) (x : Item) (f : Frame) (s : State)
    (hk : Kept s₀ s) : Kept s₀ (serve p c i x f s) := by
  unfold serve; (repeat' split) <;> simp (maxDischargeDepth := 100) [*]

@[simp ↓] theorem egress_kept {s₀ : State} (p : Nat) (s : State) (hk : Kept s₀ s) : Kept s₀ (egress p s) := by
  unfold egress; (repeat' split) <;> simp (maxDischargeDepth := 100) [*]

@[simp ↓] theorem toTransit_kept {s₀ : State} (p : Nat) (f : Frame) (s : State) (hk : Kept s₀ s) : Kept s₀
    (toTransit p f s) := by
  unfold toTransit; (repeat' split) <;> simp (maxDischargeDepth := 100) [*]

@[simp ↓] theorem toTransitSure_kept {s₀ : State} (p : Nat) (f : Frame) (s : State)
    (hk : Kept s₀ s) : Kept s₀ (toTransitSure p f s) := by
  unfold toTransitSure; (repeat' split) <;> simp (maxDischargeDepth := 100) [*]

@[simp ↓] theorem forward_kept {s₀ : State} (p : Nat) (f : Frame) (s : State) (hk : Kept s₀ s) : Kept s₀
    (forward p f s) := by
  unfold forward; (repeat' split) <;> simp (maxDischargeDepth := 100) [*]

@[simp ↓] theorem passOn_kept {s₀ : State} (p : Nat) (f : Frame) (s : State) (hk : Kept s₀ s) : Kept s₀
    (passOn p f s) := by
  unfold passOn; (repeat' split) <;> simp (maxDischargeDepth := 100) [*]

@[simp ↓] theorem inject_kept {s₀ : State} (y : Nat) (f : Frame) (s : State) (hk : Kept s₀ s) : Kept s₀
    (inject y f s) := by
  unfold inject; (repeat' split) <;> simp (maxDischargeDepth := 100) [*]

@[simp ↓] theorem takeCredit_kept {s₀ : State} (y : Nat) (s : State) (hk : Kept s₀ s) : Kept s₀ (takeCredit y s) := by
  unfold takeCredit; (repeat' split) <;> simp (maxDischargeDepth := 100) [*]

@[simp ↓] theorem returnCredit_kept {s₀ : State} (x : Nat) (s : State) (hk : Kept s₀ s) : Kept s₀
    (returnCredit x s) := by
  unfold returnCredit; (repeat' split) <;> simp (maxDischargeDepth := 100) [*]

@[simp ↓] theorem cross_kept {s₀ : State} (x : Nat) (f : Frame) (s : State) (hk : Kept s₀ s) : Kept s₀
    (cross x f s) := by
  unfold cross
  split
  · exact dropRecross_kept _ _ _ hk
  · next e =>
    have := crossCheck_kept hk e
    (repeat' split) <;> simp (maxDischargeDepth := 100) [*]

@[simp ↓] theorem crossBcast_kept {s₀ : State} (f : Frame) (s : State) (hk : Kept s₀ s) : Kept s₀
    (crossBcast f s) := by
  unfold crossBcast; (repeat' split) <;> simp (maxDischargeDepth := 100) [*]

theorem deliverQ_kept {s₀ t : State} {q : Nat} {b : Body} {cls : Nat} {s : State} (hk : Kept s₀ s)
    (e : deliverQ q b cls s = some t) : Kept s₀ t := by
  unfold deliverQ at e
  dsimp only at e
  (repeat' split at e) <;> cases e <;> simp (maxDischargeDepth := 100) [*]

@[simp ↓] theorem deliverSure_kept {s₀ : State} (q : Nat) (b : Body) (cls : Nat) (s : State)
    (hk : Kept s₀ s) : Kept s₀ (deliverSure q b cls s) := by
  unfold deliverSure
  split
  · next e => exact deliverQ_kept hk e
  · simp (maxDischargeDepth := 100) [*]

@[simp ↓] theorem notTaken_kept {s₀ : State} (s : State) (hk : Kept s₀ s) : Kept s₀ (notTaken s) := by
  unfold notTaken; (repeat' split) <;> simp (maxDischargeDepth := 100) [*]

@[simp ↓] theorem sendAck_kept {s₀ : State} (f : Frame) (s : State) (hk : Kept s₀ s) : Kept s₀ (sendAck f s) := by
  unfold sendAck; (repeat' split) <;> simp (maxDischargeDepth := 100) [*]

@[simp ↓] theorem toRx_kept {s₀ : State} (f : Frame) (s : State) (hk : Kept s₀ s) : Kept s₀ (toRx f s) := by
  unfold toRx; (repeat' split) <;> simp (maxDischargeDepth := 100) [*]

theorem place_kept {s₀ t : State} {f : Frame} {s : State} (hk : Kept s₀ s) (e : place f s = some t) : Kept s₀ t := by
  unfold place at e
  (repeat' split at e) <;> first | exact deliverQ_kept hk e | skip
  all_goals simp only [Option.map_eq_some_iff, Option.some.injEq] at e
  all_goals first
    | (obtain ⟨u, hu, rfl⟩ := e; have := deliverQ_kept hk hu; simp (maxDischargeDepth := 100) [*])
    | (subst e; simp (maxDischargeDepth := 100) [*])
    | skip

@[simp ↓] theorem wakeByFrame_kept {s₀ : State} (f : Frame) (s : State) (hk : Kept s₀ s) : Kept s₀
    (wakeByFrame f s) := by
  unfold wakeByFrame; (repeat' split) <;> simp (maxDischargeDepth := 100) [*]

@[simp ↓] theorem seedSeq_kept {s₀ : State} (x : Nat) (f : Frame) (s : State)
    (hk : Kept s₀ s) : Kept s₀ (seedSeq x f s) := by
  unfold seedSeq; (repeat' split) <;> simp (maxDischargeDepth := 100) [*]

@[simp ↓] theorem noteOrder_kept {s₀ : State} (f : Frame) (s : State) (hk : Kept s₀ s) : Kept s₀ (noteOrder f s) := by
  unfold noteOrder; (repeat' split) <;> simp (maxDischargeDepth := 100) [*]

@[simp ↓] theorem deliver_kept {s₀ : State} (x : Nat) (f : Frame) (s : State) (hk : Kept s₀ s) : Kept s₀
    (deliver x f s) := by
  have hp : ∀ u, Kept s₀ u → Kept s₀ ((place f u).getD (notTaken u)) := fun u hu => by
    cases e : place f u with
    | none => simp (maxDischargeDepth := 100) [*]
    | some t => exact place_kept hu e
  have hq : ∀ k w t, place f s = some t → Kept s₀ (setDup k w (noteOrder f t)) := fun k w t e => by
    have := place_kept hk e; simp (maxDischargeDepth := 100) [*]
  unfold deliver
  dsimp only
  (repeat' split) <;> first | simp (maxDischargeDepth := 100) [*] | (exact hq _ _ _ ‹_›) | (exact hp _ (by simp (maxDischargeDepth := 100) [*]))

@[simp ↓] theorem pump_kept {s₀ : State} (s : State) (hk : Kept s₀ s) : Kept s₀ (pump s) := by
  unfold pump; (repeat' split) <;> simp (maxDischargeDepth := 100) [*]

@[simp ↓] theorem failOp_kept {s₀ : State} (u : Unacked) (cause : Nat) (s : State) (hk : Kept s₀ s) : Kept s₀
    (failOp u cause s) := by
  unfold failOp; dsimp only; (repeat' split) <;> simp (maxDischargeDepth := 100) [*]

@[simp ↓] theorem comeBack_kept {s₀ : State} (f : Frame) (s : State) (hk : Kept s₀ s) : Kept s₀ (comeBack f s) := by
  unfold comeBack; (repeat' split) <;> simp (maxDischargeDepth := 100) [*]

theorem authCheck_kept {s₀ t : State} {p : Nat} {r : RxFrame} {b : Bool} {s : State} (hk : Kept s₀ s)
    (e : authCheck p r s = some (b, t)) : Kept s₀ t := by
  unfold authCheck at e
  dsimp only at e
  (repeat' split at e) <;> cases e <;> simp (maxDischargeDepth := 100) [*]

@[simp ↓] theorem awaitKey_kept {s₀ : State} (p epoch : Nat) (s : State) (hk : Kept s₀ s) : Kept s₀
    (awaitKey p epoch s) := by
  unfold awaitKey; (repeat' split) <;> simp (maxDischargeDepth := 100) [*]

@[simp ↓] theorem countErr_kept {s₀ : State} (p kind : Nat) (s : State) (hk : Kept s₀ s) : Kept s₀
    (countErr p kind s) := by
  unfold countErr; (repeat' split) <;> simp (maxDischargeDepth := 100) [*]

@[simp ↓] theorem badFrame_kept {s₀ : State} (p : Nat) (r : RxFrame) (goesOn : Bool) (s : State)
    (hk : Kept s₀ s) : Kept s₀ (badFrame p r goesOn s) := by
  unfold badFrame; (repeat' split) <;> simp (maxDischargeDepth := 100) [*]

@[simp ↓] theorem receive_kept {s₀ : State} (p : Nat) (r : RxFrame) (s : State) (hk : Kept s₀ s) : Kept s₀
    (receive p r s) := by
  unfold receive
  dsimp only
  split
  · simp (maxDischargeDepth := 100) [*]
  · next e =>
    have := authCheck_kept (addF_kept _ _ _ hk) e
    (repeat' split) <;> simp (maxDischargeDepth := 100) [*]

/-! ### RingOps -/

theorem takeRx_kept {s₀ t : State} {ok : Frame → Bool} {f : Frame} {s : State} (hk : Kept s₀ s)
    (e : takeRx ok s = some (f, t)) : Kept s₀ t := by
  unfold takeRx at e
  split at e <;> cases e
  simp (maxDischargeDepth := 100) [*]

theorem takeQ_kept {s₀ t : State} {q : Nat} {ok : Frame → Bool} {f : Frame} {s : State} (hk : Kept s₀ s)
    (e : takeQ q ok s = some (f, t)) : Kept s₀ t := by
  unfold takeQ at e
  split at e
  · cases e
  · split at e <;> cases e
    simp (maxDischargeDepth := 100) [*]

@[simp ↓] theorem onRx_kept {s₀ : State} (typ : Nat) (h : Frame → State → State) (hf : ∀ f t, Kept t (h f t))
    (s : State) (hk : Kept s₀ s) : Kept s₀ (onRx typ h s) := by
  unfold onRx
  split
  · next e => exact (takeRx_kept hk e).trans (hf _ _)
  · exact hk

@[simp ↓] theorem onQ_kept {s₀ : State} (q typ : Nat) (h : Frame → State → State) (hf : ∀ f t, Kept t (h f t))
    (s : State) (hk : Kept s₀ s) : Kept s₀ (onQ q typ h s) := by
  unfold onQ
  split
  · next e => exact (takeQ_kept hk e).trans (hf _ _)
  · exact hk

@[simp ↓] theorem takeAck_kept {s₀ : State} (f : Frame) (s : State) (hk : Kept s₀ s) : Kept s₀ (takeAck f s) := by
  unfold takeAck; (repeat' split) <;> simp (maxDischargeDepth := 100) [*]

@[simp ↓] theorem takeNak_kept {s₀ : State} (f : Frame) (s : State) (hk : Kept s₀ s) : Kept s₀ (takeNak f s) := by
  unfold takeNak; (repeat' split) <;> simp (maxDischargeDepth := 100) [*]

@[simp ↓] theorem resend_kept {s₀ : State} (u : Unacked) (counts : Bool) (s : State) (hk : Kept s₀ s) : Kept s₀
    (resend u counts s) := by
  unfold resend; (repeat' split) <;> simp (maxDischargeDepth := 100) [*]

@[simp ↓] theorem sendRead_kept {s₀ : State} (who : ReadFor) (addr at_ count : Nat) (s : State)
    (hk : Kept s₀ s) : Kept s₀ (sendRead who addr at_ count s) := by
  unfold sendRead; (repeat' split) <;> simp (maxDischargeDepth := 100) [*]

@[simp ↓] theorem sendReads_kept {s₀ : State} (who : ReadFor) (addr a k n : Nat) (s : State)
    (hk : Kept s₀ s) : Kept s₀ (sendReads who addr a k n s) := by
  induction k generalizing s a addr n with
  | zero => exact hk
  | succ k ih => unfold sendReads; dsimp only; split <;> simp (maxDischargeDepth := 100) [*]

@[simp ↓] theorem closeTag_kept {s₀ : State} (f : Frame) (h : ReadOut → State → State) (s : State)
    (hf : ∀ a0 t, Kept t (h a0 t)) (hk : Kept s₀ s) : Kept s₀ (closeTag f h s) := by
  have hf2 := hf; replace hf : ∀ a0 t, Kept s₀ t → Kept s₀ (h a0 t) := fun a0 t hk => hk.trans (hf2 a0 t)
  unfold closeTag; (repeat' split) <;> simp (maxDischargeDepth := 100) [*]

@[simp ↓] theorem takeRetry_kept {s₀ : State} (f : Frame) (s : State) (hk : Kept s₀ s) : Kept s₀ (takeRetry f s) := by
  unfold takeRetry; (repeat' split) <;> simp (maxDischargeDepth := 100) [*]

@[simp ↓] theorem deliverEvt_kept {s₀ : State} (f : Frame) (s : State) (hk : Kept s₀ s) : Kept s₀
    (deliverEvt f s) := by
  unfold deliverEvt; (repeat' split) <;> simp (maxDischargeDepth := 100) [*]

@[simp ↓] theorem drainStream_kept {s₀ : State} (key k : Nat) (st : Stream) (s : State) (hk : Kept s₀ s) : Kept s₀
    (drainStream key k st s) := by
  induction k generalizing s st with
  | zero => unfold drainStream; simp (maxDischargeDepth := 100) [*]
  | succ k ih => unfold drainStream; split <;> simp (maxDischargeDepth := 100) [*]

@[simp ↓] theorem takeNext_kept {s₀ : State} (key : Nat) (st : Stream) (f : Frame) (s : State)
    (hk : Kept s₀ s) : Kept s₀ (takeNext key st f s) := by
  unfold takeNext
  dsimp only
  (repeat' split) <;> first | simp (maxDischargeDepth := 100) [*] | (have := deliverQ_kept hk ‹_›; simp (maxDischargeDepth := 100) [*])

@[simp ↓] theorem endWait_kept {s₀ : State} (key : Nat) (st : Stream) (s : State) (hk : Kept s₀ s) : Kept s₀
    (endWait key st s) := by
  unfold endWait
  extract_lets cls n nums s1 lost s2
  have h1 : Kept s₀ s1 := foldl_kept hk fun t k => by split <;> simp (maxDischargeDepth := 100) [*]
  have h2 : Kept s₀ s2 := setStream_kept _ _ _ h1
  split <;> simp (maxDischargeDepth := 100) [*]

@[simp ↓] theorem eventIn_kept {s₀ : State} (f : Frame) (s : State) (hk : Kept s₀ s) : Kept s₀ (eventIn f s) := by
  unfold eventIn; dsimp only; (repeat' split) <;> simp (maxDischargeDepth := 100) [*]

@[simp ↓] theorem markIn_kept {s₀ : State} (f : Frame) (s : State) (hk : Kept s₀ s) : Kept s₀ (markIn f s) := by
  unfold markIn
  dsimp only
  split
  · split <;> simp (maxDischargeDepth := 100) [*]
  · next e =>
    have := deliverQ_kept hk e
    (repeat' split) <;> simp (maxDischargeDepth := 100) [*]

@[simp ↓] theorem goneIn_kept {s₀ : State} (f : Frame) (s : State) (hk : Kept s₀ s) : Kept s₀ (goneIn f s) := by
  unfold goneIn
  split
  · simp (maxDischargeDepth := 100) [*]
  · next e =>
    have := deliverQ_kept hk e
    dsimp only
    (repeat' split) <;> simp (maxDischargeDepth := 100) [*]

@[simp ↓] theorem answerReplay_kept {s₀ : State} (f : Frame) (s : State) (hk : Kept s₀ s) : Kept s₀
    (answerReplay f s) := by
  unfold answerReplay; (repeat' split) <;> simp (maxDischargeDepth := 100) [*]

@[simp ↓] theorem setSweep_kept {s₀ : State} (k : Nat) (x : SweepTrack) (s : State) (hk : Kept s₀ s) : Kept s₀
    (setSweep k x s) := by
  unfold setSweep; (repeat' split) <;> simp (maxDischargeDepth := 100) [*]

@[simp ↓] theorem countLost_kept {s₀ : State} (n : ShelfEnt) (t : SweepTrack) (s : State)
    (hk : Kept s₀ s) : Kept s₀ (countLost n t s) := by
  unfold countLost; (repeat' split) <;> simp (maxDischargeDepth := 100) [*]

@[simp ↓] theorem trackSweep_kept {s₀ : State} (f : Frame) (s : State) (hk : Kept s₀ s) : Kept s₀
    (trackSweep f s) := by
  unfold trackSweep; dsimp only; (repeat' split) <;> simp (maxDischargeDepth := 100) [*]

@[simp ↓] theorem twinCopy_kept {s₀ : State} (f : Frame) (s : State) (hk : Kept s₀ s) : Kept s₀ (twinCopy f s) := by
  unfold twinCopy; (repeat' split) <;> (try (refine foldl_kept (by simp (maxDischargeDepth := 100) [*]) fun t a => ?_)) <;> (repeat' split) <;> simp (maxDischargeDepth := 100) [*]

@[simp ↓] theorem sweepIn_kept {s₀ : State} (f : Frame) (s : State) (hk : Kept s₀ s) : Kept s₀ (sweepIn f s) := by
  unfold sweepIn
  extract_lets s1
  have h1 : Kept s₀ s1 := by dsimp only [s1]; split <;> simp (maxDischargeDepth := 100) [*]
  split
  · split
    · next e =>
      have := deliverQ_kept h1 e
      simp (maxDischargeDepth := 100) [*]
    · simp (maxDischargeDepth := 100) [*]
  · simp (maxDischargeDepth := 100) [*]

@[simp ↓] theorem sweepRecord_kept {s₀ : State} (p : Nat) (s : State) (hk : Kept s₀ s) :
    Kept s₀ (sweepRecord p s).2 := by
  unfold sweepRecord; simp (maxDischargeDepth := 100) [*]

@[simp ↓] theorem sweepRecords_kept {s₀ : State} (l : List Nat) (s : State)
    (hk : Kept s₀ s) :
    Kept s₀ (sweepRecords l s).2 := by
  induction l generalizing s with
  | nil => exact hk
  | cons p l ih => exact ih _ (by simp (maxDischargeDepth := 100) [*])

@[simp ↓] theorem sweepFrames_kept {s₀ : State} (group cycle k a : Nat) (ps : List Nat)
    (s : State) (hk : Kept s₀ s) : Kept s₀ (sweepFrames group cycle k a ps s) := by
  induction k generalizing s a ps with
  | zero => exact hk
  | succ k ih => unfold sweepFrames; dsimp only; split <;> simp (maxDischargeDepth := 100) [*]

@[simp ↓] theorem originateAon_kept {s₀ : State} (f : Frame) (s : State) (hk : Kept s₀ s) : Kept s₀
    (originateAon f s) := by
  unfold originateAon; (repeat' split) <;> simp (maxDischargeDepth := 100) [*]

@[simp ↓] theorem setClosed_kept {s₀ : State} (closed : Bool) (s : State) (hk : Kept s₀ s) : Kept s₀
    (setClosed closed s) := by
  unfold setClosed; (repeat' split) <;> simp (maxDischargeDepth := 100) [*]

@[simp ↓] theorem ownBeacon_kept {s₀ : State} (f : Frame) (s : State) (hk : Kept s₀ s) : Kept s₀ (ownBeacon f s) := by
  unfold ownBeacon; (repeat' split) <;> simp (maxDischargeDepth := 100) [*]

@[simp ↓] theorem neighbourEdition_kept {s₀ : State} (f : Frame) (s : State) (hk : Kept s₀ s) : Kept s₀
    (neighbourEdition f s) := by
  unfold neighbourEdition; (repeat' split) <;> simp (maxDischargeDepth := 100) [*]

@[simp ↓] theorem beaconIn_kept {s₀ : State} (f : Frame) (s : State) (hk : Kept s₀ s) : Kept s₀ (beaconIn f s) := by
  unfold beaconIn; (repeat' split) <;> simp (maxDischargeDepth := 100) [*]

@[simp ↓] theorem setBulkIn_kept {s₀ : State} (k : Nat) (b : Option BulkIn) (s : State) (hk : Kept s₀ s) : Kept s₀
    (setBulkIn k b s) := by
  unfold setBulkIn; (repeat' split) <;> simp (maxDischargeDepth := 100) [*]

@[simp ↓] theorem setBulkOut_kept {s₀ : State} (k : Nat) (b : Option BulkOut) (s : State)
    (hk : Kept s₀ s) : Kept s₀ (setBulkOut k b s) := by
  unfold setBulkOut; (repeat' split) <;> simp (maxDischargeDepth := 100) [*]

@[simp ↓] theorem sendBulkAck_kept {s₀ : State} (src tid : Nat) (b : BulkIn) (s : State) (hk : Kept s₀ s) : Kept s₀
    (sendBulkAck src tid b s) := by
  unfold sendBulkAck; (repeat' split) <;> simp (maxDischargeDepth := 100) [*]

@[simp ↓] theorem bulkDataIn_kept {s₀ : State} (f : Frame) (s : State) (hk : Kept s₀ s) : Kept s₀
    (bulkDataIn f s) := by
  unfold bulkDataIn; (repeat' split) <;> simp (maxDischargeDepth := 100) [*]

@[simp ↓] theorem bulkSend_kept {s₀ : State} (tid k : Nat) (s : State) (hk : Kept s₀ s) : Kept s₀
    (bulkSend tid k s) := by
  induction k generalizing s with
  | zero => exact hk
  | succ k ih => unfold bulkSend; dsimp only; (repeat' split) <;> simp (maxDischargeDepth := 100) [*]

@[simp ↓] theorem bulkAckIn_kept {s₀ : State} (f : Frame) (s : State) (hk : Kept s₀ s) : Kept s₀ (bulkAckIn f s) := by
  unfold bulkAckIn; (repeat' split) <;> simp (maxDischargeDepth := 100) [*]

@[simp ↓] theorem bulkOpenOut_kept {s₀ : State} (tid dest : Nat) (words : List Word) (s : State)
    (hk : Kept s₀ s) : Kept s₀ (bulkOpenOut tid dest words s) := by
  unfold bulkOpenOut; (repeat' split) <;> simp (maxDischargeDepth := 100) [*]

@[simp ↓] theorem bulkAbortIn_kept {s₀ : State} (f : Frame) (s : State) (hk : Kept s₀ s) : Kept s₀
    (bulkAbortIn f s) := by
  unfold bulkAbortIn; (repeat' split) <;> simp (maxDischargeDepth := 100) [*]

/-! ### RingTime -/

@[simp ↓] theorem setLocked_kept {s₀ : State} (b : Bool) (s : State) (hk : Kept s₀ s) : Kept s₀ (setLocked b s) := by
  unfold setLocked; (repeat' split) <;> simp (maxDischargeDepth := 100) [*]

@[simp ↓] theorem showGm_kept {s₀ : State} (gm : Option Nat) (s : State) (hk : Kept s₀ s) : Kept s₀ (showGm gm s) := by
  unfold showGm; (repeat' split) <;> simp (maxDischargeDepth := 100) [*]

@[simp ↓] theorem selectGm_kept {s₀ : State} (s : State) (hk : Kept s₀ s) : Kept s₀ (selectGm s) := by
  unfold selectGm; (repeat' split) <;> simp (maxDischargeDepth := 100) [*]

@[simp ↓] theorem recheckGm_kept {s₀ : State} (s : State) (hk : Kept s₀ s) : Kept s₀ (recheckGm s) := by
  unfold recheckGm; (repeat' split) <;> simp (maxDischargeDepth := 100) [*]

@[simp ↓] theorem announceIn_kept {s₀ : State} (f : Frame) (s : State) (hk : Kept s₀ s) : Kept s₀
    (announceIn f s) := by
  unfold announceIn; (repeat' split) <;> simp (maxDischargeDepth := 100) [*]

@[simp ↓] theorem sendSync_kept {s₀ : State} (x crossed gm prio : Nat) (s : State) (hk : Kept s₀ s) : Kept s₀
    (sendSync x crossed gm prio s) := by
  unfold sendSync; (repeat' split) <;> simp (maxDischargeDepth := 100) [*]

@[simp ↓] theorem stepTime_kept {s₀ : State} (t : Nat) (s : State) (hk : Kept s₀ s) : Kept s₀ (stepTime t s) := by
  unfold stepTime; (repeat' split) <;> simp (maxDischargeDepth := 100) [*]

@[simp ↓] theorem setOffset_kept {s₀ : State} (d : Int) (s : State) (hk : Kept s₀ s) : Kept s₀ (setOffset d s) := by
  unfold setOffset; (repeat' split) <;> simp (maxDischargeDepth := 100) [*]

@[simp ↓] theorem steerTime_kept {s₀ : State} (d : Int) (ns : Nat) (s : State)
    (hk : Kept s₀ s) : Kept s₀ (steerTime d ns s) := by
  unfold steerTime; (repeat' split) <;> simp (maxDischargeDepth := 100) [*]

@[simp ↓] theorem holdFreq_kept {s₀ : State} (s : State) (hk : Kept s₀ s) : Kept s₀ (holdFreq s) := by
  unfold holdFreq; (repeat' split) <;> simp (maxDischargeDepth := 100) [*]

@[simp ↓] theorem meet_kept {s₀ : State} (target : Int) (s : State) (hk : Kept s₀ s) : Kept s₀ (meet target s) := by
  unfold meet; (repeat' split) <;> simp (maxDischargeDepth := 100) [*]

@[simp ↓] theorem syncIn_kept {s₀ : State} (f : Frame) (s : State) (hk : Kept s₀ s) : Kept s₀ (syncIn f s) := by
  unfold syncIn; (repeat' split) <;> simp (maxDischargeDepth := 100) [*]

end Sys2Proof.Machine
end

