-- ==== Sys2Proof/Laws/KeptSteward.lean ====
section
/-! SUPPORT. The queue, the clock and the form of the memories are left alone by every operation of
the archive, the desk, the twin, the attic, core reset and the registrar. -/

namespace Sys2Proof.Machine

set_option linter.unusedTactic false
set_option linter.unnecessarySeqFocus false
set_option linter.unreachableTactic false

/-! ### Stacks -/

@[simp ↓] theorem scrubPoint_kept {s₀ : State} (p : Nat) (s : State) (hk : Kept s₀ s) : Kept s₀ (scrubPoint p s) := by
  unfold scrubPoint; (repeat' split) <;> simp (maxDischargeDepth := 100) [*]

@[simp ↓] theorem scrubAdvance_kept {s₀ : State} (s : State) (hk : Kept s₀ s) : Kept s₀ (scrubAdvance s) := by
  unfold scrubAdvance; (repeat' split) <;> simp (maxDischargeDepth := 100) [*]

@[simp ↓] theorem scrubLeave_kept {s₀ : State} (s : State) (hk : Kept s₀ s) : Kept s₀ (scrubLeave s) := by
  unfold scrubLeave; (repeat' split) <;> simp (maxDischargeDepth := 100) [*]

@[simp ↓] theorem copyAbort_kept {s₀ : State} (s : State) (hk : Kept s₀ s) : Kept s₀ (copyAbort s) := by
  unfold copyAbort; dsimp only; (repeat' split) <;> simp (maxDischargeDepth := 100) [*]

@[simp ↓] theorem copyStart_kept {s₀ : State} (src dst : Nat) (s : State) (hk : Kept s₀ s) : Kept s₀
    (copyStart src dst s) := by
  unfold copyStart; (repeat' split) <;> simp (maxDischargeDepth := 100) [*]

@[simp ↓] theorem copyCtlWrite_kept {s₀ : State} (v : Word) (s : State) (hk : Kept s₀ s) : Kept s₀
    (copyCtlWrite v s) := by
  unfold copyCtlWrite; (repeat' split) <;> simp (maxDischargeDepth := 100) [*]

@[simp ↓] theorem copyStrike_kept {s₀ : State} (f : Nat) (s : State) (b : Bool × Nat) (hk : Kept s₀ s) :
    Kept s₀ (copyStrike f s b) := by
  unfold copyStrike; split <;> simp (maxDischargeDepth := 100) [*]

@[simp ↓] theorem copyReads_kept {s₀ : State} (f : Nat) (s : State) (hk : Kept s₀ s) : Kept s₀ (copyReads f s) := by
  unfold copyReads; (repeat' split) <;> simp (maxDischargeDepth := 100) [*]

@[simp ↓] theorem copyRecs_kept {s₀ : State} (f d : Nat) (s : State) (hk : Kept s₀ s) : Kept s₀ (copyRecs f d s) :=
  kept_of_mem hk rfl rfl id fun w => by
    simp only [archiveWf, copyRecs, Bool.and_eq_true, beq_iff_eq, List.length_set] at w ⊢
    refine ⟨w.1, foldl_tset_wf (fun t b h => ?_) (recs_fill_wf (fun k h => ?_) w.2.1), w.2.2⟩
    · split
      · exact tset_wf (Nat.zero_le _) h
      · exact h
    · simpa [inBank] using h

@[simp ↓] theorem copyCats_kept {s₀ : State} (f d : Nat) (s : State) (hk : Kept s₀ s) : Kept s₀ (copyCats f d s) :=
  kept_of_mem hk rfl rfl id fun w => by
    simp only [archiveWf, copyCats, Bool.and_eq_true] at w ⊢
    refine ⟨w.1, w.2.1, foldl_tset_wf (fun t b h => ?_) (tclear_wf w.2.2)⟩
    split
    · exact tset_wf (Nat.zero_le _) h
    · exact h

@[simp ↓] theorem mapApply_kept {s₀ : State} (v : Word) (s : State) (hk : Kept s₀ s) : Kept s₀ (mapApply v s) := by
  unfold mapApply; (repeat' split) <;> simp (maxDischargeDepth := 100) [*]

@[simp ↓] theorem bankFresh_kept {s₀ : State} (b : Nat) (s : State) (hk : Kept s₀ s) : Kept s₀ (bankFresh b s) :=
  kept_of_mem hk rfl rfl id fun w => by
    simp only [archiveWf, bankFresh, Bool.and_eq_true, beq_iff_eq, List.length_set] at w ⊢
    exact ⟨w.1, recs_fill_wf (fun k h => by simpa [inBank] using h) w.2.1, tclear_wf w.2.2⟩

@[simp ↓] theorem bankMapWrite_kept {s₀ : State} (v : Word) (s : State) (hk : Kept s₀ s) : Kept s₀
    (bankMapWrite v s) := by
  unfold bankMapWrite; (repeat' split) <;> simp (maxDischargeDepth := 100) [*]

@[simp ↓] theorem bankSwapped_kept {s₀ : State} (f d : Nat) (s : State) (hk : Kept s₀ s) : Kept s₀
    (bankSwapped f d s) := by
  unfold bankSwapped; (repeat' split) <;> simp (maxDischargeDepth := 100) [*]

@[simp ↓] theorem staleLimWrite_kept {s₀ : State} (n : Nat) (v : Word) (s : State) (hk : Kept s₀ s) : Kept s₀
    (staleLimWrite n v s) := by
  unfold staleLimWrite; (repeat' split) <;> simp (maxDischargeDepth := 100) [*]

@[simp ↓] theorem setAlarm_kept {s₀ : State} (p : Nat) (a : AlarmSt) (s : State) (hk : Kept s₀ s) : Kept s₀
    (setAlarm p a s) := by
  unfold setAlarm; (repeat' split) <;> simp (maxDischargeDepth := 100) [*]

@[simp ↓] theorem limitCheck_kept {s₀ : State} (p i : Nat) (l : Limit) (s : State) (hk : Kept s₀ s) : Kept s₀
    (limitCheck p i l s) := by
  unfold limitCheck; (repeat' split) <;> simp (maxDischargeDepth := 100) [*]

@[simp ↓] theorem limitChecks_kept {s₀ : State} (p i : Nat) (l : List Limit) (s : State) (hk : Kept s₀ s) : Kept s₀
    (limitChecks p i l s) := by
  induction l generalizing s i with
  | nil => exact hk
  | cons a l ih => exact ih _ _ (by simp (maxDischargeDepth := 100) [*])

@[simp ↓] theorem qualityCheck_kept {s₀ : State} (p : Nat) (e : AlarmSet) (s : State) (hk : Kept s₀ s) : Kept s₀
    (qualityCheck p e s) := by
  unfold qualityCheck; (repeat' split) <;> simp (maxDischargeDepth := 100) [*]

/-! ### Desk -/

@[simp ↓] theorem setStw_kept {s₀ : State} (x : Steward) (s : State) (hk : Kept s₀ s) : Kept s₀ (setStw x s) := by
  unfold setStw; (repeat' split) <;> simp (maxDischargeDepth := 100) [*]

@[simp ↓] theorem setShared_kept {s₀ : State} (i : Nat) (v : Word) (s : State) (hk : Kept s₀ s) : Kept s₀
    (setShared i v s) := by
  unfold setShared; (repeat' split) <;> simp (maxDischargeDepth := 100) [*]

@[simp ↓] theorem restartPoint_kept {s₀ : State} (s : State) (hk : Kept s₀ s) : Kept s₀ (restartPoint s) := by
  unfold restartPoint; (repeat' split) <;> simp (maxDischargeDepth := 100) [*]

@[simp ↓] theorem restartPair_kept {s₀ : State} (fenced transient : Nat) (s : State) (hk : Kept s₀ s) : Kept s₀
    (restartPair fenced transient s) := by
  unfold restartPair; (repeat' split) <;> simp (maxDischargeDepth := 100) [*]

@[simp ↓] theorem joinSpare_kept {s₀ : State} (second : Bool) (s : State) (hk : Kept s₀ s) : Kept s₀
    (joinSpare second s) := by
  unfold joinSpare; (repeat' split) <;> simp (maxDischargeDepth := 100) [*]

@[simp ↓] theorem answer_kept {s₀ : State} (d status detail : Nat) (results : List Word) (s : State)
    (hk : Kept s₀ s) : Kept s₀ (answer d status detail results s) := by
  unfold answer; (repeat' split) <;> simp (maxDischargeDepth := 100) [*]

@[simp ↓] theorem answerOk_kept {s₀ : State} (d : Nat) (results : List Word) (s : State) (hk : Kept s₀ s) : Kept s₀
    (answerOk d results s) := by
  unfold answerOk; (repeat' split) <;> simp (maxDischargeDepth := 100) [*]

@[simp ↓] theorem takeDoorbell_kept {s₀ : State} (d : Nat) (s : State) (hk : Kept s₀ s) : Kept s₀ (takeDoorbell d s) := by
  unfold takeDoorbell; (repeat' split) <;> simp (maxDischargeDepth := 100) [*]

@[simp ↓] theorem takeLock_kept {s₀ : State} (d : Nat) (s : State) (hk : Kept s₀ s) : Kept s₀ (takeLock d s) := by
  unfold takeLock; (repeat' split) <;> simp (maxDischargeDepth := 100) [*]

@[simp ↓] theorem putKey_kept {s₀ : State} (k : Nat) (v : List Word) (s : State) (hk : Kept s₀ s) : Kept s₀
    (putKey k v s) := by
  unfold putKey; (repeat' split) <;> simp (maxDischargeDepth := 100) [*]

@[simp ↓] theorem sendResponse_kept {s₀ : State} (node d session : Nat) (ws : List Word) (s : State)
    (hk : Kept s₀ s) : Kept s₀ (sendResponse node d session ws s) := by
  unfold sendResponse; (repeat' split) <;> simp (maxDischargeDepth := 100) [*]

@[simp ↓] theorem onControl_kept {s₀ : State} (kind : Nat) (h : Frame → State → State)
    (hf : ∀ f t, Kept t (h f t))  (s : State) (hk : Kept s₀ s) : Kept s₀ (onControl kind h s) := by
  unfold onControl
  split
  · next e => exact (takeQ_kept hk e).trans (hf _ _)
  · exact hk

@[simp ↓] theorem noSession_kept {s₀ : State} (f : Frame) (s : State) (hk : Kept s₀ s) : Kept s₀ (noSession f s) := by
  unfold noSession; (repeat' split) <;> simp (maxDischargeDepth := 100) [*]

@[simp ↓] theorem publish_kept {s₀ : State} (d : Nat) (ws : List Word) (s : State) (hk : Kept s₀ s) : Kept s₀
    (publish d ws s) := by
  unfold publish; (repeat' split) <;> simp (maxDischargeDepth := 100) [*]

@[simp ↓] theorem answerUnknown_kept {s₀ : State} (d : Nat) (s : State) (hk : Kept s₀ s) : Kept s₀
    (answerUnknown d s) := by
  unfold answerUnknown; (repeat' split) <;> simp (maxDischargeDepth := 100) [*]

@[simp ↓] theorem deskDoneStep_kept {s₀ : State} (d : Nat) (s : State) (hk : Kept s₀ s) : Kept s₀
    (deskDoneStep d s) := by
  unfold deskDoneStep; dsimp only; (repeat' split) <;> simp (maxDischargeDepth := 100) [*]

/-! ### Twin -/

@[simp ↓] theorem setTwin_kept {s₀ : State} (x : Twin) (s : State) (hk : Kept s₀ s) : Kept s₀ (setTwin x s) := by
  unfold setTwin; (repeat' split) <;> simp (maxDischargeDepth := 100) [*]

theorem takeTwin_kept {s₀ t : State} {kind : Nat} {op : Nat → Bool} {f : Frame} {s : State} (hk : Kept s₀ s)
    (e : takeTwin kind op s = some (f, t)) : Kept s₀ t := by
  exact takeQ_kept hk e

@[simp ↓] theorem onTwin_kept {s₀ : State} (op : Nat → Bool) (h : Frame → State → State)
    (hf : ∀ f t, Kept t (h f t))  (s : State) (hk : Kept s₀ s) : Kept s₀ (onTwin op h s) := by
  unfold onTwin
  split
  · split
    · next e =>
      have := takeTwin_kept hk e
      split
      · exact this.trans (hf _ _)
      · simp (maxDischargeDepth := 100) [*]
    · exact hk
  · exact hk

@[simp ↓] theorem toPeer_kept {s₀ : State} (kind : Nat) (ws : List Word) (s : State) (hk : Kept s₀ s) : Kept s₀
    (toPeer kind ws s) := by
  unfold toPeer; (repeat' split) <;> simp (maxDischargeDepth := 100) [*]

@[simp ↓] theorem sendTwin_kept {s₀ : State} (op : Nat) (args : List Word) (s : State) (hk : Kept s₀ s) : Kept s₀
    (sendTwin op args s) := by
  unfold sendTwin; (repeat' split) <;> simp (maxDischargeDepth := 100) [*]

@[simp ↓] theorem noteBoth_kept {s₀ : State} (s : State) (hk : Kept s₀ s) : Kept s₀ (noteBoth s) := by
  unfold noteBoth; (repeat' split) <;> simp (maxDischargeDepth := 100) [*]

@[simp ↓] theorem twinChange_kept {s₀ : State} (role cause : Nat) (s : State) (hk : Kept s₀ s) : Kept s₀
    (twinChange role cause s) := by
  unfold twinChange; (repeat' split) <;> simp (maxDischargeDepth := 100) [*]

@[simp ↓] theorem stagesEnable_kept {s₀ : State} (s : State) (hk : Kept s₀ s) : Kept s₀ (stagesEnable s) := by
  unfold stagesEnable; (repeat' split) <;> (try (refine foldl_kept (by simp (maxDischargeDepth := 100) [*]) fun t a => ?_)) <;> (repeat' split) <;> simp (maxDischargeDepth := 100) [*]

@[simp ↓] theorem stagesDisable_kept {s₀ : State} (s : State) (hk : Kept s₀ s) : Kept s₀ (stagesDisable s) := by
  unfold stagesDisable; (repeat' split) <;> (try (refine foldl_kept (by simp (maxDischargeDepth := 100) [*]) fun t a => ?_)) <;> (repeat' split) <;> simp (maxDischargeDepth := 100) [*]

@[simp ↓] theorem fromTwin_kept {s₀ : State} (p : Nat) (r : Rec) (s : State) (hk : Kept s₀ s) : Kept s₀
    (fromTwin p r s) := by
  unfold fromTwin; (repeat' split) <;> simp (maxDischargeDepth := 100) [*]

@[simp ↓] theorem twinPrepare_kept {s₀ : State}  (s : State) (hk : Kept s₀ s) : Kept s₀ (twinPrepare s) := by
  unfold twinPrepare
  extract_lets s1
  have h1 : Kept s₀ s1 := foldl_kept hk fun t e => by (repeat' split) <;> simp (maxDischargeDepth := 100) [*]
  exact foldl_kept h1 fun t n => by simp (maxDischargeDepth := 100) [*]

@[simp ↓] theorem twinRoleEvent_kept {s₀ : State} (s : State) (hk : Kept s₀ s) : Kept s₀ (twinRoleEvent s) := by
  unfold twinRoleEvent; (repeat' split) <;> simp (maxDischargeDepth := 100) [*]

@[simp ↓] theorem twinStart_kept {s₀ : State} (s : State) (hk : Kept s₀ s) : Kept s₀ (twinStart s) := by
  unfold twinStart; (repeat' split) <;> simp (maxDischargeDepth := 100) [*]

@[simp ↓] theorem handoverStart_kept {s₀ : State} (cause : Nat) (s : State) (hk : Kept s₀ s) : Kept s₀
    (handoverStart cause s) := by
  unfold handoverStart; (repeat' split) <;> simp (maxDischargeDepth := 100) [*]

@[simp ↓] theorem takingTime_kept {s₀ : State} (h : Handover) (s : State) (hk : Kept s₀ s) : Kept s₀
    (takingTime h s) := by
  unfold takingTime; (repeat' split) <;> simp (maxDischargeDepth := 100) [*]

@[simp ↓] theorem releasingTime_kept {s₀ : State} (h : Handover) (s : State) (hk : Kept s₀ s) : Kept s₀
    (releasingTime h s) := by
  unfold releasingTime; (repeat' split) <;> simp (maxDischargeDepth := 100) [*]

/-! ### Attic -/

@[simp ↓] theorem engineIn_kept {s₀ : State} (e n old role : Nat) (s : State) (hk : Kept s₀ s) : Kept s₀
    (engineIn e n old role s) := by
  unfold engineIn; (repeat' split) <;> simp (maxDischargeDepth := 100) [*]

@[simp ↓] theorem lineIn_kept {s₀ : State} (k line : Nat) (s : State) (hk : Kept s₀ s) : Kept s₀
    (lineIn k line s) := by
  unfold lineIn; (repeat' split) <;> simp (maxDischargeDepth := 100) [*]

@[simp ↓] theorem swapBegin_kept {s₀ : State} (kind u sp : Nat) (s : State) (hk : Kept s₀ s) : Kept s₀
    (swapBegin kind u sp s) := by
  unfold swapBegin; dsimp only; (repeat' split) <;> simp (maxDischargeDepth := 100) [*]

@[simp ↓] theorem swapWorn_kept {s₀ : State} (kind u : Nat) (s : State) (hk : Kept s₀ s) : Kept s₀
    (swapWorn kind u s) := by
  unfold swapWorn; (repeat' split) <;> simp (maxDischargeDepth := 100) [*]

@[simp ↓] theorem bringIn_kept {s₀ : State} (kind u at_ : Nat) (s : State) (hk : Kept s₀ s) : Kept s₀
    (bringIn kind u at_ s) := by
  unfold bringIn; (repeat' split) <;> simp (maxDischargeDepth := 100) [*]

@[simp ↓] theorem fenceEngineIn_kept {s₀ : State} (e : Nat) (s : State) (hk : Kept s₀ s) : Kept s₀
    (fenceEngineIn e s) := by
  unfold fenceEngineIn; dsimp only; (repeat' split) <;> simp (maxDischargeDepth := 100) [*]

@[simp ↓] theorem fenceBankIn_kept {s₀ : State} (b : Nat) (s : State) (hk : Kept s₀ s) : Kept s₀
    (fenceBankIn b s) := by
  unfold fenceBankIn; (repeat' split) <;> simp (maxDischargeDepth := 100) [*]

@[simp ↓] theorem fenceConvIn_kept {s₀ : State} (v : Nat) (s : State) (hk : Kept s₀ s) : Kept s₀
    (fenceConvIn v s) := by
  unfold fenceConvIn; dsimp only; (repeat' split) <;> simp (maxDischargeDepth := 100) [*]

@[simp ↓] theorem fencePairIn_kept {s₀ : State} (x : Nat) (s : State) (hk : Kept s₀ s) : Kept s₀
    (fencePairIn x s) := by
  unfold fencePairIn; (repeat' split) <;> simp (maxDischargeDepth := 100) [*]

@[simp ↓] theorem fenceDioIn_kept {s₀ : State} (c : Nat) (s : State) (hk : Kept s₀ s) : Kept s₀ (fenceDioIn c s) := by
  unfold fenceDioIn; dsimp only; (repeat' split) <;> (try (refine foldl_kept (by simp (maxDischargeDepth := 100) [*]) fun t a => ?_)) <;> (repeat' split) <;> simp (maxDischargeDepth := 100) [*]

@[simp ↓] theorem atticRetry_kept {s₀ : State} (s : State) (hk : Kept s₀ s) : Kept s₀ (atticRetry s) := by
  unfold atticRetry; (repeat' split) <;> simp (maxDischargeDepth := 100) [*]

@[simp ↓] theorem clearStores_kept {s₀ : State} (e : Nat) (s : State) (hk : Kept s₀ s) : Kept s₀
    (clearStores e s) := by
  unfold clearStores; (repeat' split) <;> simp (maxDischargeDepth := 100) [*]

@[simp ↓] theorem engineBack_kept {s₀ : State} (e : Nat) (s : State) (hk : Kept s₀ s) : Kept s₀ (engineBack e s) := by
  unfold engineBack; (repeat' split) <;> simp (maxDischargeDepth := 100) [*]

@[simp ↓] theorem bankBack_kept {s₀ : State} (b : Nat) (s : State) (hk : Kept s₀ s) : Kept s₀ (bankBack b s) := by
  unfold bankBack
  extract_lets s1
  have h1 : Kept s₀ s1 := by dsimp only [s1]; simp (maxDischargeDepth := 100) [hk]
  clear_value s1
  refine kept_of_mem h1 rfl rfl id fun w => ?_
  simp only [archiveWf, Bool.and_eq_true] at w ⊢
  exact ⟨w.1, tclear_wf w.2.1, tclear_wf w.2.2⟩

@[simp ↓] theorem unitBack_kept {s₀ : State} (kind u : Nat) (offset gain : Word) (s : State)
    (hk : Kept s₀ s) : Kept s₀ (unitBack kind u offset gain s) := by
  unfold unitBack; (repeat' split) <;> simp (maxDischargeDepth := 100) [*]

/-! ### CoreReset -/

@[simp ↓] theorem coreRegs_kept {s₀ : State} (s : State) (hk : Kept s₀ s) : Kept s₀ (coreRegs s) := by
  unfold coreRegs; (repeat' split) <;> simp (maxDischargeDepth := 100) [*]

@[simp ↓] theorem coreClear_kept {s₀ : State} (s : State) (hk : Kept s₀ s) : Kept s₀ (coreClear s) := by
  have h := coreRegs_kept s hk
  refine setF_kept _ _ _ ⟨hk.1, hk.2.1, fun w => ?_⟩
  have := h.2.2 w
  simp only [Memory.wf, Bool.and_eq_true] at this ⊢
  exact ⟨this.1, rfl⟩

@[simp ↓] theorem aonClear_kept {s₀ : State} (s : State) (hk : Kept s₀ s) : Kept s₀ (aonClear s) := by
  refine ⟨hk.1, hk.2.1, fun w => ?_⟩
  have := hk.2.2 w
  simp only [Memory.wf, Bool.and_eq_true] at this ⊢
  exact ⟨tclear_wf this.1, rfl⟩

@[simp ↓] theorem coreDomains_kept {s₀ : State} (off : Bool) (s : State) (hk : Kept s₀ s) : Kept s₀
    (coreDomains off s) := by
  unfold coreDomains; (repeat' split) <;> simp (maxDischargeDepth := 100) [*]

@[simp ↓] theorem coreResetBy_kept {s₀ : State} (c : ResetCause) (s : State) (hk : Kept s₀ s) : Kept s₀
    (coreResetBy c s) := by
  unfold coreResetBy; (repeat' split) <;> simp (maxDischargeDepth := 100) [*]

/-! ### Registrar -/

@[simp ↓] theorem firstFault_kept {s₀ : State} (src : Nat) (others : List Nat) (s : State)
    (hk : Kept s₀ s) : Kept s₀ (firstFault src others s) := by
  unfold firstFault; (repeat' split) <;> simp (maxDischargeDepth := 100) [*]

@[simp ↓] theorem recordRaise_kept {s₀ : State} (src time w4 : Nat) (s : State) (hk : Kept s₀ s) : Kept s₀
    (recordRaise src time w4 s) := by
  unfold recordRaise; (repeat' split) <;> simp (maxDischargeDepth := 100) [*]

@[simp ↓] theorem noteRaise_kept {s₀ : State} (src w4 : Nat) (s : State) (hk : Kept s₀ s) : Kept s₀
    (noteRaise src w4 s) := by
  unfold noteRaise; (repeat' split) <;> simp (maxDischargeDepth := 100) [*]

@[simp ↓] theorem drainRaises_kept {s₀ : State} (s : State) (hk : Kept s₀ s) : Kept s₀ (drainRaises s) := by
  unfold drainRaises; (repeat' split) <;> simp (maxDischargeDepth := 100) [*]

@[simp ↓] theorem reactWorn_kept {s₀ : State} (ok : Nat × Nat → Bool) (s : State) (hk : Kept s₀ s) : Kept s₀
    (reactWorn ok s) := by
  unfold reactWorn; (repeat' split) <;> simp (maxDischargeDepth := 100) [*]

@[simp ↓] theorem fenceSource_kept {s₀ : State} (src : Nat) (s : State) (hk : Kept s₀ s) : Kept s₀
    (fenceSource src s) := by
  unfold fenceSource; (repeat' split) <;> simp (maxDischargeDepth := 100) [*]

@[simp ↓] theorem withdraw_kept {s₀ : State} (s : State) (hk : Kept s₀ s) : Kept s₀ (withdraw s) := by
  unfold withdraw; (repeat' split) <;> simp (maxDischargeDepth := 100) [*]

@[simp ↓] theorem react_kept {s₀ : State} (src w4 : Nat) (s : State) (hk : Kept s₀ s) : Kept s₀ (react src w4 s) := by
  unfold react; (repeat' split) <;> simp (maxDischargeDepth := 100) [*]

@[simp ↓] theorem noteForced_kept {s₀ : State} (s : State) (hk : Kept s₀ s) : Kept s₀ (noteForced s) := by
  unfold noteForced; (repeat' split) <;> simp (maxDischargeDepth := 100) [*]

@[simp ↓] theorem forceWrite_kept {s₀ : State} (i : Nat) (v : Word) (s : State) (hk : Kept s₀ s) : Kept s₀
    (forceWrite i v s) := by
  unfold forceWrite; (repeat' split) <;> simp (maxDischargeDepth := 100) [*]

@[simp ↓] theorem firstClear_kept {s₀ : State} (s : State) (hk : Kept s₀ s) : Kept s₀ (firstClear s) := by
  unfold firstClear; (repeat' split) <;> simp (maxDischargeDepth := 100) [*]

@[simp ↓] theorem cntClearAll_kept {s₀ : State} (s : State) (hk : Kept s₀ s) : Kept s₀ (cntClearAll s) := by
  unfold cntClearAll; (repeat' split) <;> simp (maxDischargeDepth := 100) [*]

@[simp ↓] theorem cntSelWrite_kept {s₀ : State} (k : Nat) (v : Word) (s : State) (hk : Kept s₀ s) : Kept s₀
    (cntSelWrite k v s) := by
  unfold cntSelWrite; (repeat' split) <;> simp (maxDischargeDepth := 100) [*]

end Sys2Proof.Machine
end

