-- ==== Sys2Proof/Laws/KeptHost.lean ====
section
/-! SUPPORT. The queue, the clock and the form of the memories are left alone by every operation of
USB, the register bus, the restore, transfers and power. -/

namespace Sys2Proof.Machine

set_option linter.unusedTactic false
set_option linter.unnecessarySeqFocus false
set_option linter.unreachableTactic false

/-! ### Usb -/

@[simp ↓] theorem setUsb_kept {s₀ : State} (u : Usb) (s : State) (hk : Kept s₀ s) : Kept s₀ (setUsb u s) := by
  unfold setUsb; (repeat' split) <;> simp (maxDischargeDepth := 100) [*]

@[simp ↓] theorem haltEp_kept {s₀ : State} (e : Nat) (s : State) (hk : Kept s₀ s) : Kept s₀ (haltEp e s) := by
  unfold haltEp; (repeat' split) <;> simp (maxDischargeDepth := 100) [*]

@[simp ↓] theorem packetEcc_kept {s₀ : State} (e : Nat) (ecc : Ecc) (s : State) (hk : Kept s₀ s) : Kept s₀
    (packetEcc e ecc s) := by
  unfold packetEcc; (repeat' split) <;> simp (maxDischargeDepth := 100) [*]

@[simp ↓] theorem stopStream_kept {s₀ : State} (s : State) (hk : Kept s₀ s) : Kept s₀ (stopStream s) := by
  unfold stopStream; (repeat' split) <;> simp (maxDischargeDepth := 100) [*]

@[simp ↓] theorem sessionReset_kept {s₀ : State} (s : State) (hk : Kept s₀ s) : Kept s₀ (sessionReset s) := by
  unfold sessionReset; (repeat' split) <;> simp (maxDischargeDepth := 100) [*]

@[simp ↓] theorem deviceIdle_kept {s₀ : State} (s : State) (hk : Kept s₀ s) : Kept s₀ (deviceIdle s) := by
  unfold deviceIdle; (repeat' split) <;> simp (maxDischargeDepth := 100) [*]

@[simp ↓] theorem deviceReset_kept {s₀ : State} (s : State) (hk : Kept s₀ s) : Kept s₀ (deviceReset s) := by
  unfold deviceReset; (repeat' split) <;> simp (maxDischargeDepth := 100) [*]

@[simp ↓] theorem portOff_kept {s₀ : State} (n : Nat) (s : State) (hk : Kept s₀ s) : Kept s₀ (portOff n s) := by
  unfold portOff; (repeat' split) <;> simp (maxDischargeDepth := 100) [*]

@[simp ↓] theorem hubIdle_kept {s₀ : State} (s : State) (hk : Kept s₀ s) : Kept s₀ (hubIdle s) := by
  unfold hubIdle; (repeat' split) <;> simp (maxDischargeDepth := 100) [*]

@[simp ↓] theorem setDevice_kept {s₀ : State} (on : Bool) (s : State) (hk : Kept s₀ s) : Kept s₀
    (setDevice on s) := by
  unfold setDevice; (repeat' split) <;> simp (maxDischargeDepth := 100) [*]

@[simp ↓] theorem pullUpOff_kept {s₀ : State} (s : State) (hk : Kept s₀ s) : Kept s₀ (pullUpOff s) := by
  unfold pullUpOff; (repeat' split) <;> simp (maxDischargeDepth := 100) [*]

@[simp ↓] theorem pullUpOn_kept {s₀ : State} (s : State) (hk : Kept s₀ s) : Kept s₀ (pullUpOn s) := by
  unfold pullUpOn; (repeat' split) <;> simp (maxDischargeDepth := 100) [*]

@[simp ↓] theorem connectWrite_kept {s₀ : State} (connect : Bool) (s : State) (hk : Kept s₀ s) : Kept s₀
    (connectWrite connect s) := by
  unfold connectWrite; (repeat' split) <;> simp (maxDischargeDepth := 100) [*]

@[simp ↓] theorem reattachWrite_kept {s₀ : State} (s : State) (hk : Kept s₀ s) : Kept s₀ (reattachWrite s) := by
  unfold reattachWrite; (repeat' split) <;> simp (maxDischargeDepth := 100) [*]

@[simp ↓] theorem usbCtlWrite_kept {s₀ : State} (v : Word) (s : State) (hk : Kept s₀ s) : Kept s₀
    (usbCtlWrite v s) := by
  unfold usbCtlWrite; (repeat' split) <;> simp (maxDischargeDepth := 100) [*]

@[simp ↓] theorem overCurrent_kept {s₀ : State} (n : Nat) (s : State) (hk : Kept s₀ s) : Kept s₀
    (overCurrent n s) := by
  unfold overCurrent; (repeat' split) <;> simp (maxDischargeDepth := 100) [*]

@[simp ↓] theorem stallEp0_kept {s₀ : State} (s : State) (hk : Kept s₀ s) : Kept s₀ (stallEp0 s) := by
  unfold stallEp0; (repeat' split) <;> simp (maxDischargeDepth := 100) [*]

@[simp ↓] theorem setupStage_kept {s₀ : State} (r : UsbRequest) (s : State) (hk : Kept s₀ s) : Kept s₀
    (setupStage r s) := by
  unfold setupStage; (repeat' split) <;> simp (maxDischargeDepth := 100) [*]

@[simp ↓] theorem placeFrame_kept {s₀ : State} (volts : List Int) (s : State)
    (hk : Kept s₀ s) : Kept s₀ (placeFrame volts s) := by
  unfold placeFrame; (repeat' split) <;> simp (maxDischargeDepth := 100) [*]

@[simp ↓] theorem microframeEnds_kept {s₀ : State} (s : State) (hk : Kept s₀ s) : Kept s₀ (microframeEnds s) := by
  unfold microframeEnds; (repeat' split) <;> simp (maxDischargeDepth := 100) [*]

/-! ### BusCore -/

@[simp ↓] theorem applyPair_kept {s₀ : State} (a va vb : Nat) (s : State) (hk : Kept s₀ s) : Kept s₀
    (applyPair a va vb s) := by
  unfold applyPair; (repeat' split) <;> simp (maxDischargeDepth := 100) [*]

@[simp ↓] theorem pairWrite_kept {s₀ : State} (off a b v : Nat) (s : State) (hk : Kept s₀ s) : Kept s₀
    (pairWrite off a b v s) := by
  unfold pairWrite; (repeat' split) <;> simp (maxDischargeDepth := 100) [*]

@[simp ↓] theorem rowWrite_kept {s₀ : State} (off : Nat) (v : Nat) (s : State) (hk : Kept s₀ s) : Kept s₀
    (rowWrite off v s) := by
  unfold rowWrite; (repeat' split) <;> simp (maxDischargeDepth := 100) [*]

@[simp ↓] theorem clkWrite_kept {s₀ : State} (n off : Nat) (v : Word) (s : State) (hk : Kept s₀ s) : Kept s₀
    (clkWrite n off v s) := by
  unfold clkWrite; (repeat' split) <;> simp (maxDischargeDepth := 100) [*]

@[simp ↓] theorem rgxWrite_kept {s₀ : State} (x off : Nat) (v : Word) (s : State) (hk : Kept s₀ s) : Kept s₀
    (rgxWrite x off v s) := by
  unfold rgxWrite; (repeat' split) <;> simp (maxDischargeDepth := 100) [*]

@[simp ↓] theorem hifWrite_kept {s₀ : State} (off : Nat) (v : Word) (s : State) (hk : Kept s₀ s) : Kept s₀
    (hifWrite off v s) := by
  unfold hifWrite; (repeat' split) <;> simp (maxDischargeDepth := 100) [*]

@[simp ↓] theorem fedWrite_kept {s₀ : State} (off : Nat) (v : Word) (s : State) (hk : Kept s₀ s) : Kept s₀
    (fedWrite off v s) := by
  unfold fedWrite; (repeat' split) <;> simp (maxDischargeDepth := 100) [*]

@[simp ↓] theorem stkWrite_kept {s₀ : State} (off : Nat) (v : Word) (s : State) (hk : Kept s₀ s) : Kept s₀
    (stkWrite off v s) := by
  unfold stkWrite; (repeat' split) <;> simp (maxDischargeDepth := 100) [*]

@[simp ↓] theorem dioRegWrite_kept {s₀ : State} (off : Nat) (v : Word) (s : State) (hk : Kept s₀ s) : Kept s₀
    (dioRegWrite off v s) := by
  unfold dioRegWrite; (repeat' split) <;> simp (maxDischargeDepth := 100) [*]

@[simp ↓] theorem anaRegWrite_kept {s₀ : State} (off : Nat) (v : Word) (s : State) (hk : Kept s₀ s) : Kept s₀
    (anaRegWrite off v s) := by
  unfold anaRegWrite; (repeat' split) <;> simp (maxDischargeDepth := 100) [*]

@[simp ↓] theorem fltWrite_kept {s₀ : State} (off : Nat) (v : Word) (s : State) (hk : Kept s₀ s) : Kept s₀
    (fltWrite off v s) := by
  unfold fltWrite; (repeat' split) <;> simp (maxDischargeDepth := 100) [*]

@[simp ↓] theorem cntWrite_kept {s₀ : State} (off : Nat) (v : Word) (s : State) (hk : Kept s₀ s) : Kept s₀
    (cntWrite off v s) := by
  unfold cntWrite; (repeat' split) <;> simp (maxDischargeDepth := 100) [*]

@[simp ↓] theorem twnWrite_kept {s₀ : State} (off : Nat) (v : Word) (s : State) (hk : Kept s₀ s) : Kept s₀
    (twnWrite off v s) := by
  unfold twnWrite; (repeat' split) <;> simp (maxDischargeDepth := 100) [*]

@[simp ↓] theorem regWrite_kept {s₀ : State} (off : Nat) (v : Word) (s : State) (hk : Kept s₀ s) : Kept s₀
    (regWrite off v s) := by
  unfold regWrite; (repeat' split) <;> simp (maxDischargeDepth := 100) [*]

/-! ### Restore -/

@[simp ↓] theorem takeStagedBits_kept {s₀ : State} (off mask v : Nat) (s : State)
    (hk : Kept s₀ s) : Kept s₀ (takeStagedBits off mask v s) := by
  unfold takeStagedBits; (repeat' split) <;> simp (maxDischargeDepth := 100) [*]

@[simp ↓] theorem quietly_kept {s₀ : State} (off : Nat) (f : State → State) (s : State) (hf : ∀ t, Kept t (f t))
    (hk : Kept s₀ s) : Kept s₀ (quietly off f s) := by
  have hf2 := hf; replace hf : ∀ t, Kept s₀ t → Kept s₀ (f t) := fun t hk => hk.trans (hf2 t)
  unfold quietly; (repeat' split) <;> simp (maxDischargeDepth := 100) [*]

@[simp ↓] theorem holdChan_kept {s₀ : State} (off w : Nat) (s : State) (hk : Kept s₀ s) :
    Kept s₀ (holdChan off w s).2 := by
  unfold holdChan; split <;> simp (maxDischargeDepth := 100) [*]

@[simp ↓] theorem entryFields_kept {s₀ : State} (off mask v : Nat) (flds : List FldRow) (s : State)
    (hk : Kept s₀ s) : Kept s₀ (entryFields off mask v flds s) := by
  unfold entryFields; (repeat' split) <;> simp (maxDischargeDepth := 100) [*]

@[simp ↓] theorem entryPair_kept {s₀ : State} (es : List (Nat × Nat × Nat)) (off mask : Nat) (s : State)
    (hk : Kept s₀ s) : Kept s₀ (entryPair es off mask s) := by
  unfold entryPair; (repeat' split) <;> simp (maxDischargeDepth := 100) [*]

@[simp ↓] theorem entryApply_kept {s₀ : State} (es : List (Nat × Nat × Nat)) (s : State) (e : Nat × Nat × Nat)
    (hk : Kept s₀ s) : Kept s₀ (entryApply es s e) := by
  unfold entryApply; (repeat' split) <;> simp (maxDischargeDepth := 100) [*]

@[simp ↓] theorem applyEntries_kept {s₀ : State} (es : List (Nat × Nat × Nat)) (s : State)
    (hk : Kept s₀ s) : Kept s₀ (applyEntries es s) := by
  unfold applyEntries; (repeat' split) <;> simp (maxDischargeDepth := 100) [*]

@[simp ↓] theorem giveEngine_kept {s₀ : State} (n : Nat) (s : State) (hk : Kept s₀ s) : Kept s₀ (giveEngine n s) := by
  unfold giveEngine; dsimp only; (repeat' split) <;> simp (maxDischargeDepth := 100) [*]

@[simp ↓] theorem bindPlace_kept {s₀ : State} (n : Nat) (pl : Placement) (s : State) (hk : Kept s₀ s) : Kept s₀
    (bindPlace n pl s) := by
  unfold bindPlace; dsimp only; (repeat' split) <;> simp (maxDischargeDepth := 100) [*]

@[simp ↓] theorem bindPlaces_kept {s₀ : State} (sel : Nat → Bool) (s : State) (hk : Kept s₀ s) : Kept s₀
    (bindPlaces sel s) := by
  unfold bindPlaces; (repeat' split) <;> simp (maxDischargeDepth := 100) [*]

@[simp ↓] theorem writeScanList_kept {s₀ : State} (n : Nat) (s : State) (hk : Kept s₀ s) : Kept s₀
    (writeScanList n s) := by
  unfold writeScanList; (repeat' split) <;> simp (maxDischargeDepth := 100) [*]

@[simp ↓] theorem restoreDomain_kept {s₀ : State} (i : Nat) (s : State) (hk : Kept s₀ s) : Kept s₀
    (restoreDomain i s) := by
  unfold restoreDomain; (repeat' split) <;> simp (maxDischargeDepth := 100) [*]

/-! ### Transfers -/

@[simp ↓] theorem readError_kept {s₀ : State} (f : Frame) (cause : Nat) (s : State) (hk : Kept s₀ s) : Kept s₀
    (readError f cause s) := by
  unfold readError; (repeat' split) <;> simp (maxDischargeDepth := 100) [*]

@[simp ↓] theorem readAnswer_kept {s₀ : State} (f : Frame) (ws : List Word) (s : State) (hk : Kept s₀ s) : Kept s₀
    (readAnswer f ws s) := by
  unfold readAnswer; (repeat' split) <;> simp (maxDischargeDepth := 100) [*]

@[simp ↓] theorem writeError_kept {s₀ : State} (node tag addr cause : Nat) (s : State) (hk : Kept s₀ s) : Kept s₀
    (writeError node tag addr cause s) := by
  unfold writeError; (repeat' split) <;> simp (maxDischargeDepth := 100) [*]

@[simp ↓] theorem abortWrite_kept {s₀ : State} (cause : Nat) (f : Frame) (s : State) (hk : Kept s₀ s) : Kept s₀
    (abortWrite cause f s) := by
  have h1 := writeError_kept f.src f.aux (reqAddr f) cause s hk
  unfold abortWrite
  dsimp only
  split
  · exact writeFailed_kept _ _ h1
  · exact h1

@[simp ↓] theorem eachQ_kept {s₀ : State} (q typ : Nat) (h : Frame → State → State) (hf : ∀ f t, Kept t (h f t))
    (k : Nat) (s : State) (hk : Kept s₀ s) : Kept s₀ (eachQ q typ h k s) := by
  induction k generalizing s with
  | zero => exact hk
  | succ k ih =>
    unfold eachQ
    split
    · next e => exact ih _ ((takeQ_kept hk e).trans (hf _ _))
    · exact hk

/-! ### Power -/

@[simp ↓] theorem setPwr_kept {s₀ : State} (x : Pwr) (s : State) (hk : Kept s₀ s) : Kept s₀ (setPwr x s) := by
  unfold setPwr; (repeat' split) <;> simp (maxDischargeDepth := 100) [*]

@[simp ↓] theorem dropCauses_kept {s₀ : State} (i : Nat) (s : State) (hk : Kept s₀ s) : Kept s₀ (dropCauses i s) := by
  unfold dropCauses; (repeat' split) <;> simp (maxDischargeDepth := 100) [*]

@[simp ↓] theorem clearCluster_kept {s₀ : State} (c : Nat) (s : State) (hk : Kept s₀ s) : Kept s₀
    (clearCluster c s) := by
  unfold clearCluster; (repeat' split) <;> simp (maxDischargeDepth := 100) [*]

@[simp ↓] theorem clearAnalog_kept {s₀ : State} (s : State) (hk : Kept s₀ s) : Kept s₀ (clearAnalog s) := by
  unfold clearAnalog; (repeat' split) <;> simp (maxDischargeDepth := 100) [*]

@[simp ↓] theorem clearHost_kept {s₀ : State} (s : State) (hk : Kept s₀ s) : Kept s₀ (clearHost s) := by
  unfold clearHost; (repeat' split) <;> simp (maxDischargeDepth := 100) [*]

@[simp ↓] theorem clearRingB_kept {s₀ : State} (s : State) (hk : Kept s₀ s) : Kept s₀ (clearRingB s) := by
  unfold clearRingB; (repeat' split) <;> simp (maxDischargeDepth := 100) [*]

@[simp ↓] theorem domainOff_kept {s₀ : State} (i : Nat) (s : State) (hk : Kept s₀ s) : Kept s₀ (domainOff i s) := by
  unfold domainOff; (repeat' split) <;> simp (maxDischargeDepth := 100) [*]

@[simp ↓] theorem portKeys_kept {s₀ : State} (x : Nat) (s : State) (hk : Kept s₀ s) : Kept s₀ (portKeys x s) := by
  unfold portKeys; (repeat' split) <;> simp (maxDischargeDepth := 100) [*]

@[simp ↓] theorem hostReady_kept {s₀ : State} (s : State) (hk : Kept s₀ s) : Kept s₀ (hostReady s) := by
  unfold hostReady; (repeat' split) <;> simp (maxDischargeDepth := 100) [*]

@[simp ↓] theorem domainUp_kept {s₀ : State} (i : Nat) (s : State) (hk : Kept s₀ s) : Kept s₀ (domainUp i s) := by
  unfold domainUp; (repeat' split) <;> simp (maxDischargeDepth := 100) [*]

@[simp ↓] theorem sendOrder_kept {s₀ : State} (st : Nat) (force : Bool) (s : State) (hk : Kept s₀ s) : Kept s₀
    (sendOrder st force s) := by
  unfold sendOrder; (repeat' split) <;> simp (maxDischargeDepth := 100) [*]

@[simp ↓] theorem wakeOrder_kept {s₀ : State} (force : Bool) (s : State) (hk : Kept s₀ s) : Kept s₀
    (wakeOrder force s) := by
  unfold wakeOrder; (repeat' split) <;> simp (maxDischargeDepth := 100) [*]

@[simp ↓] theorem reportState_kept {s₀ : State} (st : Nat) (s : State) (hk : Kept s₀ s) : Kept s₀
    (reportState st s) := by
  unfold reportState; (repeat' split) <;> simp (maxDischargeDepth := 100) [*]

@[simp ↓] theorem beginRequest_kept {s₀ : State} (r : PowerReq) (s : State) (hk : Kept s₀ s) : Kept s₀
    (beginRequest r s) := by
  unfold beginRequest; (repeat' split) <;> simp (maxDischargeDepth := 100) [*]

@[simp ↓] theorem answerNow_kept {s₀ : State} (d status : Nat) (s : State) (hk : Kept s₀ s) : Kept s₀
    (answerNow d status s) := by
  unfold answerNow; (repeat' split) <;> simp (maxDischargeDepth := 100) [*]

@[simp ↓] theorem goRequest_kept {s₀ : State} (s : State) (hk : Kept s₀ s) : Kept s₀ (goRequest s) := by
  unfold goRequest; (repeat' split) <;> simp (maxDischargeDepth := 100) [*]

@[simp ↓] theorem pwrReqWrite_kept {s₀ : State} (v : Word) (s : State) (hk : Kept s₀ s) : Kept s₀
    (pwrReqWrite v s) := by
  unfold pwrReqWrite; (repeat' split) <;> simp (maxDischargeDepth := 100) [*]

@[simp ↓] theorem setWakeTimer_kept {s₀ : State} (s : State) (hk : Kept s₀ s) : Kept s₀ (setWakeTimer s) := by
  unfold setWakeTimer; (repeat' split) <;> simp (maxDischargeDepth := 100) [*]

@[simp ↓] theorem pauseCluster_kept {s₀ : State} (c : Nat) (s : State) (hk : Kept s₀ s) : Kept s₀
    (pauseCluster c s) := by
  unfold pauseCluster; (repeat' split) <;> simp (maxDischargeDepth := 100) [*]

@[simp ↓] theorem clusterDown_kept {s₀ : State} (s : State) (c : Nat) (hk : Kept s₀ s) : Kept s₀
    (clusterDown s c) := by
  unfold clusterDown; (repeat' split) <;> simp (maxDischargeDepth := 100) [*]

@[simp ↓] theorem fieldDown_kept {s₀ : State} (s : State) (hk : Kept s₀ s) : Kept s₀ (fieldDown s) := by
  unfold fieldDown; (repeat' split) <;> simp (maxDischargeDepth := 100) [*]

@[simp ↓] theorem retain_kept {s₀ : State} (s : State) (i : Nat) (hk : Kept s₀ s) : Kept s₀ (retain s i) := by
  unfold retain; (repeat' split) <;> simp (maxDischargeDepth := 100) [*]

@[simp ↓] theorem cellarDown_kept {s₀ : State} (s : State) (hk : Kept s₀ s) : Kept s₀ (cellarDown s) := by
  unfold cellarDown; (repeat' split) <;> simp (maxDischargeDepth := 100) [*]

@[simp ↓] theorem entryTakes_kept {s₀ : State} (target : Nat) (s : State)
    (hk : Kept s₀ s) : Kept s₀ (entryTakes target s) := by
  unfold entryTakes; (repeat' split) <;> simp (maxDischargeDepth := 100) [*]

@[simp ↓] theorem enterSleep_kept {s₀ : State} (target : Nat) (s : State) (hk : Kept s₀ s) : Kept s₀
    (enterSleep target s) := by
  unfold enterSleep; (repeat' split) <;> simp (maxDischargeDepth := 100) [*]

@[simp ↓] theorem enterMothballed_kept {s₀ : State} (s : State) (hk : Kept s₀ s) : Kept s₀ (enterMothballed s) := by
  unfold enterMothballed; (repeat' split) <;> simp (maxDischargeDepth := 100) [*]

@[simp ↓] theorem completeRequest_kept {s₀ : State} (r : PowerReq) (s : State) (hk : Kept s₀ s) : Kept s₀
    (completeRequest r s) := by
  unfold completeRequest; (repeat' split) <;> simp (maxDischargeDepth := 100) [*]

@[simp ↓] theorem abortCluster_kept {s₀ : State} (c : Nat) (s : State) (hk : Kept s₀ s) : Kept s₀
    (abortCluster c s) := by
  unfold abortCluster; (repeat' split) <;> simp (maxDischargeDepth := 100) [*]

@[simp ↓] theorem abortArchive_kept {s₀ : State} (s : State) (hk : Kept s₀ s) : Kept s₀ (abortArchive s) := by
  unfold abortArchive; (repeat' split) <;> simp (maxDischargeDepth := 100) [*]

@[simp ↓] theorem abortHost_kept {s₀ : State} (s : State) (hk : Kept s₀ s) : Kept s₀ (abortHost s) := by
  unfold abortHost; (repeat' split) <;> (try (refine foldl_kept (by simp (maxDischargeDepth := 100) [*]) fun t a => ?_)) <;> (repeat' split) <;> simp (maxDischargeDepth := 100) [*]

@[simp ↓] theorem abortOps_kept {s₀ : State} (s : State) (hk : Kept s₀ s) : Kept s₀ (abortOps s) := by
  unfold abortOps; (repeat' split) <;> (try (refine foldl_kept (by simp (maxDischargeDepth := 100) [*]) fun t a => ?_)) <;> (repeat' split) <;> simp (maxDischargeDepth := 100) [*]

@[simp ↓] theorem abortDomain_kept {s₀ : State} (target : Nat) (asker : Option Nat) (i : Nat) (s : State)
    (hk : Kept s₀ s) : Kept s₀ (abortDomain target asker i s) := by
  unfold abortDomain; (repeat' split) <;> simp (maxDischargeDepth := 100) [*]

@[simp ↓] theorem forceDrain_kept {s₀ : State} (r : PowerReq) (s : State) (hk : Kept s₀ s) : Kept s₀
    (forceDrain r s) := by
  unfold forceDrain; (repeat' split) <;> simp (maxDischargeDepth := 100) [*]

@[simp ↓] theorem refuseRequest_kept {s₀ : State} (r : PowerReq) (s : State) (hk : Kept s₀ s) : Kept s₀
    (refuseRequest r s) := by
  unfold refuseRequest; (repeat' split) <;> simp (maxDischargeDepth := 100) [*]

@[simp ↓] theorem domOffWrite_kept {s₀ : State} (v : Word) (s : State) (hk : Kept s₀ s) : Kept s₀
    (domOffWrite v s) := by
  unfold domOffWrite; (repeat' split) <;> simp (maxDischargeDepth := 100) [*]

@[simp ↓] theorem recordWake_kept {s₀ : State} (active : List Nat) (s : State) (hk : Kept s₀ s) : Kept s₀
    (recordWake active s) := by
  unfold recordWake; (repeat' split) <;> simp (maxDischargeDepth := 100) [*]

@[simp ↓] theorem bankLost_kept {s₀ : State} (bad : List Nat) (s : State) (b : Nat) (hk : Kept s₀ s) : Kept s₀
    (bankLost bad s b) := by
  unfold bankLost; dsimp only; (repeat' split) <;> simp (maxDischargeDepth := 100) [*]

@[simp ↓] theorem resumeFails_kept {s₀ : State} (bad : List Nat) (s : State) (hk : Kept s₀ s) : Kept s₀
    (resumeFails bad s) := by
  unfold resumeFails
  extract_lets s1 kept old s2
  have h1 : Kept s₀ s1 := foldl_kept (raise_kept _ _ hk) fun t b => by simp (maxDischargeDepth := 100)
  have h2 : Kept s₀ s2 := coreResetBy_kept _ _ h1
  refine ⟨h2.1, h2.2.1, fun w => ?_⟩
  have w1 := h1.2.2 w
  have w2 := h2.2.2 w
  simp only [Memory.wf, Bool.and_eq_true] at w1 w2 ⊢
  refine ⟨w2.1, ?_⟩
  obtain ⟨-, wl⟩ := w1
  simp only [archiveWf, Bool.and_eq_true, beq_iff_eq] at wl ⊢
  refine ⟨rfl, twf_default (tclear_wf wl.2.1) fun k hk => ?_, tclear_wf wl.2.2⟩
  have hn := tclear_keys hk
  have hl : old.fill.length = 5 := wl.1
  simp only [kept, Bool.not_not] at hn
  simp only [recFill]
  rcases Nat.lt_or_ge (k / bankSize) 5 with hb | hb
  · interval_cases k / bankSize <;> simp_all <;> rfl
  · simp only [List.getD_eq_getElem?_getD]
    rw [List.getElem?_eq_none (by simpa using hb), List.getElem?_eq_none (by omega)]

@[simp ↓] theorem wakeCluster_kept {s₀ : State} (c : Nat) (s : State) (hk : Kept s₀ s) : Kept s₀
    (wakeCluster c s) := by
  unfold wakeCluster; (repeat' split) <;> simp (maxDischargeDepth := 100) [*]

@[simp ↓] theorem wakeDomain_kept {s₀ : State} (s : State) (i : Nat) (hk : Kept s₀ s) : Kept s₀ (wakeDomain s i) := by
  unfold wakeDomain; (repeat' split) <;> simp (maxDischargeDepth := 100) [*]

@[simp ↓] theorem endShift_kept {s₀ : State} (s : State) (p : Nat) (hk : Kept s₀ s) : Kept s₀ (endShift s p) := by
  unfold endShift; (repeat' split) <;> simp (maxDischargeDepth := 100) [*]

@[simp ↓] theorem wakeUp_kept {s₀ : State} (bad : List Nat) (s : State) (hk : Kept s₀ s) : Kept s₀
    (wakeUp bad s) := by
  unfold wakeUp; (repeat' split) <;> simp (maxDischargeDepth := 100) [*]

@[simp ↓] theorem takeOrder_kept {s₀ : State} (force : Bool) (s : State) (hk : Kept s₀ s) : Kept s₀
    (takeOrder force s) := by
  unfold takeOrder; (repeat' split) <;> simp (maxDischargeDepth := 100) [*]

@[simp ↓] theorem followOrder_kept {s₀ : State} (ring st : Nat) (force : Bool) (s : State)
    (hk : Kept s₀ s) : Kept s₀ (followOrder ring st force s) := by
  unfold followOrder; (repeat' split) <;> simp (maxDischargeDepth := 100) [*]

/-! ### Bus -/

@[simp ↓] theorem busPut_kept {s₀ : State} (off : Nat) (v : Word) (s : State) (hk : Kept s₀ s) : Kept s₀
    (busPut off v s) := by
  unfold busPut; (repeat' split) <;> simp (maxDischargeDepth := 100) [*]

@[simp ↓] theorem busWrite_kept {s₀ : State} (w : Writer) (off : Nat) (v : Word) (s : State)
    (hk : Kept s₀ s) : Kept s₀ (busWrite w off v s) := by
  unfold busWrite; (repeat' split) <;> simp (maxDischargeDepth := 100) [*]

end Sys2Proof.Machine
end

