-- ==== Sys2Proof/Laws/KeptBoot.lean ====
section
/-! SUPPORT. The queue, the clock and the form of the memories are left alone by every operation of
editions, volumes, the boot, the servers, PCIe and the tick. -/

namespace Sys2Proof.Machine

set_option linter.unusedTactic false
set_option linter.unnecessarySeqFocus false
set_option linter.unreachableTactic false

/-! ### Editions -/

@[simp ↓] theorem showArmed_kept {s₀ : State} (a : Option Armed) (count : Nat) (s : State)
    (hk : Kept s₀ s) : Kept s₀ (showArmed a count s) := by
  unfold showArmed; (repeat' split) <;> simp (maxDischargeDepth := 100) [*]

@[simp ↓] theorem setArmed_kept {s₀ : State} (a : Option Armed) (count : Nat) (s : State)
    (hk : Kept s₀ s) : Kept s₀ (setArmed a count s) := by
  unfold setArmed; (repeat' split) <;> simp (maxDischargeDepth := 100) [*]

@[simp ↓] theorem takeNumber_kept {s₀ : State} (e : Edition) (s : State) (hk : Kept s₀ s) : Kept s₀
    (takeNumber e s) := by
  unfold takeNumber; (repeat' split) <;> simp (maxDischargeDepth := 100) [*]

@[simp ↓] theorem takeBounds_kept {s₀ : State} (e : Edition) (s : State) (hk : Kept s₀ s) : Kept s₀
    (takeBounds e s) := by
  unfold takeBounds; (repeat' split) <;> simp (maxDischargeDepth := 100) [*]

@[simp ↓] theorem takeSevs_kept {s₀ : State} (e : Edition) (s : State) (hk : Kept s₀ s) : Kept s₀ (takeSevs e s) := by
  unfold takeSevs; (repeat' split) <;> simp (maxDischargeDepth := 100) [*]

@[simp ↓] theorem takeStaged_kept {s₀ : State} (s : State) (hk : Kept s₀ s) : Kept s₀ (takeStaged s) := by
  unfold takeStaged; (repeat' split) <;> simp (maxDischargeDepth := 100) [*]

@[simp ↓] theorem renumbered_kept {s₀ : State} (n : Nat) (s : State) (hk : Kept s₀ s) : Kept s₀ (renumbered n s) := by
  unfold renumbered; (repeat' split) <;> simp (maxDischargeDepth := 100) [*]

@[simp ↓] theorem takeEntries_kept {s₀ : State} (e : Edition) (s : State) (hk : Kept s₀ s) : Kept s₀
    (takeEntries e s) := by
  unfold takeEntries; (repeat' split) <;> simp (maxDischargeDepth := 100) [*]

@[simp ↓] theorem rekeyPorts_kept {s₀ : State} (was : List Bool) (s : State) (hk : Kept s₀ s) : Kept s₀
    (rekeyPorts was s) := by
  unfold rekeyPorts; (repeat' split) <;> simp (maxDischargeDepth := 100) [*]

@[simp ↓] theorem reseed_kept {s₀ : State} (s : State) (hk : Kept s₀ s) : Kept s₀ (reseed s) := by
  unfold reseed; (repeat' split) <;> simp (maxDischargeDepth := 100) [*]

@[simp ↓] theorem failGone_kept {s₀ : State} (s : State) (hk : Kept s₀ s) : Kept s₀ (failGone s) := by
  unfold failGone; (repeat' split) <;> simp (maxDischargeDepth := 100) [*]

@[simp ↓] theorem takeConfig_kept {s₀ : State} (e : Edition) (s : State) (hk : Kept s₀ s) : Kept s₀
    (takeConfig e s) := by
  unfold takeConfig; (repeat' split) <;> simp (maxDischargeDepth := 100) [*]

@[simp ↓] theorem alarmChanged_kept {s₀ : State} (old new : Cat) (p : Nat) (s : State) (hk : Kept s₀ s) : Kept s₀
    (alarmChanged old new p s) := by
  unfold alarmChanged; (repeat' split) <;> simp (maxDischargeDepth := 100) [*]

@[simp ↓] theorem changePoint_kept {s₀ : State} (old : Option Edition) (e : Edition) (p : Nat) (s : State)
    (hk : Kept s₀ s) : Kept s₀ (changePoint old e p s) := by
  unfold changePoint; (repeat' split) <;> simp (maxDischargeDepth := 100) [*]

@[simp ↓] theorem changePlace_kept {s₀ : State} (old : Option Edition) (e : Edition) (n : Nat) (s : State)
    (hk : Kept s₀ s) : Kept s₀ (changePlace old e n s) := by
  unfold changePlace; (repeat' split) <;> simp (maxDischargeDepth := 100) [*]

@[simp ↓] theorem takeShelf_kept {s₀ : State} (e : Edition) (s : State) (hk : Kept s₀ s) : Kept s₀
    (takeShelf e s) := by
  unfold takeShelf; (repeat' split) <;> simp (maxDischargeDepth := 100) [*]

@[simp ↓] theorem raiseMin_kept {s₀ : State} (k v : Nat) (s : State) (hk : Kept s₀ s) : Kept s₀ (raiseMin k v s) := by
  unfold raiseMin; (repeat' split) <;> simp (maxDischargeDepth := 100) [*]

@[simp ↓] theorem raiseMinima_kept {s₀ : State} (s : State) (hk : Kept s₀ s) : Kept s₀ (raiseMinima s) := by
  unfold raiseMinima; (repeat' split) <;> simp (maxDischargeDepth := 100) [*]

@[simp ↓] theorem moveSlots_kept {s₀ : State} (e : Edition) (s : State) (hk : Kept s₀ s) : Kept s₀
    (moveSlots e s) := by
  unfold moveSlots; (repeat' split) <;> simp (maxDischargeDepth := 100) [*]

@[simp ↓] theorem commitSlots_kept {s₀ : State} (e : Edition) (flashOk : Bool) (s : State)
    (hk : Kept s₀ s) : Kept s₀ (commitSlots e flashOk s) := by
  unfold commitSlots; (repeat' split) <;> simp (maxDischargeDepth := 100) [*]

@[simp ↓] theorem activate_kept {s₀ : State} (e : Edition) (ps : List Nat) (late flashOk : Bool) (s : State)
    (hk : Kept s₀ s) : Kept s₀ (activate e ps late flashOk s) := by
  unfold activate; (repeat' split) <;> simp (maxDischargeDepth := 100) [*]

@[simp ↓] theorem activateArmed_kept {s₀ : State} (late flashOk : Bool) (s : State) (hk : Kept s₀ s) : Kept s₀
    (activateArmed late flashOk s) := by
  unfold activateArmed; (repeat' split) <;> simp (maxDischargeDepth := 100) [*]

@[simp ↓] theorem settleSettings_kept {s₀ : State} (s : State) (hk : Kept s₀ s) : Kept s₀ (settleSettings s) := by
  unfold settleSettings; (repeat' split) <;> simp (maxDischargeDepth := 100) [*]

@[simp ↓] theorem loadPoint_kept {s₀ : State} (e : Edition) (p : Nat) (s : State) (hk : Kept s₀ s) : Kept s₀
    (loadPoint e p s) := by
  unfold loadPoint; (repeat' split) <;> simp (maxDischargeDepth := 100) [*]

@[simp ↓] theorem loadEdition_kept {s₀ : State} (e : Edition) (s : State) (hk : Kept s₀ s) : Kept s₀
    (loadEdition e s) := by
  unfold loadEdition; (repeat' split) <;> simp (maxDischargeDepth := 100) [*]

/-! ### Volumes -/

@[simp ↓] theorem setSec_kept {s₀ : State} (x : Sec) (s : State) (hk : Kept s₀ s) : Kept s₀ (setSec x s) := by
  unfold setSec; (repeat' split) <;> simp (maxDischargeDepth := 100) [*]

@[simp ↓] theorem noteRevoked_kept {s₀ : State} (id : Nat) (s : State) (hk : Kept s₀ s) : Kept s₀
    (noteRevoked id s) := by
  unfold noteRevoked; (repeat' split) <;> simp (maxDischargeDepth := 100) [*]

@[simp ↓] theorem closeStaging_kept {s₀ : State} (s : State) (hk : Kept s₀ s) : Kept s₀ (closeStaging s) := by
  unfold closeStaging; (repeat' split) <;> simp (maxDischargeDepth := 100) [*]

@[simp ↓] theorem closeEdition_kept {s₀ : State} (d : Nat) (bs : List Nat) (s : State) (hk : Kept s₀ s) : Kept s₀
    (closeEdition d bs s) := by
  unfold closeEdition; (repeat' split) <;> simp (maxDischargeDepth := 100) [*]

@[simp ↓] theorem closeBinding_kept {s₀ : State} (d : Nat) (bs : List Nat) (s : State) (hk : Kept s₀ s) : Kept s₀
    (closeBinding d bs s) := by
  unfold closeBinding; (repeat' split) <;> simp (maxDischargeDepth := 100) [*]

@[simp ↓] theorem closeVolume_kept {s₀ : State} (d : Nat) (bs : List Nat) (s : State) (hk : Kept s₀ s) : Kept s₀
    (closeVolume d bs s) := by
  unfold closeVolume; (repeat' split) <;> simp (maxDischargeDepth := 100) [*]

@[simp ↓] theorem showVolArmed_kept {s₀ : State} (s : State) (hk : Kept s₀ s) : Kept s₀ (showVolArmed s) := by
  unfold showVolArmed; (repeat' split) <;> simp (maxDischargeDepth := 100) [*]

@[simp ↓] theorem putShelf_kept {s₀ : State} (v k : Nat) (x : Option (List Word)) (s : State)
    (hk : Kept s₀ s) : Kept s₀ (putShelf v k x s) := by
  unfold putShelf; (repeat' split) <;> simp (maxDischargeDepth := 100) [*]

@[simp ↓] theorem freeShelf_kept {s₀ : State} (v : Nat) (s : State) (hk : Kept s₀ s) : Kept s₀ (freeShelf v s) := by
  unfold freeShelf; (repeat' split) <;> simp (maxDischargeDepth := 100) [*]

@[simp ↓] theorem defaultShelf_kept {s₀ : State} (v : Nat) (s : State) (hk : Kept s₀ s) : Kept s₀
    (defaultShelf v s) := by
  unfold defaultShelf; (repeat' split) <;> simp (maxDischargeDepth := 100) [*]

@[simp ↓] theorem copyShelf_kept {s₀ : State} (old new : Nat) (s : State) (hk : Kept s₀ s) : Kept s₀
    (copyShelf old new s) := by
  unfold copyShelf; (repeat' split) <;> simp (maxDischargeDepth := 100) [*]

@[simp ↓] theorem trialShelf_kept {s₀ : State} (old new : Nat) (s : State) (hk : Kept s₀ s) : Kept s₀
    (trialShelf old new s) := by
  unfold trialShelf; (repeat' split) <;> simp (maxDischargeDepth := 100) [*]

@[simp ↓] theorem unloadEdition_kept {s₀ : State}  (s : State) (hk : Kept s₀ s) : Kept s₀ (unloadEdition s) := by
  unfold unloadEdition
  extract_lets src s1 s2 s3 s4
  have h2 : Kept s₀ s2 := by dsimp only [s2, s1]; simp (maxDischargeDepth := 100) [*]
  have h3 : Kept s₀ s3 := foldl_kept h2 fun t n => by (repeat' split) <;> simp (maxDischargeDepth := 100) [*]
  have h4 : Kept s₀ s4 := foldl_kept h3 fun t n => by simp (maxDischargeDepth := 100) [*]
  exact foldl_kept h4 fun t n => by simp (maxDischargeDepth := 100) [*]

@[simp ↓] theorem restartSteward_kept {s₀ : State} (s : State) (hk : Kept s₀ s) : Kept s₀ (restartSteward s) := by
  unfold restartSteward; (repeat' split) <;> simp (maxDischargeDepth := 100) [*]

@[simp ↓] theorem revokeSlot_kept {s₀ : State} (i : Nat) (s : State) (hk : Kept s₀ s) : Kept s₀ (revokeSlot i s) := by
  unfold revokeSlot; (repeat' split) <;> simp (maxDischargeDepth := 100) [*]

@[simp ↓] theorem commitVolume_kept {s₀ : State} (s : State) (hk : Kept s₀ s) : Kept s₀ (commitVolume s) := by
  unfold commitVolume; (repeat' split) <;> simp (maxDischargeDepth := 100) [*]

@[simp ↓] theorem fallBack_kept {s₀ : State} (cause : Nat) (s : State) (hk : Kept s₀ s) : Kept s₀
    (fallBack cause s) := by
  unfold fallBack; (repeat' split) <;> simp (maxDischargeDepth := 100) [*]

@[simp ↓] theorem programSlot_kept {s₀ : State} (i : Nat) (a : List Nat) (s : State) (hk : Kept s₀ s) : Kept s₀
    (programSlot i a s) := by
  unfold programSlot; (repeat' split) <;> simp (maxDischargeDepth := 100) [*]

@[simp ↓] theorem setOwner_kept {s₀ : State} (d k : Nat) (a : List Nat) (s : State) (hk : Kept s₀ s) : Kept s₀
    (setOwner d k a s) := by
  unfold setOwner; (repeat' split) <;> simp (maxDischargeDepth := 100) [*]

/-! ### Boot -/

@[simp ↓] theorem setBoot_kept {s₀ : State} (x : Boot) (s : State) (hk : Kept s₀ s) : Kept s₀ (setBoot x s) := by
  unfold setBoot; (repeat' split) <;> simp (maxDischargeDepth := 100) [*]

@[simp ↓] theorem driveBootFail_kept {s₀ : State} (s : State) (hk : Kept s₀ s) : Kept s₀ (driveBootFail s) := by
  unfold driveBootFail; (repeat' split) <;> simp (maxDischargeDepth := 100) [*]

@[simp ↓] theorem enterRecovery_kept {s₀ : State} (fail : Nat) (s : State) (hk : Kept s₀ s) : Kept s₀
    (enterRecovery fail s) := by
  unfold enterRecovery; (repeat' split) <;> simp (maxDischargeDepth := 100) [*]

@[simp ↓] theorem startVolume_kept {s₀ : State} (v : Nat) (s : State) (hk : Kept s₀ s) : Kept s₀
    (startVolume v s) := by
  unfold startVolume; (repeat' split) <;> simp (maxDischargeDepth := 100) [*]

@[simp ↓] theorem startOf_kept {s₀ : State} (v : Nat) (standby : Bool) (s : State) (hk : Kept s₀ s) : Kept s₀
    (startOf v standby s) := by
  unfold startOf; (repeat' split) <;> simp (maxDischargeDepth := 100) [*]

@[simp ↓] theorem chooseVolume_kept {s₀ : State} (s : State) (hk : Kept s₀ s) : Kept s₀ (chooseVolume s) := by
  unfold chooseVolume; (repeat' split) <;> simp (maxDischargeDepth := 100) [*]

@[simp ↓] theorem bootCores_kept {s₀ : State} (bad : List Nat) (s : State) (hk : Kept s₀ s) : Kept s₀
    (bootCores bad s) := by
  unfold bootCores; (repeat' split) <;> simp (maxDischargeDepth := 100) [*]

@[simp ↓] theorem showStore_kept {s₀ : State} (s : State) (hk : Kept s₀ s) : Kept s₀ (showStore s) := by
  unfold showStore; (repeat' split) <;> simp (maxDischargeDepth := 100) [*]

@[simp ↓] theorem releaseDomains_kept {s₀ : State} (s : State) (hk : Kept s₀ s) : Kept s₀ (releaseDomains s) := by
  unfold releaseDomains; (repeat' split) <;> simp (maxDischargeDepth := 100) [*]

@[simp ↓] theorem bootRom_kept {s₀ : State} (cores : List Nat) (flashOk : Bool) (s : State)
    (hk : Kept s₀ s) : Kept s₀ (bootRom cores flashOk s) := by
  unfold bootRom; (repeat' split) <;> simp (maxDischargeDepth := 100) [*]

@[simp ↓] theorem takeShelfOf_kept {s₀ : State} (s : State) (hk : Kept s₀ s) : Kept s₀ (takeShelfOf s) := by
  unfold takeShelfOf; (repeat' split) <;> simp (maxDischargeDepth := 100) [*]

@[simp ↓] theorem restoreShelf_kept {s₀ : State} (s : State) (hk : Kept s₀ s) : Kept s₀ (restoreShelf s) := by
  unfold restoreShelf; dsimp only; (repeat' split) <;> simp (maxDischargeDepth := 100) [*]

@[simp ↓] theorem startPorts_kept {s₀ : State} (x : Nat) (s : State) (hk : Kept s₀ s) : Kept s₀ (startPorts x s) := by
  unfold startPorts; (repeat' split) <;> simp (maxDischargeDepth := 100) [*]

@[simp ↓] theorem loadActive_kept {s₀ : State} (s : State) (hk : Kept s₀ s) : Kept s₀ (loadActive s) := by
  unfold loadActive; (repeat' split) <;> simp (maxDischargeDepth := 100) [*]

@[simp ↓] theorem watchdogRecovery_kept {s₀ : State} (s : State) (hk : Kept s₀ s) : Kept s₀ (watchdogRecovery s) := by
  unfold watchdogRecovery; (repeat' split) <;> simp (maxDischargeDepth := 100) [*]

@[simp ↓] theorem watchdogRestart_kept {s₀ : State} (s : State) (hk : Kept s₀ s) : Kept s₀ (watchdogRestart s) := by
  unfold watchdogRestart; (repeat' split) <;> simp (maxDischargeDepth := 100) [*]

@[simp ↓] theorem restartByDesk_kept {s₀ : State} (s : State) (hk : Kept s₀ s) : Kept s₀ (restartByDesk s) := by
  unfold restartByDesk; (repeat' split) <;> simp (maxDischargeDepth := 100) [*]

@[simp ↓] theorem afterResponse_kept {s₀ : State} (a : Nat) (s : State) (hk : Kept s₀ s) : Kept s₀
    (afterResponse a s) := by
  unfold afterResponse; (repeat' split) <;> simp (maxDischargeDepth := 100) [*]

/-! ### Servers -/

@[simp ↓] theorem readRun_kept {s₀ : State} (o n : Nat) (s : State) (hk : Kept s₀ s) : Kept s₀ (readRun o n s).2 := by
  induction n generalizing s o with
  | zero => exact hk
  | succ n ih => exact ih _ _ (by simp (maxDischargeDepth := 100) [*])

@[simp ↓] theorem readShared_kept {s₀ : State} (o n : Nat) (s : State) (hk : Kept s₀ s) : Kept s₀
    (readShared o n s).2 := by
  induction n generalizing s o with
  | zero => exact hk
  | succ n ih => exact ih _ _ (by split <;> simp (maxDischargeDepth := 100) [*])

@[simp ↓] theorem serveWords_kept {s₀ : State} (addr n : Nat) (ecc : List (Nat × Ecc)) (s : State) (hk : Kept s₀ s) :
    Kept s₀ (serveWords addr n ecc s).2 := by
  unfold serveWords; dsimp only; (repeat' split) <;> simp (maxDischargeDepth := 100) [*]

@[simp ↓] theorem readIn_kept {s₀ : State} (ecc : List (Nat × Ecc)) (f : Frame) (s : State)
    (hk : Kept s₀ s) : Kept s₀ (readIn ecc f s) := by
  unfold readIn
  extract_lets n
  split
  · exact readError_kept _ _ _ hk
  · split
    · exact readError_kept _ _ _ hk
    · exact readAnswer_kept _ _ _ (serveWords_kept _ _ _ _ hk)

@[simp ↓] theorem writeW0_kept {s₀ : State} (p node tag : Nat) (host : Bool) (v : Word) (e : Ecc) (s : State)
    (hk : Kept s₀ s) : Kept s₀ (writeW0 p node tag host v e s) := by
  unfold writeW0
  extract_lets s1
  have h1 : Kept s₀ s1 := by dsimp only [s1]; simp (maxDischargeDepth := 100) [*]
  split
  · exact failWrite_kept _ _ _ _ _ h1
  · split
    · exact directWrite_kept _ _ _ h1
    · exact commandWrite_kept _ _ _ _ _ _ h1

@[simp ↓] theorem putWords_kept {s₀ : State} (addr node tag : Nat) (host : Bool) (ws : List Word) (e : Ecc)
    (s : State) (hk : Kept s₀ s) : Kept s₀ (putWords addr node tag host ws e s) := by
  unfold putWords; (repeat' split) <;> simp (maxDischargeDepth := 100) [*]

@[simp ↓] theorem serveWrite_kept {s₀ : State} (addr node tag : Nat) (host : Bool) (ws : List Word) (e : Ecc)
    (s : State) (hk : Kept s₀ s) : Kept s₀ (serveWrite addr node tag host ws e s) := by
  unfold serveWrite; (repeat' split) <;> simp (maxDischargeDepth := 100) [*]

@[simp ↓] theorem writeIn_kept {s₀ : State} (e : Ecc) (f : Frame) (s : State) (hk : Kept s₀ s) : Kept s₀
    (writeIn e f s) := by
  unfold writeIn; (repeat' split) <;> simp (maxDischargeDepth := 100) [*]

@[simp ↓] theorem hostReadWords_kept {s₀ : State} (who : ReadFor) (addr n : Nat) (ecc : List (Nat × Ecc))
    (s : State) (hk : Kept s₀ s) : Kept s₀ (hostReadWords who addr n ecc s) := by
  unfold hostReadWords; (repeat' split) <;> simp (maxDischargeDepth := 100) [*]

@[simp ↓] theorem hostWriteWords_kept {s₀ : State} (addr tag : Nat) (ws : List Word) (e : Ecc) (s : State)
    (hk : Kept s₀ s) : Kept s₀ (hostWriteWords addr tag ws e s) := by
  unfold hostWriteWords; (repeat' split) <;> simp (maxDischargeDepth := 100) [*]

/-! ### Pcie -/

@[simp ↓] theorem msixWrite_kept {s₀ : State} (i : Nat) (v : BitVec 32) (s : State) (hk : Kept s₀ s) : Kept s₀
    (msixWrite i v s) := by
  unfold msixWrite; (repeat' split) <;> simp (maxDischargeDepth := 100) [*]

@[simp ↓] theorem bar0Write_kept {s₀ : State} (b : Nat) (v : BitVec 32) (s : State) (hk : Kept s₀ s) : Kept s₀
    (bar0Write b v s) := by
  unfold bar0Write; (repeat' split) <;> simp (maxDischargeDepth := 100) [*]

@[simp ↓] theorem disableBridge_kept {s₀ : State} (s : State) (hk : Kept s₀ s) : Kept s₀ (disableBridge s) := by
  unfold disableBridge; (repeat' split) <;> simp (maxDischargeDepth := 100) [*]

@[simp ↓] theorem abandonHost_kept {s₀ : State} (s : State) (hk : Kept s₀ s) : Kept s₀ (abandonHost s) := by
  unfold abandonHost; (repeat' split) <;> simp (maxDischargeDepth := 100) [*]

@[simp ↓] theorem resetConfig_kept {s₀ : State} (s : State) (hk : Kept s₀ s) : Kept s₀ (resetConfig s) := by
  unfold resetConfig; (repeat' split) <;> simp (maxDischargeDepth := 100) [*]

@[simp ↓] theorem cfgRead_kept {s₀ : State} (i : Nat) (s : State) (hk : Kept s₀ s) : Kept s₀ (cfgRead i s) := by
  unfold cfgRead; (repeat' split) <;> simp (maxDischargeDepth := 100) [*]

@[simp ↓] theorem sendAllPending_kept {s₀ : State} (s : State) (hk : Kept s₀ s) : Kept s₀ (sendAllPending s) := by
  unfold sendAllPending; (repeat' split) <;> simp (maxDischargeDepth := 100) [*]

@[simp ↓] theorem cfgRequest_kept {s₀ : State} (c : CfgRequest) (s : State) (hk : Kept s₀ s) : Kept s₀
    (cfgRequest c s) := by
  unfold cfgRequest; (repeat' split) <;> simp (maxDischargeDepth := 100) [*]

/-! ### Tick -/

@[simp ↓] theorem countFull_kept {s₀ : State} (n : Nat) (s : State) (hk : Kept s₀ s) : Kept s₀ (countFull n s) := by
  unfold countFull; (repeat' split) <;> simp (maxDischargeDepth := 100) [*]

@[simp ↓] theorem fillBucket_kept {s₀ : State} (s : State) (hk : Kept s₀ s) : Kept s₀ (fillBucket s) := by
  unfold fillBucket; (repeat' split) <;> simp (maxDischargeDepth := 100) [*]

@[simp ↓] theorem tickWork_kept {s₀ : State} (s : State) (hk : Kept s₀ s) : Kept s₀ (tickWork s) := by
  unfold tickWork; dsimp only; (repeat' split) <;> simp (maxDischargeDepth := 100) [*]

@[simp ↓] theorem tickDue_kept {s₀ : State} (s : State) (hk : Kept s₀ s) : Kept s₀ (tickDue s) := by
  unfold tickDue; (repeat' split) <;> simp (maxDischargeDepth := 100) [*]

@[simp] theorem tick_pending (s : State) : (tick s).pending = s.pending :=
  (tickDue_kept _ (kept_refl _)).1.trans (tickWork_kept s (kept_refl s)).1

@[simp] theorem tick_clk (s : State) : (tick s).clk = s.clk + 1000 :=
  (tickDue_kept _ (kept_refl _)).2.1.trans (congrArg (· + 1000) (tickWork_kept s (kept_refl s)).2.1)

theorem tick_wf (s : State) (hw : Memory.wf s = true) : Memory.wf (tick s) = true :=
  (tickDue_kept _ (kept_refl _)).2.2 ((tickWork_kept s (kept_refl s)).2.2 hw)

/-! ### Step -/

@[simp ↓] theorem State.withFetchWord_kept {s₀ : State} (s : State) (_nbits _w : Nat) (hk : Kept s₀ s) : Kept s₀
    (State.withFetchWord s _nbits _w) := by
  unfold State.withFetchWord; (repeat' split) <;> simp (maxDischargeDepth := 100) [*]

end Sys2Proof.Machine
end

