-- ==== Sys2Proof/Laws/KeptCommands.lean ====
section
/-! SUPPORT. Every command leaves the queue, the clock and the form of the memories alone: one lemma per meaning. -/

namespace Sys2Proof.Machine

set_option linter.unusedTactic false
set_option linter.unnecessarySeqFocus false
set_option linter.unreachableTactic false

/-- What an outcome of `unit` says. -/
theorem of_unit {b : Bool} {t u : State} (h : unit b t = .next u) : b = true ∧ t = u := by
  unfold unit at h; split at h <;> cases h; exact ⟨by assumption, rfl⟩

theorem execAnaWindowEnd_kept (ch : Nat) (volts : List Int) (s : State) {u : State}
    (h : execAnaWindowEnd ch volts s = .next u) : Kept s u := by
  unfold execAnaWindowEnd at h
  obtain ⟨-, rfl⟩ := of_unit h
  simp (maxDischargeDepth := 100) [*]

theorem execAnaChcfgWrite_kept (by_ : Writer) (ch : Nat) (v : Word) (s : State) {u : State}
    (h : execAnaChcfgWrite by_ ch v s = .next u) : Kept s u := by
  unfold execAnaChcfgWrite at h
  obtain ⟨-, rfl⟩ := of_unit h
  simp (maxDischargeDepth := 100) [*]

theorem execOpenSensorCheck_kept (ch ohms : Nat) (s : State) {u : State}
    (h : execOpenSensorCheck ch ohms s = .next u) : Kept s u := by
  unfold execOpenSensorCheck at h
  obtain ⟨-, rfl⟩ := of_unit h
  simp (maxDischargeDepth := 100) [*]

theorem execConverterFault_kept (cv : Nat) (cause : Nat) (s : State) {u : State}
    (h : execConverterFault cv cause s = .next u) : Kept s u := by
  unfold execConverterFault at h
  obtain ⟨-, rfl⟩ := of_unit h
  dsimp only
  (repeat' split) <;> simp (maxDischargeDepth := 100) [*]

theorem execSteerStart_kept (by_ : Writer) (ch : Nat) (cv : Nat) (s : State) {u : State}
    (h : execSteerStart by_ ch cv s = .next u) : Kept s u := by
  unfold execSteerStart at h
  obtain ⟨-, rfl⟩ := of_unit h
  simp (maxDischargeDepth := 100) [*]

theorem execSteerSwitch_kept (ch : Nat) (pairs : List (Int × Int)) (s : State) {u : State}
    (h : execSteerSwitch ch pairs s = .next u) : Kept s u := by
  unfold execSteerSwitch at h
  obtain ⟨-, rfl⟩ := of_unit h
  dsimp only
  (repeat' split) <;> simp (maxDischargeDepth := 100) [*]

theorem execRotationStep_kept (s : State) {u : State} (h : execRotationStep s = .next u) : Kept s u := by
  unfold execRotationStep at h
  cases h
  dsimp only
  (repeat' split) <;> simp (maxDischargeDepth := 100) [*]

theorem execRotationCheckEnd_kept (short ref : Int) (offset gain : Word) (s : State) {u : State}
    (h : execRotationCheckEnd short ref offset gain s = .next u) : Kept s u := by
  unfold execRotationCheckEnd at h
  cases h
  dsimp only
  (repeat' split) <;> simp (maxDischargeDepth := 100) [*]

theorem execRotationStall_kept (s : State) {u : State} (h : execRotationStall s = .next u) : Kept s u := by
  unfold execRotationStall at h
  cases h
  (repeat' split) <;> simp (maxDischargeDepth := 100) [*]

theorem execAudioPllUnlock_kept (s : State) {u : State} (h : execAudioPllUnlock s = .next u) : Kept s u := by
  unfold execAudioPllUnlock at h
  cases h
  simp (maxDischargeDepth := 100) [*]

theorem execReferenceFault_kept (s : State) {u : State} (h : execReferenceFault s = .next u) : Kept s u := by
  unfold execReferenceFault at h
  cases h
  simp (maxDischargeDepth := 100) [*]

theorem execAudioPllLock_kept (s : State) {u : State} (h : execAudioPllLock s = .next u) : Kept s u := by
  unfold execAudioPllLock at h
  cases h
  simp (maxDischargeDepth := 100) [*]

theorem execReferenceRestored_kept (s : State) {u : State} (h : execReferenceRestored s = .next u) : Kept s u := by
  unfold execReferenceRestored at h
  cases h
  simp (maxDischargeDepth := 100) [*]

theorem execFscCheckEnd_kept (n : Nat) (m : Sensed) (s : State) {u : State}
    (h : execFscCheckEnd n m s = .next u) : Kept s u := by
  unfold execFscCheckEnd at h
  obtain ⟨-, rfl⟩ := of_unit h
  simp (maxDischargeDepth := 100) [*]

theorem execFscRampStart_kept (n : Nat) (m : Sensed) (s : State) {u : State}
    (h : execFscRampStart n m s = .next u) : Kept s u := by
  unfold execFscRampStart at h
  obtain ⟨-, rfl⟩ := of_unit h
  simp (maxDischargeDepth := 100) [*]

theorem execFscOn_kept (n : Nat) (m : Sensed) (enhanced : Bool) (s : State) {u : State}
    (h : execFscOn n m enhanced s = .next u) : Kept s u := by
  unfold execFscOn at h
  obtain ⟨-, rfl⟩ := of_unit h
  simp (maxDischargeDepth := 100) [*]

theorem execFscTrip_kept (n : Nat) (cause : FscTrip) (m : Sensed) (held : Nat) (s : State) {u : State}
    (h : execFscTrip n cause m held s = .next u) : Kept s u := by
  unfold execFscTrip at h
  obtain ⟨-, rfl⟩ := of_unit h
  simp (maxDischargeDepth := 100) [*]

theorem execFscRetryExpiry_kept (n : Nat) (s : State) {u : State}
    (h : execFscRetryExpiry n s = .next u) : Kept s u := by
  unfold execFscRetryExpiry at h
  obtain ⟨-, rfl⟩ := of_unit h
  simp (maxDischargeDepth := 100) [*]

theorem execFscClearTimer_kept (n : Nat) (s : State) {u : State}
    (h : execFscClearTimer n s = .next u) : Kept s u := by
  unfold execFscClearTimer at h
  obtain ⟨-, rfl⟩ := of_unit h
  simp (maxDischargeDepth := 100) [*]

theorem execFscRemoval_kept (n : Nat) (pin : Bool) (m : Sensed) (held : Nat) (s : State) {u : State}
    (h : execFscRemoval n pin m held s = .next u) : Kept s u := by
  unfold execFscRemoval at h
  obtain ⟨-, rfl⟩ := of_unit h
  simp (maxDischargeDepth := 100) [*]

theorem execFscReinsertion_kept (n : Nat) (s : State) {u : State}
    (h : execFscReinsertion n s = .next u) : Kept s u := by
  unfold execFscReinsertion at h
  obtain ⟨-, rfl⟩ := of_unit h
  simp (maxDischargeDepth := 100) [*]

theorem execFscProbe_kept (n : Nat) (m : Sensed) (s : State) {u : State}
    (h : execFscProbe n m s = .next u) : Kept s u := by
  unfold execFscProbe at h
  obtain ⟨-, rfl⟩ := of_unit h
  simp (maxDischargeDepth := 100) [*]

theorem execFscDebounceEnd_kept (n : Nat) (s : State) {u : State}
    (h : execFscDebounceEnd n s = .next u) : Kept s u := by
  unfold execFscDebounceEnd at h
  obtain ⟨-, rfl⟩ := of_unit h
  simp (maxDischargeDepth := 100) [*]

theorem execFscFetShort_kept (n : Nat) (m : Sensed) (held : Nat) (s : State) {u : State}
    (h : execFscFetShort n m held s = .next u) : Kept s u := by
  unfold execFscFetShort at h
  obtain ⟨-, rfl⟩ := of_unit h
  simp (maxDischargeDepth := 100) [*]

theorem execFscEnWrite_kept (by_ : Writer) (n : Nat) (en : Bool) (s : State) {u : State}
    (h : execFscEnWrite by_ n en s = .next u) : Kept s u := by
  unfold execFscEnWrite at h
  obtain ⟨-, rfl⟩ := of_unit h
  simp (maxDischargeDepth := 100) [*]

theorem execFscUnlatch_kept (by_ : Writer) (n : Nat) (m : Sensed) (s : State) {u : State}
    (h : execFscUnlatch by_ n m s = .next u) : Kept s u := by
  unfold execFscUnlatch at h
  obtain ⟨-, rfl⟩ := of_unit h
  simp (maxDischargeDepth := 100) [*]

theorem execFscHoldBegin_kept (n : Nat) (c : FscHold) (vin : Nat) (s : State) {u : State}
    (h : execFscHoldBegin n c vin s = .next u) : Kept s u := by
  unfold execFscHoldBegin at h
  obtain ⟨-, rfl⟩ := of_unit h
  simp (maxDischargeDepth := 100) [*]

theorem execFscHoldEnd_kept (n : Nat) (c : FscHold) (vin : Nat) (s : State) {u : State}
    (h : execFscHoldEnd n c vin s = .next u) : Kept s u := by
  unfold execFscHoldEnd at h
  obtain ⟨-, rfl⟩ := of_unit h
  simp (maxDischargeDepth := 100) [*]

theorem execFeedStateChange_kept (x v held : Nat) (s : State) {u : State}
    (h : execFeedStateChange x v held s = .next u) : Kept s u := by
  unfold execFeedStateChange at h
  obtain ⟨-, rfl⟩ := of_unit h
  (repeat' split) <;> simp (maxDischargeDepth := 100) [*]

theorem execFeedQualified_kept (x vfeed vnode : Nat) (s : State) {u : State}
    (h : execFeedQualified x vfeed vnode s = .next u) : Kept s u := by
  unfold execFeedQualified at h
  obtain ⟨-, rfl⟩ := of_unit h
  simp (maxDischargeDepth := 100) [*]

theorem execOringReverse_kept (x vin bus : Nat) (s : State) {u : State}
    (h : execOringReverse x vin bus s = .next u) : Kept s u := by
  unfold execOringReverse at h
  obtain ⟨-, rfl⟩ := of_unit h
  simp (maxDischargeDepth := 100) [*]

theorem execOringFetFault_kept (x vx vother bus held : Nat) (s : State) {u : State}
    (h : execOringFetFault x vx vother bus held s = .next u) : Kept s u := by
  unfold execOringFetFault at h
  obtain ⟨-, rfl⟩ := of_unit h
  simp (maxDischargeDepth := 100) [*]

theorem execNodePhaseChange_kept (vfeed vnode : Nat) (enhanced : Bool) (s : State) {u : State}
    (h : execNodePhaseChange vfeed vnode enhanced s = .next u) : Kept s u := by
  unfold execNodePhaseChange at h
  cases h
  (repeat' split) <;> simp (maxDischargeDepth := 100) [*]

theorem execNodeTrip_kept (vfeed vnode sense held : Nat) (s : State) {u : State}
    (h : execNodeTrip vfeed vnode sense held s = .next u) : Kept s u := by
  unfold execNodeTrip at h
  cases h
  simp (maxDischargeDepth := 100) [*]

theorem execNodeRetry_kept (s : State) {u : State} (h : execNodeRetry s = .next u) : Kept s u := by
  unfold execNodeRetry at h
  cases h
  dsimp only
  (repeat' split) <;> simp (maxDischargeDepth := 100) [*]

theorem execFeedWarnAssert_kept (vnode held : Nat) (s : State) {u : State}
    (h : execFeedWarnAssert vnode held s = .next u) : Kept s u := by
  unfold execFeedWarnAssert at h
  cases h
  simp (maxDischargeDepth := 100) [*]

theorem execFeedWarnRelease_kept (vnode held : Nat) (s : State) {u : State}
    (h : execFeedWarnRelease vnode held s = .next u) : Kept s u := by
  unfold execFeedWarnRelease at h
  cases h
  (repeat' split) <;> simp (maxDischargeDepth := 100) [*]

theorem execPortEnable_kept (by_ : Writer) (p : Nat) (en : Bool) (s : State) {u : State}
    (h : execPortEnable by_ p en s = .next u) : Kept s u := by
  unfold execPortEnable at h
  obtain ⟨-, rfl⟩ := of_unit h
  simp (maxDischargeDepth := 100) [*]

theorem execRetrain_kept (by_ : Writer) (p : Nat) (s : State) {u : State}
    (h : execRetrain by_ p s = .next u) : Kept s u := by
  unfold execRetrain at h
  obtain ⟨-, rfl⟩ := of_unit h
  simp (maxDischargeDepth := 100) [*]

theorem execTrainingComplete_kept (p : Nat) (r : TrainEnd) (s : State) {u : State}
    (h : execTrainingComplete p r s = .next u) : Kept s u := by
  unfold execTrainingComplete at h
  obtain ⟨-, rfl⟩ := of_unit h
  dsimp only
  (repeat' split) <;> simp (maxDischargeDepth := 100) [*]

theorem execDetectionRetry_kept (p : Nat) (s : State) {u : State}
    (h : execDetectionRetry p s = .next u) : Kept s u := by
  unfold execDetectionRetry at h
  obtain ⟨-, rfl⟩ := of_unit h
  (repeat' split) <;> simp (maxDischargeDepth := 100) [*]

theorem execInfoFieldRx_kept (p : Nat) (info : BitVec 48) (s : State) {u : State}
    (h : execInfoFieldRx p info s = .next u) : Kept s u := by
  unfold execInfoFieldRx at h
  obtain ⟨-, rfl⟩ := of_unit h
  simp (maxDischargeDepth := 100) [*]

theorem execLinkDown_kept (p : Nat) (c : DownCause) (s : State) {u : State}
    (h : execLinkDown p c s = .next u) : Kept s u := by
  unfold execLinkDown at h
  obtain ⟨-, rfl⟩ := of_unit h
  simp (maxDischargeDepth := 100) [*]

theorem execLinkUp_kept (p : Nat) (s : State) {u : State} (h : execLinkUp p s = .next u) : Kept s u := by
  unfold execLinkUp at h
  obtain ⟨-, rfl⟩ := of_unit h
  simp (maxDischargeDepth := 100) [*]

theorem execLinkDegraded_kept (p margin corrected uncorrectable : Nat) (s : State) {u : State}
    (h : execLinkDegraded p margin corrected uncorrectable s = .next u) : Kept s u := by
  unfold execLinkDegraded at h
  obtain ⟨-, rfl⟩ := of_unit h
  simp (maxDischargeDepth := 100) [*]

theorem execKeepaliveShift_kept (p : Nat) (s : State) {u : State}
    (h : execKeepaliveShift p s = .next u) : Kept s u := by
  unfold execKeepaliveShift at h
  obtain ⟨-, rfl⟩ := of_unit h
  simp (maxDischargeDepth := 100) [*]

theorem execKeepaliveExit_kept (p : Nat) (fast : Bool) (s : State) {u : State}
    (h : execKeepaliveExit p fast s = .next u) : Kept s u := by
  unfold execKeepaliveExit at h
  obtain ⟨-, rfl⟩ := of_unit h
  simp (maxDischargeDepth := 100) [*]

theorem execModuleInserted_kept (p : Nat) (id : List Nat) (s : State) {u : State}
    (h : execModuleInserted p id s = .next u) : Kept s u := by
  unfold execModuleInserted at h
  obtain ⟨-, rfl⟩ := of_unit h
  simp (maxDischargeDepth := 100) [*]

theorem execModuleFault_kept (p : Nat) (absent : Bool) (s : State) {u : State}
    (h : execModuleFault p absent s = .next u) : Kept s u := by
  unfold execModuleFault at h
  obtain ⟨-, rfl⟩ := of_unit h
  simp (maxDischargeDepth := 100) [*]

theorem execDdmPoll_kept (p : Nat) (r : Option (List Nat × Nat)) (s : State) {u : State}
    (h : execDdmPoll p r s = .next u) : Kept s u := by
  unfold execDdmPoll at h
  obtain ⟨-, rfl⟩ := of_unit h
  dsimp only
  (repeat' split) <;> simp (maxDischargeDepth := 100) [*]

theorem execOpticalLinkUp_kept (p : Nat) (s : State) {u : State}
    (h : execOpticalLinkUp p s = .next u) : Kept s u := by
  unfold execOpticalLinkUp at h
  obtain ⟨-, rfl⟩ := of_unit h
  simp (maxDischargeDepth := 100) [*]

theorem execIrStart_kept (p : Nat) (written : Bool) (s : State) {u : State}
    (h : execIrStart p written s = .next u) : Kept s u := by
  unfold execIrStart at h
  obtain ⟨-, rfl⟩ := of_unit h
  simp (maxDischargeDepth := 100) [*]

theorem execIrGuardRetry_kept (p : Nat) (s : State) {u : State} (h : execIrGuardRetry p s = .next u) : Kept s u := by
  unfold execIrGuardRetry at h
  obtain ⟨-, rfl⟩ := of_unit h
  (repeat' split) <;> simp (maxDischargeDepth := 100) [*]

theorem execIrComplete_kept (p kohm : Nat) (s : State) {u : State}
    (h : execIrComplete p kohm s = .next u) : Kept s u := by
  unfold execIrComplete at h
  obtain ⟨-, rfl⟩ := of_unit h
  simp (maxDischargeDepth := 100) [*]

theorem execIrHourRollover_kept (s : State) {u : State} (h : execIrHourRollover s = .next u) : Kept s u := by
  unfold execIrHourRollover at h
  cases h
  simp (maxDischargeDepth := 100) [*]

theorem execTdrStart_kept (by_ : Writer) (p : Nat) (v : Word) (s : State) {u : State}
    (h : execTdrStart by_ p v s = .next u) : Kept s u := by
  unfold execTdrStart at h
  obtain ⟨-, rfl⟩ := of_unit h
  simp (maxDischargeDepth := 100) [*]

theorem execTdrSilence_kept (p : Nat) (quiet : Bool) (s : State) {u : State}
    (h : execTdrSilence p quiet s = .next u) : Kept s u := by
  unfold execTdrSilence at h
  obtain ⟨-, rfl⟩ := of_unit h
  simp (maxDischargeDepth := 100) [*]

theorem execTdrComplete_kept (p : Nat) (refl : List (Nat × Int)) (s : State) {u : State}
    (h : execTdrComplete p refl s = .next u) : Kept s u := by
  unfold execTdrComplete at h
  obtain ⟨-, rfl⟩ := of_unit h
  simp (maxDischargeDepth := 100) [*]

theorem execQuietReceived_kept (p : Nat) (s : State) {u : State}
    (h : execQuietReceived p s = .next u) : Kept s u := by
  unfold execQuietReceived at h
  obtain ⟨-, rfl⟩ := of_unit h
  simp (maxDischargeDepth := 100) [*]

theorem execQuietTimeout_kept (p : Nat) (s : State) {u : State} (h : execQuietTimeout p s = .next u) : Kept s u := by
  unfold execQuietTimeout at h
  obtain ⟨-, rfl⟩ := of_unit h
  (repeat' split) <;> simp (maxDischargeDepth := 100) [*]

theorem execBypHoldEnWrite_kept (by_ : Writer) (x : Nat) (v : Word) (s : State) {u : State}
    (h : execBypHoldEnWrite by_ x v s = .next u) : Kept s u := by
  unfold execBypHoldEnWrite at h
  obtain ⟨-, rfl⟩ := of_unit h
  simp (maxDischargeDepth := 100) [*]

theorem execSelfTrainDone_kept (x rateE rateW : Nat) (s : State) {u : State}
    (h : execSelfTrainDone x rateE rateW s = .next u) : Kept s u := by
  unfold execSelfTrainDone at h
  obtain ⟨-, rfl⟩ := of_unit h
  simp (maxDischargeDepth := 100) [*]

theorem execSelfTrainFail_kept (x : Nat) (s : State) {u : State}
    (h : execSelfTrainFail x s = .next u) : Kept s u := by
  unfold execSelfTrainFail at h
  obtain ⟨-, rfl⟩ := of_unit h
  simp (maxDischargeDepth := 100) [*]

theorem execBypassSettle_kept (x : Nat) (sense : Bool) (s : State) {u : State}
    (h : execBypassSettle x sense s = .next u) : Kept s u := by
  unfold execBypassSettle at h
  obtain ⟨-, rfl⟩ := of_unit h
  dsimp only
  (repeat' split) <;> simp (maxDischargeDepth := 100) [*]

theorem execAutoDrop_kept (x : Nat) (s : State) {u : State} (h : execAutoDrop x s = .next u) : Kept s u := by
  unfold execAutoDrop at h
  obtain ⟨-, rfl⟩ := of_unit h
  dsimp only
  (repeat' split) <;> simp (maxDischargeDepth := 100) [*]

theorem execPortDown_kept (n : Nat) (busLost : Bool) (s : State) {u : State}
    (h : execPortDown n busLost s = .next u) : Kept s u := by
  unfold execPortDown at h
  obtain ⟨-, rfl⟩ := of_unit h
  simp (maxDischargeDepth := 100) [*]

theorem execPortUp_kept (n : Nat) (s : State) {u : State} (h : execPortUp n s = .next u) : Kept s u := by
  unfold execPortUp at h
  obtain ⟨-, rfl⟩ := of_unit h
  simp (maxDischargeDepth := 100) [*]

theorem execHoldTimerExpiry_kept (n : Nat) (s : State) {u : State}
    (h : execHoldTimerExpiry n s = .next u) : Kept s u := by
  unfold execHoldTimerExpiry at h
  obtain ⟨-, rfl⟩ := of_unit h
  refine when_kept _ _ _ (fun t => ?_) (Kept.refl s)
  (repeat' split) <;> simp (maxDischargeDepth := 100) [*]

theorem execScanCycleDue_kept (n k : Nat) (s : State) {u : State}
    (h : execScanCycleDue n k s = .next u) : Kept s u := by
  unfold execScanCycleDue at h
  obtain ⟨-, rfl⟩ := of_unit h
  refine when_kept _ _ _ (fun t => ?_) (Kept.refl s)
  dsimp only
  (repeat' split) <;> simp (maxDischargeDepth := 100) [*]

theorem execPollTransaction_kept (n : Nat) (r : PollEnd) (shadowDiffers : Bool) (s : State) {u : State}
    (h : execPollTransaction n r shadowDiffers s = .next u) : Kept s u := by
  unfold execPollTransaction at h
  obtain ⟨-, rfl⟩ := of_unit h
  refine when_kept _ _ _ (fun t => ?_) (Kept.refl s)
  dsimp only
  (repeat' split) <;> simp (maxDischargeDepth := 100) [*]

theorem execAttemptTimeout_kept (n : Nat) (s : State) {u : State}
    (h : execAttemptTimeout n s = .next u) : Kept s u := by
  unfold execAttemptTimeout at h
  obtain ⟨-, rfl⟩ := of_unit h
  simp (maxDischargeDepth := 100) [*]

theorem execUnsolicitedInput_kept (n : Nat) (x : Unsolicited) (s : State) {u : State}
    (h : execUnsolicitedInput n x s = .next u) : Kept s u := by
  unfold execUnsolicitedInput at h
  obtain ⟨-, rfl⟩ := of_unit h
  exact when_kept _ _ _ (fun t => when_kept _ _ _
    (fun t => by dsimp only; simp (maxDischargeDepth := 100) [*]) (Kept.refl _)) (Kept.refl s)

theorem execHousekeepingStep_kept (n : Nat) (h : House) (s : State) {u : State}
    (h : execHousekeepingStep n h s = .next u) : Kept s u := by
  unfold execHousekeepingStep at h
  obtain ⟨-, rfl⟩ := of_unit h
  simp (maxDischargeDepth := 100) [*]

theorem execCommandItem_kept (n : Nat) (r : CmdEnd) (s : State) {u : State}
    (h : execCommandItem n r s = .next u) : Kept s u := by
  unfold execCommandItem at h
  obtain ⟨-, rfl⟩ := of_unit h
  refine when_kept _ _ _ (fun t => ?_) (Kept.refl s)
  dsimp only
  (repeat' split) <;> simp (maxDischargeDepth := 100) [*]

theorem execItemLimitExpiry_kept (e : Nat) (s : State) {u : State}
    (h : execItemLimitExpiry e s = .next u) : Kept s u := by
  unfold execItemLimitExpiry at h
  obtain ⟨-, rfl⟩ := of_unit h
  simp (maxDischargeDepth := 100) [*]

theorem execEngineStoreError_kept (e : Nat) (ecc : Ecc) (s : State) {u : State}
    (h : execEngineStoreError e ecc s = .next u) : Kept s u := by
  unfold execEngineStoreError at h
  obtain ⟨-, rfl⟩ := of_unit h
  dsimp only
  (repeat' split) <;> simp (maxDischargeDepth := 100) [*]

theorem execClkEngRun_kept (by_ : Writer) (e : Nat) (run : Bool) (s : State) {u : State}
    (h : execClkEngRun by_ e run s = .next u) : Kept s u := by
  unfold execClkEngRun at h
  obtain ⟨-, rfl⟩ := of_unit h
  simp (maxDischargeDepth := 100) [*]

theorem execClkEngBindWrite_kept (e : Nat) (v : Word) (s : State) {u : State}
    (h : execClkEngBindWrite e v s = .next u) : Kept s u := by
  unfold execClkEngBindWrite at h
  obtain ⟨-, rfl⟩ := of_unit h
  simp (maxDischargeDepth := 100) [*]

theorem execClkPinselWrite_kept (by_ : Writer) (n : Nat) (g : Nat) (s : State) {u : State}
    (h : execClkPinselWrite by_ n g s = .next u) : Kept s u := by
  unfold execClkPinselWrite at h
  obtain ⟨-, rfl⟩ := of_unit h
  simp (maxDischargeDepth := 100) [*]

theorem execEngineHandover_kept (n : Nat) (s : State) {u : State}
    (h : execEngineHandover n s = .next u) : Kept s u := by
  unfold execEngineHandover at h
  obtain ⟨-, rfl⟩ := of_unit h
  refine when_kept _ _ _ (fun t => ?_) (Kept.refl s)
  dsimp only
  (repeat' split) <;> simp (maxDischargeDepth := 100) [*]

theorem execPlaceRebind_kept (n : Nat) (s : State) {u : State} (h : execPlaceRebind n s = .next u) : Kept s u := by
  unfold execPlaceRebind at h
  obtain ⟨-, rfl⟩ := of_unit h
  refine when_kept _ _ _ (fun t => ?_) (Kept.refl s)
  dsimp only
  (repeat' split) <;> simp (maxDischargeDepth := 100) [*]

theorem execRebindComplete_kept (n : Nat) (busLost : Bool) (s : State) {u : State}
    (h : execRebindComplete n busLost s = .next u) : Kept s u := by
  unfold execRebindComplete at h
  obtain ⟨-, rfl⟩ := of_unit h
  refine when_kept _ _ _ (fun t => when_kept _ _ _ (fun t => ?_) (Kept.refl _)) (Kept.refl s)
  dsimp only
  (repeat' split) <;> simp (maxDischargeDepth := 100) [*]

theorem execI2cBusTest_kept (n : Nat) (low0 low1 low2 : Bool) (s : State) {u : State}
    (h : execI2cBusTest n low0 low1 low2 s = .next u) : Kept s u := by
  unfold execI2cBusTest at h
  obtain ⟨-, rfl⟩ := of_unit h
  simp (maxDischargeDepth := 100) [*]

theorem execDiscreteEdge_kept (line : Nat) (level : Bool) (s : State) {u : State}
    (h : execDiscreteEdge line level s = .next u) : Kept s u := by
  unfold execDiscreteEdge at h
  obtain ⟨-, rfl⟩ := of_unit h
  dsimp only
  (repeat' split) <;> simp (maxDischargeDepth := 100) [*]

theorem execDebounceStable_kept (line : Nat) (level : Bool) (s : State) {u : State}
    (h : execDebounceStable line level s = .next u) : Kept s u := by
  unfold execDebounceStable at h
  obtain ⟨-, rfl⟩ := of_unit h
  dsimp only
  (repeat' split) <;> simp (maxDischargeDepth := 100) [*]

theorem execDioRefresh_kept (differ : List Nat) (s : State) {u : State}
    (h : execDioRefresh differ s = .next u) : Kept s u := by
  unfold execDioRefresh at h
  cases h
  simp (maxDischargeDepth := 100) [*]

theorem execDioCommand_kept (line : Nat) (s : State) {u : State}
    (h : execDioCommand line s = .next u) : Kept s u := by
  unfold execDioCommand at h
  obtain ⟨-, rfl⟩ := of_unit h
  dsimp only
  (repeat' split) <;> simp (maxDischargeDepth := 100) [*]

theorem execDioReadback_kept (line : Nat) (pin : Bool) (s : State) {u : State}
    (h : execDioReadback line pin s = .next u) : Kept s u := by
  unfold execDioReadback at h
  obtain ⟨-, rfl⟩ := of_unit h
  dsimp only
  (repeat' split) <;> simp (maxDischargeDepth := 100) [*]

theorem execPwmPeriodBoundary_kept (line : Nat) (s : State) {u : State}
    (h : execPwmPeriodBoundary line s = .next u) : Kept s u := by
  unfold execPwmPeriodBoundary at h
  obtain ⟨-, rfl⟩ := of_unit h
  dsimp only
  (repeat' split) <;> simp (maxDischargeDepth := 100) [*]

theorem execDioWdogKick_kept (by_ : Writer) (v : Word) (s : State) {u : State}
    (h : execDioWdogKick by_ v s = .next u) : Kept s u := by
  unfold execDioWdogKick at h
  cases h
  simp (maxDischargeDepth := 100) [*]

theorem execDioWdogExpiry_kept (s : State) {u : State} (h : execDioWdogExpiry s = .next u) : Kept s u := by
  unfold execDioWdogExpiry at h
  cases h
  simp (maxDischargeDepth := 100) [*]

theorem execDioLineConfig_kept (by_ : Writer) (line : Nat) (cfg par : Word) (s : State) {u : State}
    (h : execDioLineConfig by_ line cfg par s = .next u) : Kept s u := by
  unfold execDioLineConfig at h
  obtain ⟨-, rfl⟩ := of_unit h
  simp (maxDischargeDepth := 100) [*]

theorem execDioSpareStandin_kept (by_ : Writer) (k : Nat) (line : Nat) (s : State) {u : State}
    (h : execDioSpareStandin by_ k line s = .next u) : Kept s u := by
  unfold execDioSpareStandin at h
  obtain ⟨-, rfl⟩ := of_unit h
  simp (maxDischargeDepth := 100) [*]

theorem execDioSpareReturn_kept (by_ : Writer) (k : Nat) (s : State) {u : State}
    (h : execDioSpareReturn by_ k s = .next u) : Kept s u := by
  unfold execDioSpareReturn at h
  obtain ⟨-, rfl⟩ := of_unit h
  simp (maxDischargeDepth := 100) [*]

theorem execBar2ReadComplete_kept (id : Nat) (s : State) {u : State}
    (h : execBar2ReadComplete id s = .next u) : Kept s u := by
  unfold execBar2ReadComplete at h
  cases h
  (repeat' split) <;> simp (maxDischargeDepth := 100) [*]

theorem execRdLimitExpiry_kept (id : Nat) (s : State) {u : State}
    (h : execRdLimitExpiry id s = .next u) : Kept s u := by
  unfold execRdLimitExpiry at h
  cases h
  (repeat' split) <;> simp (maxDischargeDepth := 100) [*]

theorem execSqTailDoorbell_kept (sq : Nat) (v : Word) (s : State) {u : State}
    (h : execSqTailDoorbell sq v s = .next u) : Kept s u := by
  unfold execSqTailDoorbell at h
  obtain ⟨-, rfl⟩ := of_unit h
  simp (maxDischargeDepth := 100) [*]

theorem execCqHeadDoorbell_kept (c : Nat) (v : Word) (s : State) {u : State}
    (h : execCqHeadDoorbell c v s = .next u) : Kept s u := by
  unfold execCqHeadDoorbell at h
  obtain ⟨-, rfl⟩ := of_unit h
  simp (maxDischargeDepth := 100) [*]

theorem execDescriptorFetched_kept (sq : Nat) (bytes : List Nat) (s : State) {u : State}
    (h : execDescriptorFetched sq bytes s = .next u) : Kept s u := by
  unfold execDescriptorFetched at h
  obtain ⟨-, rfl⟩ := of_unit h
  simp (maxDischargeDepth := 100) [*]

theorem execDmaFetch_kept (sq : Nat) (s : State) {u : State} (h : execDmaFetch sq s = .next u) : Kept s u := by
  unfold execDmaFetch at h
  obtain ⟨-, rfl⟩ := of_unit h
  simp (maxDischargeDepth := 100) [*]

theorem execFetchWaitResume_kept (sq : Nat) (s : State) {u : State}
    (h : execFetchWaitResume sq s = .next u) : Kept s u := by
  unfold execFetchWaitResume at h
  obtain ⟨-, rfl⟩ := of_unit h
  (repeat' split) <;> simp (maxDischargeDepth := 100) [*]

theorem execDmaFence_kept (sq : Nat) (s : State) {u : State} (h : execDmaFence sq s = .next u) : Kept s u := by
  unfold execDmaFence at h
  obtain ⟨-, rfl⟩ := of_unit h
  (repeat' split) <;> simp (maxDischargeDepth := 100) [*]

theorem execDmaHostReadFail_kept (sq : Nat) (descriptor : Bool) (hostErr : Nat) (s : State) {u : State}
    (h : execDmaHostReadFail sq descriptor hostErr s = .next u) : Kept s u := by
  unfold execDmaHostReadFail at h
  obtain ⟨-, rfl⟩ := of_unit h
  dsimp only
  (repeat' split) <;> simp (maxDischargeDepth := 100) [*]

theorem execCqSignal_kept (c : Nat) (s : State) {u : State} (h : execCqSignal c s = .next u) : Kept s u := by
  unfold execCqSignal at h
  obtain ⟨-, rfl⟩ := of_unit h
  simp (maxDischargeDepth := 100) [*]

theorem execCqFullTimeout_kept (c : Nat) (s : State) {u : State}
    (h : execCqFullTimeout c s = .next u) : Kept s u := by
  unfold execCqFullTimeout at h
  obtain ⟨-, rfl⟩ := of_unit h
  dsimp only
  (repeat' split) <;> simp (maxDischargeDepth := 100) [*]

theorem execMsixUnmask_kept (vec : Nat) (s : State) {u : State} (h : execMsixUnmask vec s = .next u) : Kept s u := by
  unfold execMsixUnmask at h
  obtain ⟨-, rfl⟩ := of_unit h
  simp (maxDischargeDepth := 100) [*]

theorem execPcieError_kept (kind : PcieError) (s : State) {u : State}
    (h : execPcieError kind s = .next u) : Kept s u := by
  unfold execPcieError at h
  cases h
  dsimp only
  (repeat' split) <;> simp (maxDischargeDepth := 100) [*]

theorem execPciePerstRelease_kept (s : State) {u : State} (h : execPciePerstRelease s = .next u) : Kept s u := by
  unfold execPciePerstRelease at h
  cases h
  simp (maxDischargeDepth := 100) [*]

theorem execQueuePush_kept (qs : List Nat) (words : List Word) (s : State) {u : State}
    (h : execQueuePush qs words s = .next u) : Kept s u := by
  unfold execQueuePush at h
  obtain ⟨-, rfl⟩ := of_unit h
  simp (maxDischargeDepth := 100) [*]

theorem execQueuePushResume_kept (q : Nat) (s : State) {u : State}
    (h : execQueuePushResume q s = .next u) : Kept s u := by
  unfold execQueuePushResume at h
  obtain ⟨-, rfl⟩ := of_unit h
  simp (maxDischargeDepth := 100) [*]

theorem execQueuePop_kept (q : Nat) (chk : ItemCheck) (copies : List (Nat × Nat)) (s : State) {u : State}
    (h : execQueuePop q chk copies s = .next u) : Kept s u := by
  unfold execQueuePop at h
  obtain ⟨-, rfl⟩ := of_unit h
  dsimp only
  (repeat' split) <;> simp (maxDischargeDepth := 100) [*]

theorem execCellPatrolVisit_kept (cell : Nat) (bad linkBad : Bool) (s : State) {u : State}
    (h : execCellPatrolVisit cell bad linkBad s = .next u) : Kept s u := by
  unfold execCellPatrolVisit at h
  obtain ⟨-, rfl⟩ := of_unit h
  refine when_kept _ _ _ (fun t => ?_) (Kept.refl s)
  dsimp only
  (repeat' split) <;> simp (maxDischargeDepth := 100) [*]

theorem execDescriptorStarve_kept (s : State) {u : State} (h : execDescriptorStarve s = .next u) : Kept s u := by
  unfold execDescriptorStarve at h
  cases h
  dsimp only
  (repeat' split) <;> simp (maxDischargeDepth := 100) [*]

theorem execSwqLimitWrite_kept (by_ : Writer) (off : Nat) (v : Word) (s : State) {u : State}
    (h : execSwqLimitWrite by_ off v s = .next u) : Kept s u := by
  unfold execSwqLimitWrite at h
  cases h
  simp (maxDischargeDepth := 100) [*]

theorem execQueueRebuild_kept (kept : List (Nat × Nat)) (s : State) {u : State}
    (h : execQueueRebuild kept s = .next u) : Kept s u := by
  unfold execQueueRebuild at h
  cases h
  simp (maxDischargeDepth := 100) [*]

theorem execEgressFrameEnd_kept (p : Nat) (s : State) {u : State}
    (h : execEgressFrameEnd p s = .next u) : Kept s u := by
  unfold execEgressFrameEnd at h
  obtain ⟨-, rfl⟩ := of_unit h
  simp (maxDischargeDepth := 100) [*]

theorem execFrameTransit_kept (p : Nat) (f : RxFrame) (s : State) {u : State}
    (h : execFrameTransit p f s = .next u) : Kept s u := by
  unfold execFrameTransit at h
  obtain ⟨-, rfl⟩ := of_unit h
  simp (maxDischargeDepth := 100) [*]

theorem execEpochRollover_kept (p : Nat) (s : State) {u : State}
    (h : execEpochRollover p s = .next u) : Kept s u := by
  unfold execEpochRollover at h
  obtain ⟨-, rfl⟩ := of_unit h
  simp (maxDischargeDepth := 100) [*]

theorem execEpochKeyReady_kept (p : Nat) (s : State) {u : State}
    (h : execEpochKeyReady p s = .next u) : Kept s u := by
  unfold execEpochKeyReady at h
  obtain ⟨-, rfl⟩ := of_unit h
  dsimp only
  (repeat' split) <;> simp (maxDischargeDepth := 100) [*]

theorem execAck_kept (s : State) {u : State} (h : execAck s = .next u) : Kept s u := by
  unfold execAck at h
  cases h
  simp (maxDischargeDepth := 100) [*]

theorem execNak_kept (s : State) {u : State} (h : execNak s = .next u) : Kept s u := by
  unfold execNak at h
  cases h
  simp (maxDischargeDepth := 100) [*]

theorem execAckTimeout_kept (cls sq : Nat) (s : State) {u : State}
    (h : execAckTimeout cls sq s = .next u) : Kept s u := by
  unfold execAckTimeout at h
  cases h
  (repeat' split) <;> simp (maxDischargeDepth := 100) [*]

theorem execReadResp_kept (s : State) {u : State} (h : execReadResp s = .next u) : Kept s u := by
  unfold execReadResp at h
  cases h
  simp (maxDischargeDepth := 100) [*]

theorem execReadErr_kept (s : State) {u : State} (h : execReadErr s = .next u) : Kept s u := by
  unfold execReadErr at h
  cases h
  simp (maxDischargeDepth := 100) [*]

theorem execReadRetry_kept (s : State) {u : State} (h : execReadRetry s = .next u) : Kept s u := by
  unfold execReadRetry at h
  cases h
  simp (maxDischargeDepth := 100) [*]

theorem execReadReissue_kept (tag : Nat) (s : State) {u : State}
    (h : execReadReissue tag s = .next u) : Kept s u := by
  unfold execReadReissue at h
  cases h
  dsimp only
  (repeat' split) <;> simp (maxDischargeDepth := 100) [*]

theorem execCouplerCreditWait_kept (toFar : Bool) (s : State) {u : State}
    (h : execCouplerCreditWait toFar s = .next u) : Kept s u := by
  unfold execCouplerCreditWait at h
  cases h
  dsimp only
  (repeat' split) <;> simp (maxDischargeDepth := 100) [*]

theorem execEvent_kept (s : State) {u : State} (h : execEvent s = .next u) : Kept s u := by
  unfold execEvent at h
  cases h
  simp (maxDischargeDepth := 100) [*]

theorem execDfr_kept (s : State) {u : State} (h : execDfr s = .next u) : Kept s u := by
  unfold execDfr at h
  cases h
  simp (maxDischargeDepth := 100) [*]

theorem execEvtMark_kept (s : State) {u : State} (h : execEvtMark s = .next u) : Kept s u := by
  unfold execEvtMark at h
  cases h
  simp (maxDischargeDepth := 100) [*]

theorem execReplayGone_kept (s : State) {u : State} (h : execReplayGone s = .next u) : Kept s u := by
  unfold execReplayGone at h
  cases h
  simp (maxDischargeDepth := 100) [*]

theorem execReplayWaitExpiry_kept (src : Nat) (bcast : Bool) (cls : Nat) (s : State) {u : State}
    (h : execReplayWaitExpiry src bcast cls s = .next u) : Kept s u := by
  unfold execReplayWaitExpiry at h
  cases h
  dsimp only
  (repeat' split) <;> simp (maxDischargeDepth := 100) [*]

theorem execReplayReq_kept (s : State) {u : State} (h : execReplayReq s = .next u) : Kept s u := by
  unfold execReplayReq at h
  cases h
  simp (maxDischargeDepth := 100) [*]

theorem execEvtMarkTimer_kept (dest : Option Nat) (cls : Nat) (s : State) {u : State}
    (h : execEvtMarkTimer dest cls s = .next u) : Kept s u := by
  unfold execEvtMarkTimer at h
  cases h
  dsimp only
  (repeat' split) <;> simp (maxDischargeDepth := 100) [*]

theorem execSweep_kept (s : State) {u : State} (h : execSweep s = .next u) : Kept s u := by
  unfold execSweep at h
  cases h
  simp (maxDischargeDepth := 100) [*]

theorem execSweepLostCheck_kept (node group : Nat) (s : State) {u : State}
    (h : execSweepLostCheck node group s = .next u) : Kept s u := by
  unfold execSweepLostCheck at h
  cases h
  dsimp only
  (repeat' split) <;> simp (maxDischargeDepth := 100) [*]

theorem execSweepSlot_kept (i : Nat) (ecc : List (Nat × Ecc)) (s : State) {u : State}
    (h : execSweepSlot i ecc s = .next u) : Kept s u := by
  unfold execSweepSlot at h
  cases h
  dsimp only
  (repeat' split) <;> simp (maxDischargeDepth := 100) [*]

theorem execBeaconTimer_kept (s : State) {u : State} (h : execBeaconTimer s = .next u) : Kept s u := by
  unfold execBeaconTimer at h
  cases h
  simp (maxDischargeDepth := 100) [*]

theorem execBeaconReturnTimeout_kept (x : Nat) (s : State) {u : State}
    (h : execBeaconReturnTimeout x s = .next u) : Kept s u := by
  unfold execBeaconReturnTimeout at h
  obtain ⟨-, rfl⟩ := of_unit h
  dsimp only
  (repeat' split) <;> simp (maxDischargeDepth := 100) [*]

theorem execBeacon_kept (s : State) {u : State} (h : execBeacon s = .next u) : Kept s u := by
  unfold execBeacon at h
  cases h
  simp (maxDischargeDepth := 100) [*]

theorem execEditionMismatchCheck_kept (p : Nat) (s : State) {u : State}
    (h : execEditionMismatchCheck p s = .next u) : Kept s u := by
  unfold execEditionMismatchCheck at h
  obtain ⟨-, rfl⟩ := of_unit h
  dsimp only
  (repeat' split) <;> simp (maxDischargeDepth := 100) [*]

theorem execSeedingEnd_kept (x : Nat) (s : State) {u : State} (h : execSeedingEnd x s = .next u) : Kept s u := by
  unfold execSeedingEnd at h
  obtain ⟨-, rfl⟩ := of_unit h
  dsimp only
  (repeat' split) <;> simp (maxDischargeDepth := 100) [*]

theorem execBulkData_kept (s : State) {u : State} (h : execBulkData s = .next u) : Kept s u := by
  unfold execBulkData at h
  cases h
  simp (maxDischargeDepth := 100) [*]

theorem execBulkAckTimer_kept (src tid : Nat) (s : State) {u : State}
    (h : execBulkAckTimer src tid s = .next u) : Kept s u := by
  unfold execBulkAckTimer at h
  cases h
  (repeat' split) <;> simp (maxDischargeDepth := 100) [*]

theorem execBulkAck_kept (s : State) {u : State} (h : execBulkAck s = .next u) : Kept s u := by
  unfold execBulkAck at h
  cases h
  simp (maxDischargeDepth := 100) [*]

theorem execBulkProgressTimeout_kept (tid : Nat) (opened : Option (Nat × List Word)) (s : State) {u : State}
    (h : execBulkProgressTimeout tid opened s = .next u) : Kept s u := by
  unfold execBulkProgressTimeout at h
  cases h
  (repeat' split) <;> simp (maxDischargeDepth := 100) [*]

theorem execBulkTimeout_kept (tid : Nat) (s : State) {u : State}
    (h : execBulkTimeout tid s = .next u) : Kept s u := by
  unfold execBulkTimeout at h
  cases h
  (repeat' split) <;> simp (maxDischargeDepth := 100) [*]

theorem execBulkAbort_kept (s : State) {u : State} (h : execBulkAbort s = .next u) : Kept s u := by
  unfold execBulkAbort at h
  cases h
  simp (maxDischargeDepth := 100) [*]

theorem execTimeAnnounce_kept (s : State) {u : State} (h : execTimeAnnounce s = .next u) : Kept s u := by
  unfold execTimeAnnounce at h
  cases h
  simp (maxDischargeDepth := 100) [*]

theorem execTimeAnnounceTimer_kept (s : State) {u : State} (h : execTimeAnnounceTimer s = .next u) : Kept s u := by
  unfold execTimeAnnounceTimer at h
  cases h
  simp (maxDischargeDepth := 100) [*]

theorem execGrandmasterTimeout_kept (s : State) {u : State} (h : execGrandmasterTimeout s = .next u) : Kept s u := by
  unfold execGrandmasterTimeout at h
  cases h
  (repeat' split) <;> simp (maxDischargeDepth := 100) [*]

theorem execTimeSyncTimer_kept (s : State) {u : State} (h : execTimeSyncTimer s = .next u) : Kept s u := by
  unfold execTimeSyncTimer at h
  cases h
  dsimp only
  (repeat' split) <;> simp (maxDischargeDepth := 100) [*]

theorem execTimeSync_kept (s : State) {u : State} (h : execTimeSync s = .next u) : Kept s u := by
  unfold execTimeSync at h
  cases h
  simp (maxDischargeDepth := 100) [*]

theorem execSyncHoldover_kept (s : State) {u : State} (h : execSyncHoldover s = .next u) : Kept s u := by
  unfold execSyncHoldover at h
  cases h
  simp (maxDischargeDepth := 100) [*]

theorem execOffsetAlarm_kept (s : State) {u : State} (h : execOffsetAlarm s = .next u) : Kept s u := by
  unfold execOffsetAlarm at h
  cases h
  dsimp only
  (repeat' split) <;> simp (maxDischargeDepth := 100) [*]

theorem execPpsInEdge_kept (s : State) {u : State} (h : execPpsInEdge s = .next u) : Kept s u := by
  unfold execPpsInEdge at h
  cases h
  simp (maxDischargeDepth := 100) [*]

theorem execPpsMissed_kept (s : State) {u : State} (h : execPpsMissed s = .next u) : Kept s u := by
  unfold execPpsMissed at h
  cases h
  dsimp only
  (repeat' split) <;> simp (maxDischargeDepth := 100) [*]

theorem execPpsOutPulse_kept (s : State) {u : State} (h : execPpsOutPulse s = .next u) : Kept s u := by
  unfold execPpsOutPulse at h
  cases h
  simp (maxDischargeDepth := 100) [*]

theorem execDlyReq_kept (p sq turnaround : Nat) (s : State) {u : State}
    (h : execDlyReq p sq turnaround s = .next u) : Kept s u := by
  unfold execDlyReq at h
  obtain ⟨-, rfl⟩ := of_unit h
  simp (maxDischargeDepth := 100) [*]

theorem execDlyResp_kept (p sq turnaround elapsed : Nat) (s : State) {u : State}
    (h : execDlyResp p sq turnaround elapsed s = .next u) : Kept s u := by
  unfold execDlyResp at h
  obtain ⟨-, rfl⟩ := of_unit h
  dsimp only
  (repeat' split) <;> simp (maxDischargeDepth := 100) [*]

theorem execDelayMeasureTimer_kept (p : Nat) (s : State) {u : State}
    (h : execDelayMeasureTimer p s = .next u) : Kept s u := by
  unfold execDelayMeasureTimer at h
  obtain ⟨-, rfl⟩ := of_unit h
  simp (maxDischargeDepth := 100) [*]

theorem execScrubVisit_kept (ecc : Ecc) (s : State) {u : State} (h : execScrubVisit ecc s = .next u) : Kept s u := by
  unfold execScrubVisit at h
  cases h
  refine when_kept _ _ _ (fun t => ?_) (Kept.refl s)
  dsimp only
  (repeat' split) <;> simp (maxDischargeDepth := 100) [*]

theorem execScrubPassEnd_kept (s : State) {u : State} (h : execScrubPassEnd s = .next u) : Kept s u := by
  unfold execScrubPassEnd at h
  cases h
  simp (maxDischargeDepth := 100) [*]

theorem execCatalogueReload_kept (p : Nat) (s : State) {u : State}
    (h : execCatalogueReload p s = .next u) : Kept s u := by
  unfold execCatalogueReload at h
  obtain ⟨-, rfl⟩ := of_unit h
  refine when_kept _ _ _ (fun t => ?_) (Kept.refl s)
  dsimp only
  (repeat' split) <;> simp (maxDischargeDepth := 100) [*]

theorem execStkCopyStart_kept (by_ : Writer) (v : Word) (s : State) {u : State}
    (h : execStkCopyStart by_ v s = .next u) : Kept s u := by
  unfold execStkCopyStart at h
  cases h
  simp (maxDischargeDepth := 100) [*]

theorem execStkCopyAbort_kept (by_ : Writer) (v : Word) (s : State) {u : State}
    (h : execStkCopyAbort by_ v s = .next u) : Kept s u := by
  unfold execStkCopyAbort at h
  cases h
  simp (maxDischargeDepth := 100) [*]

theorem execBankCopyDone_kept (bad : List (Bool × Nat)) (s : State) {u : State}
    (h : execBankCopyDone bad s = .next u) : Kept s u := by
  unfold execBankCopyDone at h
  cases h
  dsimp only
  (repeat' split) <;> simp (maxDischargeDepth := 100) [*]

theorem execStkBankMapWrite_kept (by_ : Writer) (v : Word) (s : State) {u : State}
    (h : execStkBankMapWrite by_ v s = .next u) : Kept s u := by
  unfold execStkBankMapWrite at h
  cases h
  simp (maxDischargeDepth := 100) [*]

theorem execBankMapNocopy_kept (by_ : Writer) (v : Word) (s : State) {u : State}
    (h : execBankMapNocopy by_ v s = .next u) : Kept s u := by
  unfold execBankMapNocopy at h
  cases h
  simp (maxDischargeDepth := 100) [*]

theorem execStkStaleLimWrite_kept (by_ : Writer) (n : Nat) (v : Word) (s : State) {u : State}
    (h : execStkStaleLimWrite by_ n v s = .next u) : Kept s u := by
  unfold execStkStaleLimWrite at h
  obtain ⟨-, rfl⟩ := of_unit h
  simp (maxDischargeDepth := 100) [*]

theorem execAlarmCheck_kept (s : State) {u : State} (h : execAlarmCheck s = .next u) : Kept s u := by
  unfold execAlarmCheck at h
  cases h
  refine when_kept _ _ _ (fun t => ?_) (Kept.refl s)
  dsimp only
  (repeat' split) <;> simp (maxDischargeDepth := 100) [*]

theorem execLockstepMismatch_kept (s : State) {u : State} (h : execLockstepMismatch s = .next u) : Kept s u := by
  unfold execLockstepMismatch at h
  cases h
  simp (maxDischargeDepth := 100) [*]

theorem execCoreSelftestEnd_kept (failA failB : Bool) (s : State) {u : State}
    (h : execCoreSelftestEnd failA failB s = .next u) : Kept s u := by
  unfold execCoreSelftestEnd at h
  cases h
  simp (maxDischargeDepth := 100) [*]

theorem execRestartPoint_kept (s : State) {u : State} (h : execRestartPoint s = .next u) : Kept s u := by
  unfold execRestartPoint at h
  cases h
  simp (maxDischargeDepth := 100) [*]

theorem execIdentify_kept (d : Nat) (s : State) {u : State} (h : execIdentify d s = .next u) : Kept s u := by
  unfold execIdentify at h
  obtain ⟨-, rfl⟩ := of_unit h
  simp (maxDischargeDepth := 100) [*]

theorem execSessionClose_kept (d : Nat) (s : State) {u : State} (h : execSessionClose d s = .next u) : Kept s u := by
  unfold execSessionClose at h
  obtain ⟨-, rfl⟩ := of_unit h
  simp (maxDischargeDepth := 100) [*]

theorem execLock_kept (d : Nat) (s : State) {u : State} (h : execLock d s = .next u) : Kept s u := by
  unfold execLock at h
  obtain ⟨-, rfl⟩ := of_unit h
  dsimp only
  (repeat' split) <;> simp (maxDischargeDepth := 100) [*]

theorem execUnlock_kept (d : Nat) (s : State) {u : State} (h : execUnlock d s = .next u) : Kept s u := by
  unfold execUnlock at h
  obtain ⟨-, rfl⟩ := of_unit h
  simp (maxDischargeDepth := 100) [*]

theorem execStageOpen_kept (d : Nat) (s : State) {u : State} (h : execStageOpen d s = .next u) : Kept s u := by
  unfold execStageOpen at h
  obtain ⟨-, rfl⟩ := of_unit h
  simp (maxDischargeDepth := 100) [*]

theorem execStageCommit_kept (d : Nat) (flashOk : Bool) (s : State) {u : State}
    (h : execStageCommit d flashOk s = .next u) : Kept s u := by
  unfold execStageCommit at h
  obtain ⟨-, rfl⟩ := of_unit h
  dsimp only
  (repeat' split) <;> simp (maxDischargeDepth := 100) [*]

theorem execStageAbort_kept (d : Nat) (s : State) {u : State} (h : execStageAbort d s = .next u) : Kept s u := by
  unfold execStageAbort at h
  obtain ⟨-, rfl⟩ := of_unit h
  dsimp only
  (repeat' split) <;> simp (maxDischargeDepth := 100) [*]

theorem execEditionStatus_kept (d : Nat) (s : State) {u : State}
    (h : execEditionStatus d s = .next u) : Kept s u := by
  unfold execEditionStatus at h
  obtain ⟨-, rfl⟩ := of_unit h
  simp (maxDischargeDepth := 100) [*]

theorem execGroupList_kept (d : Nat) (s : State) {u : State} (h : execGroupList d s = .next u) : Kept s u := by
  unfold execGroupList at h
  obtain ⟨-, rfl⟩ := of_unit h
  dsimp only
  (repeat' split) <;> simp (maxDischargeDepth := 100) [*]

theorem execPointForce_kept (d : Nat) (s : State) {u : State} (h : execPointForce d s = .next u) : Kept s u := by
  unfold execPointForce at h
  obtain ⟨-, rfl⟩ := of_unit h
  dsimp only
  (repeat' split) <;> simp (maxDischargeDepth := 100) [*]

theorem execPointRelease_kept (d : Nat) (s : State) {u : State} (h : execPointRelease d s = .next u) : Kept s u := by
  unfold execPointRelease at h
  obtain ⟨-, rfl⟩ := of_unit h
  dsimp only
  (repeat' split) <;> simp (maxDischargeDepth := 100) [*]

theorem execTimeSet_kept (d : Nat) (s : State) {u : State} (h : execTimeSet d s = .next u) : Kept s u := by
  unfold execTimeSet at h
  obtain ⟨-, rfl⟩ := of_unit h
  simp (maxDischargeDepth := 100) [*]

theorem execTimeEpoch_kept (d : Nat) (flashOk : Bool) (s : State) {u : State}
    (h : execTimeEpoch d flashOk s = .next u) : Kept s u := by
  unfold execTimeEpoch at h
  obtain ⟨-, rfl⟩ := of_unit h
  simp (maxDischargeDepth := 100) [*]

theorem execRestart_kept (d : Nat) (s : State) {u : State} (h : execRestart d s = .next u) : Kept s u := by
  unfold execRestart at h
  obtain ⟨-, rfl⟩ := of_unit h
  simp (maxDischargeDepth := 100) [*]

theorem execDeskAreaWrite_kept (d w : Nat) (v : Word) (s : State) {u : State}
    (h : execDeskAreaWrite d w v s = .next u) : Kept s u := by
  unfold execDeskAreaWrite at h
  obtain ⟨-, rfl⟩ := of_unit h
  simp (maxDischargeDepth := 100) [*]

theorem execDeskDoorbell_kept (d : Nat) (s : State) {u : State} (h : execDeskDoorbell d s = .next u) : Kept s u := by
  unfold execDeskDoorbell at h
  obtain ⟨-, rfl⟩ := of_unit h
  simp (maxDischargeDepth := 100) [*]

theorem execControlOpen_kept (s : State) {u : State} (h : execControlOpen s = .next u) : Kept s u := by
  unfold execControlOpen at h
  cases h
  refine when_kept _ _ _ (fun t => onControl_kept _ _ (fun f t => ?_) _ (Kept.refl _)) (Kept.refl s)
  dsimp only
  split <;> simp (maxDischargeDepth := 100) [*]

theorem execControlCommand_kept (s : State) {u : State} (h : execControlCommand s = .next u) : Kept s u := by
  unfold execControlCommand at h
  cases h
  simp (maxDischargeDepth := 100) [*]

theorem execControlResponse_kept (s : State) {u : State} (h : execControlResponse s = .next u) : Kept s u := by
  unfold execControlResponse at h
  cases h
  simp (maxDischargeDepth := 100) [*]

theorem execControlClose_kept (s : State) {u : State} (h : execControlClose s = .next u) : Kept s u := by
  unfold execControlClose at h
  cases h
  simp (maxDischargeDepth := 100) [*]

theorem execSessionIdleTimeout_kept (d : Nat) (s : State) {u : State}
    (h : execSessionIdleTimeout d s = .next u) : Kept s u := by
  unfold execSessionIdleTimeout at h
  obtain ⟨-, rfl⟩ := of_unit h
  simp (maxDischargeDepth := 100) [*]

theorem execTwinHello_kept (s : State) {u : State} (h : execTwinHello s = .next u) : Kept s u := by
  unfold execTwinHello at h
  cases h
  simp (maxDischargeDepth := 100) [*]

theorem execTwinHelloTimer_kept (s : State) {u : State} (h : execTwinHelloTimer s = .next u) : Kept s u := by
  unfold execTwinHelloTimer at h
  cases h
  simp (maxDischargeDepth := 100) [*]

theorem execTwinPeerLost_kept (s : State) {u : State} (h : execTwinPeerLost s = .next u) : Kept s u := by
  unfold execTwinPeerLost at h
  cases h
  simp (maxDischargeDepth := 100) [*]

theorem execTwinHandoverReq_kept (by_ : Writer) (s : State) {u : State}
    (h : execTwinHandoverReq by_ s = .next u) : Kept s u := by
  unfold execTwinHandoverReq at h
  cases h
  simp (maxDischargeDepth := 100) [*]

theorem execTwinHandover_kept (s : State) {u : State} (h : execTwinHandover s = .next u) : Kept s u := by
  unfold execTwinHandover at h
  cases h
  simp (maxDischargeDepth := 100) [*]

theorem execTwinHandoverOk_kept (s : State) {u : State} (h : execTwinHandoverOk s = .next u) : Kept s u := by
  unfold execTwinHandoverOk at h
  cases h
  refine when_kept _ _ _ (fun t => ?_) (Kept.refl s)
  dsimp only
  split
  · next e =>
    have := takeTwin_kept (Kept.refl _) e
    (repeat' split) <;> simp (maxDischargeDepth := 100) [*]
  · exact Kept.refl _

theorem execTwinCancel_kept (s : State) {u : State} (h : execTwinCancel s = .next u) : Kept s u := by
  unfold execTwinCancel at h
  cases h
  refine when_kept _ _ _ (fun t => ?_) (Kept.refl s)
  dsimp only
  split
  · next e =>
    have := takeTwin_kept (Kept.refl _) e
    (repeat' split) <;> simp (maxDischargeDepth := 100) [*]
  · (repeat' split) <;> simp (maxDischargeDepth := 100) [*]

theorem execHandoverPrepare_kept (s : State) {u : State} (h : execHandoverPrepare s = .next u) : Kept s u := by
  unfold execHandoverPrepare at h
  cases h
  dsimp only
  (repeat' split) <;> simp (maxDischargeDepth := 100) [*]

theorem execHandoverTime_kept (s : State) {u : State} (h : execHandoverTime s = .next u) : Kept s u := by
  unfold execHandoverTime at h
  cases h
  (repeat' split) <;> simp (maxDischargeDepth := 100) [*]

theorem execClaimRound_kept (others : List Nat) (s : State) {u : State}
    (h : execClaimRound others s = .next u) : Kept s u := by
  unfold execClaimRound at h
  cases h
  simp (maxDischargeDepth := 100) [*]

theorem execTwinClaimIdle_kept (s : State) {u : State} (h : execTwinClaimIdle s = .next u) : Kept s u := by
  unfold execTwinClaimIdle at h
  cases h
  simp (maxDischargeDepth := 100) [*]

theorem execTwinRotation_kept (s : State) {u : State} (h : execTwinRotation s = .next u) : Kept s u := by
  unfold execTwinRotation at h
  cases h
  simp (maxDischargeDepth := 100) [*]

theorem execTwinBothActive_kept (s : State) {u : State} (h : execTwinBothActive s = .next u) : Kept s u := by
  unfold execTwinBothActive at h
  cases h
  dsimp only
  (repeat' split) <;> simp (maxDischargeDepth := 100) [*]

theorem execSpareSwap_kept (d : Nat) (s : State) {u : State} (h : execSpareSwap d s = .next u) : Kept s u := by
  unfold execSpareSwap at h
  obtain ⟨-, rfl⟩ := of_unit h
  simp (maxDischargeDepth := 100) [*]

theorem execUnitReturn_kept (d : Nat) (passed : Bool) (offset gain : Word) (s : State) {u : State}
    (h : execUnitReturn d passed offset gain s = .next u) : Kept s u := by
  unfold execUnitReturn at h
  obtain ⟨-, rfl⟩ := of_unit h
  simp (maxDischargeDepth := 100) [*]

theorem execWearHourCheck_kept (s : State) {u : State} (h : execWearHourCheck s = .next u) : Kept s u := by
  unfold execWearHourCheck at h
  cases h
  simp (maxDischargeDepth := 100) [*]

theorem execRowReplace_kept (a row : Nat) (s : State) {u : State}
    (h : execRowReplace a row s = .next u) : Kept s u := by
  unfold execRowReplace at h
  obtain ⟨-, rfl⟩ := of_unit h
  simp (maxDischargeDepth := 100) [*]

theorem execRingbStandin_kept (ph : StandinPhase) (s : State) {u : State}
    (h : execRingbStandin ph s = .next u) : Kept s u := by
  unfold execRingbStandin at h
  cases h
  dsimp only
  (repeat' split) <;> simp (maxDischargeDepth := 100) [*]

theorem execAonReset_kept (inTolerance : Bool) (s : State) {u : State}
    (h : execAonReset inTolerance s = .next u) : Kept s u := by
  unfold execAonReset at h
  cases h
  simp (maxDischargeDepth := 100) [*]

theorem execCoreReset_kept (c : ResetCause) (s : State) {u : State} (h : execCoreReset c s = .next u) : Kept s u := by
  unfold execCoreReset at h
  cases h
  simp (maxDischargeDepth := 100) [*]

theorem execFaultRaise_kept (s : State) {u : State} (h : execFaultRaise s = .next u) : Kept s u := by
  unfold execFaultRaise at h
  cases h
  dsimp only
  (repeat' split) <;> simp (maxDischargeDepth := 100) [*]

theorem execFltForceWrite_kept (by_ : Writer) (i : Nat) (v : Word) (s : State) {u : State}
    (h : execFltForceWrite by_ i v s = .next u) : Kept s u := by
  unfold execFltForceWrite at h
  obtain ⟨-, rfl⟩ := of_unit h
  simp (maxDischargeDepth := 100) [*]

theorem execFltFirstClear_kept (s : State) {u : State} (h : execFltFirstClear s = .next u) : Kept s u := by
  unfold execFltFirstClear at h
  cases h
  simp (maxDischargeDepth := 100) [*]

theorem execCntClearAll_kept (s : State) {u : State} (h : execCntClearAll s = .next u) : Kept s u := by
  unfold execCntClearAll at h
  cases h
  simp (maxDischargeDepth := 100) [*]

theorem execCntClr_kept (k : Nat) (v : Word) (s : State) {u : State} (h : execCntClr k v s = .next u) : Kept s u := by
  unfold execCntClr at h
  obtain ⟨-, rfl⟩ := of_unit h
  simp (maxDischargeDepth := 100) [*]

theorem execUsbConnect_kept (by_ : Writer) (connect : Bool) (s : State) {u : State}
    (h : execUsbConnect by_ connect s = .next u) : Kept s u := by
  unfold execUsbConnect at h
  cases h
  simp (maxDischargeDepth := 100) [*]

theorem execUsbReattach_kept (by_ : Writer) (s : State) {u : State}
    (h : execUsbReattach by_ s = .next u) : Kept s u := by
  unfold execUsbReattach at h
  cases h
  simp (maxDischargeDepth := 100) [*]

theorem execReattachTimer_kept (s : State) {u : State} (h : execReattachTimer s = .next u) : Kept s u := by
  unfold execReattachTimer at h
  cases h
  (repeat' split) <;> simp (maxDischargeDepth := 100) [*]

theorem execVbusLost_kept (s : State) {u : State} (h : execVbusLost s = .next u) : Kept s u := by
  unfold execVbusLost at h
  cases h
  simp (maxDischargeDepth := 100) [*]

theorem execVbusDetected_kept (s : State) {u : State} (h : execVbusDetected s = .next u) : Kept s u := by
  unfold execVbusDetected at h
  cases h
  simp (maxDischargeDepth := 100) [*]

theorem execUsbOverCurrent_kept (n lowAt : Nat) (s : State) {u : State}
    (h : execUsbOverCurrent n lowAt s = .next u) : Kept s u := by
  unfold execUsbOverCurrent at h
  obtain ⟨-, rfl⟩ := of_unit h
  simp (maxDischargeDepth := 100) [*]

theorem execSetPortPower_kept (n : Nat) (ocHigh : Bool) (s : State) {u : State}
    (h : execSetPortPower n ocHigh s = .next u) : Kept s u := by
  unfold execSetPortPower at h
  obtain ⟨-, rfl⟩ := of_unit h
  simp (maxDischargeDepth := 100) [*]

theorem execUsbSetup_kept (r : UsbRequest) (s : State) {u : State} (h : execUsbSetup r s = .next u) : Kept s u := by
  unfold execUsbSetup at h
  cases h
  split <;> simp (maxDischargeDepth := 100) [*]

theorem execDeskWrite_kept (first : Nat) (words : List Word) (ecc : Ecc) (s : State) {u : State}
    (h : execDeskWrite first words ecc s = .next u) : Kept s u := by
  unfold execDeskWrite at h
  cases h
  simp (maxDischargeDepth := 100) [*]

theorem execDeskRead_kept (first n : Nat) (ecc : Ecc) (s : State) {u : State}
    (h : execDeskRead first n ecc s = .next u) : Kept s u := by
  unfold execDeskRead at h
  cases h
  refine when_kept _ _ _ (fun t => ?_) (Kept.refl s)
  dsimp only
  (repeat' split) <;> simp (maxDischargeDepth := 100) [*]

theorem execSetInterface_kept (alt : Nat) (s : State) {u : State}
    (h : execSetInterface alt s = .next u) : Kept s u := by
  unfold execSetInterface at h
  cases h
  simp (maxDischargeDepth := 100) [*]

theorem execSetCurFrequency_kept (hz : Nat) (s : State) {u : State}
    (h : execSetCurFrequency hz s = .next u) : Kept s u := by
  unfold execSetCurFrequency at h
  cases h
  simp (maxDischargeDepth := 100) [*]

theorem execClearEndpointHalt_kept (e : Nat) (s : State) {u : State}
    (h : execClearEndpointHalt e s = .next u) : Kept s u := by
  unfold execClearEndpointHalt at h
  obtain ⟨-, rfl⟩ := of_unit h
  simp (maxDischargeDepth := 100) [*]

theorem execEp2OutTransfer_kept (bytes : List Nat) (ecc : Ecc) (s : State) {u : State}
    (h : execEp2OutTransfer bytes ecc s = .next u) : Kept s u := by
  unfold execEp2OutTransfer at h
  cases h
  refine when_kept _ _ _ (fun t => ?_) (Kept.refl s)
  dsimp only
  (repeat' split) <;> simp (maxDischargeDepth := 100) [*]

theorem execEp2InTransfer_kept (ecc : Ecc) (s : State) {u : State}
    (h : execEp2InTransfer ecc s = .next u) : Kept s u := by
  unfold execEp2InTransfer at h
  cases h
  refine when_kept _ _ _ (fun t => ?_) (Kept.refl s)
  dsimp only
  (repeat' split) <;> simp (maxDischargeDepth := 100) [*]

theorem execEp1Notification_kept (ecc : Ecc) (s : State) {u : State}
    (h : execEp1Notification ecc s = .next u) : Kept s u := by
  unfold execEp1Notification at h
  cases h
  refine when_kept _ _ _ (fun t => ?_) (Kept.refl s)
  dsimp only
  (repeat' split) <;> simp (maxDischargeDepth := 100) [*]

theorem execStreamSample_kept (volts : List Int) (s : State) {u : State}
    (h : execStreamSample volts s = .next u) : Kept s u := by
  unfold execStreamSample at h
  cases h
  simp (maxDischargeDepth := 100) [*]

theorem execIsoInPacket_kept (ecc3 ecc4 : Ecc) (s : State) {u : State}
    (h : execIsoInPacket ecc3 ecc4 s = .next u) : Kept s u := by
  unfold execIsoInPacket at h
  cases h
  simp (maxDischargeDepth := 100) [*]

theorem execIsoPacketMissed_kept (s : State) {u : State} (h : execIsoPacketMissed s = .next u) : Kept s u := by
  unfold execIsoPacketMissed at h
  cases h
  simp (maxDischargeDepth := 100) [*]

theorem execUsbBusReset_kept (high upstream : Bool) (s : State) {u : State}
    (h : execUsbBusReset high upstream s = .next u) : Kept s u := by
  unfold execUsbBusReset at h
  cases h
  simp (maxDischargeDepth := 100) [*]

theorem execUsbSuspend_kept (s : State) {u : State} (h : execUsbSuspend s = .next u) : Kept s u := by
  unfold execUsbSuspend at h
  cases h
  simp (maxDischargeDepth := 100) [*]

theorem execUsbResume_kept (hostK : Nat) (s : State) {u : State}
    (h : execUsbResume hostK s = .next u) : Kept s u := by
  unfold execUsbResume at h
  cases h
  simp (maxDischargeDepth := 100) [*]

theorem execRemoteWake_kept (src : Nat) (s : State) {u : State} (h : execRemoteWake src s = .next u) : Kept s u := by
  unfold execRemoteWake at h
  obtain ⟨-, rfl⟩ := of_unit h
  refine when_kept _ _ _ (fun t => ?_) (Kept.refl s)
  dsimp only
  (repeat' split) <;> simp (maxDischargeDepth := 100) [*]

theorem execRemoteWakeTimeout_kept (s : State) {u : State} (h : execRemoteWakeTimeout s = .next u) : Kept s u := by
  unfold execRemoteWakeTimeout at h
  cases h
  dsimp only
  (repeat' split) <;> simp (maxDischargeDepth := 100) [*]

theorem execPwrReqGo_kept (by_ : Writer) (v : Word) (s : State) {u : State}
    (h : execPwrReqGo by_ v s = .next u) : Kept s u := by
  unfold execPwrReqGo at h
  cases h
  simp (maxDischargeDepth := 100) [*]

theorem execPowerState_kept (d : Nat) (s : State) {u : State} (h : execPowerState d s = .next u) : Kept s u := by
  unfold execPowerState at h
  obtain ⟨-, rfl⟩ := of_unit h
  simp (maxDischargeDepth := 100) [*]

theorem execDrainComplete_kept (s : State) {u : State} (h : execDrainComplete s = .next u) : Kept s u := by
  unfold execDrainComplete at h
  cases h
  dsimp only
  (repeat' split) <;> simp (maxDischargeDepth := 100) [*]

theorem execDrainTimeout_kept (s : State) {u : State} (h : execDrainTimeout s = .next u) : Kept s u := by
  unfold execDrainTimeout at h
  cases h
  dsimp only
  (repeat' split) <;> simp (maxDischargeDepth := 100) [*]

theorem execPwrDomOffWrite_kept (by_ : Writer) (v : Word) (s : State) {u : State}
    (h : execPwrDomOffWrite by_ v s = .next u) : Kept s u := by
  unfold execPwrDomOffWrite at h
  cases h
  simp (maxDischargeDepth := 100) [*]

theorem execWakeEvent_kept (active : List Nat) (failed : RetentionFound) (s : State) {u : State}
    (h : execWakeEvent active failed s = .next u) : Kept s u := by
  unfold execWakeEvent at h
  cases h
  simp (maxDischargeDepth := 100) [*]

theorem execPllLockTimeout_kept (refclk : Bool) (s : State) {u : State}
    (h : execPllLockTimeout refclk s = .next u) : Kept s u := by
  unfold execPllLockTimeout at h
  cases h
  dsimp only
  (repeat' split) <;> simp (maxDischargeDepth := 100) [*]

theorem execDomainAckTimeout_kept (dom : Nat) (s : State) {u : State}
    (h : execDomainAckTimeout dom s = .next u) : Kept s u := by
  unfold execDomainAckTimeout at h
  obtain ⟨-, rfl⟩ := of_unit h
  simp (maxDischargeDepth := 100) [*]

theorem execNightOrder_kept (s : State) {u : State}
    (h : execNightOrder s = .next u) : Kept s u := by
  unfold execNightOrder at h
  cases h
  dsimp only
  (repeat' split) <;> simp (maxDischargeDepth := 100) [*]

theorem execOrderResend_kept (s : State) {u : State} (h : execOrderResend s = .next u) : Kept s u := by
  unfold execOrderResend at h
  cases h
  dsimp only
  (repeat' split) <;> simp (maxDischargeDepth := 100) [*]

theorem execXtalStop_kept (s : State) {u : State} (h : execXtalStop s = .next u) : Kept s u := by
  unfold execXtalStop at h
  cases h
  simp (maxDischargeDepth := 100) [*]

theorem execRegisterWrite_kept (by_ : Writer) (off : Nat) (v : Word) (s : State) {u : State}
    (h : execRegisterWrite by_ off v s = .next u) : Kept s u := by
  unfold execRegisterWrite at h
  cases h
  simp (maxDischargeDepth := 100) [*]

theorem execPairedWrite_kept (by_ : Writer) (off : Nat) (v : Word) (s : State) {u : State}
    (h : execPairedWrite by_ off v s = .next u) : Kept s u := by
  unfold execPairedWrite at h
  cases h
  simp (maxDischargeDepth := 100) [*]

theorem execPairExpiry_kept (off : Nat) (s : State) {u : State} (h : execPairExpiry off s = .next u) : Kept s u := by
  unfold execPairExpiry at h
  cases h
  dsimp only
  (repeat' split) <;> simp (maxDischargeDepth := 100) [*]

theorem execRcRead_kept (off : Nat) (s : State) {u : State} (h : execRcRead off s = .next u) : Kept s u := by
  unfold execRcRead at h
  cases h
  simp (maxDischargeDepth := 100) [*]

theorem execRtmTimeRead_kept (s : State) {u : State} (h : execRtmTimeRead s = .next u) : Kept s u := by
  unfold execRtmTimeRead at h
  cases h
  simp (maxDischargeDepth := 100) [*]

theorem execCntLoRead_kept (k : Nat) (s : State) {u : State} (h : execCntLoRead k s = .next u) : Kept s u := by
  unfold execCntLoRead at h
  obtain ⟨-, rfl⟩ := of_unit h
  simp (maxDischargeDepth := 100) [*]

theorem execEditionArm_kept (d : Nat) (s : State) {u : State} (h : execEditionArm d s = .next u) : Kept s u := by
  unfold execEditionArm at h
  obtain ⟨-, rfl⟩ := of_unit h
  dsimp only
  (repeat' split) <;> simp (maxDischargeDepth := 100) [*]

theorem execEditionDisarm_kept (d : Nat) (s : State) {u : State}
    (h : execEditionDisarm d s = .next u) : Kept s u := by
  unfold execEditionDisarm at h
  obtain ⟨-, rfl⟩ := of_unit h
  dsimp only
  (repeat' split) <;> simp (maxDischargeDepth := 100) [*]

theorem execArmLock_kept (s : State) {u : State} (h : execArmLock s = .next u) : Kept s u := by
  unfold execArmLock at h
  cases h
  (repeat' split) <;> simp (maxDischargeDepth := 100) [*]

theorem execEditionActivation_kept (flashOk : Bool) (s : State) {u : State}
    (h : execEditionActivation flashOk s = .next u) : Kept s u := by
  unfold execEditionActivation at h
  cases h
  simp (maxDischargeDepth := 100) [*]

theorem execLateActivation_kept (flashOk : Bool) (s : State) {u : State}
    (h : execLateActivation flashOk s = .next u) : Kept s u := by
  unfold execLateActivation at h
  cases h
  simp (maxDischargeDepth := 100) [*]

theorem execEditionActivateNow_kept (d : Nat) (flashOk : Bool) (s : State) {u : State}
    (h : execEditionActivateNow d flashOk s = .next u) : Kept s u := by
  unfold execEditionActivateNow at h
  obtain ⟨-, rfl⟩ := of_unit h
  dsimp only
  (repeat' split) <;> simp (maxDischargeDepth := 100) [*]

theorem execStageClose_kept (d : Nat) (flashOk : Bool) (s : State) {u : State}
    (h : execStageClose d flashOk s = .next u) : Kept s u := by
  unfold execStageClose at h
  obtain ⟨-, rfl⟩ := of_unit h
  dsimp only
  (repeat' split) <;> simp (maxDischargeDepth := 100) [*]

theorem execVolumeStatus_kept (d : Nat) (s : State) {u : State} (h : execVolumeStatus d s = .next u) : Kept s u := by
  unfold execVolumeStatus at h
  obtain ⟨-, rfl⟩ := of_unit h
  simp (maxDischargeDepth := 100) [*]

theorem execVolumeArm_kept (d : Nat) (s : State) {u : State} (h : execVolumeArm d s = .next u) : Kept s u := by
  unfold execVolumeArm at h
  obtain ⟨-, rfl⟩ := of_unit h
  simp (maxDischargeDepth := 100) [*]

theorem execVolumeSwitch_kept (s : State) {u : State} (h : execVolumeSwitch s = .next u) : Kept s u := by
  unfold execVolumeSwitch at h
  cases h
  dsimp only
  (repeat' split) <;> simp (maxDischargeDepth := 100) [*]

theorem execVolumeHealthy_kept (s : State) {u : State} (h : execVolumeHealthy s = .next u) : Kept s u := by
  unfold execVolumeHealthy at h
  cases h
  (repeat' split) <;> simp (maxDischargeDepth := 100) [*]

theorem execVolumeCommit_kept (d : Nat) (flashOk : Bool) (s : State) {u : State}
    (h : execVolumeCommit d flashOk s = .next u) : Kept s u := by
  unfold execVolumeCommit at h
  obtain ⟨-, rfl⟩ := of_unit h
  simp (maxDischargeDepth := 100) [*]

theorem execVolumeFallback_kept (d : Nat) (s : State) {u : State}
    (h : execVolumeFallback d s = .next u) : Kept s u := by
  unfold execVolumeFallback at h
  obtain ⟨-, rfl⟩ := of_unit h
  simp (maxDischargeDepth := 100) [*]

theorem execTrialDeadline_kept (s : State) {u : State} (h : execTrialDeadline s = .next u) : Kept s u := by
  unfold execTrialDeadline at h
  cases h
  (repeat' split) <;> simp (maxDischargeDepth := 100) [*]

theorem execSettingsGet_kept (d : Nat) (s : State) {u : State} (h : execSettingsGet d s = .next u) : Kept s u := by
  unfold execSettingsGet at h
  obtain ⟨-, rfl⟩ := of_unit h
  simp (maxDischargeDepth := 100) [*]

theorem execSettingsSet_kept (d : Nat) (flashOk : Bool) (s : State) {u : State}
    (h : execSettingsSet d flashOk s = .next u) : Kept s u := by
  unfold execSettingsSet at h
  obtain ⟨-, rfl⟩ := of_unit h
  dsimp only
  (repeat' split) <;> simp (maxDischargeDepth := 100) [*]

theorem execTrngFail_kept (s : State) {u : State} (h : execTrngFail s = .next u) : Kept s u := by
  unfold execTrngFail at h
  cases h
  simp (maxDischargeDepth := 100) [*]

theorem execTrngHealthy_kept (s : State) {u : State} (h : execTrngHealthy s = .next u) : Kept s u := by
  unfold execTrngHealthy at h
  cases h
  simp (maxDischargeDepth := 100) [*]

theorem execUnlockToken_kept (bytes : List Nat) (s : State) {u : State}
    (h : execUnlockToken bytes s = .next u) : Kept s u := by
  unfold execUnlockToken at h
  cases h
  simp (maxDischargeDepth := 100) [*]

theorem execDebugExpiry_kept (s : State) {u : State} (h : execDebugExpiry s = .next u) : Kept s u := by
  unfold execDebugExpiry at h
  cases h
  dsimp only
  (repeat' split) <;> simp (maxDischargeDepth := 100) [*]

theorem execCoreResetRelease_kept (straps : BitVec 9) (cores : List Nat) (flashOk : Bool) (s : State) {u : State}
    (h : execCoreResetRelease straps cores flashOk s = .next u) : Kept s u := by
  unfold execCoreResetRelease at h
  cases h
  simp (maxDischargeDepth := 100) [*]

theorem execArchivistStart_kept (s : State) {u : State} (h : execArchivistStart s = .next u) : Kept s u := by
  unfold execArchivistStart at h
  cases h
  simp (maxDischargeDepth := 100) [*]

theorem execFieldStartTimer_kept (s : State) {u : State} (h : execFieldStartTimer s = .next u) : Kept s u := by
  unfold execFieldStartTimer at h
  cases h
  (repeat' split) <;> simp (maxDischargeDepth := 100) [*]

theorem execAonWatchdogExpiry_kept (s : State) {u : State} (h : execAonWatchdogExpiry s = .next u) : Kept s u := by
  unfold execAonWatchdogExpiry at h
  cases h
  simp (maxDischargeDepth := 100) [*]

theorem execDeskDone_kept (d : Nat) (s : State) {u : State} (h : execDeskDone d s = .next u) : Kept s u := by
  unfold execDeskDone at h
  obtain ⟨-, rfl⟩ := of_unit h
  dsimp only
  (repeat' split) <;> simp (maxDischargeDepth := 100) [*]

theorem execReadReq_kept (ecc : List (Nat × Ecc)) (s : State) {u : State}
    (h : execReadReq ecc s = .next u) : Kept s u := by
  unfold execReadReq at h
  cases h
  simp (maxDischargeDepth := 100) [*]

theorem execWrite_kept (ecc : Ecc) (s : State) {u : State} (h : execWrite ecc s = .next u) : Kept s u := by
  unfold execWrite at h
  cases h
  simp (maxDischargeDepth := 100) [*]

theorem execBar0Access_kept (a : BarAccess) (s : State) {u : State}
    (h : execBar0Access a s = .next u) : Kept s u := by
  unfold execBar0Access at h
  cases h
  dsimp only
  (repeat' split) <;> simp (maxDischargeDepth := 100) [*]

theorem execBar2Write_kept (k b : Nat) (data : List (Option Word)) (ecc : Ecc) (s : State) {u : State}
    (h : execBar2Write k b data ecc s = .next u) : Kept s u := by
  unfold execBar2Write at h
  obtain ⟨-, rfl⟩ := of_unit h
  simp (maxDischargeDepth := 100) [*]

theorem execBar2Read_kept (k b n : Nat) (ecc : List (Nat × Ecc)) (s : State) {u : State}
    (h : execBar2Read k b n ecc s = .next u) : Kept s u := by
  unfold execBar2Read at h
  obtain ⟨-, rfl⟩ := of_unit h
  simp (maxDischargeDepth := 100) [*]

theorem execDmaRead_kept (sq : Nat) (ecc : List (Nat × Ecc)) (s : State) {u : State}
    (h : execDmaRead sq ecc s = .next u) : Kept s u := by
  unfold execDmaRead at h
  obtain ⟨-, rfl⟩ := of_unit h
  (repeat' split) <;> simp (maxDischargeDepth := 100) [*]

theorem execDmaWrite_kept (sq : Nat) (data : List Word) (ecc : Ecc) (s : State) {u : State}
    (h : execDmaWrite sq data ecc s = .next u) : Kept s u := by
  unfold execDmaWrite at h
  obtain ⟨-, rfl⟩ := of_unit h
  dsimp only
  (repeat' split) <;> simp (maxDischargeDepth := 100) [*]

theorem execPcieLinkReset_kept (kind : LinkReset) (s : State) {u : State}
    (h : execPcieLinkReset kind s = .next u) : Kept s u := by
  unfold execPcieLinkReset at h
  cases h
  dsimp only
  (repeat' split) <;> simp (maxDischargeDepth := 100) [*]

theorem execPcieLinkUp_kept (speed width : Nat) (s : State) {u : State}
    (h : execPcieLinkUp speed width s = .next u) : Kept s u := by
  unfold execPcieLinkUp at h
  cases h
  simp (maxDischargeDepth := 100) [*]

theorem execConfigRequest_kept (c : CfgRequest) (s : State) {u : State}
    (h : execConfigRequest c s = .next u) : Kept s u := by
  unfold execConfigRequest at h
  cases h
  simp (maxDischargeDepth := 100) [*]

end Sys2Proof.Machine
end

