-- ==== Sys2Proof/Tests/Slice0.lean ====
section
/-! SUPPORT. Tests: for every statement with hypotheses a state and operands that meet them, clause by clause; worked
examples of the spec; and the checks of WellFormed. -/

open Sys2Proof Sys2Proof.Machine

set_option maxRecDepth 100000
set_option linter.unusedVariables false
namespace Sys2Proof.Tests
/-- The state after reset with every domain on. -/
def allOn : State := setReg 0x4004 (wd 0x5555) (setReg 0x4003 (wd 0x555555) State.reset)
/-- The steward runs. -/
def stwUp : State := { allOn with stw := { allOn.stw with booted := true }, boot := { allOn.boot with coreReset := false } }
def emptyEdition : Edition := ⟨1, 0, 0, [], ⟨0, [], []⟩, [], [], [], [], [], [], [], false, [], [], [], []⟩
def withEdition : State := { stwUp with stw := { stwUp.stw with inForce := some emptyEdition } }
def edAlarm : Edition := { emptyEdition with alarms := [(0, some ⟨[], true, false, false, 0, 0⟩)] }
def alarmWaits : State := pushWords 208 [5] { stwUp with stw := { stwUp.stw with inForce := some edAlarm } }
def noItem : Item := ⟨.words [], 0, false, 0, 0, false, [], false, [], 0, 0, .good⟩
/-- The front item of a queue, with its descriptor. -/
def frontX (q : Nat) (s : State) : Nat × Item := match frontQ s q with
  | some e => e
  | none => (0, noItem)
/-- A place whose engine of the same number serves it and runs. -/
def clerkReady (n : Nat) : State :=
  setPlace n { Place.init with started := true } (setF (fCLK_PINSEL_GROUP n) 1 (setF (fCLK_STAT_ENGINE n) (n % 26) (setF (fCLK_ENG_STAT_STATE n) 2 stwUp)))
def clerkUp (n : Nat) : State := setF (fCLK_STAT_PORT_UP n) 1 (clerkReady n)
def bindType (n ty : Nat) : State := setF (fCLK_ENG_BIND_TYPE n) ty (clerkReady n)
/-- A place whose class k is due while a poll of class k is worked on. -/
def pollPlace (n k : Nat) : State :=
  let s := setF (fCLK_PER_COUNT n k) 1 (clerkUp n)
  setPlace n (setCycle k { Cycle.init with due := some 0 } { getPlace s n with item := some (.poll k [5]) }) s
def polling (n k : Nat) : State :=
  let s := pollPlace n k
  setPlace n (setCycle k { Cycle.init with started := true, left := [5, 6] } (getPlace s n)) s
def pollingAs (n k ty : Nat) : State := setF (fCLK_ENG_BIND_TYPE n) ty (polling n k)
def unsol : Unsolicited := .daliEvent 5 1 0
def cmd0 : Cmd := cmdOf [0, 0, 5, 1, 2]
def cmdWaiting (n : Nat) : State :=
  let s := clerkUp n
  pushWords (96 + n) [0, 0, 5, 1, 2] (setPlace n { getPlace s n with item := some .command } s)
def duePlace : State :=
  let a := 0x10_0000 + 103 * 0x1000 + 0x400
  setReg a (wd (2 ^ 23 + 6)) (setReg (a + 2) (wd (2 ^ 23 + 7 * 2 ^ 20 + 5)) (setF (fCLK_PER_COUNT 103 0) 1 (pollPlace 103 7)))
def cmdBound (n : Nat) : State := setCatK 0 ⟨wd n, 0, wd 1024, .loaded⟩ (cmdWaiting n)
def cmdTyped (n ty : Nat) : State := setF (fCLK_RETRY_COUNT n) 2 (setF (fCLK_ENG_BIND_TYPE n) ty (cmdBound n))
/-- The present attempt of a place has just run out of time; the limit of its item has just passed. -/
def attemptOver (s : State) (n : Nat) : State := { s with clk := attemptEnds s n }
def itemOver (s : State) (n : Nat) : State := { s with clk := (getPlace s n).itemStart + itemLimit s n + 1 }
theorem attemptOver_due (s : State) (n : Nat) : attemptEnds (attemptOver s n) n ≤ (attemptOver s n).clk := Nat.le_refl _
theorem itemOver_late (s : State) (n : Nat) :
    (getPlace (itemOver s n) n).itemStart + itemLimit (itemOver s n) n < (itemOver s n).clk := Nat.lt_succ_self _
def confirmingAt (n : Nat) : State := setPlace n { getPlace (cmdBound n) n with confirming := true } (cmdBound n)
def engReady : State := setF (fCLK_ENG_STAT_STATE 103) 1 (setF (fCLK_ENG_STAT_CODE_VALID 103) 1 stwUp)
def takeoverDue : State :=
  let s := setF (fCLK_PER_COUNT 103 0) 1 (setF (fCLK_ENG_STAT_STATE 102) 3 (setF (fCLK_STAT_ENGINE 103) 25 stwUp))
  let s := setReg (0x10_0000 + 103 * 0x1000 + 0x400) (wd (2 ^ 23 + 5)) s
  setPlace 103 (setCycle 0 { Cycle.init with due := some 0 } { Place.init with takeover := some 102 }) s
def lineOf (n m p : Nat) (s : State) : State := setF (fDIO_LPAR_VALUE n) p (setF (fDIO_LCFG_MODE n) m s)
def chanUp (n : Nat) : State := setF (fANA_CHCFG_EN n) 1 allOn
def openChecked (n : Nat) : State :=
  let s := setF (fANA_CHCFG_OPEN_EN n) 1 allOn
  setF (fANA_CHSTAT_OPEN n) 1 (excludeChan n (max 100000 (periods s n 1)) (setChan n { getChan s n with openDue := s.clk + 1000000000 * max 1 (getF s fANA_CTL_OPEN_PER) } s))
def rotReady : State := { setF fANA_CTL_ROT_EN 1 allOn with ana := { allOn.ana with rotNext := 64 } }
def rotEnd : State :=
  { setReg (oANA_CALG 64) 0x400000 (setF (fANA_CONV_STATE 64) 2 rotReady) with clk := 10 ^ 12, ana := { rotReady.ana with rotPhase := 2 } }
def anaTrue : State := setF (fANA_CHCFG_RATE 63) 5 (setF fANA_STATUS_REF_OK 1 (setF fANA_STATUS_PLL_LOCK 1 (chanUp 63)))
def steerS : State := { setChan 63 { Chan.init with steerTo := some 67 } (setF fANA_CTL_STEER_CMP 1 allOn) with clk := 10 ^ 12 }
def convUp : State := setF (fANA_CONV_STATE 0) 1 allOn
def portRdy (p m : Nat) : State := setF (fRGx_PHY_CTL_EN p) 1 (setF (fRGx_PHY_CTL_MEDIUM p) m allOn)
def portAt (p m st : Nat) : State := setPortState p st (portRdy p m)
def linkPort (p m st : Nat) : State := setF (fRGx_PHY_STAT_LINK p) 1 (portAt p m st)
def modIn (p : Nat) : State := setF (fRGx_MOD_STAT_DDM p) 1 (setF (fRGx_MOD_STAT_SUITED p) 1 (setF (fRGx_MOD_STAT_PRESENT p) 1 (portAt p 1 1)))
def irMay (p : Nat) : State := setF (fRGx_BYP_STAT_STATE (p / 2)) 3 (portAt p 2 1)
def irRuns (p : Nat) : State := setF (fRGx_IR_STAT_RUNNING p) 1 (irMay p)
/-- The far end's field on a copper port: role, rates, and the port's own RATE_MIN. -/
def trainS (p : Nat) : State :=
  setReg (oRGx_PHY_INFO_LO p) (wd (7 * 2 ^ 5)) (setPort p { Port.init with trainRate := 2 } (setF (fRGx_PHY_CTL_RATE_MIN p) 3 (portAt p 2 2)))
def sameRoleS (p : Nat) : State := setReg (oRGx_PHY_INFO_LO p) (wd (p % 2 * 16)) (setPort p { Port.init with infoOk := true } (portAt p 2 1))
def lightS (p : Nat) : State := setPort p { Port.init with infoOk := true, txDis := false } (portAt p 1 1)
def degrS (p : Nat) : State :=
  setPort p { Port.init with lowSince := some 0 } (setF (fRGx_PHY_CTL_DEG_MARGIN p) 9 { linkPort p 2 3 with clk := 10 ^ 9 })
def tdrS : State := { setPort 3 { Port.init with tdrPhase := 2 } (setF (fRGx_TDR_CTL_NVP 3) 660 (portAt 3 2 5)) with clk := 10 ^ 7 }
def bypAt (x st : Nat) : State := setF (fRGx_BYP_STAT_STATE x) st allOn
def selfS (x : Nat) : State := portRdy (2 * x) 2 |> fun s => setF (fRGx_PHY_CTL_EN (2 * x + 1)) 1 (setF (fRGx_PHY_CTL_MEDIUM (2 * x + 1)) 2 (bypState x 1 s))
def dropDue : State := { setF (fRGx_BYP_CTL_AUTO_DROP 1) 1 (setF (fRGx_BYP_CTL_DROP_TIME 1) 0 (setByp 1 { Bypass.init with downSince := some 0 } (bypAt 1 3))) with clk := 1 }
def fr (typ cls aux : Nat) (ws : List Word) : Frame := { mkFrame typ cls 0 false aux ws with src := 9 }
def rxWith (f : Frame) : State := { stwUp with ring := { stwUp.ring with rx := [f] } }
def qFrame (q : Nat) (f : Frame) : State := pushBody [q] (.frame f) f.cls stwUp
def rest (o : Option (Frame × State)) : State := match o with
  | some x => x.2
  | none => allOn
def got (o : Option (Frame × State)) : Frame := match o with
  | some x => x.1
  | none => mkFrame 0 0 0 false 0 []
def numUp : State := setF fGLB_NODE2_NUMBERED 1 stwUp
def homeUp : State := { numUp with ring := { numUp.ring with seeded := [(0, true)] } }
def unack (n : Nat) : Unacked := ⟨{ fr 13 5 7 [0] with sq := 3 }, 0, n, 0⟩
def ackDue (n : Nat) : State := { stwUp with clk := 10 ^ 9, ring := { stwUp.ring with unacked := [unack n] } }
def linkAt (p : Nat) : State := setF (fRGx_PHY_STAT_LINK p) 1 allOn
def egS : State := let s := setF (fRGx_PHY_STAT_LINK 2) 1 numUp
  pushBody [18] (.frame (fr 4 2 0 [])) 2 { s with ring := { s.ring with seeded := [(1, true)] } }
def egX : Nat × Item × Frame := match offered egS 2 2 with
  | some e => e
  | none => (0, noItem, mkFrame 0 0 0 false 0 [])
def ackU : State := { rxWith (fr 4 2 3 [5]) with ring := { (rxWith (fr 4 2 3 [5])).ring with unacked := [unack 0] } }
def nakU : State := { rxWith (fr 5 2 3 [5 + 4 * 256]) with ring := { (rxWith (fr 5 2 3 [5 + 4 * 256])).ring with unacked := [unack 0] } }
def strm : Stream := ⟨7, [], none, 7⟩
def strG : Stream := ⟨7, [], some 0, 9⟩
def dfrU : State := setStream 36 strm (rxWith (fr 10 3 7 [0]))
def goneU : State := setStream 36 strG (rxWith (fr 12 3 7 [0]))
def unst (o : Option State) : State := match o with
  | some s => s
  | none => allOn
def restQ (q typ : Nat) (s : State) : State := rest (takeQ q (fun f => f.typ == typ) s)
def ctl (k : Nat) : Frame := fr 7 2 5 [wd (k + 4 * 2), 0]
def ctlS (k : Nat) : State := qFrame 34 (ctl k)
def sessS (k : Nat) : State :=
  let s := setF (fDSK_DESK_NODE 2) 9 (setF (fDSK_DESK_SESSION 2) 1 (ctlS k))
  setDesk 2 { getDesk s 2 with sessionId := 5 } s
def restC (k : Nat) (s : State) : State := rest (takeQ 34 (isControl k) s)
def ro : ReadOut := ⟨.bar2 1, fr 13 5 7 [0], 0, 1, none⟩
def tagS (t : Nat) : State := let s := qFrame 37 (fr t 5 7 [6])
  { s with ring := { s.ring with readTags := [(7, some ro)] } }
def edgeNbr : State := { stwUp with clk := 10 ^ 9, ring := { stwUp.ring with nbrEd := [(2, some (7, 5, 0))] } }
def closedTag (tag : Nat) (u : State) : State :=
  { u with ring := { u.ring with
      readTags := tset (fun _ => none) tag none u.ring.readTags
      unacked := match readUnacked u tag with
        | some a => u.ring.unacked.filter (fun v => v != a)
        | none => u.ring.unacked } }
def bulkAckS : State := let s := qFrame 39 (fr 19 7 7 [5])
  { s with ring := { s.ring with bulkOut := [(7, some ⟨9, [1], 0, 1, 0, 0⟩)] } }
def deskFull : State := [2, 3, 4, 5].foldl (fun t d => setF (fDSK_DESK_SESSION d) 1 t) (ctlS 0)
/-- The two address words of an offset of a space of this hub. -/
def adr (sp o : Nat) : List Word := let a := 2 ^ 36 * nodeId stwUp + 2 ^ 32 * sp + o
  [wd a, wd (a / 2 ^ 24)]
def rt (f : RTime → RTime) (s : State) : State := { s with rtime := f s.rtime }
def rg (f : Ring → Ring) (s : State) : State := { s with ring := f s.ring }
def atClk (n : Nat) (s : State) : State := { s with clk := n }
def sync33 : Frame := fr 3 1 0 [0]
def port (p : Nat) (f : Port → Port) (s : State) : State := setPort p (f (getPort s p)) s
def sweepEdN (k : Nat) : Edition :=
  { emptyEdition with shelf := ⟨0, [], [⟨nodeId homeUp, 0, 0, k, 0, 0, 0⟩]⟩, subs := [(nodeId homeUp, [(nodeId homeUp, 0)])] }
def sweepEd : Edition := sweepEdN 0
def sweepEd3 : Edition := sweepEdN 3
def sweepS : State := rt (fun r => { r with everLocked := true }) { homeUp with stw := { homeUp.stw with inForce := some sweepEd } }
def sweepS3 : State := setSweep (64 * nodeId homeUp) ⟨0, [0], 0⟩ { homeUp with stw := { homeUp.stw with inForce := some sweepEd3 } }
def gmUp : State := rt (fun r => { r with gm := some (nodeId homeUp) }) homeUp
def gmLostS : State := rt (fun r => { r with gm := some 5 }) (setF fRTM_CTL_GM_PRIO 5 homeUp)
def ppsS (n : Nat) : State :=
  { rt (fun r => { r with gm := some (nodeId numUp) }) (setF fRTM_CTL_PPS_IN_EN 1 numUp) with ringNs := n }
def couplerUp : State := atClk 10000 (rg (fun r => { r with waitFar := [(fr 13 5 7 [], 0)], waitHome := [({ fr 13 5 7 [] with src := 10 }, 0)] })
  (setF fGLB_NODE2_COUPLER 1 allOn))
def q200 : State := pushWords 200 [5] allOn
def q200x : Nat × Item := frontX 200 q200
def refs0 : State := setItem q200x.1 (some { q200x.2 with refs := 0 }) q200
def waitP : PushWait := ⟨[200], .words [5], 7, false, none⟩
def waitS : State := { allOn with swq := { allOn.swq with waits := [waitP] } }
def chOf (o : Option (List (Charge × Nat))) : List (Charge × Nat) := match o with
  | some x => x
  | none => []
def bar2r : Bar2Read := ⟨63, 1, 0, [(0, 7)], 0, none⟩
def readS (r : Bar2Read) : State := setRead 5 (some r) allOn
def dsc (op : Nat) : Desc := ⟨1, op, false, false, 3, 0, 1, 64, 4, 200, false, 1, none, 1⟩
def sqUp (op : Nat) : State := setSq 11 { Sq.init with descs := [dsc op] } (setF (fHIF_SQ_CFG_EN 11) 1 allOn)
def sqSome : State := setF (fHIF_SQ_TAIL_TAIL 11) 1 (setSq 11 { Sq.init with fetched := 1 } (setF (fHIF_SQ_CFG_EN 11) 1 allOn))
def dscI : Desc := { dsc 2 with issued := true }
def sqI : State := setSq 11 { Sq.init with descs := [dscI] } (setF (fHIF_SQ_CFG_EN 11) 1 allOn)
def usbUp : State := setF fUSB_STATUS_ATTACHED 1 allOn
def devUp : State := setF fUSB_STATUS_CONFIGURED 1 { usbUp with usb := { usbUp.usb with devAttached := true } }
def deskOn (s : State) (d op : Nat) (args : List Nat) (rights : Nat) : State :=
  let s := setF (fDSK_DESK_STATE d) 1 (pushWords (72 + d) [wd d] { s with stw := { s.stw with lock := some d } })
  setDesk d { getDesk s d with rights := rights, cmd := (indexed 0 (wd (op + args.length * 256) :: args.map wd)).foldl (fun t e => tset (fun _ => 0) e.1 e.2 t) [] } s
def deskS (d op : Nat) (args : List Nat) : State := deskOn { stwUp with boot := { stwUp.boot with flash := true } } d op args 31
def left (d : Nat) (s : State) : State := takeDoorbell d s
def inStw (f : Steward → Steward) (s : State) : State := { s with stw := f s.stw }
def inSec (f : Sec → Sec) (s : State) : State := { s with sec := f s.sec }
def stg (d k n : Nat) : Staging := ⟨d, k, 5, n, []⟩
def ctlUp (c : UsbCtl) : State := setUsb { devUp.usb with ctl := some c } devUp
def q65 : State := pushWords 65 [5] devUp
def q65x : Nat × Item := frontX 65 q65
def notifUp : State := setUsb { devUp.usb with notif := [1] } devUp
def audioUp : State := setUsb { devUp.usb with audio := true } devUp
def prepS : State := setDesk 7 { Desk.init with prepared := some [0, 0] } stwUp
def edGroup : Edition := { emptyEdition with groups := [(0, [5, 6])] }
def armedS : State := inStw (fun x => { x with staged := some emptyEdition, armed := some ⟨1, 0⟩ }) stwUp
def adrH (p : Nat) : List Nat := let h := handleOf (nodeId stwUp) p
  [h % 2 ^ 24, h / 2 ^ 24]
def forceable (s : State) : State :=
  writeRec 5 { getPt s 5 with forced := true } (setCatK 5 ⟨0, 0, wd (2 ^ 12), .loaded⟩ (setF fGLB_NODE2_NUMBERED 1 s))
def volG : Volume := ⟨1, 1, 1, 0, 0, 0, true⟩
def goodVol (s : State) : State := setF (fSEC_ARB_MIN 0) 0 (inSec (fun x => { x with slots := [(0, { getSlot s 0 with programmed := true, revoked := false, use := 0xF })] }) (setVol 1 volG s))
def feedAt (x st : Nat) : State := setF (feedFld x) st allOn
def fscAt (st : Nat) : State := setF (fFED_FSC_STAT_STATE 15) st allOn
def pwrAt (st : Nat) : State := setF fPWR_STATUS_STATE st allOn
def inPwr (f : Pwr → Pwr) (s : State) : State := { s with pwr := f s.pwr }
def busyS : State := setF (fDSK_DESK_STATE 3) 1 allOn
def repS : State := setF fFLT_FIRST0_VALID 1 (setF ⟨0xC020, 5, 1⟩ 1 (raise 5 stwUp))
def ringbS : State := let s := setF (fRGx_PHY_STAT_LINK 2) 1 (setF (fRGx_PHY_STAT_LINK 3) 1 (bypAt 1 3))
  { s with flt := { s.flt with attic := [⟨5, 0, 1, true, false⟩] }, ring := { s.ring with seeded := [(1, true)] } }
def roleS (r : Nat) : State := setF fTWN_STAT_ROLE r (setF fTWN_CTL_EN 1 (setF fTWN_CTL_PEER 9 stwUp))
def twinF (k : Nat) (ws : List Word) : Frame := fr 7 2 0 (wd (k + 4 * 7) :: ws)
def twinS (k : Nat) (ws : List Word) : State := pushBody [34] (.frame (twinF k ws)) 2 (roleS 1)
def handS (h : Handover) (s : State) : State := { s with twin := { s.twin with handover := some h } }
def handL (n : Nat) : State := let s := handS ⟨0, false, true, false, 1⟩ (roleS 4)
  { s with ringNs := n, twin := { s.twin with stages := true } }
def bothS : State := let s := atClk (10 ^ 8) (roleS 1)
  { s with twin := { s.twin with bothSince := some 0, peerClaim := 5 } }
def rollS : State := inSec (fun x => { x with txCount := [(3, 2 ^ 32 - 1)] })
  (setF (fSEC_LP_STAT_STATE 3) 2 (setF fSEC_LP_CTL_B_EN 1 (linkAt 3)))
def relS : State := { allOn with clk := 10 ^ 9, boot := { allOn.boot with coreReset := true, causes := [3] } }
def hostS : State := let s := setF fGLB_STRAP_PCIE 1 stwUp
  { s with hif := { s.hif with perst := true, ready := true } }
def iso (n : Nat) : State := setF fUSB_STATUS_STREAMING 1 (setUsb { audioUp.usb with microframe := n } audioUp)
def isoS : State := iso 0
def sess7 : State := setF (fDSK_DESK_STATE 7) 1 (setF (fDSK_DESK_SESSION 7) 1 (inStw (fun x => { x with lock := some 7, staging := some (stg 7 0 100) }) stwUp))
def selfNode : NodeEnt := ⟨0, nodeId numUp, 0, 0, false, 0⟩
def selfUp : State := { numUp with stw := { numUp.stw with inForce := some { emptyEdition with nodes := [selfNode] } } }
def nextOf (o : Host.Outcome State Fault Refusal) : State := match o with
  | .next t => t
  | _ => allOn

def rxOf (f : Frame) : RxFrame := ⟨f, frameHchk f, frameCrc f, .good, 0, 0, true, 0⟩
def rxOn : RxFrame := rxOf { fr 1 0 0 [] with ring := pairRing (linkAt 3) 1 }
def linkNum : State := setF (fRGx_PHY_STAT_LINK 3) 1 numUp
def rxHere : RxFrame := rxOf { fr 4 2 0 [] with dest := nodeId linkNum, ring := pairRing linkNum 1 }
def sweepF : Frame := { fr 1 0 7 [0, 0, 0] with src := nodeId homeUp }
def sweepRx : State := inStw (fun x => { x with inForce := some sweepEd }) (rxWith sweepF)
def ownBcn : Frame := { fr 6 2 7 (beaconPayload stwUp) with src := nodeId stwUp, west := true }
def bcnS : State := let s := rxWith ownBcn
  { s with ring := { s.ring with beaconAt := some 0, beaconBack := [0] } }
def bulkDataS : State := let s := qFrame 39 (fr 18 7 5 [0, 7])
  inStw (fun x => { x with staging := some (stg 2 0 9) })
    (setF (fDSK_DESK_NODE 2) 9 (setF (fDSK_DESK_SESSION 2) 1 { s with ring := { s.ring with bulkIn := [(65536 * 9 + 5, some ⟨0, 0, 0, false⟩)] } }))
def pinsFree : State := (List.range 26).foldl (fun t i => setF (fCLK_PINSEL_GROUP (78 + i)) 31 t) stwUp
def freshS : State := { stwUp with flt := { stwUp.flt with pulse := [5] } }
def freshV : State := let u := atticRetry (drainRaises freshS)
  addF fFLT_REPEATS_REPEATS 0 (countEv 1 5 1 { u with flt := { u.flt with pulse := [], prev := [5] } })

def rebuiltS : State :=
  let s := setF fSWQ_STATUS_PTR_FROZEN 1 stwUp
  let v := ledger 2 128 (usNow s) [wd (128 + bitsOf (reg s 0xC08A).toNat 16 2 * 2 ^ 10), wd (lostItems [] s)] s
  causeOff 128 (setF fSWQ_STATUS_PTR_FROZEN 0 { v with swq := { v.swq with freeFrozen := false, popWaits := [] } })
def hubUp : State := { usbUp with usb := { usbUp.usb with hubConf := true } }
def probeAt (st : Nat) : State := setF (fFED_FSC_CTL_PRES_EN 15) 0 (atClk (10 ^ 9) (fscAt st))
def presAt (st : Nat) : State := setF (fFED_FSC_CTL_PRES_EN 15) 1 (fscAt st)
def orderS (s : State) (st : Nat) : State := inPwr (fun x => { x with orders := [(ringId s, st, 1)] }) s
def rowS : State := setF (fFLT_ROWS_LEFT 4) 9 { allOn with stk := { allOn.stk with ceRows := [(4, 3, 0), (4, 3, 1)] } }
def selfB : State := let s := selfS 1
  { s with flt := { s.flt with attic := [⟨5, 0, 1, true, false⟩] } }
def infoS : State := setPort 3 { Port.init with infoCand := some 5, quietUntil := some 7 } (portRdy 3 2)
def infoU : State := setReg (oRGx_PHY_INFO_HI 3) (wd (5 / 2 ^ 24)) (setReg (oRGx_PHY_INFO_LO 3) (wd 5) infoS)

theorem test_meets_CommandAtFront :
    (∃ (s : State),
      (s.pending = [])) :=
  ⟨State.reset, by decide⟩


theorem test_meets_RegisterAccess :
    (∃ (w : Writer) (v : Word) (s : State) (i : Nat),
      (i < 2) ∧ (mayWrite w (0x10 + i) s = true)) ∧
    (∃ (off : Nat) (v : Word) (s : State),
      (regAt off = true) ∧ (regDomOn s off = false)) ∧
    (∃ (off : Nat) (v : Word) (s : State),
      (regAt off = true) ∧ (hostWritable off = false) ∧ (regDomOn s off = true)) ∧
    (∃ (w : Writer) (off : Nat) (v : Word) (s : State),
      (regAt off = false)) ∧
    (∃ (s : State) (b : Nat),
      (b < 5) ∧ (domOn s 3 = true)) ∧
    (∃ (s : State),
      (domOn s 0 = true)) ∧
    (∃ (s : State) (k : Nat),
      (k < 64) ∧ (domOn s 3 = true)) :=
  ⟨⟨.host, 0, allOn, 1, by decide⟩,
   ⟨0x28002, 0, setReg 0x4003 0 State.reset, by decide⟩,
   ⟨0x28002, 0, allOn, by decide⟩,
   ⟨.host, 0x00C, 0, allOn, by decide⟩,
   ⟨allOn, 4, by decide⟩,
   ⟨allOn, by decide⟩,
   ⟨allOn, 63, by decide⟩⟩


theorem test_meets_ArchiveMaintenance :
    (∃ (w : Writer) (n : Nat) (v : Word) (s : State),
      (n < 8) ∧ (mayWrite w (oSTK_STALE_LIM n) s = true) ∧ (v.toNat / 0x400000 ≠ 3) ∧ (s.stw.inForce = none)) ∧
    (∃ (w : Writer) (n : Nat) (v : Word) (s : State),
      (n < 8) ∧ (mayWrite w (oSTK_STALE_LIM n) s = true) ∧ (v.toNat / 0x400000 = 3)) ∧
    (∃ (s : State),
      (scrubRuns s = true) ∧ (s.stk.scrub.finished = false) ∧ (domOn s (5 + s.stk.scrub.bank) = true) ∧ (s.stk.scrub.cat = true) ∧ (s.stk.scrub.index + 1 < bankSize) ∧ (s.stk.flips = [])) ∧
    (∃ (b : Nat) (s : State),
      (scrubRuns s = true) ∧ (s.stk.scrub.began = some b) ∧ (b + s.stk.scrub.period ≤ s.clk) ∧ (s.stk.scrub.finished = false) ∧ (s.stk.scrub.overran = false)) ∧
    (∃ (b : Nat) (s : State),
      (scrubRuns s = true) ∧ (s.stk.scrub.began = some b) ∧ (b + s.stk.scrub.period ≤ s.clk) ∧ (s.stk.scrub.finished = true)) ∧
    (∃ (p : Nat) (s : State) (e : Edition),
      (p < 4 * bankSize) ∧ (stwRuns s = true) ∧ ((getCatK s (ptKey s p)).mark ≠ .loaded) ∧ (s.stw.inForce = some e) ∧ (s.stk.copy = none)) ∧
    (∃ (i : Nat) (x : Item) (w : Word) (ws : List Word) (e : Edition) (a : AlarmSet) (p : Nat) (u : State) (s : State),
      (stwRuns s = true) ∧ (frontQ s 208 = some (i, x)) ∧ (x.body = .words (w :: ws)) ∧ (p = w.toNat % (4 * bankSize)) ∧ (u = touchPt p .ok (dropFront 208 s)) ∧ (u.stw.inForce = some e) ∧ (tget (fun _ => none) e.alarms (catAlarm (catAt u p)) = some a)) :=
  ⟨⟨.steward, 7, 0, allOn, by decide⟩,
   ⟨.steward, 7, 0xC00000, allOn, by decide⟩,
   ⟨{ allOn with stk := { allOn.stk with scrub := { allOn.stk.scrub with cat := true, index := 262142 } } }, by decide⟩,
   ⟨0, { allOn with clk := 10 ^ 12, stk := { allOn.stk with scrub := { allOn.stk.scrub with began := some 0 } } }, by decide⟩,
   ⟨0, { allOn with clk := 10 ^ 12, stk := { allOn.stk with scrub := { allOn.stk.scrub with began := some 0, finished := true } } }, by decide⟩,
   ⟨1048575, withEdition, emptyEdition, by decide⟩,
   ⟨(frontX 208 alarmWaits).1, (frontX 208 alarmWaits).2, 5, [], edAlarm, ⟨[], true, false, false, 0, 0⟩, 5, touchPt 5 .ok (dropFront 208 alarmWaits), alarmWaits, by decide⟩⟩


theorem test_meets_ArchiveBanks :
    (∃ (w : Writer) (v : Word) (s : State),
      (mayWrite w oSTK_COPY_CTL s = true) ∧ (v.toNat / 64 % 4 = 1) ∧ (s.stk.copy = none) ∧ (v.toNat / 8 % 8 = spareBank s) ∧ (bankFenced s (v.toNat / 8 % 8) = false) ∧ ((List.range 4).any (fun l => physBank s l == v.toNat % 8) = true)) ∧
    (∃ (w : Writer) (v : Word) (f : Nat) (d : Nat) (s : State),
      (mayWrite w oSTK_COPY_CTL s = true) ∧ (v.toNat / 64 % 4 = 2) ∧ (s.stk.copy = some (f, d)) ∧ (s.flt.attic = [])) ∧
    (∃ (f : Nat) (d : Nat) (s : State),
      (s.stk.copy = some (f, d)) ∧ (flag s fSTK_COPY_STAT_DONE = false) ∧ (s.flt.attic = []) ∧ (s.stk.flips = [])) ∧
    (∃ (w : Writer) (v : Word) (l : Nat) (s : State),
      (mayWrite w oSTK_BANK_MAP s = true) ∧ (mapRefused s v = false) ∧ (mapMoves s v = [l]) ∧ (bitsOf v.toNat 15 1 = 0)) ∧
    (∃ (w : Writer) (v : Word) (s : State),
      (mayWrite w oSTK_BANK_MAP s = true) ∧ (mapRefused s v = true)) ∧
    (∃ (w : Writer) (v : Word) (l : Nat) (s : State),
      (mayWrite w oSTK_BANK_MAP s = true) ∧ (mapRefused s (v ||| wd (2 ^ 15)) = false) ∧ (mapMoves s (v ||| wd (2 ^ 15)) = [l]) ∧ (bitsOf (v ||| wd (2 ^ 15)).toNat 15 1 = 1)) ∧
    (∃ (b : Nat) (i : Nat) (s : State),
      (Memory.wf s = true) ∧ (b < 5) ∧ (i < bankSize)) ∧
    (∃ (f : Nat) (d : Nat) (i : Nat) (s : State),
      (Memory.wf s = true) ∧ (f < 5) ∧ (d < 5) ∧ (f ≠ d) ∧ (i < bankSize)) :=
  ⟨⟨.steward, 0x62, allOn, by decide⟩,
   ⟨.steward, 0x80, 0, 4, { allOn with stk := { allOn.stk with copy := some (0, 4) } }, by decide⟩,
   ⟨0, 4, { allOn with stk := { allOn.stk with copy := some (0, 4) } }, by decide⟩,
   ⟨.steward, 0x68C, 0, { setReg oSTK_COPY_STAT (wd (2 ^ 18)) allOn with stk := { allOn.stk with copy := some (0, 4) } }, by decide⟩,
   ⟨.steward, 0, allOn, by decide⟩,
   ⟨.steward, 0x68C, 0, allOn, by decide⟩,
   ⟨4, 262143, State.reset, by decide⟩,
   ⟨0, 4, 262143, State.reset, by decide⟩⟩


theorem test_meets_ClerkPolls :
    (∃ (n : Nat) (k : Nat) (c : Cycle) (d : Nat) (l : List Nat) (s : State),
      (n < 104) ∧ (k < 8) ∧ (placeOn s n = true) ∧ (c = getCycle (getPlace s n) k) ∧ (c.due = some d) ∧ (placeUp s n = true) ∧ (c.started = false) ∧ (d ≤ s.clk) ∧ (periodNs s n k ≠ 0) ∧ (l = classPoints s n k) ∧ (l.isEmpty = false) ∧ (leadClass s n ≠ some k) ∧ ((getPlace s n).item.isSome = true)) ∧
    (∃ (n : Nat) (k : Nat) (d : Nat) (s : State),
      (n < 104) ∧ (k < 8) ∧ (placeOn s n = true) ∧ ((getCycle (getPlace s n) k).due = some d) ∧ (placeUp s n = true) ∧ ((getCycle (getPlace s n) k).started = false) ∧ (d ≤ s.clk) ∧ (periodNs s n k ≠ 0)) ∧
    (∃ (n : Nat) (k : Nat) (pts : List Nat) (r : PollEnd) (sd : Bool) (s : State),
      (n < 104) ∧ (placeOn s n = true) ∧ ((getPlace s n).item = some (.poll k pts)) ∧ (placeUp s n = true) ∧ (placeRuns s n = true) ∧ ((getPlace s n).ended = false)) ∧
    (∃ (n : Nat) (k : Nat) (pts : List Nat) (d : FieldData) (sd : Bool) (s : State),
      (n < 104) ∧ (placeOn s n = true) ∧ ((getPlace s n).item = some (.poll k pts)) ∧ (placeUp s n = true) ∧ (placeRuns s n = true) ∧ ((getPlace s n).ended = false) ∧ (!([1, 3].contains (placeType s n)) = true)) ∧
    (∃ (n : Nat) (k : Nat) (pts : List Nat) (code : Nat) (sd : Bool) (s : State),
      (n < 104) ∧ (placeOn s n = true) ∧ ((getPlace s n).item = some (.poll k pts)) ∧ (placeUp s n = true) ∧ (placeRuns s n = true) ∧ ((getPlace s n).ended = false) ∧ (placeType s n = 2) ∧ (1 ≤ code) ∧ (code ≤ 3)) ∧
    (∃ (n : Nat) (p : Place) (s : State),
      (n < 104) ∧ (placeOn s n = true) ∧ (p = getPlace s n) ∧ (p.item = some .command) ∧ ((headCmd s n).isSome = true) ∧ (p.ended = false) ∧ ([2, 5, 6, 7].contains (placeType s n) = true) ∧ (attemptEnds s n ≤ s.clk) ∧ (p.attempts + 1 < attemptLimit s n)) ∧
    (∃ (n : Nat) (v : Unsolicited) (s : State),
      (n < 104) ∧ (placeOn s n = true) ∧ (placeUp s n = true) ∧ (placeRuns s n = true) ∧ (unsolicitedOk s n v = true) ∧ ((getPlace s n).item.isSome = true)) ∧
    (∃ (n : Nat) (x : House) (s : State),
      (n < 104) ∧ (placeOn s n = true) ∧ (placeUp s n = true) ∧ (placeRuns s n = true) ∧ ((getPlace s n).item = none)) ∧
    (∃ (n : Nat) (s : State),
      (n < 104) ∧ (placeOn s n = true) ∧ (placeType s n = 5) ∧ (placeRuns s n = true) ∧ ((getPlace s n).i2cDue ≤ s.clk)) :=
  ⟨⟨103, 7, getCycle (getPlace duePlace 103) 7, 0, classPoints duePlace 103 7, duePlace, by decide⟩,
   ⟨103, 7, 0, pollPlace 103 7, by decide⟩,
   ⟨103, 2, [5], .corrupt, false, polling 103 2, by decide⟩,
   ⟨103, 2, [5], .bytes [1, 2], false, polling 103 2, by decide⟩,
   ⟨103, 2, [5], 2, false, pollingAs 103 2 2, by decide⟩,
   ⟨103, getPlace (attemptOver (cmdTyped 103 7) 103) 103, attemptOver (cmdTyped 103 7) 103, ⟨by decide, by decide, rfl, by decide, by decide, by decide, by decide, attemptOver_due _ _, by decide⟩⟩,
   ⟨103, unsol, pollingAs 103 2 7, by decide⟩,
   ⟨103, .errorPassive, clerkUp 103, by decide⟩,
   ⟨103, bindType 103 5, by decide⟩⟩


theorem test_meets_ClerkCommands :
    (∃ (n : Nat) (r : CmdEnd) (c : Cmd) (s : State),
      (n < 104) ∧ (placeOn s n = true) ∧ (placeUp s n = true) ∧ (placeRuns s n = true) ∧ ((getPlace s n).ended = false) ∧ ((getPlace s n).item = some .command) ∧ (headCmd s n = some c)) ∧
    (∃ (n : Nat) (c : Cmd) (s : State),
      (n < 104) ∧ (placeOn s n = true) ∧ (placeUp s n = true) ∧ (placeRuns s n = true) ∧ ((getPlace s n).ended = false) ∧ ((getPlace s n).item = some .command) ∧ (headCmd s n = some c) ∧ ((getPlace s n).confirming = false)) ∧
    (∃ (n : Nat) (c : Cmd) (d : FieldData) (p : Nat) (x : Int) (s : State),
      (n < 104) ∧ (placeOn s n = true) ∧ (placeUp s n = true) ∧ (placeRuns s n = true) ∧ ((getPlace s n).ended = false) ∧ ((getPlace s n).item = some .command) ∧ (headCmd s n = some c) ∧ (readData s n [cmdPoint c] d = some [(p, .value x)])) ∧
    (∃ (n : Nat) (c : Cmd) (s : State),
      (n < 104) ∧ (placeOn s n = true) ∧ (placeUp s n = true) ∧ (placeRuns s n = true) ∧ ((getPlace s n).ended = false) ∧ ((getPlace s n).item = some .command) ∧ (headCmd s n = some c) ∧ ((getPlace s n).confirming = false)) ∧
    (∃ (n : Nat) (c : Cmd) (s : State),
      (n < 104) ∧ (placeOn s n = true) ∧ (placeUp s n = true) ∧ (placeRuns s n = true) ∧ ((getPlace s n).ended = false) ∧ ((getPlace s n).item = some .command) ∧ (headCmd s n = some c) ∧ ((getPlace s n).confirming = true)) ∧
    (∃ (n : Nat) (b : Bool) (s : State),
      (n < 104) ∧ (placeOn s n = true)) ∧
    (∃ (n : Nat) (u : State) (s : State),
      (n < 104) ∧ (placeOn s n = true) ∧ (u = setPlace n { getPlace s n with busLost := false } s) ∧ (canComeUp u n = true)) ∧
    (∃ (n : Nat) (d : Nat) (s : State),
      (n < 104) ∧ (placeOn s n = true) ∧ ((getPlace s n).holdUntil = some d) ∧ (placeUp s n = false) ∧ (d ≤ s.clk)) ∧
    (∃ (e : Nat) (n : Nat) (s : State),
      (e < 104) ∧ (placeOn s e = true) ∧ (n = enginePlace s e) ∧ (servingEngine s n = some e) ∧ ((getPlace s n).item.isSome = true) ∧ ((getPlace s n).ended = false) ∧ ((getPlace s n).itemStart + itemLimit s n < s.clk)) :=
  ⟨⟨103, .accepted, cmd0, cmdBound 103, by decide⟩,
   ⟨103, cmd0, cmdBound 103, by decide⟩,
   ⟨103, cmd0, .answer 5, 0, 5, cmdTyped 103 7, by decide⟩,
   ⟨103, cmd0, cmdWaiting 103, by decide⟩,
   ⟨103, cmd0, confirmingAt 103, by decide⟩,
   ⟨103, true, clerkUp 103, by decide⟩,
   ⟨103, setPlace 103 { getPlace (clerkReady 103) 103 with busLost := false } (clerkReady 103), clerkReady 103, by decide⟩,
   ⟨103, 0, setPlace 103 { Place.init with holdUntil := some 0 } allOn, by decide⟩,
   ⟨103, 103, itemOver (cmdTyped 103 7) 103, ⟨by decide, by decide, by decide, by decide, by decide, by decide, itemOver_late _ _⟩⟩⟩


theorem test_meets_ClerkEngines :
    (∃ (e : Nat) (s : State),
      (e < 104) ∧ (placeOn s e = true)) ∧
    (∃ (e : Nat) (s : State),
      (e < 104) ∧ (placeOn s e = true) ∧ (servingEngine s (enginePlace s e) ≠ some e)) ∧
    (∃ (w : Writer) (e : Nat) (u : State) (s : State),
      (e < 104) ∧ (mayWrite w (oCLK_ENG_CTL e) s = true) ∧ (flag s (fCLK_ENG_STAT_CODE_VALID e) = true) ∧ (u = setF (fCLK_ENG_CTL_RUN e) 1 (setEngine e { getEngine s e with halting := false } s)) ∧ (getF u (fCLK_ENG_STAT_STATE e) = 1) ∧ (engRole u e ≠ 2) ∧ ((getPlace u (enginePlace s e)).takeover ≠ some e)) ∧
    (∃ (w : Writer) (e : Nat) (u : State) (s : State),
      (e < 104) ∧ (mayWrite w (oCLK_ENG_CTL e) s = true) ∧ (u = setF (fCLK_ENG_CTL_RUN e) 0 s) ∧ (servingEngine u (enginePlace s e) ≠ some e)) ∧
    (∃ (e : Nat) (v : Word) (s : State),
      (e < 104) ∧ (mayWrite .steward (oCLK_ENG_BIND e) s = true) ∧ (storeOpen s e = true)) ∧
    (∃ (w : Writer) (n : Nat) (s : State),
      (n < 104) ∧ (mayWrite w (oCLK_PINSEL n) s = true) ∧ (placeRuns s n = false)) ∧
    (∃ (w : Writer) (n : Nat) (g : Nat) (s : State),
      (n < 104) ∧ (g < 32) ∧ (mayWrite w (oCLK_PINSEL n) s = true) ∧ (placeRuns s n = true)) ∧
    (∃ (w : Writer) (n : Nat) (g : Nat) (s : State),
      (n < 104) ∧ (g < 31) ∧ (mayWrite w (oCLK_PINSEL n) s = true) ∧ (placeRuns s n = false) ∧ (24 ≤ g ∨ groupTaken s n g = true)) ∧
    (∃ (w : Writer) (n : Nat) (g : Nat) (s : State),
      (n < 104) ∧ (g < 24) ∧ (mayWrite w (oCLK_PINSEL n) s = true) ∧ (placeRuns s n = false) ∧ (groupTaken s n g = false)) ∧
    (∃ (n : Nat) (e : Nat) (k : Nat) (d : Nat) (old : Nat) (s : State),
      (n < 104) ∧ (placeOn s n = true) ∧ ((getPlace s n).takeover = some e) ∧ (leadClass s n = some k) ∧ ((getCycle (getPlace s n) k).due = some d) ∧ ((getCycle (getPlace s n) k).started = false) ∧ (d ≤ s.clk) ∧ (engineRuns s e = true) ∧ (servingEngine s n = some old) ∧ (s.flt.attic = [])) ∧
    (∃ (n : Nat) (u : State) (s : State),
      (n < 104) ∧ (placeOn s n = true) ∧ ((getPlace s n).item = none) ∧ ((getPlace s n).removing = false) ∧ ((getPlace s n).rebindDue = true) ∧ (u = setPlace n { getPlace s n with rebindDue := false, rebinding := true } s) ∧ (servingEngine u n = none)) ∧
    (∃ (n : Nat) (b : Bool) (u : State) (s : State),
      (n < 104) ∧ (placeOn s n = true) ∧ ((getPlace s n).rebinding = true) ∧ (placementOf s n = none) ∧ (u = setPlace n { getPlace s n with rebinding := false, busLost := b && hasBusTest s n } s) ∧ (servingEngine u n = none) ∧ (canComeUp u n = false)) ∧
    (∃ (g : Nat) (pin : Nat) (s : State),
      (groupPlace s g = none ∨ groupEngine s g = none ∨ domOn s (10 + g / 24) = false)) ∧
    (∃ (g : Nat) (pin : Nat) (n : Nat) (e : Nat) (s : State),
      (groupPlace s g = some n) ∧ (groupEngine s g = some e) ∧ (pinUse (getF s (fCLK_ENG_BIND_TYPE e)) pin = .unused ∨ pinUse (getF s (fCLK_ENG_BIND_TYPE e)) pin = .input)) ∧
    (∃ (g : Nat) (pin : Nat) (n : Nat) (e : Nat) (b : Bool) (s : State),
      (groupPlace s g = some n) ∧ (groupEngine s g = some e) ∧ (domOn s (10 + g / 24) = true) ∧ (sharedPlace s n = false) ∧ ((getPlace s n).item = none) ∧ (pinUse (getF s (fCLK_ENG_BIND_TYPE e)) pin = .output (some b))) :=
  ⟨⟨103, allOn, by decide⟩,
   ⟨103, allOn, by decide⟩,
   ⟨.steward, 103, setF (fCLK_ENG_CTL_RUN 103) 1 (setEngine 103 { getEngine engReady 103 with halting := false } engReady), engReady, by decide⟩,
   ⟨.steward, 103, setF (fCLK_ENG_CTL_RUN 103) 0 allOn, allOn, by decide⟩,
   ⟨103, 5, engReady, by decide⟩,
   ⟨.steward, 103, allOn, by decide⟩,
   ⟨.steward, 103, 23, clerkReady 103, by decide⟩,
   ⟨.steward, 103, 24, allOn, by decide⟩,
   ⟨.steward, 103, 23, pinsFree, by decide⟩,
   ⟨103, 102, 0, 0, 103, takeoverDue, by decide⟩,
   ⟨103, setPlace 103 { Place.init with rebindDue := false, rebinding := true } (setPlace 103 { Place.init with rebindDue := true } allOn), setPlace 103 { Place.init with rebindDue := true } allOn, by decide⟩,
   ⟨103, false, setPlace 103 { Place.init with rebinding := false, busLost := false } (setPlace 103 { Place.init with rebinding := true } allOn), setPlace 103 { Place.init with rebinding := true } allOn, by decide⟩,
   ⟨95, 3, State.reset, by decide⟩,
   ⟨73, 3, 103, 103, bindType 103 2, by decide⟩,
   ⟨73, 0, 103, 103, true, bindType 103 2, by decide⟩⟩


theorem test_meets_DiscreteInputs :
    (∃ (line : Nat) (lv : Bool) (n : Nat) (u : State) (s : State),
      (line < 272) ∧ (lineOn s line = true) ∧ (pinLevel s line ≠ lv) ∧ (pinLine s line = some n) ∧ (u = setF ⟨oDIO_IN (line / 24), line % 24, 1⟩ (bit lv) (countFilter n s)) ∧ (pinLine u line = some n) ∧ (dioFenced u (lineCluster n) = false)) ∧
    (∃ (line : Nat) (lv : Bool) (n : Nat) (e : Nat) (s : State),
      (line < 272) ∧ (pinLine s line = some n) ∧ ((getLine s n).lastEdge = some e) ∧ (e + 10000 * linePar s n ≤ s.clk) ∧ (lineOn s n = true) ∧ (lineMode s n = 2) ∧ (pinLevel s line = lv) ∧ (lv ≠ (getLine s n).level) ∧ (dioFenced s (lineCluster n) = false)) ∧
    (∃ (differ : List Nat) (s : State),
      (s.dio.refreshDue ≤ s.clk)) :=
  ⟨⟨271, true, 271, setF ⟨oDIO_IN (271 / 24), 271 % 24, 1⟩ 1 (countFilter 271 allOn), allOn, by decide⟩,
   ⟨271, true, 271, 0, setLine 271 { Line.init with lastEdge := some 0 } (lineOf 271 2 0 (setF ⟨oDIO_IN (271 / 24), 271 % 24, 1⟩ 1 allOn)), by decide⟩,
   ⟨[271], allOn, by decide⟩⟩


theorem test_meets_DiscreteOutputs :
    (∃ (line : Nat) (c : Cmd) (cs : List Cmd) (raw : Nat) (s : State),
      (line < 272) ∧ ((getLine s line).cmds = c :: cs) ∧ ((getLine s line).settling = false) ∧ (lineCause s line = none) ∧ (lineMode s line ≠ 7) ∧ (linePar s line ≠ 0) ∧ (raw = (rawOf s (catAt s (c.handle % 2 ^ 20)) c.value).toNat)) ∧
    (∃ (line : Nat) (c : Cmd) (cs : List Cmd) (cause : Nat) (s : State),
      (line < 272) ∧ ((getLine s line).cmds = c :: cs) ∧ ((getLine s line).settling = false) ∧ (lineCause s line = some cause)) ∧
    (∃ (line : Nat) (pin : Bool) (c : Cmd) (cs : List Cmd) (s : State),
      (line < 272) ∧ ((getLine s line).cmds = c :: cs) ∧ ((getLine s line).settling = true) ∧ (lineMode s line = 6) ∧ ((getLine s line).settleAt ≤ s.clk) ∧ (bit (pin != lineInv s line) = (getLine s line).cmdVal)) ∧
    (∃ (line : Nat) (pin : Bool) (c : Cmd) (cs : List Cmd) (s : State),
      (line < 272) ∧ ((getLine s line).cmds = c :: cs) ∧ ((getLine s line).settling = true) ∧ (lineMode s line = 6) ∧ ((getLine s line).settleAt ≤ s.clk) ∧ (bit (pin != lineInv s line) ≠ (getLine s line).cmdVal)) ∧
    (∃ (line : Nat) (l : Line) (s : State),
      (line < 272) ∧ (lineMode s line = 7) ∧ (lineOn s line = true) ∧ (l = getLine s line) ∧ (l.pwmAt + 8 * l.pwmPer ≤ s.clk) ∧ (l.safe = false) ∧ (l.cmds = [])) ∧
    (∃ (line : Nat) (l : Line) (c : Cmd) (cs : List Cmd) (s : State),
      (line < 272) ∧ (lineMode s line = 7) ∧ (lineOn s line = true) ∧ (l = getLine s line) ∧ (l.pwmAt + 8 * l.pwmPer ≤ s.clk) ∧ (l.settling = true) ∧ (l.cmds = c :: cs)) ∧
    (∃ (w : Writer) (v : Word) (u : State) (s : State),
      ((w != .steward || stwRuns s) = true) ∧ (mayWrite w oDIO_WDOG s = true) ∧ (bitsOf v.toNat 12 1 = 1) ∧ (u = setF fDIO_WDOG_TIME (bitsOf v.toNat 0 12) s)) ∧
    (∃ (s : State),
      (getF s fDIO_WDOG_TIME ≠ 0) ∧ (s.dio.wdogCause = false) ∧ (s.dio.wdogAt + 10000000 * getF s fDIO_WDOG_TIME ≤ s.clk)) ∧
    (∃ (w : Writer) (line : Nat) (cfg : Word) (par : Word) (u : State) (s : State),
      (line < 272) ∧ (mayWrite w (oDIO_LCFG line) s = true) ∧ (u = lineLive line cfg s) ∧ (lineBusy u line = false) ∧ (badPair (cfg.toNat % 16) par.toNat = false)) ∧
    (∃ (w : Writer) (k : Nat) (line : Nat) (s : State),
      (k < 16) ∧ (line < 272) ∧ (mayWrite w (oDIO_SPARE k) s = true) ∧ (lineBusy s line = false) ∧ (lineCluster line = k / 4) ∧ (line ≠ 256 + k) ∧ (s.dio.standins = [])) ∧
    (∃ (w : Writer) (k : Nat) (line : Nat) (was : List Nat) (s : State),
      (k < 16) ∧ (mayWrite w (oDIO_SPARE k) s = true) ∧ (line = getF s (fDIO_SPARE_LINE k)) ∧ (lineBusy s line = false) ∧ (was = (s.dio.standins.filter (fun x => x.1 == k)).map (·.2))) :=
  ⟨⟨271, cmd0, [], 5, lineOf 271 6 5 (setLine 271 { Line.init with cmds := [cmd0] } allOn), by decide⟩,
   ⟨271, cmd0, [], cUNSUPPORTED, lineOf 271 1 0 (setLine 271 { Line.init with cmds := [cmd0] } allOn), by decide⟩,
   ⟨271, false, cmd0, [], lineOf 271 6 5 (setLine 271 { Line.init with cmds := [cmd0], settling := true } allOn), by decide⟩,
   ⟨271, true, cmd0, [], lineOf 271 6 5 (setLine 271 { Line.init with cmds := [cmd0], settling := true } allOn), by decide⟩,
   ⟨271, getLine (lineOf 271 7 5 allOn) 271, lineOf 271 7 5 allOn, by decide⟩,
   ⟨271, { Line.init with cmds := [cmd0], settling := true, safe := true }, cmd0, [], setLine 271 { Line.init with cmds := [cmd0], settling := true, safe := true } (lineOf 271 7 5 allOn), by decide⟩,
   ⟨.steward, 0x1005, setF fDIO_WDOG_TIME 5 stwUp, stwUp, by decide⟩,
   ⟨{ setF fDIO_WDOG_TIME 5 allOn with clk := 10 ^ 9 }, by decide⟩,
   ⟨.steward, 271, 1, 0, lineLive 271 1 allOn, allOn, by decide⟩,
   ⟨.steward, 15, 255, allOn, by decide⟩,
   ⟨.steward, 15, 0, [], allOn, by decide⟩⟩


theorem test_meets_AnalogChannels :
    (∃ (ch : Nat) (volts : List Int) (all : List (Nat × Int)) (kept : List (Nat × Int)) (u : State) (time : Nat) (s : State),
      (ch < 64) ∧ (anaOn s = true) ∧ (chanEn s ch = true) ∧ (windowFull s ch volts.length = true) ∧ ((getChan s ch).stopped = false) ∧ (flag s (fANA_CHSTAT_OPEN ch) = false) ∧ (all = windowSamples s ch volts) ∧ (kept = all.filter (fun e => !excludedAt s ch e.1)) ∧ (kept.isEmpty = false) ∧ (u = nextWindow ch volts.length (setF (fANA_CHSTAT_OVERLOAD ch) (bit (all.any (sampleOver s ch))) s)) ∧ (anaUntrue u = false) ∧ (time = (sampleAt (chanRate s ch) ((getChan s ch).first + volts.length - 1) - anaDelay s ch) / 1000 % 2 ^ 40)) ∧
    (∃ (ch : Nat) (volts : List Int) (u : State) (s : State),
      (ch < 64) ∧ (anaOn s = true) ∧ (chanEn s ch = true) ∧ (windowFull s ch volts.length = true) ∧ ((getChan s ch).stopped = true ∨ flag s (fANA_CHSTAT_OPEN ch) = true) ∧ (u = setF (fANA_CHSTAT_OVERLOAD ch) (bit ((windowSamples s ch volts).any (sampleOver s ch))) s)) ∧
    (∃ (ch : Nat) (volts : List Int) (all : List (Nat × Int)) (u : State) (s : State),
      (ch < 64) ∧ (anaOn s = true) ∧ (chanEn s ch = true) ∧ (windowFull s ch volts.length = true) ∧ ((getChan s ch).stopped = false) ∧ (flag s (fANA_CHSTAT_OPEN ch) = false) ∧ (all = windowSamples s ch volts) ∧ ((all.filter (fun e => !excludedAt s ch e.1)).isEmpty = false) ∧ (u = nextWindow ch volts.length (setF (fANA_CHSTAT_OVERLOAD ch) (bit (all.any (sampleOver s ch))) s)) ∧ (anaUntrue u = true)) ∧
    (∃ (w : Writer) (ch : Nat) (v : Word) (s : State),
      (ch < 64) ∧ (mayWrite w (oANA_CHCFG ch) s = true) ∧ (anaAllowed (bitsOf v.toNat 0 4) (bitsOf v.toNat 4 2) = false)) ∧
    (∃ (w : Writer) (ch : Nat) (v : Word) (u : State) (s : State),
      (ch < 64) ∧ (mayWrite w (oANA_CHCFG ch) s = true) ∧ (anaAllowed (bitsOf v.toNat 0 4) (bitsOf v.toNat 4 2) = true) ∧ (chanEn s ch = false) ∧ (u = freshWindow ch (setReg (oANA_CHCFG ch) (wd (v.toNat % 2 ^ 15)) s)) ∧ ((getChan (useGain (chanConv u ch) (getF u (fANA_CHCFG_GAIN ch)) u) ch).steerTo = none)) ∧
    (∃ (ch : Nat) (ohms : Nat) (c : Chan) (u : State) (s : State),
      (ch < 64) ∧ (anaOn s = true) ∧ (flag s (fANA_CHCFG_OPEN_EN ch) = true) ∧ (c = getChan s ch) ∧ (c.openDue ≤ s.clk) ∧ (1000000 < ohms) ∧ (u = setF (fANA_CHSTAT_OPEN ch) 1 (excludeChan ch (max 100000 (periods s ch 1)) (setChan ch { c with openDue := s.clk + 1000000000 * max 1 (getF s fANA_CTL_OPEN_PER) } s))) ∧ (chanEn u ch = false)) ∧
    (∃ (ch : Nat) (ohms : Nat) (c : Chan) (u : State) (s : State),
      (ch < 64) ∧ (anaOn s = true) ∧ (flag s (fANA_CHCFG_OPEN_EN ch) = true) ∧ (c = getChan s ch) ∧ (c.openDue ≤ s.clk) ∧ (ohms < 500000) ∧ (u = setF (fANA_CHSTAT_OPEN ch) 0 (excludeChan ch (max 100000 (periods s ch 1)) (setChan ch { c with openDue := s.clk + 1000000000 * max 1 (getF s fANA_CTL_OPEN_PER) } s)))) ∧
    (∃ (w : Writer) (ch : Nat) (cv : Nat) (s : State),
      (ch < 64) ∧ (cv < 68) ∧ (mayWrite w (oANA_CHSEL ch) s = true) ∧ (convState s cv = 0) ∧ (flag s (fANA_CHSTAT_STEERING ch) = false)) ∧
    (∃ (ch : Nat) (pairs : List (Int × Int)) (w : Nat) (diff : Nat) (s : State),
      (ch < 64) ∧ ((getChan s ch).steerTo = some w) ∧ (anaOn s = true) ∧ (pairs.length = steerCmp s) ∧ ((getChan s ch).steerSince + periods s ch (settlePeriods s ch + steerCmp s) ≤ s.clk) ∧ (diff = steerDiff s (chanConv s ch) w (getF s (fANA_CHCFG_GAIN ch)) pairs)) :=
  ⟨⟨63, [5], windowSamples anaTrue 63 [5], windowSamples anaTrue 63 [5], nextWindow 63 1 (setF (fANA_CHSTAT_OVERLOAD 63) 0 anaTrue), (sampleAt (chanRate anaTrue 63) ((getChan anaTrue 63).first + 1 - 1) - anaDelay anaTrue 63) / 1000 % 2 ^ 40, anaTrue, by decide⟩,
   ⟨63, [5], setF (fANA_CHSTAT_OVERLOAD 63) 0 (setF (fANA_CHSTAT_OPEN 63) 1 anaTrue), setF (fANA_CHSTAT_OPEN 63) 1 anaTrue, by decide⟩,
   ⟨63, [5], windowSamples (chanUp 63) 63 [5], nextWindow 63 1 (setF (fANA_CHSTAT_OVERLOAD 63) 0 (chanUp 63)), chanUp 63, by decide⟩,
   ⟨.steward, 63, 0x0, allOn, by decide⟩,
   ⟨.steward, 63, 0xA, freshWindow 63 (setReg (oANA_CHCFG 63) 0xA allOn), allOn, by decide⟩,
   ⟨63, 1000001, Chan.init, openChecked 63, setF (fANA_CHCFG_OPEN_EN 63) 1 allOn, by decide⟩,
   ⟨63, 499999, Chan.init, setF (fANA_CHSTAT_OPEN 63) 0 (openChecked 63), setF (fANA_CHCFG_OPEN_EN 63) 1 allOn, by decide⟩,
   ⟨.steward, 63, 67, allOn, by decide⟩,
   ⟨63, [(1, 2)], 67, steerDiff steerS (chanConv steerS 63) 67 0 [(1, 2)], steerS, by decide⟩⟩


theorem test_meets_AnalogConverters :
    (∃ (cv : Nat) (cause : Nat) (s : State),
      (cv < 68) ∧ (cause = 1 ∨ cause = 2) ∧ (anaOn s = true) ∧ (convChan (raise (473 + cv / 4) (setF (fANA_CONV_CAUSE cv) cause s)) cv = none)) ∧
    (∃ (cv : Nat) (cause : Nat) (n : Nat) (u : State) (s : State),
      (cv < 68) ∧ (cause = 1 ∨ cause = 2) ∧ (anaOn s = true) ∧ (u = raise (473 + cv / 4) (setF (fANA_CONV_CAUSE cv) cause s)) ∧ (convChan u cv = some n)) ∧
    (∃ (v : Nat) (u : State) (s : State),
      (anaOn s = true) ∧ (flag s fANA_CTL_ROT_EN = true) ∧ (s.ana.rotDue ≤ s.clk) ∧ (s.ana.rotPhase = 0) ∧ (rotConv s = some v) ∧ (convState s v = 0) ∧ (u = setF (fANA_CONV_STATE v) 2 (setF fANA_ROT_STAT_STANDIN 0x7F (rotTake v s)))) ∧
    (∃ (short : Int) (ref : Int) (offset : Word) (gain : Word) (v : Nat) (s : State),
      (anaOn s = true) ∧ (s.ana.rotPhase = 2) ∧ (s.ana.rotAt + 20000000 ≤ s.clk) ∧ (v = s.ana.rotNext) ∧ (convState s v = 2) ∧ (8388608 < (checkCode s v short).natAbs * 1000)) ∧
    (∃ (short : Int) (ref : Int) (offset : Word) (gain : Word) (v : Nat) (s : State),
      (anaOn s = true) ∧ (s.ana.rotPhase = 2) ∧ (s.ana.rotAt + 20000000 ≤ s.clk) ∧ (v = s.ana.rotNext) ∧ (convState s v = 2) ∧ ((checkCode s v short).natAbs * 1000 ≤ 8388608) ∧ (5 * 8388608 < (checkCode s v ref - 4194304).natAbs * 1000)) ∧
    (∃ (short : Int) (ref : Int) (offset : Word) (gain : Word) (v : Nat) (s : State),
      (anaOn s = true) ∧ (s.ana.rotPhase = 2) ∧ (s.ana.rotAt + 20000000 ≤ s.clk) ∧ (v = s.ana.rotNext) ∧ (convState s v = 2) ∧ ((checkCode s v short).natAbs * 1000 ≤ 8388608) ∧ ((checkCode s v ref - 4194304).natAbs * 1000 ≤ 5 * 8388608) ∧ (s.ana.rotChan = none) ∧ (v < 68)) ∧
    (∃ (d : Nat) (s : State),
      (anaOn s = true) ∧ (flag s fANA_CTL_ROT_EN = true) ∧ (s.ana.rotWait = some d) ∧ (d + 10 * (1000000000 * max 1 (getF s fANA_CTL_CHECK_PER)) ≤ s.clk)) ∧
    (∃ (s : State),
      (anaOn s = true)) ∧
    (∃ (s : State),
      (anaOn s = true)) :=
  ⟨⟨67, 2, allOn, by decide⟩,
   ⟨0, 2, 0, raise (473 + 0 / 4) (setF (fANA_CONV_CAUSE 0) 2 convUp), convUp, by decide⟩,
   ⟨64, setF (fANA_CONV_STATE 64) 2 (setF fANA_ROT_STAT_STANDIN 0x7F (rotTake 64 rotReady)), rotReady, by decide⟩,
   ⟨2500000000000, 0, 0, 0, 64, rotEnd, by decide⟩,
   ⟨0, 0, 0, 0, 64, rotEnd, by decide⟩,
   ⟨0, 1250000000000, 5, 7, 64, rotEnd, by decide⟩,
   ⟨0, { rotReady with clk := 10 ^ 15, ana := { allOn.ana with rotWait := some 0 } }, by decide⟩,
   ⟨allOn, by decide⟩,
   ⟨allOn, by decide⟩⟩


theorem test_meets_MediaLinks :
    (∃ (w : Writer) (p : Nat) (u : State) (s : State),
      (p < 4) ∧ (mayWrite w (oRGx_PHY_CTL p) s = true) ∧ (portEn s p = false) ∧ (u = setF (fRGx_PHY_CTL_EN p) 1 s) ∧ (portAlive u p = true)) ∧
    (∃ (w : Writer) (p : Nat) (s : State),
      (p < 4) ∧ (mayWrite w (oRGx_PHY_CTL p) s = true) ∧ (portEn s p = false) ∧ (portAlive (setF (fRGx_PHY_CTL_EN p) 1 s) p = true) ∧ (inSelf s p = false)) ∧
    (∃ (w : Writer) (p : Nat) (u : State) (s : State),
      (p < 4) ∧ (mayWrite w (oRGx_PHY_CTL p) s = true) ∧ (portEn s p = true) ∧ (linkUp (setF (fRGx_PHY_CTL_EN p) 0 s) p = false) ∧ (u = takeDown p 1 false (setF (fRGx_PHY_CTL_EN p) 0 s))) ∧
    (∃ (w : Writer) (p : Nat) (s : State),
      (p < 4) ∧ (mayWrite w (oRGx_PHY_CTL p) s = true) ∧ (portEn s p = true) ∧ (linkUp s p = true)) ∧
    (∃ (w : Writer) (p : Nat) (s : State),
      (p < 4) ∧ (mayWrite w (oRGx_PHY_CTL p) s = true) ∧ (portEn s p = true)) ∧
    (∃ (w : Writer) (p : Nat) (s : State),
      (p < 4) ∧ (mayWrite w (oRGx_PHY_CTL p) s = true) ∧ (portAlive s p = true) ∧ (linkUp s p = true) ∧ (inSelf s p = false)) ∧
    (∃ (p : Nat) (s : State),
      (p < 4) ∧ (mayTrain s p = true) ∧ (portState s p = 1) ∧ ((getPort s p).infoOk = true) ∧ (sameRole s p = true)) ∧
    (∃ (p : Nat) (s : State),
      (p < 4) ∧ (mayTrain s p = true) ∧ (portState s p = 2)) ∧
    (∃ (p : Nat) (rate : Nat) (margin : Nat) (us : Nat) (s : State),
      (p < 4) ∧ (mayTrain s p = true) ∧ (portState s p = 2) ∧ (mayQualify s p rate = true) ∧ (30 ≤ margin)) ∧
    (∃ (p : Nat) (rate : Nat) (margin : Nat) (us : Nat) (s : State),
      (p < 4) ∧ (mayTrain s p = true) ∧ (portState s p = 2) ∧ (mayQualify s p rate = true) ∧ (rate ≤ getF s (fRGx_PHY_CTL_RATE_MIN p)) ∧ (30 ≤ margin)) ∧
    (∃ (p : Nat) (rate : Nat) (margin : Nat) (us : Nat) (s : State),
      (p < 4) ∧ (mayTrain s p = true) ∧ (portState s p = 2) ∧ (mayQualify s p rate = true) ∧ (getF s (fRGx_PHY_CTL_RATE_MIN p) < rate) ∧ (30 ≤ margin)) ∧
    (∃ (p : Nat) (d : Nat) (s : State),
      (p < 4) ∧ ((getPort s p).retryAt = some d) ∧ (d ≤ s.clk) ∧ (portAlive s p = true) ∧ (silent s p = false)) ∧
    (∃ (p : Nat) (d : Nat) (s : State),
      (p < 4) ∧ ((getPort s p).retryAt = some d) ∧ (d ≤ s.clk) ∧ (portAlive s p = true) ∧ (silent s p = false) ∧ (inSelf s p = false)) ∧
    (∃ (p : Nat) (info : BitVec 48) (s : State),
      (p < 4) ∧ (portAlive s p = true) ∧ ((getPort s p).infoCand ≠ some info.toNat)) ∧
    (∃ (p : Nat) (info : BitVec 48) (s : State),
      (p < 4) ∧ (portAlive s p = true) ∧ ((getPort s p).infoCand = some info.toNat)) ∧
    (∃ (p : Nat) (info : BitVec 48) (s : State),
      (p < 4) ∧ (mayTrain s p = true) ∧ (portState s p = 1) ∧ ((getPort s p).infoCand = some info.toNat) ∧ (bitsOf info.toNat 10 1 = 0) ∧ (bitsOf info.toNat 4 1 ≠ p % 2)) ∧
    (∃ (p : Nat) (s : State),
      (p < 4) ∧ (linkUp s p = true) ∧ (portAlive s p = true) ∧ (inSelf s p = false) ∧ (getF s fPWR_STATUS_STATE ≠ 2)) ∧
    (∃ (p : Nat) (s : State),
      (p < 4) ∧ (linkUp s p = true) ∧ (portAlive s p = true) ∧ (inSelf s p = false) ∧ (getF s fPWR_STATUS_STATE ≠ 2) ∧ (isOptical s p = true)) ∧
    (∃ (p : Nat) (s : State),
      (p < 4) ∧ (mayTrain s p = true) ∧ (portState s p = 2) ∧ (mayQualify s p (getPort s p).trainRate = true)) ∧
    (∃ (p : Nat) (s : State),
      (p < 4) ∧ (mayTrain s p = true) ∧ (portState s p = 2) ∧ (mayQualify s p (getPort s p).trainRate = true) ∧ ((getPort s p).trainRate ≤ getF s (fRGx_PHY_CTL_RATE_MIN p))) ∧
    (∃ (p : Nat) (s : State),
      (p < 4) ∧ (mayTrain s p = false) ∧ (opticalReady s p = true) ∧ (sameRole s p = false)) ∧
    (∃ (p : Nat) (margin : Nat) (ce : Nat) (d : Nat) (s : State),
      (p < 4) ∧ (linkUp s p = true) ∧ (isCopper s p = true) ∧ (margin < 5 * getF s (fRGx_PHY_CTL_DEG_MARGIN p)) ∧ ((getPort s p).lowSince = some d) ∧ (d + 1000000000 ≤ s.clk)) ∧
    (∃ (p : Nat) (margin : Nat) (ce : Nat) (uc : Nat) (s : State),
      (p < 4) ∧ (linkUp s p = true) ∧ (uc ≠ 0) ∧ (2 ≤ (getPort s p).uncRun) ∧ ((getPort s p).uncSec + 1 = s.clk / 1000000000)) ∧
    (∃ (p : Nat) (s : State),
      (p < 4) ∧ (linkUp s p = true) ∧ (portState s p = 3) ∧ (farInfo s p 11 1 = 1) ∧ (getF s fPWR_STATUS_STATE ≠ 2)) ∧
    (∃ (p : Nat) (s : State),
      (p < 4) ∧ (linkUp s p = true) ∧ (portState s p = 4) ∧ (portReady s p = true) ∧ ((getPort s p).coeffs = true) ∧ (farInfo s p 12 1 = 1) ∧ ((getPort s p).keptRate < 4)) ∧
    (∃ (p : Nat) (s : State),
      (p < 4) ∧ (linkUp s p = true) ∧ (portState s p = 4) ∧ (portReady s p = true) ∧ (inSelf s p = false)) :=
  ⟨⟨.steward, 3, portRdy 3 2, setF (fRGx_PHY_CTL_MEDIUM 3) 2 allOn, by decide⟩,
   ⟨.steward, 3, setF (fRGx_PHY_CTL_MEDIUM 3) 2 allOn, by decide⟩,
   ⟨.steward, 3, takeDown 3 1 false (setF (fRGx_PHY_CTL_EN 3) 0 (portRdy 3 2)), portRdy 3 2, by decide⟩,
   ⟨.steward, 3, linkPort 3 2 3, by decide⟩,
   ⟨.steward, 3, portRdy 3 2, by decide⟩,
   ⟨.steward, 3, linkPort 3 2 3, by decide⟩,
   ⟨3, sameRoleS 3, by decide⟩,
   ⟨3, portAt 3 2 2, by decide⟩,
   ⟨3, 2, 30, 5, trainS 3, by decide⟩,
   ⟨3, 2, 30, 5, trainS 3, by decide⟩,
   ⟨3, 2, 30, 5, setF (fRGx_PHY_CTL_RATE_MIN 3) 1 (trainS 3), by decide⟩,
   ⟨3, 0, setPort 3 { Port.init with retryAt := some 0 } (portRdy 3 2), by decide⟩,
   ⟨3, 0, setPort 3 { Port.init with retryAt := some 0 } (portRdy 3 2), by decide⟩,
   ⟨3, 5, portRdy 3 2, by decide⟩,
   ⟨3, 5, setPort 3 { Port.init with infoCand := some 5 } (portRdy 3 2), by decide⟩,
   ⟨3, 1, setPort 3 { Port.init with infoCand := some 1 } (portAt 3 2 1), by decide⟩,
   ⟨3, linkPort 3 2 3, by decide⟩,
   ⟨3, linkPort 3 1 3, by decide⟩,
   ⟨3, trainS 3, by decide⟩,
   ⟨3, trainS 3, by decide⟩,
   ⟨3, lightS 3, by decide⟩,
   ⟨3, 20, 5, 0, degrS 3, by decide⟩,
   ⟨3, 20, 5, 1, setPort 3 { Port.init with uncRun := 2, uncSec := 2 } { linkPort 3 2 3 with clk := 3 * 10 ^ 9 }, by decide⟩,
   ⟨3, setReg (oRGx_PHY_INFO_LO 3) (wd (2 ^ 11)) (linkPort 3 2 3), by decide⟩,
   ⟨3, setPort 3 { Port.init with coeffs := true } (setReg (oRGx_PHY_INFO_LO 3) (wd (2 ^ 12)) (linkPort 3 2 4)), by decide⟩,
   ⟨3, linkPort 3 1 4, by decide⟩⟩


theorem test_meets_MediaModules :
    (∃ (p : Nat) (id : List Nat) (s : State),
      (p < 4) ∧ (isOptical s p = true) ∧ (moduleRate id < 25000)) ∧
    (∃ (p : Nat) (id : List Nat) (s : State),
      (p < 4) ∧ (isOptical s p = true) ∧ (25000 ≤ moduleRate id)) ∧
    (∃ (p : Nat) (absent : Bool) (s : State),
      (p < 4) ∧ (isOptical s p = true) ∧ (flag s (fRGx_MOD_STAT_PRESENT p) = true)) ∧
    (∃ (p : Nat) (s : State),
      (p < 4) ∧ (flag s (fRGx_MOD_STAT_PRESENT p) = true) ∧ (flag s (fRGx_MOD_STAT_SUITED p) = true) ∧ (flag s (fRGx_MOD_STAT_DDM p) = true)) ∧
    (∃ (p : Nat) (bs : List Nat) (flags : Nat) (s : State),
      (p < 4) ∧ (flag s (fRGx_MOD_STAT_PRESENT p) = true) ∧ (flag s (fRGx_MOD_STAT_SUITED p) = true) ∧ (flag s (fRGx_MOD_STAT_DDM p) = true) ∧ (flags % 65536 = 0)) ∧
    (∃ (p : Nat) (s : State),
      (p < 4) ∧ (opticalReady s p = true) ∧ (sameRole s p = false)) ∧
    (∃ (p : Nat) (s : State),
      (p < 4) ∧ (opticalReady s p = true) ∧ (sameRole s p = true)) :=
  ⟨⟨3, [], portAt 3 1 1, by decide⟩,
   ⟨3, List.replicate 12 0 ++ [255] ++ List.replicate 53 0 ++ [103], portAt 3 1 1, by decide⟩,
   ⟨3, true, modIn 3, by decide⟩,
   ⟨3, modIn 3, by decide⟩,
   ⟨3, [1, 2], 65536, modIn 3, by decide⟩,
   ⟨3, lightS 3, by decide⟩,
   ⟨3, setReg (oRGx_PHY_INFO_LO 3) (wd 16) (lightS 3), by decide⟩⟩


theorem test_meets_MediaMeasurements :
    (∃ (p : Nat) (s : State),
      (p < 4)) ∧
    (∃ (p : Nat) (s : State),
      (p < 4) ∧ (flag s (fRGx_IR_STAT_RUNNING p) = false) ∧ (irAllowed s p = true) ∧ (linkUp s p = false)) ∧
    (∃ (p : Nat) (s : State),
      (p < 4) ∧ (flag s (fRGx_IR_STAT_RUNNING p) = false) ∧ (irAllowed s p = false)) ∧
    (∃ (p : Nat) (s : State),
      (p < 4) ∧ (flag s (fRGx_IR_STAT_RUNNING p) = true) ∧ (irAllowed s p = true) ∧ ((getPort s p).irRetry = none) ∧ (s.clk < (getPort s p).irSince + 10000000) ∧ (2 ≤ (getPort s p).irTries)) ∧
    (∃ (p : Nat) (s : State),
      (p < 4) ∧ (flag s (fRGx_IR_STAT_RUNNING p) = true) ∧ (irAllowed s p = true) ∧ ((getPort s p).irRetry = none) ∧ (s.clk < (getPort s p).irSince + 10000000) ∧ ((getPort s p).irTries < 2)) ∧
    (∃ (p : Nat) (d : Nat) (s : State),
      (p < 4) ∧ (flag s (fRGx_IR_STAT_RUNNING p) = true) ∧ (irAllowed s p = true) ∧ ((getPort s p).irRetry = some d) ∧ (d ≤ s.clk) ∧ (linkUp s p = false)) ∧
    (∃ (p : Nat) (kohm : Nat) (s : State),
      (p < 4) ∧ (flag s (fRGx_IR_STAT_RUNNING p) = true) ∧ (irAllowed s p = true) ∧ ((getPort s p).irRetry = none) ∧ ((getPort s p).irSince + 360000000 ≤ s.clk) ∧ (100 ≤ kohm) ∧ (kohm ≤ 1000000)) ∧
    (∃ (w : Writer) (p : Nat) (v : Word) (s : State),
      (p < 4) ∧ (mayWrite w (oRGx_TDR_CTL p) s = true) ∧ (linkUp s p = true) ∧ (bitsOf v.toNat 1 1 = 0)) ∧
    (∃ (w : Writer) (p : Nat) (v : Word) (s : State),
      (p < 4) ∧ (mayWrite w (oRGx_TDR_CTL p) s = true) ∧ (linkUp s p = false) ∧ ((getPort s p).tdrPhase = 0) ∧ (pairInLine s (p / 2) = true) ∧ (isCopper s p = true)) ∧
    (∃ (p : Nat) (s : State),
      (p < 4) ∧ ((getPort s p).tdrPhase = 1) ∧ ((getPort s p).tdrSince + 1000000 ≤ s.clk)) ∧
    (∃ (p : Nat) (s : State),
      (p < 4) ∧ ((getPort s p).tdrPhase = 1) ∧ ((getPort s p).tdrSince + 20000000 ≤ s.clk) ∧ (portAlive s p = true) ∧ (inSelf s p = false)) ∧
    (∃ (p : Nat) (l : List (Nat × Int)) (r : List (Nat × Int)) (s : State),
      (p < 4) ∧ ((getPort s p).tdrPhase = 2) ∧ ((getPort s p).tdrSince + 4096000 ≤ s.clk) ∧ (portAlive s p = true) ∧ (inSelf s p = false) ∧ (r = reflections s p l)) ∧
    (∃ (p : Nat) (s : State),
      (p < 4) ∧ (portAlive s p = true) ∧ (silent s p = false) ∧ ((getPort s p).tdrPhase = 0)) ∧
    (∃ (p : Nat) (d : Nat) (s : State),
      (p < 4) ∧ ((getPort s p).quietUntil = some d) ∧ (d ≤ s.clk) ∧ (portAlive s p = true) ∧ (inSelf s p = false)) :=
  ⟨⟨3, allOn, by decide⟩,
   ⟨3, irMay 3, by decide⟩,
   ⟨3, allOn, by decide⟩,
   ⟨3, setPort 3 { Port.init with irTries := 2 } (irRuns 3), by decide⟩,
   ⟨3, irRuns 3, by decide⟩,
   ⟨3, 0, setPort 3 { Port.init with irRetry := some 0 } (irRuns 3), by decide⟩,
   ⟨3, 1000000, { irRuns 3 with clk := 360000000 }, by decide⟩,
   ⟨.steward, 3, 1, linkPort 3 2 3, by decide⟩,
   ⟨.steward, 3, 1, setF (fRGx_BYP_STAT_STATE 1) 3 (portAt 3 2 1), by decide⟩,
   ⟨3, { setPort 3 { Port.init with tdrPhase := 1 } allOn with clk := 1000000 }, by decide⟩,
   ⟨3, { setPort 3 { Port.init with tdrPhase := 1 } (portAt 3 2 5) with clk := 20000000 }, by decide⟩,
   ⟨3, [(1000, 100)], reflections tdrS 3 [(1000, 100)], tdrS, by decide⟩,
   ⟨3, linkPort 3 2 3, by decide⟩,
   ⟨3, 0, setPort 3 { Port.init with quietUntil := some 0 } (portRdy 3 2), by decide⟩⟩


theorem test_meets_MediaBypass :
    (∃ (w : Writer) (x : Nat) (v : Word) (s : State),
      (x < 2) ∧ (mayWrite w (oRGx_BYP_CTL x) s = true)) ∧
    (∃ (w : Writer) (x : Nat) (v : Word) (s : State),
      (x < 2) ∧ (mayWrite w (oRGx_BYP_CTL x) s = true) ∧ (bitsOf v.toNat 0 1 = 1) ∧ (flag s (fRGx_BYP_CTL_HOLD_EN x) = false) ∧ (flag s (fRGx_BYP_STAT_LOCKED_OUT x) = false)) ∧
    (∃ (w : Writer) (x : Nat) (v : Word) (s : State),
      (x < 2) ∧ (mayWrite w (oRGx_BYP_CTL x) s = true) ∧ (bitsOf v.toNat 0 1 = 0) ∧ (flag s (fRGx_BYP_CTL_HOLD_EN x) = true)) ∧
    (∃ (x : Nat) (re : Nat) (rw : Nat) (s : State),
      (x < 2) ∧ (selfTrained s x re rw = true) ∧ (standsIn s x = false)) ∧
    (∃ (x : Nat) (s : State),
      (x < 2) ∧ (getF s (fRGx_BYP_STAT_STATE x) = 1) ∧ ((getByp s x).trainAt ≤ s.clk)) ∧
    (∃ (x : Nat) (sense : Bool) (d : Nat) (s : State),
      (x < 2) ∧ ((getByp s x).settleAt = some d) ∧ (d ≤ s.clk) ∧ (getF s (fRGx_BYP_STAT_STATE x) = 2) ∧ (flag s (fRGx_BYP_CTL_SENSE_EN x) = true) ∧ (sense = flag s (fRGx_BYP_CTL_SENSE_POL x))) ∧
    (∃ (x : Nat) (sense : Bool) (d : Nat) (s : State),
      (x < 2) ∧ ((getByp s x).settleAt = some d) ∧ (d ≤ s.clk) ∧ (getF s (fRGx_BYP_STAT_STATE x) = 2) ∧ (sense ≠ flag s (fRGx_BYP_CTL_SENSE_POL x))) ∧
    (∃ (x : Nat) (d : Nat) (l : List Nat) (u : State) (s : State),
      (x < 2) ∧ ((getByp s x).downSince = some d) ∧ (pairInLine s x = true) ∧ (flag s (fRGx_BYP_CTL_AUTO_DROP x) = true) ∧ (d + 250000000 * getF s (fRGx_BYP_CTL_DROP_TIME x) < s.clk) ∧ (l = s.clk :: (getByp s x).drops.filter (fun d => s.clk ≤ d + 600000000000)) ∧ (l.length < 3) ∧ (u = setF (fRGx_BYP_STAT_DROPS x) (min 15 l.length) (setByp x { getByp s x with drops := l } s))) ∧
    (∃ (x : Nat) (d : Nat) (s : State),
      (x < 2) ∧ ((getByp s x).downSince = some d) ∧ (pairInLine s x = true) ∧ (flag s (fRGx_BYP_CTL_AUTO_DROP x) = true) ∧ (d + 250000000 * getF s (fRGx_BYP_CTL_DROP_TIME x) < s.clk) ∧ ((getByp s x).drops = [])) :=
  ⟨⟨.steward, 1, 5, allOn, by decide⟩,
   ⟨.steward, 1, 5, allOn, by decide⟩,
   ⟨.steward, 1, 4, setF (fRGx_BYP_CTL_HOLD_EN 1) 1 (bypAt 1 3), by decide⟩,
   ⟨1, 0, 0, selfS 1, by decide⟩,
   ⟨1, bypAt 1 1, by decide⟩,
   ⟨1, false, 0, setF (fRGx_BYP_CTL_SENSE_EN 1) 1 (setByp 1 { Bypass.init with settleAt := some 0 } (bypAt 1 2)), by decide⟩,
   ⟨1, true, 0, setByp 1 { Bypass.init with settleAt := some 0 } (bypAt 1 2), by decide⟩,
   ⟨1, 0, [1], setF (fRGx_BYP_STAT_DROPS 1) 1 (setByp 1 { Bypass.init with downSince := some 0, drops := [1] } dropDue), dropDue, by decide⟩,
   ⟨1, 0, dropDue, by decide⟩⟩


theorem test_meets_RingFrames :
    (∃ (p : Nat) (r : RxFrame) (s : State),
      (p < 4) ∧ (ringUp s p = false)) ∧
    (∃ (p : Nat) (r : RxFrame) (s : State),
      (p < 4) ∧ (linkUp s p = true) ∧ (protectedPort s p = false) ∧ (r.hchk ≠ frameHchk r.frame)) ∧
    (∃ (p : Nat) (r : RxFrame) (v : State) (u : State) (s : State),
      (p < 4) ∧ (ringUp s p = true) ∧ (v = addF (fRGx_RP_BLK_ERR_BLK_ERR p) r.strays s) ∧ (protectedPort v p = false) ∧ (r.hchk = frameHchk r.frame) ∧ (classAllowed r.frame.typ r.frame.cls = true) ∧ (numbered v = true → r.frame.ring = pairRing v (p / 2)) ∧ (portState v p ≠ 4) ∧ (r.fin = .good) ∧ (r.crc = frameCrc r.frame) ∧ (wayOf v (p / 2) r.frame = .on_) ∧ (u = seedSeq (p / 2) r.frame (countEv 5 (8 * p + r.frame.cls) 1 v))) ∧
    (∃ (p : Nat) (r : RxFrame) (v : State) (u : State) (s : State),
      (p < 4) ∧ (ringUp s p = true) ∧ (v = addF (fRGx_RP_BLK_ERR_BLK_ERR p) r.strays s) ∧ (protectedPort v p = false) ∧ (r.hchk = frameHchk r.frame) ∧ (classAllowed r.frame.typ r.frame.cls = true) ∧ (r.frame.ring = pairRing v (p / 2)) ∧ (portState v p ≠ 4) ∧ (r.fin = .good) ∧ (r.crc = frameCrc r.frame) ∧ (wayOf v (p / 2) r.frame = .here) ∧ (u = seedSeq (p / 2) r.frame (countEv 5 (8 * p + r.frame.cls) 1 v))) ∧
    (∃ (p : Nat) (s : State),
      (p < 4) ∧ ((getPort s p).txUntil ≤ s.clk) ∧ (ringUp s p = true) ∧ (domOn s 3 = true) ∧ (arbitrate s p = none)) ∧
    (∃ (p : Nat) (c : Nat) (g : Option Nat) (i : Nat) (x : Item) (f : Frame) (s : State),
      (p < 4) ∧ ((getPort s p).txUntil ≤ s.clk) ∧ (ringUp s p = true) ∧ (domOn s 3 = true) ∧ (arbitrate s p = some (c, g)) ∧ (offered s p c = some (i, x, f)) ∧ (g = none)) ∧
    (∃ (f : Frame) (u : State) (s : State),
      (takeRx (fun f => f.typ == 1) s = some (f, u)) ∧ (isCoupler u = false) ∧ (subscribed u f.src (f.dest % 64) = false)) ∧
    (∃ (f : Frame) (u : State) (v : State) (s : State),
      (takeRx (fun f => f.typ == 1) s = some (f, u)) ∧ (isCoupler u = false) ∧ (subscribed u f.src (f.dest % 64) = true) ∧ (deliverQ 32 (.words (wd (f.src % 4096) :: f.payload)) 0 u = some v)) ∧
    (∃ (f : Frame) (u : State) (a : Unacked) (s : State),
      (takeRx (fun f => f.typ == 4) s = some (f, u)) ∧ (findUnacked u (pw f 0 % 8) f.aux = some a)) ∧
    (∃ (f : Frame) (u : State) (a : Unacked) (s : State),
      (takeRx (fun f => f.typ == 5) s = some (f, u)) ∧ (findUnacked u (pw f 0 % 8) f.aux = some a) ∧ (bitsOf (pw f 0) 8 8 = 4)) ∧
    (∃ (f : Frame) (u : State) (s : State),
      (takeRx (fun f => f.typ == 6) s = some (f, u)) ∧ (f.src = nodeId u) ∧ ([wd (pw f 0), wd (pw f 1)] ≠ (beaconPayload u).take 2)) ∧
    (∃ (f : Frame) (u : State) (s : State),
      (takeRx (fun f => f.typ == 6) s = some (f, u)) ∧ (f.src ≠ nodeId u) ∧ (f.hops = 0) ∧ (f.fabric = false)) ∧
    (∃ (f : Frame) (u : State) (d : Nat) (s : State),
      (takeRx (fun f => f.typ == 6) s = some (f, u)) ∧ (f.src = nodeId u) ∧ ([wd (pw f 0), wd (pw f 1)] = (beaconPayload u).take 2) ∧ (u.ring.beaconAt = some d) ∧ (f.sq = u.ring.beaconSeq) ∧ (insSet (bit f.west) u.ring.beaconBack = [0, 1])) ∧
    (∃ (f : Frame) (u : State) (s : State),
      (takeRx (fun f => f.typ == 9) s = some (f, u)) ∧ (tget (fun _ => none) u.ring.streams (streamKey f) = none) ∧ (f.replay = false)) ∧
    (∃ (f : Frame) (u : State) (s : State),
      (takeRx (fun f => f.typ == 9) s = some (f, u)) ∧ (tget (fun _ => none) u.ring.streams (streamKey f) = none) ∧ (f.replay = true)) ∧
    (∃ (f : Frame) (u : State) (st : Stream) (s : State),
      (takeRx (fun f => f.typ == 10) s = some (f, u)) ∧ (tget (fun _ => none) u.ring.streams (streamKey f) = some st) ∧ (f.replay = false) ∧ (f.aux = st.next) ∧ (st.held.any (fun g => g.aux == f.aux) = false)) ∧
    (∃ (f : Frame) (u : State) (v : State) (n : Nat) (s : State),
      (takeRx (fun f => f.typ == 11) s = some (f, u)) ∧ (deliverQ (32 + f.cls) (.frame f) f.cls u = some v) ∧ (tget (fun _ => none) v.ring.streams (streamKey f) = none) ∧ (n = (f.aux + 1) % 65536)) ∧
    (∃ (f : Frame) (u : State) (v : State) (st : Stream) (k : Nat) (s : State),
      (takeRx (fun f => f.typ == 12) s = some (f, u)) ∧ (deliverQ (32 + f.cls) (.frame f) f.cls u = some v) ∧ (k = 4 * f.src + pw f 0 / 2 % 2 * 2 + pw f 0 % 2) ∧ (tget (fun _ => none) v.ring.streams k = some st) ∧ (st.gapAt ≠ none)) :=
  ⟨⟨3, ⟨fr 1 0 0 [], 0, 0, .good, 0, 0, true, 0⟩, allOn, by decide⟩,
   ⟨3, ⟨fr 1 0 0 [], frameHchk (fr 1 0 0 []) + 1, 0, .good, 0, 0, true, 5⟩, linkAt 3, by decide⟩,
   ⟨3, rxOn, addF (fRGx_RP_BLK_ERR_BLK_ERR 3) 0 (linkAt 3), seedSeq 1 rxOn.frame (countEv 5 24 1 (addF (fRGx_RP_BLK_ERR_BLK_ERR 3) 0 (linkAt 3))), linkAt 3, by decide⟩,
   ⟨3, rxHere, addF (fRGx_RP_BLK_ERR_BLK_ERR 3) 0 linkNum, seedSeq 1 rxHere.frame (countEv 5 26 1 (addF (fRGx_RP_BLK_ERR_BLK_ERR 3) 0 linkNum)), linkNum, by decide⟩,
   ⟨3, linkAt 3, by decide⟩,
   ⟨2, 2, none, egX.1, egX.2.1, egX.2.2, egS, by decide⟩,
   ⟨fr 1 0 7 [0, 0, 0], rest (takeRx (fun f => f.typ == 1) (rxWith (fr 1 0 7 [0, 0, 0]))), rxWith (fr 1 0 7 [0, 0, 0]), by decide⟩,
   ⟨sweepF, rest (takeRx (fun f => f.typ == 1) sweepRx), unst (deliverQ 32 (.words (wd (sweepF.src % 4096) :: sweepF.payload)) 0 (rest (takeRx (fun f => f.typ == 1) sweepRx))), sweepRx, by decide⟩,
   ⟨fr 4 2 3 [5], rest (takeRx (fun f => f.typ == 4) ackU), unack 0, ackU, by decide⟩,
   ⟨fr 5 2 3 [5 + 4 * 256], rest (takeRx (fun f => f.typ == 5) nakU), unack 0, nakU, by decide⟩,
   ⟨{ fr 6 2 7 [1, 0, 0] with src := nodeId stwUp }, rest (takeRx (fun f => f.typ == 6) (rxWith { fr 6 2 7 [1, 0, 0] with src := nodeId stwUp })), rxWith { fr 6 2 7 [1, 0, 0] with src := nodeId stwUp }, by decide⟩,
   ⟨fr 6 2 7 [0, 0, 0], rest (takeRx (fun f => f.typ == 6) (rxWith (fr 6 2 7 [0, 0, 0]))), rxWith (fr 6 2 7 [0, 0, 0]), by decide⟩,
   ⟨ownBcn, rest (takeRx (fun f => f.typ == 6) bcnS), 0, bcnS, by decide⟩,
   ⟨fr 9 3 7 [0, 0, 0], rest (takeRx (fun f => f.typ == 9) (rxWith (fr 9 3 7 [0, 0, 0]))), rxWith (fr 9 3 7 [0, 0, 0]), by decide⟩,
   ⟨{ fr 9 3 7 [0] with replay := true }, rest (takeRx (fun f => f.typ == 9) (rxWith { fr 9 3 7 [0] with replay := true })), rxWith { fr 9 3 7 [0] with replay := true }, by decide⟩,
   ⟨fr 10 3 7 [0], rest (takeRx (fun f => f.typ == 10) dfrU), strm, dfrU, by decide⟩,
   ⟨fr 11 3 7 [0], rest (takeRx (fun f => f.typ == 11) (rxWith (fr 11 3 7 [0]))), unst (deliverQ 35 (.frame (fr 11 3 7 [0])) 3 (rest (takeRx (fun f => f.typ == 11) (rxWith (fr 11 3 7 [0]))))), 8, rxWith (fr 11 3 7 [0]), by decide⟩,
   ⟨fr 12 3 7 [0], rest (takeRx (fun f => f.typ == 12) goneU), unst (deliverQ 35 (.frame (fr 12 3 7 [0])) 3 (rest (takeRx (fun f => f.typ == 12) goneU))), strG, 36, goneU, by decide⟩⟩


theorem test_meets_RingRequests :
    (∃ (ecc : List (Nat × Ecc)) (f : Frame) (u : State) (s : State),
      (takeQ 37 (fun f => f.typ == 13) s = some (f, u)) ∧ (addrNode (reqAddr f) ≠ nodeId u)) ∧
    (∃ (ecc : List (Nat × Ecc)) (cause : Nat) (f : Frame) (u : State) (s : State),
      (takeQ 37 (fun f => f.typ == 13) s = some (f, u)) ∧ (addrNode (reqAddr f) = nodeId u) ∧ (1 ≤ reqCount f) ∧ (reqCount f ≤ 682) ∧ (readCause u f.src (reqAddr f) (reqCount f) = some cause)) ∧
    (∃ (ecc : List (Nat × Ecc)) (f : Frame) (u : State) (s : State),
      (takeQ 37 (fun f => f.typ == 13) s = some (f, u)) ∧ (addrNode (reqAddr f) = nodeId u) ∧ (1 ≤ reqCount f) ∧ (reqCount f ≤ 682) ∧ (readCause u f.src (reqAddr f) (reqCount f) = none)) ∧
    (∃ (f : Frame) (u : State) (r : ReadOut) (v : State) (s : State),
      (takeQ 37 (fun f => f.typ == 14) s = some (f, u)) ∧ (tget (fun _ => none) u.ring.readTags f.aux = some r) ∧ (v = { u with ring := { u.ring with
          readTags := tset (fun _ => none) f.aux none u.ring.readTags
          unacked := match readUnacked u f.aux with
            | some a => u.ring.unacked.filter (fun v => v != a)
            | none => u.ring.unacked } })) ∧
    (∃ (f : Frame) (u : State) (r : ReadOut) (v : State) (s : State),
      (takeQ 37 (fun f => f.typ == 15) s = some (f, u)) ∧ (tget (fun _ => none) u.ring.readTags f.aux = some r) ∧ (v = { u with ring := { u.ring with
          readTags := tset (fun _ => none) f.aux none u.ring.readTags
          unacked := match readUnacked u f.aux with
            | some a => u.ring.unacked.filter (fun v => v != a)
            | none => u.ring.unacked } })) ∧
    (∃ (f : Frame) (u : State) (r : ReadOut) (s : State),
      (takeQ 37 (fun f => f.typ == 16) s = some (f, u)) ∧ (tget (fun _ => none) u.ring.readTags f.aux = some r)) ∧
    (∃ (ecc : Ecc) (f : Frame) (u : State) (s : State),
      (takeQ 38 (fun f => f.typ == 17) s = some (f, u)) ∧ (addrNode (reqAddr f) = nodeId u) ∧ (1 ≤ reqCount f) ∧ (reqCount f ≤ 679) ∧ (reqCount f = (f.payload.drop 3).length)) ∧
    (∃ (ecc : Ecc) (f : Frame) (u : State) (s : State),
      (takeQ 38 (fun f => f.typ == 17) s = some (f, u)) ∧ (reqCount f ≠ (f.payload.drop 3).length)) ∧
    (∃ (f : Frame) (u : State) (s : State),
      (stwRuns s = true) ∧ (takeQ 39 (fun f => f.typ == 18) s = some (f, u)) ∧ (bulkTarget u f = none)) ∧
    (∃ (f : Frame) (u : State) (g : Staging) (k : Nat) (b : BulkIn) (ws : List Word) (s : State),
      (stwRuns s = true) ∧ (takeQ 39 (fun f => f.typ == 18) s = some (f, u)) ∧ (bulkTarget u f = some g) ∧ (k = 65536 * f.src + f.aux) ∧ (getBulkIn u k = some b) ∧ (pw f 0 = b.expect) ∧ (b.since < 15) ∧ (ws = f.payload.drop 1)) ∧
    (∃ (f : Frame) (u : State) (b : BulkOut) (s : State),
      (stwRuns s = true) ∧ (takeQ 39 (fun f => f.typ == 19) s = some (f, u)) ∧ (getBulkOut u f.aux = some b) ∧ (b.dest = f.src) ∧ (b.words.length ≤ pw f 0)) ∧
    (∃ (f : Frame) (u : State) (s : State),
      (stwRuns s = true) ∧ (takeQ 39 (fun f => f.typ == 20) s = some (f, u)) ∧ (getBulkOut u f.aux = none)) ∧
    (∃ (f : Frame) (u : State) (s : State),
      (stwRuns s = true) ∧ (takeQ 34 (fun f => f.typ == 8) s = some (f, u))) :=
  ⟨⟨[], fr 13 5 7 [0, 5, 1], restQ 37 13 (qFrame 37 (fr 13 5 7 [0, 5, 1])), qFrame 37 (fr 13 5 7 [0, 5, 1]), by decide⟩,
   ⟨[], cADDRESS, fr 13 5 7 (adr 7 0 ++ [1]), restQ 37 13 (qFrame 37 (fr 13 5 7 (adr 7 0 ++ [1]))), qFrame 37 (fr 13 5 7 (adr 7 0 ++ [1])), by decide⟩,
   ⟨[], fr 13 5 7 (adr 0 0 ++ [1]), restQ 37 13 (qFrame 37 (fr 13 5 7 (adr 0 0 ++ [1]))), qFrame 37 (fr 13 5 7 (adr 0 0 ++ [1])), by decide⟩,
   ⟨fr 14 5 7 [6], restQ 37 14 (tagS 14), ro, closedTag 7 (restQ 37 14 (tagS 14)), tagS 14, by decide⟩,
   ⟨fr 15 5 7 [6], restQ 37 15 (tagS 15), ro, closedTag 7 (restQ 37 15 (tagS 15)), tagS 15, by decide⟩,
   ⟨fr 16 5 7 [6], restQ 37 16 (tagS 16), ro, tagS 16, by decide⟩,
   ⟨.ok, fr 17 6 7 (adr 0 0 ++ [1, 5]), restQ 38 17 (qFrame 38 (fr 17 6 7 (adr 0 0 ++ [1, 5]))), qFrame 38 (fr 17 6 7 (adr 0 0 ++ [1, 5])), by decide⟩,
   ⟨.ok, fr 17 6 7 [0, 0, 5, 1], restQ 38 17 (qFrame 38 (fr 17 6 7 [0, 0, 5, 1])), qFrame 38 (fr 17 6 7 [0, 0, 5, 1]), by decide⟩,
   ⟨fr 18 7 7 [0, 0, 0], restQ 39 18 (qFrame 39 (fr 18 7 7 [0, 0, 0])), qFrame 39 (fr 18 7 7 [0, 0, 0]), by decide⟩,
   ⟨fr 18 7 5 [0, 7], restQ 39 18 bulkDataS, stg 2 0 9, 65536 * 9 + 5, ⟨0, 0, 0, false⟩, [7], bulkDataS, by decide⟩,
   ⟨fr 19 7 7 [5], restQ 39 19 bulkAckS, ⟨9, [1], 0, 1, 0, 0⟩, bulkAckS, by decide⟩,
   ⟨fr 20 7 7 [0, 0, 0], restQ 39 20 (qFrame 39 (fr 20 7 7 [0, 0, 0])), qFrame 39 (fr 20 7 7 [0, 0, 0]), by decide⟩,
   ⟨fr 8 2 7 [0, 0, 0], restQ 34 8 (qFrame 34 (fr 8 2 7 [0, 0, 0])), qFrame 34 (fr 8 2 7 [0, 0, 0]), by decide⟩⟩


theorem test_meets_RingSessions :
    (∃ (f : Frame) (u : State) (d : Nat) (v : State) (s : State),
      (stwRuns s = true) ∧ (takeQ 34 (isControl 0) s = some (f, u)) ∧ ([2, 3, 4, 5].find? (fun d => !flag u (fDSK_DESK_SESSION d) && getF u (fDSK_DESK_STATE d) != 1) = some d) ∧ (v = openSession d f.src (nodeRights u f.src) u)) ∧
    (∃ (f : Frame) (u : State) (s : State),
      (stwRuns s = true) ∧ (takeQ 34 (isControl 0) s = some (f, u)) ∧ ([2, 3, 4, 5].find? (fun d => !flag u (fDSK_DESK_SESSION d) && getF u (fDSK_DESK_STATE d) != 1) = none)) ∧
    (∃ (f : Frame) (u : State) (s : State),
      (stwRuns s = true) ∧ (takeQ 34 (isControl 1) s = some (f, u)) ∧ (holdsSession u f = false)) ∧
    (∃ (f : Frame) (u : State) (s : State),
      (stwRuns s = true) ∧ (takeQ 34 (isControl 1) s = some (f, u)) ∧ (holdsSession u f = true)) ∧
    (∃ (f : Frame) (u : State) (s : State),
      (stwRuns s = true) ∧ (takeQ 34 (isControl 2) s = some (f, u))) ∧
    (∃ (f : Frame) (u : State) (s : State),
      (stwRuns s = true) ∧ (takeQ 34 (isControl 3) s = some (f, u)) ∧ (holdsSession u f = true)) ∧
    (∃ (f : Frame) (u : State) (s : State),
      (stwRuns s = true) ∧ (takeQ 34 (isControl 3) s = some (f, u)) ∧ (holdsSession u f = false)) ∧
    (∃ (p : Nat) (node : Nat) (ed : Nat) (d : Nat) (s : State),
      (p < 4) ∧ (tget (fun _ => none) s.ring.nbrEd p = some (node, ed, d)) ∧ (d + 1000000000 ≤ s.clk) ∧ (s.ring.nbrRaised = false) ∧ (stwRuns s = true)) :=
  ⟨⟨ctl 0, restC 0 (ctlS 0), 2, openSession 2 9 (nodeRights (restC 0 (ctlS 0)) 9) (restC 0 (ctlS 0)), ctlS 0, by decide⟩,
   ⟨ctl 0, restC 0 deskFull, deskFull, by decide⟩,
   ⟨ctl 1, restC 1 (ctlS 1), ctlS 1, by decide⟩,
   ⟨ctl 1, restC 1 (sessS 1), sessS 1, by decide⟩,
   ⟨ctl 2, restC 2 (ctlS 2), ctlS 2, by decide⟩,
   ⟨ctl 3, restC 3 (sessS 3), sessS 3, by decide⟩,
   ⟨ctl 3, restC 3 (ctlS 3), ctlS 3, by decide⟩,
   ⟨2, 7, 5, 0, edgeNbr, by decide⟩⟩


theorem test_meets_RingTime :
    (∃ (f : Frame) (u : State) (s : State),
      (takeRx (fun f => f.typ == 2) s = some (f, u)) ∧ (u.rtime.gm = some (nodeId u))) ∧
    (∃ (f : Frame) (u : State) (g : Frame) (corr : Nat) (s : State),
      (takeRx (fun f => f.typ == 2) s = some (f, u)) ∧ (u.rtime.gm ≠ some (nodeId u)) ∧ ((isCoupler u && framePair u f == awayPair u) = false) ∧ (u.rtime.source = none) ∧ (tget (fun _ => none) u.rtime.syncSeen f.src = none) ∧ (g = moveCorr f (256 * u.clk)) ∧ (corr = ofLE [pw g 3 % 256, pw g 3 / 256 % 256, pw g 3 / 65536, pw g 4 % 256, pw g 4 / 256 % 256, pw g 4 / 65536])) ∧
    (∃ (f : Frame) (u : State) (c : Candidate) (s : State),
      (getQ s 33 = []) ∧ (takeRx (fun f => f.typ == 3) s = some (f, u)) ∧ (c = ⟨bitsOf (pw f 0) 0 12, bitsOf (pw f 0) 12 8, bitsOf (pw f 0) 20 1 == 1, u.clk⟩)) ∧
    (∃ (p : Nat) (sq : Nat) (turn : Nat) (s : State),
      (p < 4) ∧ (linkUp s p = true)) ∧
    (∃ (p : Nat) (sq : Nat) (turn : Nat) (el : Nat) (at0 : Nat) (s : State),
      (p < 4) ∧ ((getPort s p).dlyOut = some (sq, at0)) ∧ ((getPort s p).delays = [])) ∧
    (∃ (p : Nat) (n : Nat) (s : State),
      (p < 4) ∧ (linkUp s p = true) ∧ ((getPort s p).dlyDue ≤ s.clk) ∧ (n = ((getPort s p).dlySeq + 1) % 65536)) ∧
    (∃ (u : State) (s : State),
      (numbered s = true) ∧ (s.ring.stopped = false) ∧ (seedDone s (homePair s) = true) ∧ (s.rtime.syncDue ≤ s.clk) ∧ (s.rtime.gm = some (nodeId s)) ∧ (isCoupler s = false) ∧ (u = sendSync (homePair s) 0 (nodeId s) (getF s fRTM_CTL_GM_PRIO) s)) ∧
    (∃ (u : State) (s : State),
      (eligible s = true) ∧ (seedDone s (homePair s) = true) ∧ (s.rtime.announceDue ≤ s.clk) ∧ (heardCands s = []) ∧ (u = selectGm s)) ∧
    (∃ (g : Nat) (s : State),
      (s.rtime.gm = some g) ∧ ((g = nodeId s && numbered s) = false) ∧ ((heardCands s).any (fun c => c.node == g) = false)) ∧
    (∃ (g : Nat) (s : State),
      (s.rtime.gm = some g) ∧ ((g = nodeId s && numbered s) = false) ∧ ((heardCands s).any (fun c => c.node == g) = false) ∧ (gmLost s = true) ∧ (chosenGm s ≠ some g)) ∧
    (∃ (g : Nat) (s : State),
      (numbered s = true) ∧ (s.rtime.gm = some g) ∧ (g ≠ nodeId s) ∧ (s.rtime.otherAt = none) ∧ (s.rtime.syncLast + 3 * syncInterval s ≤ s.clk)) ∧
    (∃ (d : Nat) (s : State),
      (s.rtime.offSince = some d) ∧ (d + 10000000000 ≤ s.clk) ∧ (s.rtime.offRaised = false)) ∧
    (∃ (s : State),
      (flag s fRTM_CTL_PPS_IN_EN = true) ∧ (s.rtime.gm = some (nodeId s)) ∧ (numbered s = true) ∧ (s.ringNs % 1000000000 ≤ 1000)) ∧
    (∃ (s : State),
      (flag s fRTM_CTL_PPS_IN_EN = true) ∧ (s.rtime.gm = some (nodeId s)) ∧ (numbered s = true) ∧ (flag s fRTM_STATUS_PPS_LOCKED = false) ∧ (1000 < s.ringNs % 1000000000) ∧ (s.ringNs % 1000000000 < 500000000)) ∧
    (∃ (d : Nat) (s : State),
      (s.rtime.ppsLast = some d) ∧ (flag s fRTM_STATUS_PPS_LOCKED = true) ∧ (flag s fRTM_CTL_PPS_IN_EN = true) ∧ (flag s fRTM_STATUS_GM = true) ∧ (d + 3000000000 ≤ s.clk)) ∧
    (∃ (s : State),
      (flag s fRTM_CTL_PPS_OUT_EN = true) ∧ (s.ringNs % 1000000000 < 1000) ∧ (s.rtime.ppsHigh = none)) :=
  ⟨⟨fr 2 0 5 [], rest (takeRx (fun f => f.typ == 2) (rt (fun r => { r with gm := some (nodeId stwUp) }) (rxWith (fr 2 0 5 [])))), rt (fun r => { r with gm := some (nodeId stwUp) }) (rxWith (fr 2 0 5 [])), by decide⟩,
   ⟨fr 2 0 5 [0, 0, 0, 0, 0, 0], rest (takeRx (fun f => f.typ == 2) (rxWith (fr 2 0 5 [0, 0, 0, 0, 0, 0]))), moveCorr (fr 2 0 5 [0, 0, 0, 0, 0, 0]) 0, 0, rxWith (fr 2 0 5 [0, 0, 0, 0, 0, 0]), by decide⟩,
   ⟨sync33, rest (takeRx (fun f => f.typ == 3) (rxWith sync33)), ⟨0, 0, false, 0⟩, rxWith sync33, by decide⟩,
   ⟨3, 5, 7, linkAt 3, by decide⟩,
   ⟨3, 5, 7, 10, 0, port 3 (fun x => { x with dlyOut := some (5, 0) }) allOn, by decide⟩,
   ⟨3, 1, linkAt 3, by decide⟩,
   ⟨(fun s => sendSync (homePair s) 0 (nodeId s) (getF s fRTM_CTL_GM_PRIO) s) gmUp, gmUp, by decide⟩,
   ⟨selectGm (setF fRTM_CTL_GM_PRIO 5 homeUp), setF fRTM_CTL_GM_PRIO 5 homeUp, by decide⟩,
   ⟨5, rt (fun r => { r with gm := some 5 }) numUp, by decide⟩,
   ⟨5, gmLostS, by decide⟩,
   ⟨5, atClk (10 ^ 12) (rt (fun r => { r with gm := some 5 }) numUp), by decide⟩,
   ⟨0, atClk (10 ^ 10) (rt (fun r => { r with offSince := some 0 }) numUp), by decide⟩,
   ⟨ppsS 5000000700, by decide⟩,
   ⟨ppsS 5000700000, by decide⟩,
   ⟨0, atClk (10 ^ 10) (rt (fun r => { r with ppsLast := some 0 }) (setF fRTM_CTL_PPS_IN_EN 1 (setF fRTM_STATUS_GM 1 (setF fRTM_STATUS_PPS_LOCKED 1 allOn)))), by decide⟩,
   ⟨{ setF fRTM_CTL_PPS_OUT_EN 1 allOn with ringNs := 3000000000 }, by decide⟩⟩


theorem test_meets_RingTimers :
    (∃ (c : Nat) (sq : Nat) (a : Unacked) (s : State),
      (findUnacked s c sq = some a) ∧ (a.sentAt + tAck s a.frame ≤ s.clk) ∧ (reissueOwed s a.frame = false) ∧ (a.resends < 3)) ∧
    (∃ (c : Nat) (sq : Nat) (a : Unacked) (s : State),
      (findUnacked s c sq = some a) ∧ (a.sentAt + tAck s a.frame ≤ s.clk) ∧ (reissueOwed s a.frame = false) ∧ (3 ≤ a.resends)) ∧
    (∃ (d : Option Nat) (c : Nat) (key : Nat) (m : Nat) (s : State),
      (key = 2 * d.getD 4096 + (c - 3)) ∧ (tget (fun _ => none) s.ring.evMark key = some m) ∧ (m + 1000000 ≤ s.clk)) ∧
    (∃ (src : Nat) (b : Bool) (c : Nat) (key : Nat) (st : Stream) (d : Nat) (s : State),
      (key = 4 * src + 2 * bit b + (c - 3)) ∧ (tget (fun _ => none) s.ring.streams key = some st) ∧ (st.gapAt = some d) ∧ (d + 5000000 ≤ s.clk)) ∧
    (∃ (n : Nat) (u : State) (s : State),
      (numbered s = true) ∧ (s.ring.stopped = false) ∧ (seedDone s (homePair s) = true) ∧ (s.ring.beaconDue ≤ s.clk) ∧ (n = s.ring.beaconCount + 1) ∧ (homeKeptAlive s = false) ∧ (u = { s with ring := { s.ring with beaconCount := n % 100, beaconDue := s.clk + 10000000 } })) ∧
    (∃ (x : Nat) (d : Nat) (s : State),
      (x < 2) ∧ (x = homePair s) ∧ (s.ring.beaconAt = some d) ∧ (d + 500000000 ≤ s.clk) ∧ (s.ring.beaconBack ≠ [0, 1])) ∧
    (∃ (x : Nat) (d : Nat) (s : State),
      (x < 2) ∧ (tget (fun _ => none) s.ring.seedEnd x = some d) ∧ (d ≤ s.clk) ∧ (numbered s = false)) ∧
    (∃ (src : Nat) (tid : Nat) (b : BulkIn) (s : State),
      (getBulkIn s (65536 * src + tid) = some b) ∧ (b.owed = true) ∧ (b.last + 1000000 ≤ s.clk)) ∧
    (∃ (tid : Nat) (o : Option (Nat × List Word)) (b : BulkOut) (s : State),
      (getBulkOut s tid = some b) ∧ (max b.progress b.started + 5000000 ≤ s.clk)) ∧
    (∃ (tid : Nat) (dest : Nat) (ws : List Word) (s : State),
      (getBulkOut s tid = none) ∧ (stwRuns s = true) ∧ (tid < 65536) ∧ (ws ≠ [])) ∧
    (∃ (tid : Nat) (b : BulkOut) (s : State),
      (getBulkOut s tid = some b) ∧ (b.progress + 1000000000 ≤ s.clk)) ∧
    (∃ (f : Frame) (h : Frame) (tf : Nat) (th : Nat) (s : State),
      (s.ring.waitFar = [(f, tf)]) ∧ (s.ring.waitHome = [(h, th)]) ∧ (tf + 10000 ≤ s.clk) ∧ (isCoupler s = true) ∧ (f.src < h.src)) ∧
    (∃ (i : Nat) (ecc : List (Nat × Ecc)) (e : Edition) (n : ShelfEnt) (c : Nat) (s : State),
      (s.stw.inForce = some e) ∧ (e.shelf.entries[i]? = some n) ∧ (c = s.ringNs / (max 1 e.shelf.cycle * 1000)) ∧ (c % 2 ^ n.divider = n.phase) ∧ (n.offset * 1000 ≤ s.ringNs % (max 1 e.shelf.cycle * 1000)) ∧ (numbered s = true) ∧ (n.node = nodeId s) ∧ (seedDone s (homePair s) = true) ∧ (s.rtime.everLocked = true) ∧ (s.ring.stopped = false) ∧ (asleep s = false) ∧ (tget (fun _ => 0) s.ring.swept i ≤ c) ∧ (e.groups = [])) ∧
    (∃ (node : Nat) (group : Nat) (n : ShelfEnt) (cyc : Nat) (k : SweepTrack) (s : State),
      (shelfEnt s node group = some (n, cyc)) ∧ (subscribed s node group = true) ∧ (getSweep s (64 * node + group) = some k) ∧ (k.due ≤ s.ringNs)) :=
  ⟨⟨5, 3, unack 2, ackDue 2, by decide⟩,
   ⟨5, 3, unack 3, ackDue 3, by decide⟩,
   ⟨some 5, 3, 10, 0, atClk (10 ^ 6) (rg (fun r => { r with evMark := [(10, some 0)] }) numUp), by decide⟩,
   ⟨9, false, 3, 36, strG, 0, atClk (10 ^ 7) (setStream 36 strG numUp), by decide⟩,
   ⟨1, rg (fun r => { r with beaconCount := 1, beaconDue := 10000000 }) homeUp, homeUp, by decide⟩,
   ⟨0, 0, atClk (10 ^ 10) (rg (fun r => { r with beaconAt := some 0 }) homeUp), by decide⟩,
   ⟨1, 0, rg (fun r => { r with seedEnd := [(1, some 0)] }) allOn, by decide⟩,
   ⟨9, 7, ⟨1, 1, 0, true⟩, atClk (10 ^ 7) (rg (fun r => { r with bulkIn := [(65536 * 9 + 7, some ⟨1, 1, 0, true⟩)] }) numUp), by decide⟩,
   ⟨7, none, ⟨9, [1], 0, 1, 0, 0⟩, atClk (10 ^ 7) (setBulkOut 7 (some ⟨9, [1], 0, 1, 0, 0⟩) numUp), by decide⟩,
   ⟨7, 9, [1], stwUp, by decide⟩,
   ⟨7, ⟨9, [1], 0, 1, 0, 0⟩, atClk (10 ^ 10) (setBulkOut 7 (some ⟨9, [1], 0, 1, 0, 0⟩) numUp), by decide⟩,
   ⟨fr 13 5 7 [], { fr 13 5 7 [] with src := 10 }, 0, 0, couplerUp, by decide⟩,
   ⟨0, [], sweepEd, ⟨nodeId homeUp, 0, 0, 0, 0, 0, 0⟩, 0, sweepS, by decide⟩,
   ⟨nodeId homeUp, 0, ⟨nodeId homeUp, 0, 0, 3, 0, 0, 0⟩, 1000, ⟨0, [0], 0⟩, sweepS3, by decide⟩⟩


theorem test_meets_SwitchQueues :
    (∃ (qs : List Nat) (ws : List Word) (ch : List (Charge × Nat)) (s : State),
      (qs.all (fun q => q < 256) = true) ∧ (pushOk qs ws = true) ∧ (qs ≠ []) ∧ (s.swq.waits.any (fun w => w.qs.any qs.contains) = false) ∧ (canTake s qs (.words ws) none = some ch)) ∧
    (∃ (qs : List Nat) (ws : List Word) (s : State),
      (qs.all (fun q => q < 256) = true) ∧ (pushOk qs ws = true) ∧ (qs ≠ []) ∧ (s.swq.waits.any (fun w => w.qs.any qs.contains) = true ∨ canTake s qs (.words ws) none = none)) ∧
    (∃ (qs : List Nat) (ws : List Word) (s : State),
      (qs.all (fun q => q < 256) = true) ∧ (pushOk qs ws = false)) ∧
    (∃ (q : Nat) (w : PushWait) (l : List PushWait) (ch : List (Charge × Nat)) (s : State),
      (q < 256) ∧ (s.swq.waits = w :: l) ∧ (w.qs.contains q = true) ∧ (canTake s w.qs w.body none = some ch)) ∧
    (∃ (q : Nat) (chk : ItemCheck) (copies : List (Nat × Nat)) (s : State),
      (q < 256) ∧ (flag s (fSWQ_QSTAT_FROZEN q) = false) ∧ (domOn s 3 = true) ∧ (frontQ s q = none)) ∧
    (∃ (q : Nat) (copies : List (Nat × Nat)) (i : Nat) (x : Item) (s : State),
      (q < 256) ∧ (flag s (fSWQ_QSTAT_FROZEN q) = false) ∧ (domOn s 3 = true) ∧ (frontQ s q = some (i, x)) ∧ (1 ≤ x.refs) ∧ (x.refs ≤ 12) ∧ (x.check = bodyCheck x.body)) ∧
    (∃ (q : Nat) (chk : ItemCheck) (copies : List (Nat × Nat)) (i : Nat) (x : Item) (s : State),
      (q < 256) ∧ (flag s (fSWQ_QSTAT_FROZEN q) = false) ∧ (domOn s 3 = true) ∧ (frontQ s q = some (i, x)) ∧ (x.refs = 0)) ∧
    (∃ (q : Nat) (chk : ItemCheck) (copies : List (Nat × Nat)) (s : State),
      (q < 256) ∧ (flag s (fSWQ_QSTAT_FROZEN q) = true) ∧ (domOn s 3 = true)) ∧
    (∃ (q : Nat) (copies : List (Nat × Nat)) (i : Nat) (x : Item) (ws : List Word) (s : State),
      (q < 256) ∧ (q ≠ 64) ∧ (flag s (fSWQ_QSTAT_FROZEN q) = false) ∧ (domOn s 3 = true) ∧ (frontQ s q = some (i, x)) ∧ (1 ≤ x.refs) ∧ (x.refs ≤ 12) ∧ (x.check = bodyCheck x.body) ∧ (x.body = .words ws)) :=
  ⟨⟨[200], [5], chOf (canTake allOn [200] (.words [5]) none), allOn, by decide⟩,
   ⟨[200], [5], waitS, by decide⟩,
   ⟨[200], [], allOn, by decide⟩,
   ⟨200, waitP, [], chOf (canTake waitS [200] (.words [5]) none), waitS, by decide⟩,
   ⟨255, .ok, [], allOn, by decide⟩,
   ⟨200, [], q200x.1, q200x.2, q200, by decide⟩,
   ⟨200, .ok, [], q200x.1, { q200x.2 with refs := 0 }, refs0, by decide⟩,
   ⟨200, .ok, [], setF (fSWQ_QSTAT_FROZEN 200) 1 q200, by decide⟩,
   ⟨200, [], q200x.1, q200x.2, [5], q200, by decide⟩⟩


theorem test_meets_SwitchMemory :
    (∃ (cell : Nat) (u : State) (v : State) (n : Nat) (s : State),
      (cell < 16384) ∧ (flag s fSWQ_CTL_PATROL_EN = true) ∧ (cellFree s.swq cell = true) ∧ (domOn s 3 = true) ∧ ((visitedNow s).contains cell = false) ∧ (u = { s with swq := { s.swq with patrolAt := patrolPeriod s, patrolled := visitedNow s ++ [cell] } }) ∧ (n = getF u fSWQ_CELLS_SPARE) ∧ (2 ≤ n) ∧ (v = raise 132 (incF fSWQ_RETIRED_RETIRED { u with swq := { u.swq with back := u.swq.back.filter (· != cell), retired := u.swq.retired ++ [cell] } }))) ∧
    (∃ (cell : Nat) (u : State) (v : State) (s : State),
      (cell < 16384) ∧ (flag s fSWQ_CTL_PATROL_EN = true) ∧ (cellFree s.swq cell = true) ∧ (domOn s 3 = true) ∧ ((visitedNow s).contains cell = false) ∧ (u = { s with swq := { s.swq with patrolAt := patrolPeriod s, patrolled := visitedNow s ++ [cell] } }) ∧ (getF u fSWQ_CELLS_SPARE = 1) ∧ (v = raise 132 (incF fSWQ_RETIRED_RETIRED { u with swq := { u.swq with back := u.swq.back.filter (· != cell), retired := u.swq.retired ++ [cell] } }))) ∧
    (∃ (cell : Nat) (u : State) (s : State),
      (cell < 16384) ∧ (flag s fSWQ_CTL_PATROL_EN = true) ∧ (cellFree s.swq cell = true) ∧ (domOn s 3 = true) ∧ ((visitedNow s).contains cell = false) ∧ (u = { s with swq := { s.swq with patrolAt := patrolPeriod s, patrolled := visitedNow s ++ [cell] } })) ∧
    (∃ (cell : Nat) (bad : Bool) (u : State) (s : State),
      (cell < 16384) ∧ (flag s fSWQ_CTL_PATROL_EN = true) ∧ (cellFree s.swq cell = true) ∧ (domOn s 3 = true) ∧ ((visitedNow s).contains cell = false) ∧ (u = { s with swq := { s.swq with patrolAt := patrolPeriod s, patrolled := visitedNow s ++ [cell] } })) ∧
    (∃ (d : Nat) (s : State),
      (s.swq.starved = some d) ∧ (d + 1000000 ≤ s.clk) ∧ (s.swq.starveRaised = false)) ∧
    (∃ (w : Writer) (off : Nat) (v : Word) (s : State),
      (mayWrite w off s = true) ∧ (0x2_0200 ≤ off) ∧ (off < 0x2_0300) ∧ (fitsCells s (minimaWith s off v) (max (tresCells s (reg s 0x2_0004).toNat) (tresCells s (heldOr s 0x2_0004))) = true)) ∧
    (∃ (w : Writer) (off : Nat) (v : Word) (s : State),
      (mayWrite w off s = true) ∧ (0x2_0200 ≤ off) ∧ (off < 0x2_0300) ∧ (fitsCells s (minimaWith s off v) (max (tresCells s (reg s 0x2_0004).toNat) (tresCells s (heldOr s 0x2_0004))) = false)) ∧
    (∃ (kept : List (Nat × Nat)) (u : State) (v : State) (w : State) (s : State),
      (stwRuns s = true) ∧ (flag s fSWQ_STATUS_PTR_FROZEN = true) ∧ (u = (frozenQs s).foldl (rebuildQ kept) s) ∧ (v = ledger 2 128 (usNow u) [wd (128 + bitsOf (reg u 0xC08A).toNat 16 2 * 2 ^ 10), wd (lostItems kept s)] u) ∧ (w = causeOff 128 (setF fSWQ_STATUS_PTR_FROZEN 0 { v with swq := { v.swq with freeFrozen := false, popWaits := [] } }))) :=
  ⟨⟨7, (fun s : State => { s with swq := { s.swq with patrolAt := patrolPeriod s, patrolled := visitedNow s ++ [7] } }) (setF fSWQ_CTL_PATROL_EN 1 (setF fSWQ_CELLS_SPARE 2 allOn)), raise 132 (incF fSWQ_RETIRED_RETIRED { ((fun s : State => { s with swq := { s.swq with patrolAt := patrolPeriod s, patrolled := visitedNow s ++ [7] } }) (setF fSWQ_CTL_PATROL_EN 1 (setF fSWQ_CELLS_SPARE 2 allOn))) with swq := { ((fun s : State => { s with swq := { s.swq with patrolAt := patrolPeriod s, patrolled := visitedNow s ++ [7] } }) (setF fSWQ_CTL_PATROL_EN 1 (setF fSWQ_CELLS_SPARE 2 allOn))).swq with back := ((fun s : State => { s with swq := { s.swq with patrolAt := patrolPeriod s, patrolled := visitedNow s ++ [7] } }) (setF fSWQ_CTL_PATROL_EN 1 (setF fSWQ_CELLS_SPARE 2 allOn))).swq.back.filter (· != 7), retired := ((fun s : State => { s with swq := { s.swq with patrolAt := patrolPeriod s, patrolled := visitedNow s ++ [7] } }) (setF fSWQ_CTL_PATROL_EN 1 (setF fSWQ_CELLS_SPARE 2 allOn))).swq.retired ++ [7] } }), 2, setF fSWQ_CTL_PATROL_EN 1 (setF fSWQ_CELLS_SPARE 2 allOn), by decide⟩,
   ⟨7, (fun s : State => { s with swq := { s.swq with patrolAt := patrolPeriod s, patrolled := visitedNow s ++ [7] } }) (setF fSWQ_CTL_PATROL_EN 1 (setF fSWQ_CELLS_SPARE 1 allOn)), raise 132 (incF fSWQ_RETIRED_RETIRED { ((fun s : State => { s with swq := { s.swq with patrolAt := patrolPeriod s, patrolled := visitedNow s ++ [7] } }) (setF fSWQ_CTL_PATROL_EN 1 (setF fSWQ_CELLS_SPARE 1 allOn))) with swq := { ((fun s : State => { s with swq := { s.swq with patrolAt := patrolPeriod s, patrolled := visitedNow s ++ [7] } }) (setF fSWQ_CTL_PATROL_EN 1 (setF fSWQ_CELLS_SPARE 1 allOn))).swq with back := ((fun s : State => { s with swq := { s.swq with patrolAt := patrolPeriod s, patrolled := visitedNow s ++ [7] } }) (setF fSWQ_CTL_PATROL_EN 1 (setF fSWQ_CELLS_SPARE 1 allOn))).swq.back.filter (· != 7), retired := ((fun s : State => { s with swq := { s.swq with patrolAt := patrolPeriod s, patrolled := visitedNow s ++ [7] } }) (setF fSWQ_CTL_PATROL_EN 1 (setF fSWQ_CELLS_SPARE 1 allOn))).swq.retired ++ [7] } }), setF fSWQ_CTL_PATROL_EN 1 (setF fSWQ_CELLS_SPARE 1 allOn), by decide⟩,
   ⟨7, (fun s : State => { s with swq := { s.swq with patrolAt := patrolPeriod s, patrolled := visitedNow s ++ [7] } }) (setF fSWQ_CTL_PATROL_EN 1 (setF fSWQ_CELLS_SPARE 2 allOn)), setF fSWQ_CTL_PATROL_EN 1 (setF fSWQ_CELLS_SPARE 2 allOn), by decide⟩,
   ⟨7, true, (fun s : State => { s with swq := { s.swq with patrolAt := patrolPeriod s, patrolled := visitedNow s ++ [7] } }) (setF fSWQ_CTL_PATROL_EN 1 (setF fSWQ_CELLS_SPARE 2 allOn)), setF fSWQ_CTL_PATROL_EN 1 (setF fSWQ_CELLS_SPARE 2 allOn), by decide⟩,
   ⟨0, atClk (10 ^ 6) { allOn with swq := { allOn.swq with starved := some 0 } }, by decide⟩,
   ⟨.steward, 0x2_0200, 0, allOn, by decide⟩,
   ⟨.steward, 0x2_0200, 0xFFFFFF, (List.range 100).foldl (fun t i => setReg (0x2_0201 + i) 0xFFFFFF t) allOn, by decide⟩,
   ⟨[], setF fSWQ_STATUS_PTR_FROZEN 1 stwUp, ledger 2 128 (usNow stwUp) [wd (128 + bitsOf (reg (setF fSWQ_STATUS_PTR_FROZEN 1 stwUp) 0xC08A).toNat 16 2 * 2 ^ 10), wd (lostItems [] (setF fSWQ_STATUS_PTR_FROZEN 1 stwUp))] (setF fSWQ_STATUS_PTR_FROZEN 1 stwUp), rebuiltS, setF fSWQ_STATUS_PTR_FROZEN 1 stwUp, by decide⟩⟩


theorem test_meets_BridgeWindows :
    (∃ (b : Nat) (s : State),
      (hifOn s = true) ∧ (b < 0x60_0000)) ∧
    (∃ (b : Nat) (v : BitVec 32) (s : State),
      (hifOn s = true)) ∧
    (∃ (b : Nat) (v : BitVec 32) (s : State),
      (hifOn s = true)) ∧
    (∃ (k : Nat) (b : Nat) (data : List (Option Word)) (ecc : Ecc) (s : State),
      (k < 64) ∧ (hifOn s = true) ∧ (flag s (fHIF_WINA_EN k) = true) ∧ (flag s (fHIF_WINA_WR_EN k) = true)) ∧
    (∃ (k : Nat) (b : Nat) (data : List (Option Word)) (ecc : Ecc) (s : State),
      (k < 64) ∧ (hifOn s = true) ∧ (flag s (fHIF_WINA_WR_EN k) = false)) ∧
    (∃ (k : Nat) (b : Nat) (n : Nat) (ecc : List (Nat × Ecc)) (u : State) (s : State),
      (k < 64) ∧ (hifOn s = true) ∧ (u = setRead s.hif.nextRead (some ⟨k, n, s.clk, [], n, none⟩) { s with hif := { s.hif with nextRead := s.hif.nextRead + 1 } }) ∧ (flag u (fHIF_WINA_EN k) = false)) ∧
    (∃ (k : Nat) (b : Nat) (n : Nat) (ecc : List (Nat × Ecc)) (u : State) (s : State),
      (k < 64) ∧ (hifOn s = true) ∧ (u = setRead s.hif.nextRead (some ⟨k, n, s.clk, [], n, none⟩) { s with hif := { s.hif with nextRead := s.hif.nextRead + 1 } }) ∧ (flag u (fHIF_WINA_EN k) = true)) ∧
    (∃ (id : Nat) (r : Bar2Read) (s : State),
      (getRead s id = some r) ∧ (r.failed = none) ∧ (r.left = 0)) ∧
    (∃ (id : Nat) (r : Bar2Read) (cause : Nat) (s : State),
      (getRead s id = some r) ∧ (r.failed = some cause)) ∧
    (∃ (id : Nat) (r : Bar2Read) (s : State),
      (getRead s id = some r) ∧ (r.began + rdLimit s ≤ s.clk) ∧ (r.failed = none) ∧ (r.left ≠ 0)) :=
  ⟨⟨0x5F_FFFC, allOn, by decide⟩,
   ⟨8, 5, allOn, by decide⟩,
   ⟨8, 5, allOn, by decide⟩,
   ⟨63, 0, [some 5], .ok, setF (fHIF_WINA_EN 63) 1 (setF (fHIF_WINA_WR_EN 63) 1 allOn), by decide⟩,
   ⟨63, 0, [some 5], .ok, allOn, by decide⟩,
   ⟨63, 0, 1, [], setRead allOn.hif.nextRead (some ⟨63, 1, allOn.clk, [], 1, none⟩) { allOn with hif := { allOn.hif with nextRead := allOn.hif.nextRead + 1 } }, allOn, by decide⟩,
   ⟨63, 0, 1, [], (fun s => setRead s.hif.nextRead (some ⟨63, 1, s.clk, [], 1, none⟩) { s with hif := { s.hif with nextRead := s.hif.nextRead + 1 } }) (setF (fHIF_WINA_EN 63) 1 allOn), setF (fHIF_WINA_EN 63) 1 allOn, by decide⟩,
   ⟨5, bar2r, readS bar2r, by decide⟩,
   ⟨5, { bar2r with failed := some 3 }, 3, readS { bar2r with failed := some 3 }, by decide⟩,
   ⟨5, { bar2r with left := 1 }, atClk (10 ^ 9) (readS { bar2r with left := 1 }), by decide⟩⟩


theorem test_meets_BridgeDma :
    (∃ (q : Nat) (v : Word) (s : State),
      (q < 12) ∧ (mayWrite .host (oHIF_SQ_TAIL q) s = true) ∧ (sqRuns (setF (fHIF_SQ_TAIL_TAIL q) v.toNat s) q = false)) ∧
    (∃ (q : Nat) (v : Word) (s : State),
      (q < 12) ∧ (mayWrite .host (oHIF_SQ_TAIL q) s = true) ∧ (sqRuns (setF (fHIF_SQ_TAIL_TAIL q) v.toNat s) q = true)) ∧
    (∃ (q : Nat) (bytes : List Nat) (ch : List (Charge × Nat)) (b : Body) (s : State),
      (q < 12) ∧ (b = .words ((List.range 32).map (fun i => wd (bytes.getD i 0 % 256)))) ∧ (sqRuns s q = true) ∧ (getF s (fHIF_SQ_HEAD_HEAD q) ≠ (getSq s q).fetched) ∧ (canTake s [40 + q] b none = some ch)) ∧
    (∃ (q : Nat) (ecc : List (Nat × Ecc)) (d : Desc) (s : State),
      (q < 12) ∧ ((getSq s q).descs.find? (fun d => d.op == 1 && d.fin.isNone && !d.issued) = some d) ∧ (hifOn s = true)) ∧
    (∃ (q : Nat) (data : List Word) (ecc : Ecc) (d : Desc) (s : State),
      (q < 12) ∧ ((getSq s q).descs.find? (fun d => d.op == 2 && d.issued && d.fin.isNone) = some d) ∧ (hifOn s = true)) ∧
    (∃ (q : Nat) (d : Desc) (r : Nat × Nat × State) (s : State),
      (q < 12) ∧ (waitingFetch s q = some d) ∧ (d.wait = false) ∧ (flag s (fSWQ_QSTAT_FROZEN d.queue) = false) ∧ (hifOn s = true) ∧ (domOn s 3 = true) ∧ (r = fetchItems d.queue d.haddr (d.hlen / 4) (qCount s d.queue) 0 0 s)) ∧
    (∃ (q : Nat) (d : Desc) (s : State),
      (q < 12) ∧ (waitingFetch s q = some d) ∧ (d.wait = true) ∧ (qCount s d.queue ≠ 0)) ∧
    (∃ (q : Nat) (d : Desc) (l : List Desc) (s : State),
      (q < 12) ∧ ((getSq s q).descs = d :: l) ∧ (d.op = 4) ∧ (d.fin = none) ∧ (hifOn s = true)) ∧
    (∃ (q : Nat) (e : Nat) (s : State),
      (q < 12) ∧ (1 ≤ e) ∧ (e ≤ 4) ∧ (hifOn s = true) ∧ (sqRuns s q = true) ∧ (getF s (fHIF_SQ_HEAD_HEAD q) ≠ (getSq s q).fetched)) ∧
    (∃ (q : Nat) (e : Nat) (d : Desc) (s : State),
      (q < 12) ∧ (1 ≤ e) ∧ (e ≤ 4) ∧ (hifOn s = true) ∧ ((getSq s q).descs.find? (fun d => d.fin.isNone && d.op != 4 && (d.op != 2 || d.issued)) = some d) ∧ (d.op = 2)) :=
  ⟨⟨11, 5, allOn, by decide⟩,
   ⟨11, 5, setF (fHIF_SQ_CFG_EN 11) 1 allOn, by decide⟩,
   ⟨11, [1], chOf (canTake sqSome [51] (.words ((List.range 32).map (fun i => wd ([1].getD i 0 % 256)))) none), .words ((List.range 32).map (fun i => wd ([1].getD i 0 % 256))), sqSome, by decide⟩,
   ⟨11, [], dsc 1, sqUp 1, by decide⟩,
   ⟨11, [7], .ok, dscI, sqI, by decide⟩,
   ⟨11, dsc 3, fetchItems 200 64 1 0 0 0 (sqUp 3), sqUp 3, by decide⟩,
   ⟨11, { dsc 3 with wait := true }, setSq 11 { Sq.init with descs := [{ dsc 3 with wait := true }] } q200, by decide⟩,
   ⟨11, dsc 4, [], sqUp 4, by decide⟩,
   ⟨11, 3, sqSome, by decide⟩,
   ⟨11, 3, dscI, sqI, by decide⟩⟩


theorem test_meets_BridgeCompletion :
    (∃ (c : Nat) (v : Word) (u : State) (s : State),
      (c < 12) ∧ (mayWrite .host (oHIF_CQ_HEAD c) s = true) ∧ (u = setF (fHIF_CQ_HEAD_HEAD c) v.toNat s) ∧ (cqFree u c ≠ 0)) ∧
    (∃ (c : Nat) (s : State),
      (c < 12) ∧ ((getCq s c).irqs ≠ 0) ∧ (max 1 (getF s (fHIF_CQ_CFG_THR c)) ≤ (getCq s c).irqs) ∧ (hifOn s = true)) ∧
    (∃ (c : Nat) (d : Nat) (s : State),
      (c < 12) ∧ ((getCq s c).fullSince = some d) ∧ (d + 100000000 ≤ s.clk) ∧ ((getCq s c).fullRaised = false) ∧ (cqFree s c = 0)) ∧
    (∃ (v : Nat) (s : State),
      (v < 64) ∧ (hifOn s = true)) ∧
    (∃ (s : State),
      (hifOn s = true) ∧ (flag s fHIF_STATUS_LINK_UP = true)) ∧
    (∃ (s : State),
      (hifOn s = true) ∧ (flag s fHIF_STATUS_LINK_UP = true)) ∧
    (∃ (b : Bool) (s : State),
      (hifOn s = true)) ∧
    (∃ (s : State),
      (hifOn s = true) ∧ (s.hif.corrSince + 1000000000 ≤ s.clk)) ∧
    (∃ (s : State),
      (s.hif.perst = false)) :=
  ⟨⟨11, 5, setF (fHIF_CQ_HEAD_HEAD 11) 5 allOn, allOn, by decide⟩,
   ⟨11, setCq 11 { Cq.init with irqs := 1 } allOn, by decide⟩,
   ⟨11, 0, atClk (10 ^ 8) (setF (fHIF_CQ_HEAD_HEAD 11) 1 (setCq 11 { Cq.init with fullSince := some 0 } allOn)), by decide⟩,
   ⟨63, allOn, by decide⟩,
   ⟨setF fHIF_STATUS_LINK_UP 1 allOn, by decide⟩,
   ⟨setF fHIF_STATUS_LINK_UP 1 allOn, by decide⟩,
   ⟨true, allOn, by decide⟩,
   ⟨atClk (10 ^ 9) allOn, by decide⟩,
   ⟨{ allOn with hif := { allOn.hif with perst := false } }, by decide⟩⟩


theorem test_meets_UsbDesk :
    (∃ (first : Nat) (ws : List Word) (u : State) (s : State),
      (deviceLive s = true) ∧ (s.usb.ctl = some (.deskWrite first ws)) ∧ (getF s (fDSK_DESK_STATE 1) ≠ 1) ∧ (u = setUsb { s.usb with ctl := none } s)) ∧
    (∃ (first : Nat) (ws : List Word) (s : State),
      (deviceLive s = true) ∧ (s.usb.ctl = some (.deskWrite first ws)) ∧ (getF s (fDSK_DESK_STATE 1) = 1)) ∧
    (∃ (first : Nat) (n : Nat) (ws : List Word) (s : State),
      (deviceLive s = true) ∧ (s.usb.ctl = some (.deskRead first ws)) ∧ (ws.length = n)) ∧
    (∃ (bytes : List Nat) (ecc : Ecc) (n : Nat) (s : State),
      (deviceLive s = true) ∧ (epHalted s 2 = false) ∧ (n = leAt bytes 0 2) ∧ (n = 0 ∨ 1023 < n ∨ leAt bytes 2 1 ≠ 0 ∨ bytes.length ≠ 4 * (n + 1))) ∧
    (∃ (bytes : List Nat) (n : Nat) (ws : List Word) (ch : List (Charge × Nat)) (s : State),
      (deviceLive s = true) ∧ (epHalted s 2 = false) ∧ (n = leAt bytes 0 2) ∧ (1 ≤ n) ∧ (n ≤ 1023) ∧ (leAt bytes 2 1 = 0) ∧ (bytes.length = 4 * (n + 1)) ∧ (ws = (wordsOfDwords bytes).drop 1) ∧ (canTake s [64] (.words ws) none = some ch)) ∧
    (∃ (i : Nat) (x : Item) (ws : List Word) (u : State) (s : State),
      (deviceLive s = true) ∧ (epHalted s 3 = false) ∧ (frontQ s 65 = some (i, x)) ∧ (x.body = .words ws) ∧ (u = emit (.usb 3 0 ((wd ws.length :: ws).flatMap dwordBytes)) (dropFront 65 s)) ∧ (flag u fUSB_CTL_LEGACY = true ∨ 4 * (ws.length + 1) % bulkMax u ≠ 0)) ∧
    (∃ (b : Nat) (l : List Nat) (u : State) (s : State),
      (usbOn s = true) ∧ (u = noteNotif s) ∧ (u.usb.notif = b :: l) ∧ (deviceLive u = true) ∧ (epHalted u 1 = false) ∧ (u.usb.notifSent = none)) :=
  ⟨⟨0, [5], setUsb { devUp.usb with ctl := none } (ctlUp (.deskWrite 0 [5])), ctlUp (.deskWrite 0 [5]), by decide⟩,
   ⟨0, [5], setF (fDSK_DESK_STATE 1) 1 (ctlUp (.deskWrite 0 [5])), by decide⟩,
   ⟨0, 1, [5], ctlUp (.deskRead 0 [5]), by decide⟩,
   ⟨[5, 0, 0, 0], .ok, 5, devUp, by decide⟩,
   ⟨[1, 0, 0, 0, 5, 0, 0, 0], 1, [5], chOf (canTake devUp [64] (.words [5]) none), devUp, by decide⟩,
   ⟨q65x.1, q65x.2, [5], emit (.usb 3 0 [1, 0, 0, 0, 5, 0, 0, 0]) (dropFront 65 q65), q65, by decide⟩,
   ⟨1, [], noteNotif notifUp, notifUp, by decide⟩⟩


theorem test_meets_UsbBus :
    (∃ (high : Bool) (s : State),
      (usbOn s = true) ∧ (flag s fUSB_STATUS_ATTACHED = true)) ∧
    (∃ (high : Bool) (s : State),
      (usbOn s = true) ∧ (flag s fUSB_STATUS_ATTACHED = true)) ∧
    (∃ (a : Nat) (s : State),
      (usbOn s = true) ∧ (s.usb.devAttached = true) ∧ (flag s fUSB_STATUS_SUSPENDED = false)) ∧
    (∃ (s : State),
      (usbOn s = true) ∧ (flag s fUSB_STATUS_ATTACHED = true) ∧ (flag s fUSB_STATUS_SUSPENDED = false)) ∧
    (∃ (k : Nat) (s : State),
      (k ≤ s.clk) ∧ (flag s fUSB_STATUS_SUSPENDED = true) ∧ (flag s fUSB_STATUS_ATTACHED = true) ∧ (usbOn s = true) ∧ (s.usb.wakePending = none) ∧ (s.usb.kDriven = none)) ∧
    (∃ (src : Nat) (d : Nat) (at0 : Nat) (s : State),
      (1 ≤ src) ∧ (src ≤ 4) ∧ (usbOn s = true) ∧ (flag s fUSB_STATUS_SUSPENDED = true) ∧ (s.usb.wakePending = some (src, at0)) ∧ (mayWake s src = true) ∧ (s.usb.suspendAt = some d) ∧ (d + 5000000 ≤ s.clk) ∧ (s.usb.kDriven = none)) ∧
    (∃ (d : Nat) (s : State),
      (s.usb.kDriven = some d) ∧ (flag s fUSB_STATUS_SUSPENDED = true) ∧ (d + 12000000 ≤ s.clk)) ∧
    (∃ (s : State),
      (usbOn s = true) ∧ (flag s fUSB_STATUS_ATTACHED = true)) ∧
    (∃ (w : Writer) (s : State),
      (mayWrite w oUSB_CTL s = true)) ∧
    (∃ (w : Writer) (s : State),
      (mayWrite w oUSB_CTL s = true) ∧ (flag s fUSB_CTL_LEGACY = true)) ∧
    (∃ (w : Writer) (u : State) (s : State),
      (mayWrite w oUSB_CTL s = true) ∧ (s.usb.devAttached = true) ∧ (u = setDevice false (deviceIdle s))) ∧
    (∃ (d : Nat) (s : State),
      (s.usb.reattachAt = some d) ∧ (d ≤ s.clk) ∧ (flag s fUSB_STATUS_ATTACHED = true)) :=
  ⟨⟨true, usbUp, by decide⟩,
   ⟨true, usbUp, by decide⟩,
   ⟨5, devUp, by decide⟩,
   ⟨usbUp, by decide⟩,
   ⟨0, setF fUSB_STATUS_SUSPENDED 1 usbUp, by decide⟩,
   ⟨4, 0, 0, atClk (10 ^ 7) (setUsb { usbUp.usb with wakePending := some (4, 0), suspendAt := some 0, remoteWakeHub := true } (setF fUSB_STATUS_SUSPENDED 1 usbUp)), by decide⟩,
   ⟨0, atClk (10 ^ 8) (setUsb { usbUp.usb with kDriven := some 0 } (setF fUSB_STATUS_SUSPENDED 1 usbUp)), by decide⟩,
   ⟨usbUp, by decide⟩,
   ⟨.steward, allOn, by decide⟩,
   ⟨.steward, setF fUSB_CTL_LEGACY 1 allOn, by decide⟩,
   ⟨.steward, setDevice false (deviceIdle devUp), devUp, by decide⟩,
   ⟨0, setUsb { usbUp.usb with reattachAt := some 0 } usbUp, by decide⟩⟩


theorem test_meets_UsbPorts :
    (∃ (n : Nat) (lowAt : Nat) (u : State) (s : State),
      (2 ≤ n) ∧ (lowAt + ocFilter s ≤ s.clk) ∧ (n ≤ 4) ∧ (usbOn s = true) ∧ (flag s fUSB_CTL_GANGED = false) ∧ (u = setF (fUSB_PORT_OC n) 1 (setF (fUSB_PORT_OC_CHG n) 1 (portOff n s))) ∧ (flag u fUSB_CTL_GANGED = false)) ∧
    (∃ (n : Nat) (u : State) (s : State),
      (2 ≤ n) ∧ (n ≤ 4) ∧ (usbOn s = true) ∧ (flag s fUSB_STATUS_ATTACHED = true) ∧ (s.usb.hubConf = true) ∧ (flag s fUSB_CTL_GANGED = false) ∧ (u = setF (fUSB_PORT_POWER n) 1 (setF (fUSB_PORT_OC n) 0 s)) ∧ (flag u fUSB_CTL_GANGED = false)) ∧
    (∃ (s : State),
      (deviceLive s = true) ∧ (s.usb.audio = true)) ∧
    (∃ (volts : List Int) (s : State),
      (usbOn s = true) ∧ (anaOn s = true) ∧ (flag s fUSB_STATUS_STREAMING = true) ∧ (volts.length = streamN s) ∧ (sampleAt 48000 s.usb.streamAt ≤ s.ringNs)) ∧
    (∃ (a : Nat) (s : State),
      (deviceLive s = true) ∧ (2 ≤ a)) ∧
    (∃ (s : State),
      (deviceLive s = true) ∧ (s.usb.audio = true)) ∧
    (∃ (hz : Nat) (s : State),
      (deviceLive s = true) ∧ (hz ≠ 48000)) ∧
    (∃ (e : Nat) (s : State),
      (e < 6) ∧ (deviceLive s = true)) ∧
    (∃ (u : State) (s : State),
      (deviceLive s = true) ∧ (flag s fUSB_STATUS_STREAMING = true) ∧ (u = incF fUSB_ISO_DROP_ISO_DROP (microframeEnds s)) ∧ (u.usb.dropSince + 1000000000 ≤ u.clk)) :=
  ⟨⟨4, 0, setF (fUSB_PORT_OC 4) 1 (setF (fUSB_PORT_OC_CHG 4) 1 (portOff 4 (atClk (10 ^ 8) allOn))), atClk (10 ^ 8) allOn, by decide⟩,
   ⟨4, setF (fUSB_PORT_POWER 4) 1 (setF (fUSB_PORT_OC 4) 0 hubUp), hubUp, by decide⟩,
   ⟨audioUp, by decide⟩,
   ⟨[], setF fUSB_STATUS_STREAMING 1 audioUp, by decide⟩,
   ⟨5, audioUp, by decide⟩,
   ⟨audioUp, by decide⟩,
   ⟨5, audioUp, by decide⟩,
   ⟨5, devUp, by decide⟩,
   ⟨incF fUSB_ISO_DROP_ISO_DROP (microframeEnds (atClk (10 ^ 9) (setF fUSB_STATUS_STREAMING 1 audioUp))), atClk (10 ^ 9) (setF fUSB_STATUS_STREAMING 1 audioUp), by decide⟩⟩


theorem test_meets_DeskAreas :
    (∃ (d : Nat) (o : Nat) (v : Word) (s : State),
      (d < 8) ∧ (o < 0x40) ∧ (domOn s 4 = true) ∧ (getF s (fDSK_DESK_STATE d) ≠ 1)) ∧
    (∃ (d : Nat) (o : Nat) (v : Word) (s : State),
      (d < 8) ∧ (o < 0x40) ∧ (domOn s 4 = true) ∧ (getF s (fDSK_DESK_STATE d) = 1)) ∧
    (∃ (d : Nat) (o : Nat) (v : Word) (s : State),
      (d < 6) ∧ (0x1_0000 ≤ o) ∧ (o < 0x2_0000) ∧ (domOn s 4 = true)) ∧
    (∃ (d : Nat) (s : State),
      (d < 8) ∧ (domOn s 4 = true) ∧ (getF s (fDSK_DESK_STATE d) = 1)) ∧
    (∃ (d : Nat) (s : State),
      (d < 8) ∧ (domOn s 4 = true) ∧ (getF s (fDSK_DESK_STATE d) ≠ 1) ∧ (flag s (fDSK_DESK_SESSION d) = true)) ∧
    (∃ (d : Nat) (u : State) (ws : List Word) (s : State),
      (d < 8) ∧ (u = answerUnknown d s) ∧ ((getDesk u d).prepared = some ws) ∧ (stwRuns u = true) ∧ ((publish d ws u).stw.afterDone = none)) ∧
    (∃ (d : Nat) (s : State),
      (2 ≤ d) ∧ (d ≤ 5) ∧ (stwRuns s = true) ∧ (flag s (fDSK_DESK_SESSION d) = true) ∧ ((getDesk s d).lastCmd + 60000000000 ≤ s.clk)) ∧
    (∃ (d : Nat) (op : Nat) (ok : Nat → Bool) (right : Nat) (lock : Bool) (run : List Nat → State → State) (u : State) (s : State),
      (d < 8) ∧ (nextDesk s = some d) ∧ (cmdOp s d = op) ∧ (stwRuns s = true) ∧ (u = takeDoorbell d s) ∧ (ok (cmdLen u d) = false)) ∧
    (∃ (d : Nat) (op : Nat) (ok : Nat → Bool) (right : Nat) (lock : Bool) (run : List Nat → State → State) (u : State) (s : State),
      (d < 8) ∧ (nextDesk s = some d) ∧ (cmdOp s d = op) ∧ (stwRuns s = true) ∧ (u = takeDoorbell d s) ∧ (ok (cmdLen u d) = true) ∧ (right ≠ 0) ∧ ((getDesk u d).rights &&& right = 0)) ∧
    (∃ (d : Nat) (op : Nat) (ok : Nat → Bool) (right : Nat) (run : List Nat → State → State) (u : State) (s : State),
      (d < 8) ∧ (nextDesk s = some d) ∧ (cmdOp s d = op) ∧ (stwRuns s = true) ∧ (u = takeDoorbell d s) ∧ (ok (cmdLen u d) = true) ∧ (right = 0 ∨ (getDesk u d).rights &&& right ≠ 0) ∧ (u.stw.lock ≠ some d)) :=
  ⟨⟨7, 0x3F, 5, allOn, by decide⟩,
   ⟨7, 0x3F, 5, setF (fDSK_DESK_STATE 7) 1 allOn, by decide⟩,
   ⟨5, 0x1_FFFF, 5, allOn, by decide⟩,
   ⟨7, setF (fDSK_DESK_STATE 7) 1 allOn, by decide⟩,
   ⟨7, setF (fDSK_DESK_SESSION 7) 1 stwUp, by decide⟩,
   ⟨7, answerUnknown 7 prepS, [0, 0], prepS, by decide⟩,
   ⟨5, atClk (10 ^ 11) (setF (fDSK_DESK_SESSION 5) 1 stwUp), by decide⟩,
   ⟨7, 2, fun n => n == 5, 0, true, fun _ s => s, left 7 (deskS 7 2 []), deskS 7 2 [], by decide⟩,
   ⟨7, 2, fun n => n == 0, 32, true, fun _ s => s, left 7 (deskS 7 2 []), deskS 7 2 [], by decide⟩,
   ⟨7, 2, fun n => n == 0, 1, fun _ s => s, left 7 (inStw (fun x => { x with lock := none }) (deskS 7 2 [])), inStw (fun x => { x with lock := none }) (deskS 7 2 []), by decide⟩⟩


theorem test_meets_DeskBasics :
    (∃ (d : Nat) (u : State) (s : State),
      (deskServes d 0x01 0 1 false s = true) ∧ (u = takeDoorbell d s)) ∧
    (∃ (d : Nat) (u : State) (v : State) (s : State),
      (deskServes d 0x02 0 0 false s = true) ∧ (u = takeDoorbell d s) ∧ (v = closeSession d u)) ∧
    (∃ (d : Nat) (u : State) (h : Nat) (s : State),
      (deskServes d 0x03 0 12 false s = true) ∧ (u = takeDoorbell d s) ∧ (u.sec.trial = none) ∧ (u.stw.lock = some h) ∧ (h ≠ d)) ∧
    (∃ (d : Nat) (u : State) (s : State),
      (deskServes d 0x03 0 12 false s = true) ∧ (u = takeDoorbell d s) ∧ (u.sec.trial = none) ∧ (u.stw.lock = none)) ∧
    (∃ (d : Nat) (u : State) (s : State),
      (deskServes d 0x04 0 0 false s = true) ∧ (u = takeDoorbell d s) ∧ (u.stw.lock = some d)) ∧
    (∃ (d : Nat) (u : State) (a : List Nat) (kind : Nat) (len : Nat) (s : State),
      (deskServes d 0x10 3 12 true s = true) ∧ (u = takeDoorbell d s) ∧ (a = cmdArgs u d) ∧ (kind = argN a 1 % 4) ∧ (len = argN a 2 + 2 ^ 24 * bitsOf (argN a 3) 0 8) ∧ (kind ≠ 3) ∧ ((getDesk u d).rights &&& stageRight kind ≠ 0) ∧ (u.sec.trial = none) ∧ (u.sec.volArmed = none) ∧ (u.stw.staging = none) ∧ (len ≤ stageMax kind) ∧ (stwRuns u = true)) ∧
    (∃ (f : Bool) (d : Nat) (u : State) (n : Nat) (g : Staging) (a : List Nat) (s : State),
      (deskServes d 0x11 2 12 true s = true) ∧ (u = takeDoorbell d s) ∧ (deskStaging u d = some g) ∧ (a = cmdArgs u d) ∧ (n = (if argN a 2 = 0 then 65536 else argN a 2)) ∧ (n ≤ 65536) ∧ (argN a 1 + n ≤ (g.length + 2) / 3) ∧ ((getDesk u d).rights &&& stageRight g.kind ≠ 0) ∧ (f = false ∨ u.boot.flash = false)) ∧
    (∃ (d : Nat) (u : State) (n : Nat) (g : Staging) (a : List Nat) (ws : Tab Word) (s : State),
      (deskServes d 0x11 2 12 true s = true) ∧ (u = takeDoorbell d s) ∧ (deskStaging u d = some g) ∧ (a = cmdArgs u d) ∧ (n = (if argN a 2 = 0 then 65536 else argN a 2)) ∧ (n ≤ 65536) ∧ (argN a 1 + n ≤ (g.length + 2) / 3) ∧ ((getDesk u d).rights &&& stageRight g.kind ≠ 0) ∧ (u.boot.flash = true) ∧ (ws = (getDesk u d).window.foldl (fun t e => if e.1 < n then tset (fun _ => 0) (argN a 1 + e.1) e.2 t else t)
        (tclear (fun k => argN a 1 ≤ k && k < argN a 1 + n) g.words))) ∧
    (∃ (d : Nat) (u : State) (g : Staging) (s : State),
      (deskServes d 0x12 0 12 true s = true) ∧ (u = takeDoorbell d s) ∧ (deskStaging u d = some g) ∧ ((getDesk u d).rights &&& stageRight g.kind ≠ 0) ∧ (u.boot.flash = true) ∧ (g.kind = 0)) ∧
    (∃ (d : Nat) (u : State) (g : Staging) (s : State),
      (deskServes d 0x13 0 12 true s = true) ∧ (u = takeDoorbell d s) ∧ (deskStaging u d = some g)) :=
  ⟨⟨2, left 2 (deskS 2 0x01 []), deskS 2 0x01 [], by decide⟩,
   ⟨2, left 2 (deskS 2 0x02 []), closeSession 2 (left 2 (deskS 2 0x02 [])), deskS 2 0x02 [], by decide⟩,
   ⟨2, left 2 (inStw (fun x => { x with lock := some 7 }) (deskS 2 0x03 [])), 7, inStw (fun x => { x with lock := some 7 }) (deskS 2 0x03 []), by decide⟩,
   ⟨2, left 2 (inStw (fun x => { x with lock := none }) (deskS 2 0x03 [])), inStw (fun x => { x with lock := none }) (deskS 2 0x03 []), by decide⟩,
   ⟨2, left 2 (deskS 2 0x04 []), deskS 2 0x04 [], by decide⟩,
   ⟨2, left 2 (deskS 2 0x10 [1, 100, 0]), [1, 100, 0], 1, 100, deskS 2 0x10 [1, 100, 0], by decide⟩,
   ⟨false, 2, left 2 (inStw (fun x => { x with staging := some (stg 2 1 100) }) (deskS 2 0x11 [0, 1])), 1, stg 2 1 100, [0, 1], inStw (fun x => { x with staging := some (stg 2 1 100) }) (deskS 2 0x11 [0, 1]), by decide⟩,
   ⟨2, left 2 (windowWrite 2 0 5 (inStw (fun x => { x with staging := some (stg 2 1 100) }) (deskS 2 0x11 [0, 1]))), 1, stg 2 1 100, [0, 1], [(0, 5)], windowWrite 2 0 5 (inStw (fun x => { x with staging := some (stg 2 1 100) }) (deskS 2 0x11 [0, 1])), by decide⟩,
   ⟨2, left 2 (inStw (fun x => { x with staging := some (stg 2 0 100) }) (deskS 2 0x12 [])), stg 2 0 100, inStw (fun x => { x with staging := some (stg 2 0 100) }) (deskS 2 0x12 []), by decide⟩,
   ⟨2, left 2 (inStw (fun x => { x with staging := some (stg 2 0 100) }) (deskS 2 0x13 [])), stg 2 0 100, inStw (fun x => { x with staging := some (stg 2 0 100) }) (deskS 2 0x13 []), by decide⟩⟩


theorem test_meets_DeskEditions :
    (∃ (d : Nat) (u : State) (a : List Nat) (n : Nat) (at0 : Nat) (e : Edition) (s : State),
      (deskServes d 0x20 4 4 true s = true) ∧ (u = takeDoorbell d s) ∧ (a = cmdArgs u d) ∧ (n = argN a 1 % 65536) ∧ (at0 = timeArg a 2) ∧ (u.sec.trial = none) ∧ (u.stw.armed = none) ∧ (u.stw.active = none) ∧ (slotEdition u n = some e) ∧ (u.ringNs + 100000000 ≤ at0) ∧ (at0 ≤ u.ringNs + 604800000000000) ∧ ((changeSet u.stw.inForce e).length ≤ 87381)) ∧
    (∃ (d : Nat) (u : State) (n : Nat) (e : Edition) (at0 : Nat) (s : State),
      (deskServes d 0x20 4 4 true s = true) ∧ (u = takeDoorbell d s) ∧ (n = argN (cmdArgs u d) 1 % 65536) ∧ (at0 = timeArg (cmdArgs u d) 2) ∧ (u.sec.trial = none) ∧ (u.stw.armed = none) ∧ (u.stw.active = none) ∧ (slotEdition u n = some e) ∧ (at0 < u.ringNs + 100000000)) ∧
    (∃ (d : Nat) (u : State) (a : Armed) (s : State),
      (deskServes d 0x21 0 4 true s = true) ∧ (u = takeDoorbell d s) ∧ (u.stw.armed = some a) ∧ (u.ringNs + 10000000 < a.t)) ∧
    (∃ (d : Nat) (u : State) (a : Armed) (s : State),
      (deskServes d 0x21 0 4 true s = true) ∧ (u = takeDoorbell d s) ∧ (u.stw.armed = some a) ∧ (a.t ≤ u.ringNs + 10000000)) ∧
    (∃ (a : Armed) (s : State),
      (s.stw.armed = some a) ∧ (stwRuns s = true) ∧ (a.t ≤ s.ringNs + 10000000)) ∧
    (∃ (f : Bool) (d : Nat) (u : State) (n : Nat) (s : State),
      (deskServes d 0x22 1 4 true s = true) ∧ (u = takeDoorbell d s) ∧ (u.sec.trial = none) ∧ (u.stw.inForce = none) ∧ (n = argN (cmdArgs u d) 1 % 65536) ∧ (u.stw.staged = none) ∧ (u.stw.active = none) ∧ (u.stw.previous = none)) ∧
    (∃ (f : Bool) (d : Nat) (u : State) (e : Edition) (v : State) (s : State),
      (deskServes d 0x22 1 4 true s = true) ∧ (u = takeDoorbell d s) ∧ (u.sec.trial = none) ∧ (u.stw.inForce = none) ∧ (u.stw.staged = some e) ∧ (e.number = argN (cmdArgs u d) 1 % 65536) ∧ (v = activate e ((edPoints e).map (·.1)) false f u)) ∧
    (∃ (d : Nat) (u : State) (s : State),
      (deskServes d 0x23 0 1 false s = true) ∧ (u = takeDoorbell d s) ∧ (u.stw.armed = none)) ∧
    (∃ (d : Nat) (u : State) (g : Nat) (l : List Nat) (r : List Nat) (s : State),
      (deskServes d 0x24 2 1 false s = true) ∧ (u = takeDoorbell d s) ∧ (numbered u = true) ∧ (bitsOf (argN (cmdArgs u d) 1) 0 12 = nodeId u) ∧ (g = bitsOf (argN (cmdArgs u d) 1) 12 6) ∧ (groupPoints u g = some l) ∧ (r = (l.drop (bitsOf (argN (cmdArgs u d) 2) 0 20)).take 60)) ∧
    (∃ (f : Bool) (a : Armed) (e : Edition) (s : State),
      (s.stw.armed = some a) ∧ (stwRuns s = true) ∧ (a.t ≤ s.ringNs) ∧ (s.sec.trial = none) ∧ (flag s fSEC_STATUS_SETTINGS_DEFAULTED = false) ∧ (slotEdition s a.number = some e)) ∧
    (∃ (f : Bool) (a : Armed) (e : Edition) (s : State),
      (s.stw.armed = some a) ∧ (stwRuns s = true) ∧ (a.t ≤ s.ringNs) ∧ (s.sec.trial = none) ∧ (flag s fSEC_STATUS_SETTINGS_DEFAULTED = false) ∧ (slotEdition s a.number = some e)) :=
  ⟨⟨2, left 2 (inStw (fun x => { x with staged := some emptyEdition }) (deskS 2 0x20 [1, 0, 100, 0])), [1, 0, 100, 0], 1, 100 * 2 ^ 24, emptyEdition, inStw (fun x => { x with staged := some emptyEdition }) (deskS 2 0x20 [1, 0, 100, 0]), by decide⟩,
   ⟨2, left 2 (inStw (fun x => { x with staged := some emptyEdition }) (deskS 2 0x20 [1, 0, 0, 0])), 1, emptyEdition, 0, inStw (fun x => { x with staged := some emptyEdition }) (deskS 2 0x20 [1, 0, 0, 0]), by decide⟩,
   ⟨2, left 2 (inStw (fun x => { x with armed := some ⟨1, 10 ^ 9⟩ }) (deskS 2 0x21 [])), ⟨1, 10 ^ 9⟩, inStw (fun x => { x with armed := some ⟨1, 10 ^ 9⟩ }) (deskS 2 0x21 []), by decide⟩,
   ⟨2, left 2 (inStw (fun x => { x with armed := some ⟨1, 5⟩ }) (deskS 2 0x21 [])), ⟨1, 5⟩, inStw (fun x => { x with armed := some ⟨1, 5⟩ }) (deskS 2 0x21 []), by decide⟩,
   ⟨⟨1, 5⟩, inStw (fun x => { x with armed := some ⟨1, 5⟩ }) stwUp, by decide⟩,
   ⟨true, 2, left 2 (deskS 2 0x22 [1]), 1, deskS 2 0x22 [1], by decide⟩,
   ⟨true, 2, left 2 (inStw (fun x => { x with staged := some emptyEdition }) (deskS 2 0x22 [1])), emptyEdition, activate emptyEdition [] false true (left 2 (inStw (fun x => { x with staged := some emptyEdition }) (deskS 2 0x22 [1]))), inStw (fun x => { x with staged := some emptyEdition }) (deskS 2 0x22 [1]), by decide⟩,
   ⟨2, left 2 (deskS 2 0x23 []), deskS 2 0x23 [], by decide⟩,
   ⟨2, left 2 (setF fGLB_NODE2_NUMBERED 1 (inStw (fun x => { x with inForce := some edGroup }) (deskS 2 0x24 [nodeId stwUp, 0]))), 0, [5, 6], [5, 6], setF fGLB_NODE2_NUMBERED 1 (inStw (fun x => { x with inForce := some edGroup }) (deskS 2 0x24 [nodeId stwUp, 0])), by decide⟩,
   ⟨true, ⟨1, 0⟩, emptyEdition, armedS, by decide⟩,
   ⟨true, ⟨1, 0⟩, emptyEdition, armedS, by decide⟩⟩


theorem test_meets_DeskPoints :
    (∃ (d : Nat) (u : State) (a : List Nat) (p : Nat) (v : Word) (s : State),
      (deskServes d 0x30 4 2 false s = true) ∧ (u = takeDoorbell d s) ∧ (a = cmdArgs u d) ∧ (ownPoint u (handleArg a 1) = some p) ∧ (v = wd (argN a 3)) ∧ (catForceable (catAt u p) = true) ∧ (inForm (catType (catAt u p)) v = true) ∧ (argN a 4 % 4 ≠ 3)) ∧
    (∃ (d : Nat) (u : State) (s : State),
      (deskServes d 0x30 4 2 false s = true) ∧ (u = takeDoorbell d s) ∧ (ownPoint u (handleArg (cmdArgs u d) 1) = none)) ∧
    (∃ (d : Nat) (u : State) (p : Nat) (s : State),
      (deskServes d 0x31 2 2 false s = true) ∧ (u = takeDoorbell d s) ∧ (ownPoint u (handleArg (cmdArgs u d) 1) = some p) ∧ ((getPt u p).forced = true)) ∧
    (∃ (d : Nat) (u : State) (p : Nat) (s : State),
      (deskServes d 0x31 2 2 false s = true) ∧ (u = takeDoorbell d s) ∧ (ownPoint u (handleArg (cmdArgs u d) 1) = some p) ∧ ((getPt u p).forced = false)) ∧
    (∃ (d : Nat) (u : State) (a : List Nat) (k : Nat) (n : Nat) (s : State),
      (deskServes d 0x40 3 8 false s = true) ∧ (u = takeDoorbell d s) ∧ (a = cmdArgs u d) ∧ (k = argN a 1 % 8) ∧ (n = argN a 2) ∧ (inService u k n = true) ∧ (swapBusy u k n = false) ∧ (atticFind u k (fun w => w.unit == n) = none) ∧ (spares u k n = [])) ∧
    (∃ (d : Nat) (u : State) (a : List Nat) (k : Nat) (n : Nat) (sp : Nat) (l : List Nat) (s : State),
      (deskServes d 0x40 3 8 false s = true) ∧ (u = takeDoorbell d s) ∧ (a = cmdArgs u d) ∧ (k = argN a 1 % 8) ∧ (n = argN a 2) ∧ (inService u k n = true) ∧ (swapBusy u k n = false) ∧ (atticFind u k (fun w => w.unit == n) = none) ∧ (spares u k n = sp :: l) ∧ (argN a 3 = 0xFFFFFF)) ∧
    (∃ (x : Word) (g : Word) (d : Nat) (u : State) (n : Nat) (s : State),
      (deskServes d 0x41 2 8 false s = true) ∧ (u = takeDoorbell d s) ∧ (argN (cmdArgs u d) 1 % 8 = 4) ∧ (n = argN (cmdArgs u d) 2) ∧ (u.stw.fencedCores.contains n = true)) ∧
    (∃ (x : Word) (g : Word) (d : Nat) (u : State) (n : Nat) (s : State),
      (deskServes d 0x41 2 8 false s = true) ∧ (u = takeDoorbell d s) ∧ (argN (cmdArgs u d) 1 % 8 = 4) ∧ (n = argN (cmdArgs u d) 2) ∧ (u.stw.fencedCores.contains n = true)) ∧
    (∃ (passed : Bool) (x : Word) (g : Word) (d : Nat) (u : State) (s : State),
      (deskServes d 0x41 2 8 false s = true) ∧ (u = takeDoorbell d s) ∧ (argN (cmdArgs u d) 1 % 8 < 6) ∧ (argN (cmdArgs u d) 1 % 8 ≠ 1) ∧ (isFenced u (argN (cmdArgs u d) 1 % 8) (argN (cmdArgs u d) 2) = false)) ∧
    (∃ (d : Nat) (u : State) (a : List Nat) (st : Nat) (limit : Nat) (s : State),
      (deskServes d 0x50 2 8 false s = true) ∧ (u = takeDoorbell d s) ∧ (a = cmdArgs u d) ∧ (st = argN a 1 % 4) ∧ (limit = (if argN a 2 = 0 then 1000 else argN a 2)) ∧ (10 ≤ limit) ∧ (limit ≤ 100000) ∧ (st ≠ 0) ∧ (flag u fPWR_STATUS_BUSY = false) ∧ (pwrState u = 0)) ∧
    (∃ (d : Nat) (u : State) (a : List Nat) (limit : Nat) (s : State),
      (deskServes d 0x50 2 8 false s = true) ∧ (u = takeDoorbell d s) ∧ (a = cmdArgs u d) ∧ (limit = (if argN a 2 = 0 then 1000 else argN a 2)) ∧ (limit < 10 ∨ 100000 < limit)) :=
  ⟨⟨2, left 2 (forceable (deskS 2 0x30 (adrH 5 ++ [1, 0]))), adrH 5 ++ [1, 0], 5, 1, forceable (deskS 2 0x30 (adrH 5 ++ [1, 0])), by decide⟩,
   ⟨2, left 2 (deskS 2 0x30 [0, 0, 0, 0]), deskS 2 0x30 [0, 0, 0, 0], by decide⟩,
   ⟨2, left 2 (forceable (deskS 2 0x31 (adrH 5))), 5, forceable (deskS 2 0x31 (adrH 5)), by decide⟩,
   ⟨2, left 2 (forceable (deskS 2 0x31 (adrH 6))), 6, forceable (deskS 2 0x31 (adrH 6)), by decide⟩,
   ⟨2, left 2 (setF fDSK_CORE_SPARE 3 (deskS 2 0x40 [4, 0, 0xFFFFFF])), [4, 0, 0xFFFFFF], 4, 0, setF fDSK_CORE_SPARE 3 (deskS 2 0x40 [4, 0, 0xFFFFFF]), by decide⟩,
   ⟨2, left 2 (setF fDSK_CORE_SPARE 2 (deskS 2 0x40 [4, 0, 0xFFFFFF])), [4, 0, 0xFFFFFF], 4, 0, 2, [], setF fDSK_CORE_SPARE 2 (deskS 2 0x40 [4, 0, 0xFFFFFF]), by decide⟩,
   ⟨0, 0, 2, left 2 (inStw (fun x => { x with fencedCores := [1] }) (deskS 2 0x41 [4, 1])), 1, inStw (fun x => { x with fencedCores := [1] }) (deskS 2 0x41 [4, 1]), by decide⟩,
   ⟨0, 0, 2, left 2 (inStw (fun x => { x with fencedCores := [1] }) (deskS 2 0x41 [4, 1])), 1, inStw (fun x => { x with fencedCores := [1] }) (deskS 2 0x41 [4, 1]), by decide⟩,
   ⟨true, 0, 0, 2, left 2 (deskS 2 0x41 [4, 1]), deskS 2 0x41 [4, 1], by decide⟩,
   ⟨2, left 2 (deskS 2 0x50 [1, 0]), [1, 0], 1, 1000, deskS 2 0x50 [1, 0], by decide⟩,
   ⟨2, left 2 (deskS 2 0x50 [1, 5]), [1, 5], 5, deskS 2 0x50 [1, 5], by decide⟩⟩


theorem test_meets_DeskVolumes :
    (∃ (d : Nat) (u : State) (s : State),
      (deskServes d 0x60 0 1 false s = true) ∧ (u = takeDoorbell d s)) ∧
    (∃ (d : Nat) (u : State) (v : Nat) (s : State),
      (deskServes d 0x61 4 8 true s = true) ∧ (u = takeDoorbell d s) ∧ (v = argN (cmdArgs u d) 1 % 2) ∧ (u.sec.volArmed = none) ∧ (u.sec.trial = none) ∧ (u.stw.armed = none) ∧ ((getVol u v).state ≠ 1) ∧ ((getVol u v).state ≠ 5)) ∧
    (∃ (d : Nat) (u : State) (a : List Nat) (v : Nat) (auto : Bool) (at0 : Nat) (x : Volume) (s : State),
      (deskServes d 0x61 4 8 true s = true) ∧ (u = takeDoorbell d s) ∧ (a = cmdArgs u d) ∧ (v = argN a 1 % 2) ∧ (auto = (bitsOf (argN a 1) 1 1 == 1)) ∧ (at0 = timeArg a 2) ∧ (x = getVol u v) ∧ (u.sec.volArmed = none) ∧ (u.sec.trial = none) ∧ (u.stw.armed = none) ∧ (x.state = 1) ∧ (x.good = true) ∧ (slotOk u x.slot 0 = true) ∧ (versionOk u 0 x.secVer = true) ∧ (u.ringNs + 100000000 ≤ at0) ∧ (at0 ≤ u.ringNs + 604800000000000)) ∧
    (∃ (f : Bool) (d : Nat) (u : State) (s : State),
      (deskServes d 0x62 0 8 true s = true) ∧ (u = takeDoorbell d s) ∧ (u.sec.trial = none)) ∧
    (∃ (d : Nat) (u : State) (s : State),
      (deskServes d 0x62 0 8 true s = true) ∧ (u = takeDoorbell d s) ∧ (u.sec.trial ≠ none) ∧ (getF u fSEC_VOL_PHASE = 2) ∧ (u.boot.flash = true)) ∧
    (∃ (d : Nat) (u : State) (s : State),
      (deskServes d 0x63 0 8 true s = true) ∧ (u = takeDoorbell d s) ∧ (u.sec.trial ≠ none)) ∧
    (∃ (d : Nat) (u : State) (s : State),
      (deskServes d 0x63 0 8 true s = true) ∧ (u = takeDoorbell d s) ∧ (u.sec.trial = none)) ∧
    (∃ (d : Nat) (u : State) (k : Nat) (s : State),
      (deskServes d 0x68 1 8 false s = true) ∧ (u = takeDoorbell d s) ∧ (k = argN (cmdArgs u d) 1) ∧ (keyRO k = true ∨ keyBits k ≠ none)) ∧
    (∃ (d : Nat) (u : State) (k : Nat) (s : State),
      (deskServes d 0x68 1 8 false s = true) ∧ (u = takeDoorbell d s) ∧ (k = argN (cmdArgs u d) 1) ∧ (keyRO k = false) ∧ (keyBits k = none) ∧ (keyProg k = false) ∧ (keyRevoke k = false)) ∧
    (∃ (d : Nat) (u : State) (k : Nat) (n : Nat) (s : State),
      (deskServes d 0x69 2 8 false s = true) ∧ (u = takeDoorbell d s) ∧ (k = argN (cmdArgs u d) 1) ∧ (keyRO k = false) ∧ (keyProg k = false) ∧ (keyRevoke k = false) ∧ (keyBits k = some n) ∧ (argN (cmdArgs u d) 2 < 2 ^ n) ∧ (u.boot.flash = true)) ∧
    (∃ (f : Bool) (d : Nat) (u : State) (s : State),
      (deskServes d 0x69 2 8 false s = true) ∧ (u = takeDoorbell d s) ∧ (keyRO (argN (cmdArgs u d) 1) = true)) ∧
    (∃ (d : Nat) (u : State) (s : State),
      (deskServes d 0x70 3 8 false s = true) ∧ (u = takeDoorbell d s) ∧ (flag u fRTM_STATUS_GM = true)) ∧
    (∃ (d : Nat) (u : State) (s : State),
      (deskServes d 0x70 3 8 false s = true) ∧ (u = takeDoorbell d s) ∧ (flag u fRTM_STATUS_GM = false)) ∧
    (∃ (d : Nat) (u : State) (v : State) (s : State),
      (deskServes d 0x71 3 8 false s = true) ∧ (u = takeDoorbell d s) ∧ (argN (cmdArgs u d) 1 % 2 = 1) ∧ (u.boot.flash = true) ∧ (v = putKey 1 [wd (argN (cmdArgs u d) 2), wd (argN (cmdArgs u d) 3)] u)) ∧
    (∃ (f : Bool) (d : Nat) (u : State) (s : State),
      (deskServes d 0x71 3 8 false s = true) ∧ (u = takeDoorbell d s) ∧ (argN (cmdArgs u d) 1 % 2 = 0)) ∧
    (∃ (d : Nat) (u : State) (s : State),
      (deskServes d 0x7F 1 8 false s = true) ∧ (u = takeDoorbell d s)) :=
  ⟨⟨2, left 2 (deskS 2 0x60 []), deskS 2 0x60 [], by decide⟩,
   ⟨2, left 2 (setVol 1 { Volume.init with state := 0 } (deskS 2 0x61 [1, 0, 0, 0])), 1, setVol 1 { Volume.init with state := 0 } (deskS 2 0x61 [1, 0, 0, 0]), by decide⟩,
   ⟨2, left 2 (goodVol (deskS 2 0x61 [1, 0, 100, 0])), [1, 0, 100, 0], 1, false, 100 * 2 ^ 24, volG, goodVol (deskS 2 0x61 [1, 0, 100, 0]), by decide⟩,
   ⟨true, 2, left 2 (deskS 2 0x62 []), deskS 2 0x62 [], by decide⟩,
   ⟨2, left 2 (setF fSEC_VOL_PHASE 2 (inSec (fun x => { x with trial := some ⟨0, false, [], none, false⟩ }) (deskS 2 0x62 []))), setF fSEC_VOL_PHASE 2 (inSec (fun x => { x with trial := some ⟨0, false, [], none, false⟩ }) (deskS 2 0x62 [])), by decide⟩,
   ⟨2, left 2 (inSec (fun x => { x with trial := some ⟨0, false, [], none, false⟩ }) (deskS 2 0x63 [])), inSec (fun x => { x with trial := some ⟨0, false, [], none, false⟩ }) (deskS 2 0x63 []), by decide⟩,
   ⟨2, left 2 (deskS 2 0x63 []), deskS 2 0x63 [], by decide⟩,
   ⟨2, left 2 (deskS 2 0x68 [0x21]), 0x21, deskS 2 0x68 [0x21], by decide⟩,
   ⟨2, left 2 (deskS 2 0x68 [0x22]), 0x22, deskS 2 0x68 [0x22], by decide⟩,
   ⟨2, left 2 (deskS 2 0x69 [0x21, 5]), 0x21, 22, deskS 2 0x69 [0x21, 5], by decide⟩,
   ⟨true, 2, left 2 (deskS 2 0x69 [1, 5]), deskS 2 0x69 [1, 5], by decide⟩,
   ⟨2, left 2 (setF fRTM_STATUS_GM 1 (deskS 2 0x70 [1, 2, 3])), setF fRTM_STATUS_GM 1 (deskS 2 0x70 [1, 2, 3]), by decide⟩,
   ⟨2, left 2 (deskS 2 0x70 [1, 2, 3]), deskS 2 0x70 [1, 2, 3], by decide⟩,
   ⟨2, left 2 (deskS 2 0x71 [1, 2, 3]), putKey 1 [2, 3] (left 2 (deskS 2 0x71 [1, 2, 3])), deskS 2 0x71 [1, 2, 3], by decide⟩,
   ⟨false, 2, left 2 (deskS 2 0x71 [0, 2, 3]), deskS 2 0x71 [0, 2, 3], by decide⟩,
   ⟨2, left 2 (deskS 2 0x7F [1]), deskS 2 0x7F [1], by decide⟩⟩


theorem test_meets_FeedsNode :
    (∃ (x : Nat) (v : Nat) (held : Nat) (s : State),
      (x < 2) ∧ (17500 ≤ v) ∧ (v ≤ 61500) ∧ (getF s (feedFld x) ≠ 2) ∧ (getF s (feedFld x) ≠ 3)) ∧
    (∃ (x : Nat) (v : Nat) (held : Nat) (s : State),
      (x < 2) ∧ (v < 9000) ∧ (10000 ≤ held) ∧ (getF s (feedFld x) ≠ 0) ∧ (getF s (feedFld x) ≠ 3)) ∧
    (∃ (x : Nat) (v : Nat) (held : Nat) (s : State),
      (x < 2) ∧ (v < 9000) ∧ (10000 ≤ held) ∧ (getF s (feedFld x) = 3)) ∧
    (∃ (x : Nat) (v : Nat) (held : Nat) (s : State),
      (x < 2) ∧ (9000 ≤ v) ∧ (v < 16500) ∧ (10000 ≤ held) ∧ (getF s (feedFld x) = 3)) ∧
    (∃ (x : Nat) (v : Nat) (held : Nat) (s : State),
      (x < 2) ∧ (63000 < v) ∧ (1000 ≤ held) ∧ (getF s (feedFld x) = 3)) ∧
    (∃ (x : Nat) (v : Nat) (held : Nat) (s : State),
      (x < 2) ∧ (16500 ≤ v) ∧ (v ≤ 63000) ∧ (getF s (feedFld x) = 3)) ∧
    (∃ (x : Nat) (v : Nat) (held : Nat) (s : State),
      (x < 2) ∧ (61500 < v) ∧ (v ≤ 63000) ∧ (getF s (feedFld x) = 2)) ∧
    (∃ (x : Nat) (vfeed : Nat) (vnode : Nat) (u : State) (s : State),
      (x < 2) ∧ (getF s (feedFld x) = 2) ∧ ((getFeed s x).band = false) ∧ ((getFeed s x).qualSince + (if (getFeed s x).long then 100000000 else 1000000) ≤ s.clk) ∧ (u = setF (feedOnFld x) 1 (setF (feedFld x) 3 s)) ∧ (getF u fFED_STATUS_NODE ≠ 3)) ∧
    (∃ (x : Nat) (vin : Nat) (bus : Nat) (s : State),
      (x < 2) ∧ (feedGood s x = true) ∧ (vin + 15 < bus)) ∧
    (∃ (x : Nat) (vx : Nat) (vother : Nat) (bus : Nat) (held : Nat) (s : State),
      (x < 2) ∧ (feedGood s x = true) ∧ (vother + 500 < vx) ∧ (bus + 500 < vx) ∧ (1000000 ≤ held)) ∧
    (∃ (x : Nat) (vx : Nat) (vother : Nat) (bus : Nat) (held : Nat) (s : State),
      (x < 2) ∧ (feedGood s x = false) ∧ (feedGood s (1 - x) = true) ∧ (vx ≤ bus + 500) ∧ (bus ≤ vx + 500) ∧ (10000000 ≤ held)) ∧
    (∃ (x : Nat) (vx : Nat) (vother : Nat) (bus : Nat) (held : Nat) (s : State),
      (x < 2) ∧ (feedGood s x = true) ∧ (vx ≤ vother + 500 ∨ vx ≤ bus + 500) ∧ ((getFeed s x).fet ≠ 0)) ∧
    (∃ (vfeed : Nat) (vnode : Nat) (s : State),
      (getF s fFED_STATUS_NODE = 2) ∧ (vfeed ≤ vnode + 1000) ∧ (vnode ≤ vfeed + 1000)) ∧
    (∃ (vfeed : Nat) (vnode : Nat) (e : Bool) (s : State),
      (getF s fFED_STATUS_NODE = 1) ∧ (vfeed < 2 * vnode)) ∧
    (∃ (vfeed : Nat) (vnode : Nat) (sense : Nat) (held : Nat) (u : State) (s : State),
      (getF s fFED_STATUS_NODE = 2) ∧ (150000 ≤ sense) ∧ (u = setF fFED_STATUS_PG 0 (setFed { s.fed with nodeSince := s.clk } (setF fFED_STATUS_NODE 4 s)))) ∧
    (∃ (vfeed : Nat) (vnode : Nat) (sense : Nat) (held : Nat) (u : State) (s : State),
      (getF s fFED_STATUS_NODE = 3) ∧ (50000 ≤ sense) ∧ (5000000 < held) ∧ (u = setF fFED_STATUS_PG 0 (setFed { s.fed with nodeSince := s.clk } (setF fFED_STATUS_NODE 4 s)))) ∧
    (∃ (d : Nat) (s : State),
      (s.fed.retryAt = some d) ∧ (getF s fFED_STATUS_NODE = 4) ∧ (d ≤ s.clk)) ∧
    (∃ (vnode : Nat) (held : Nat) (s : State),
      (getF s fFED_STATUS_NODE = 3) ∧ (flag s fFED_STATUS_WARN = true)) ∧
    (∃ (vnode : Nat) (held : Nat) (u : State) (s : State),
      (getF s fFED_STATUS_NODE = 3) ∧ (vnode < 250 * getF s fFED_CTL_WARN_V) ∧ (5000 ≤ held) ∧ (flag s fFED_STATUS_WARN = false) ∧ (u = setFed { s.fed with warnClear := none, shedding := true } (setF fFED_STATUS_WARN 1 s))) ∧
    (∃ (vnode : Nat) (held : Nat) (d : Nat) (s : State),
      (s.fed.warnClear = some d) ∧ (flag s fFED_STATUS_WARN = true) ∧ (d + 10000000 ≤ s.clk) ∧ (250 * getF s fFED_CTL_WARN_V + 1000 ≤ vnode) ∧ (10000000 ≤ held)) :=
  ⟨⟨1, 20000, 0, allOn, by decide⟩,
   ⟨1, 5, 10000, feedAt 1 4, by decide⟩,
   ⟨1, 5, 10000, feedAt 1 3, by decide⟩,
   ⟨1, 9000, 10000, feedAt 1 3, by decide⟩,
   ⟨1, 63001, 1000, feedAt 1 3, by decide⟩,
   ⟨1, 16500, 10000, feedAt 1 3, by decide⟩,
   ⟨1, 63000, 10000, feedAt 1 2, by decide⟩,
   ⟨1, 48000, 100, setF (feedOnFld 1) 1 (setF (feedFld 1) 3 (atClk (10 ^ 9) (feedAt 1 2))), atClk (10 ^ 9) (feedAt 1 2), by decide⟩,
   ⟨1, 48000, 48016, feedAt 1 3, by decide⟩,
   ⟨1, 48000, 20000, 20000, 1000000, feedAt 1 3, by decide⟩,
   ⟨0, 48000, 48000, 48000, 10000000, feedAt 1 3, by decide⟩,
   ⟨1, 48000, 48000, 48000, 0, setFeed 1 { getFeed allOn 1 with fet := 1 } (feedAt 1 3), by decide⟩,
   ⟨48000, 47000, setF fFED_STATUS_NODE 2 allOn, by decide⟩,
   ⟨48000, 24001, false, setF fFED_STATUS_NODE 1 allOn, by decide⟩,
   ⟨48000, 0, 150000, 0, setF fFED_STATUS_PG 0 (setFed { allOn.fed with nodeSince := allOn.clk } (setF fFED_STATUS_NODE 4 (setF fFED_STATUS_NODE 2 allOn))), setF fFED_STATUS_NODE 2 allOn, by decide⟩,
   ⟨48000, 0, 50000, 5000001, setF fFED_STATUS_PG 0 (setFed { allOn.fed with nodeSince := allOn.clk } (setF fFED_STATUS_NODE 4 (setF fFED_STATUS_NODE 3 allOn))), setF fFED_STATUS_NODE 3 allOn, by decide⟩,
   ⟨0, setFed { allOn.fed with retryAt := some 0 } (setF fFED_STATUS_NODE 4 allOn), by decide⟩,
   ⟨0, 5000, setF fFED_STATUS_WARN 1 (setF fFED_STATUS_NODE 3 allOn), by decide⟩,
   ⟨0, 5000, setFed { allOn.fed with warnClear := none, shedding := true } (setF fFED_STATUS_WARN 1 (setF fFED_STATUS_NODE 3 allOn)), setF fFED_STATUS_NODE 3 allOn, by decide⟩,
   ⟨100000, 10000000, 0, atClk (10 ^ 8) (setFed { allOn.fed with warnClear := some 0 } (setF fFED_STATUS_WARN 1 allOn)), by decide⟩⟩


theorem test_meets_FeedsChannels :
    (∃ (n : Nat) (m : Sensed) (s : State),
      (n < 16) ∧ (fscState s n = 1) ∧ (10 * m.vout < 3 * m.vin)) ∧
    (∃ (n : Nat) (m : Sensed) (s : State),
      (n < 16) ∧ (fscState s n = 1) ∧ (3 * m.vin ≤ 10 * m.vout) ∧ ((getFsc s n).since + 100000000 ≤ s.clk)) ∧
    (∃ (n : Nat) (m : Sensed) (s : State),
      (n < 16) ∧ (fscState s n = 2) ∧ (m.vin < 2 * m.vout)) ∧
    (∃ (n : Nat) (m : Sensed) (s : State),
      (n < 16) ∧ (fscState s n = 3) ∧ (98 * m.vin ≤ 100 * m.vout) ∧ (100 * m.vout ≤ 102 * m.vin)) ∧
    (∃ (n : Nat) (m : Sensed) (held : Nat) (s : State),
      (n < 16) ∧ (fscState s n = 4) ∧ (250 * getF s (fFED_FSC_LIM_ILIM n) ≤ m.sense) ∧ (10000 * getF s (fFED_FSC_TMR_SOA n) < held) ∧ (getF s (fFED_FSC_RETRY_LATCH_N n) = 0)) ∧
    (∃ (n : Nat) (m : Sensed) (held : Nat) (s : State),
      (n < 16) ∧ (fscState s n = 4) ∧ (250 * getF s (fFED_FSC_LIM_ILIM n) ≤ m.sense) ∧ (2 * m.vout < m.vin) ∧ (getF s (fFED_FSC_RETRY_LATCH_N n) ≠ 0) ∧ (min 15 (getF s (fFED_FSC_STAT_TRIPS n) + 1) = getF s (fFED_FSC_RETRY_LATCH_N n))) ∧
    (∃ (n : Nat) (m : Sensed) (held : Nat) (s : State),
      (n < 16) ∧ (2 ≤ fscState s n) ∧ (fscState s n ≤ 4) ∧ (750 * getF s (fFED_FSC_LIM_ILIM n) ≤ m.sense) ∧ (getF s (fFED_FSC_RETRY_LATCH_N n) = 0)) ∧
    (∃ (n : Nat) (m : Sensed) (held : Nat) (s : State),
      (n < 16) ∧ (fscState s n = 2) ∧ ((getFsc s n).since + 1000000 * max 1 (getF s (fFED_FSC_TMR_PRE_T n)) ≤ s.clk) ∧ (2 * m.vout ≤ m.vin) ∧ (getF s (fFED_FSC_RETRY_LATCH_N n) = 0)) ∧
    (∃ (n : Nat) (s : State),
      (n < 16) ∧ (fscState s n = 5) ∧ ((getFsc s n).retryAt ≤ s.clk)) ∧
    (∃ (n : Nat) (s : State),
      (n < 16) ∧ (fscState s n = 4) ∧ ((getFsc s n).since + 1000000000 * max 1 (getF s (fFED_FSC_RETRY_CLEAR_T n)) ≤ s.clk)) ∧
    (∃ (n : Nat) (m : Sensed) (u : State) (s : State),
      (n < 16) ∧ (flag s (fFED_FSC_CTL_PRES_EN n) = false) ∧ (fscState s n = 7) ∧ (probeDue s n ≤ s.clk) ∧ (2000 ≤ m.vout) ∧ (u = setFsc n { getFsc s n with probed := s.clk } s)) ∧
    (∃ (n : Nat) (m : Sensed) (s : State),
      (n < 16) ∧ (flag s (fFED_FSC_CTL_PRES_EN n) = false) ∧ (fscState s n = 5 ∨ fscState s n = 8) ∧ (probeDue s n ≤ s.clk) ∧ (m.vout < 2000) ∧ (200 * m.sense < 250 * getF s (fFED_FSC_LIM_ILIM n))) ∧
    (∃ (n : Nat) (m : Sensed) (held : Nat) (s : State),
      (n < 16) ∧ (fscState s n = 4) ∧ (m.vout < 2000) ∧ (200 * m.sense < 250 * getF s (fFED_FSC_LIM_ILIM n)) ∧ (1000000 ≤ held)) ∧
    (∃ (n : Nat) (m : Sensed) (held : Nat) (s : State),
      (n < 16) ∧ (fscState s n = 4) ∧ (flag s (fFED_FSC_CTL_PRES_EN n) = true)) ∧
    (∃ (n : Nat) (s : State),
      (n < 16) ∧ (fscState s n = 7) ∧ (flag s (fFED_FSC_CTL_PRES_EN n) = true)) ∧
    (∃ (n : Nat) (d : Nat) (s : State),
      (n < 16) ∧ (fscState s n = 8) ∧ ((getFsc s n).since + 100000000 ≤ s.clk) ∧ ((getFsc s n).absentAt = some d) ∧ (d + 2000000000 ≤ (getFsc s n).since)) ∧
    (∃ (n : Nat) (m : Sensed) (held : Nat) (s : State),
      (n < 16) ∧ (fscState s n = 0 ∨ fscState s n = 5 ∨ fscState s n = 6) ∧ (250 * getF s (fFED_FSC_LIM_ILIM n) < 20 * m.sense) ∧ (1000000 ≤ held)) ∧
    (∃ (w : Writer) (n : Nat) (s : State),
      (n < 16) ∧ (mayWrite w (oFED_FSC_CTL n) s = true) ∧ (fscState (setF (fFED_FSC_CTL_EN n) 1 s) n = 0)) ∧
    (∃ (w : Writer) (n : Nat) (s : State),
      (n < 16) ∧ (mayWrite w (oFED_FSC_CTL n) s = true) ∧ (fscState (setF (fFED_FSC_CTL_EN n) 0 s) n = 4)) ∧
    (∃ (w : Writer) (n : Nat) (m : Sensed) (s : State),
      (n < 16) ∧ (mayWrite w (oFED_FSC_CTL n) s = true) ∧ (fscState s n = 6)) ∧
    (∃ (w : Writer) (n : Nat) (m : Sensed) (s : State),
      (n < 16) ∧ (mayWrite w (oFED_FSC_CTL n) s = true) ∧ (fscState s n = 9) ∧ (3 * m.vin ≤ 10 * m.vout)) ∧
    (∃ (n : Nat) (vin : Nat) (s : State),
      (n < 16) ∧ (getF s fPWR_STATUS_STATE = 3)) ∧
    (∃ (n : Nat) (vin : Nat) (s : State),
      (n < 16) ∧ (vin < 8000)) ∧
    (∃ (n : Nat) (vin : Nat) (s : State),
      (n < 16) ∧ (9000 < vin) ∧ ((getFsc s n).holds.contains 3 = true) ∧ (fscState (setHolds n (delSet 3 (getFsc s n).holds) s) n = 0)) :=
  ⟨⟨15, ⟨48000, 0, 0⟩, fscAt 1, by decide⟩,
   ⟨15, ⟨48000, 14400, 0⟩, atClk (10 ^ 9) (fscAt 1), by decide⟩,
   ⟨15, ⟨48000, 24001, 0⟩, fscAt 2, by decide⟩,
   ⟨15, ⟨48000, 48960, 0⟩, fscAt 3, by decide⟩,
   ⟨15, ⟨48000, 48000, 10 ^ 6⟩, 10 ^ 9, setF (fFED_FSC_RETRY_LATCH_N 15) 0 (fscAt 4), by decide⟩,
   ⟨15, ⟨48000, 0, 10 ^ 6⟩, 0, setF (fFED_FSC_RETRY_LATCH_N 15) 1 (fscAt 4), by decide⟩,
   ⟨15, ⟨48000, 0, 10 ^ 6⟩, 0, setF (fFED_FSC_RETRY_LATCH_N 15) 0 (fscAt 2), by decide⟩,
   ⟨15, ⟨48000, 0, 0⟩, 0, atClk (10 ^ 12) (setF (fFED_FSC_RETRY_LATCH_N 15) 0 (fscAt 2)), by decide⟩,
   ⟨15, fscAt 5, by decide⟩,
   ⟨15, atClk (10 ^ 15) (fscAt 4), by decide⟩,
   ⟨15, ⟨48000, 2000, 0⟩, setFsc 15 { getFsc (probeAt 7) 15 with probed := 10 ^ 9 } (probeAt 7), probeAt 7, by decide⟩,
   ⟨15, ⟨48000, 0, 0⟩, setF (fFED_FSC_LIM_ILIM 15) 50 (probeAt 5), by decide⟩,
   ⟨15, ⟨48000, 0, 0⟩, 1000000, setF (fFED_FSC_LIM_ILIM 15) 50 (fscAt 4), by decide⟩,
   ⟨15, ⟨48000, 0, 0⟩, 0, presAt 4, by decide⟩,
   ⟨15, presAt 7, by decide⟩,
   ⟨15, 0, atClk (10 ^ 10) (setFsc 15 { Fsc.init with since := 2000000000, absentAt := some 0 } (fscAt 8)), by decide⟩,
   ⟨15, ⟨48000, 0, 10 ^ 6⟩, 1000000, fscAt 6, by decide⟩,
   ⟨.steward, 15, fscAt 0, by decide⟩,
   ⟨.steward, 15, fscAt 4, by decide⟩,
   ⟨.steward, 15, ⟨48000, 0, 0⟩, fscAt 6, by decide⟩,
   ⟨.steward, 15, ⟨48000, 14400, 0⟩, fscAt 9, by decide⟩,
   ⟨15, 0, pwrAt 3, by decide⟩,
   ⟨15, 7999, allOn, by decide⟩,
   ⟨15, 9001, setHolds 15 [3] (fscAt 0), by decide⟩⟩


theorem test_meets_PowerStates :
    (∃ (w : Writer) (v : Word) (s : State),
      (mayWrite w oPWR_REQ s = true) ∧ (bitsOf v.toNat 4 1 = 1)) ∧
    (∃ (r : PowerReq) (s : State),
      (s.pwr.domDrain = none) ∧ (s.pwr.req = some r) ∧ (reqDrained s r = true)) ∧
    (∃ (r : PowerReq) (s : State),
      (s.pwr.domDrain = none) ∧ (s.pwr.req = some r) ∧ (r.began + 1000 * r.limitUs ≤ s.clk) ∧ (reqDrained s r = false) ∧ (r.force = true)) ∧
    (∃ (r : PowerReq) (s : State),
      (s.pwr.domDrain = none) ∧ (s.pwr.req = some r) ∧ (r.began + 1000 * r.limitUs ≤ s.clk) ∧ (reqDrained s r = false) ∧ (r.force = false)) ∧
    (∃ (w : Writer) (v : Word) (s : State),
      (mayWrite w oPWR_DOM_OFF s = true) ∧ (reg s oPWR_DOM_OFF = 0) ∧ (bitsOf v.toNat 0 6 ≠ 0) ∧ (s.pwr.domDrain = none)) ∧
    (∃ (act : List Nat) (bad : RetentionFound) (u : State) (s : State),
      (entering s = false) ∧ (pwrState s = 3) ∧ (u = recordWake act s)) ∧
    (∃ (act : List Nat) (u : State) (s : State),
      (entering s = false) ∧ (pwrState s = 1 ∨ pwrState s = 2) ∧ (u = recordWake act s)) ∧
    (∃ (act : List Nat) (bad : RetentionFound) (s : State),
      (entering s = true) ∧ (pwrState s ≠ 0)) ∧
    (∃ (b : Bool) (d : Nat) (s : State),
      (s.pwr.pllAt = some d) ∧ (d + 1300000 ≤ s.clk)) ∧
    (∃ (i : Nat) (d : Nat) (s : State),
      (i < 16) ∧ (s.pwr.domAt = [(i, d)]) ∧ (d + 1000000 ≤ s.clk) ∧ (domOn s i = true)) ∧
    (∃ (s : State),
      (s.pwr.orders = [])) ∧
    (∃ (r : Nat) (f : Nat) (l : List (Nat × Nat × Nat)) (v : State) (u : State) (s : State),
      (s.pwr.orders = (r, 2, f) :: l) ∧ (v = setPwr { s.pwr with orders := l } s) ∧ (numbered v = true) ∧ (r = ringId v) ∧ (isCoupler v = false) ∧ (u = setPwr { v.pwr with orderSeen := tset (fun _ => 0) r 1 v.pwr.orderSeen } v) ∧ (isCoupler u = false)) ∧
    (∃ (r : Nat) (f : Nat) (l : List (Nat × Nat × Nat)) (v : State) (s : State),
      (s.pwr.orders = (r, 0, f) :: l) ∧ (v = setPwr { s.pwr with orders := l } s) ∧ (numbered v = true) ∧ (r = ringId v) ∧ (pwrState v = 2) ∧ (entering v = false)) ∧
    (∃ (f : Nat) (n : Nat) (d : Nat) (u : State) (s : State),
      (s.pwr.orderLeft = some (f, n + 1, d)) ∧ (d ≤ s.clk) ∧ (u = sendOrder 0 (f == 1) s)) :=
  ⟨⟨.steward, 16, allOn, by decide⟩,
   ⟨⟨1, false, false, 10, 0, none, false⟩, inPwr (fun x => { x with req := some ⟨1, false, false, 10, 0, none, false⟩ }) allOn, by decide⟩,
   ⟨⟨3, true, false, 10, 0, none, false⟩, atClk (10 ^ 9) (inPwr (fun x => { x with req := some ⟨3, true, false, 10, 0, none, false⟩ }) busyS), by decide⟩,
   ⟨⟨3, false, false, 10, 0, none, false⟩, atClk (10 ^ 9) (inPwr (fun x => { x with req := some ⟨3, false, false, 10, 0, none, false⟩ }) busyS), by decide⟩,
   ⟨.steward, 5, allOn, by decide⟩,
   ⟨[1], ⟨0, 0, 0⟩, recordWake [1] (pwrAt 3), pwrAt 3, by decide⟩,
   ⟨[1], recordWake [1] (pwrAt 2), pwrAt 2, by decide⟩,
   ⟨[1], ⟨0, 0, 0⟩, inPwr (fun x => { x with entry := some (2, 10, 0) }) (pwrAt 2), by decide⟩,
   ⟨false, 0, atClk (10 ^ 8) (inPwr (fun x => { x with pllAt := some 0 }) allOn), by decide⟩,
   ⟨15, 0, atClk (10 ^ 8) (inPwr (fun x => { x with domAt := [(15, 0)] }) allOn), by decide⟩,
   ⟨allOn, by decide⟩,
   ⟨ringId numUp, 1, [], numUp, setPwr { numUp.pwr with orderSeen := tset (fun _ => 0) (ringId numUp) 1 numUp.pwr.orderSeen } numUp, orderS numUp 2, by decide⟩,
   ⟨ringId numUp, 1, [], setF fGLB_NODE2_NUMBERED 1 (pwrAt 2), orderS (setF fGLB_NODE2_NUMBERED 1 (pwrAt 2)) 0, by decide⟩,
   ⟨1, 1, 0, sendOrder 0 true (inPwr (fun x => { x with orderLeft := some (1, 2, 0) }) numUp), inPwr (fun x => { x with orderLeft := some (1, 2, 0) }) numUp, by decide⟩⟩


theorem test_meets_FaultRegistrar :
    (∃ (u : State) (s : State),
      (u = atticRetry (drainRaises s)) ∧ (Memory.wf u = true) ∧ (activeSources u = [])) ∧
    (∃ (u : State) (i : Nat) (s : State),
      (u = atticRetry (drainRaises s)) ∧ (activeSources u = [i]) ∧ (u.flt.prev = []) ∧ (fltStat u i = true) ∧ (flag u fFLT_FIRST0_VALID = true)) ∧
    (∃ (u : State) (i : Nat) (v : State) (x : State) (s : State),
      (u = atticRetry (drainRaises s)) ∧ (activeSources u = [i]) ∧ (u.flt.prev = []) ∧ (v = addF fFLT_REPEATS_REPEATS 0 (countEv 1 i 1 { u with flt := { u.flt with pulse := [], prev := [i] } })) ∧ (fltStat (countEv 1 i 1 { u with flt := { u.flt with pulse := [], prev := [i] } }) i = false) ∧ (flag v fFLT_FIRST0_VALID = false) ∧ (x = setF ⟨0xC020 + i / 24, i % 24, 1⟩ 1 (firstFault i [] v))) ∧
    (∃ (u : State) (s : State),
      (u = setF fFLT_STATUS_FIRST 0 (setReg oFLT_FIRST2 0 (setReg oFLT_FIRST1 0 (setReg oFLT_FIRST0 0 s))))) ∧
    (∃ (w : Writer) (i : Nat) (v : Word) (s : State),
      (i < 26) ∧ (mayWrite w (oFLT_FORCE i) s = true)) ∧
    (∃ (w : Writer) (v : Word) (s : State),
      (mayWrite w (oFLT_FORCE 26) s = true)) ∧
    (∃ (k : Nat) (s : State),
      (domOn s (offDomain 0x1_0000) = true)) ∧
    (∃ (k : Nat) (v : Word) (s : State),
      (k < 64) ∧ (domOn s (offDomain 0x1_0000) = true)) ∧
    (∃ (s : State),
      (s.flt.wearHour < s.ringNs / 3600000000000)) ∧
    (∃ (a : Nat) (w : Nat) (s : State),
      (5 ≤ a) ∧ (a < 10) ∧ (8 < getF s (fFLT_ROWS_LEFT a) - 1)) ∧
    (∃ (a : Nat) (w : Nat) (s : State),
      (a < 5) ∧ (rowWorn s a w = true) ∧ (getF s (fFLT_ROWS_LEFT a) ≠ 0) ∧ (getF s (fFLT_ROWS_LEFT a) ≤ 9)) ∧
    (∃ (e : Nat) (f : Nat) (w : Swap) (s : State),
      (atticFind s 5 (fun _ => true) = some w) ∧ (selfTrained s 1 e f = true) ∧ (getF (releasePair 0 s) (fRGx_BYP_STAT_STATE 1) = 1)) ∧
    (∃ (w : Swap) (s : State),
      (atticFind s 5 (fun _ => true) = some w) ∧ (ringUp s 2 = true) ∧ (ringUp s 3 = true) ∧ (seedDone s 1 = true) ∧ (pairInLine s 1 = true)) :=
  ⟨⟨atticRetry (drainRaises stwUp), stwUp, by decide⟩,
   ⟨atticRetry (drainRaises repS), 5, repS, by decide⟩,
   ⟨atticRetry (drainRaises freshS), 5, freshV, setF ⟨0xC020, 5, 1⟩ 1 (firstFault 5 [] freshV), freshS, by decide⟩,
   ⟨setF fFLT_STATUS_FIRST 0 (setReg oFLT_FIRST2 0 (setReg oFLT_FIRST1 0 (setReg oFLT_FIRST0 0 allOn))), allOn, by decide⟩,
   ⟨.steward, 25, 5, allOn, by decide⟩,
   ⟨.steward, 0xFFFFFF, allOn, by decide⟩,
   ⟨3, setCnt 3 { getCnt allOn 3 with val := 5 } allOn, by decide⟩,
   ⟨63, 5, allOn, by decide⟩,
   ⟨{ allOn with ringNs := 3600000000000 }, by decide⟩,
   ⟨9, 0, allOn, by decide⟩,
   ⟨4, 3, rowS, by decide⟩,
   ⟨0, 0, ⟨5, 0, 1, true, false⟩, selfB, by decide⟩,
   ⟨⟨5, 0, 1, true, false⟩, ringbS, by decide⟩⟩


theorem test_meets_TwinMessages :
    (∃ (f : Frame) (u : State) (s : State),
      (stwRuns s = true) ∧ (takeTwin 1 (fun op => op != 0x81 && op != 0x82) s = some (f, u)) ∧ (fromPeer u f = true) ∧ (pw f 1 % 256 ≠ 0x80)) ∧
    (∃ (f : Frame) (u : State) (s : State),
      (stwRuns s = true) ∧ (takeTwin 1 (fun op => op != 0x81 && op != 0x82) s = some (f, u)) ∧ (fromPeer u f = true) ∧ (pw f 1 % 256 = 0x80)) ∧
    (∃ (u : State) (s : State),
      (stwRuns s = true) ∧ (twinOn s = true) ∧ (twinRole s ≠ 0) ∧ (s.twin.helloDue ≤ s.clk) ∧ (u = setTwin { s.twin with helloDue := s.clk + 1000000 } s)) ∧
    (∃ (s : State),
      (twinOn s = true) ∧ (twinRole s ≠ 0) ∧ (s.twin.helloRx + 10000000 ≤ s.clk)) ∧
    (∃ (f : Frame) (u : State) (s : State),
      (stwRuns s = true) ∧ (takeTwin 1 ((· == 0x81)) s = some (f, u)) ∧ (fromPeer u f = true) ∧ (twinRole u = 2) ∧ (twinReady u = true)) ∧
    (∃ (f : Frame) (u : State) (h : Handover) (s : State),
      (stwRuns s = true) ∧ (takeTwin 2 (fun _ => true) s = some (f, u)) ∧ (u.twin.handover = some h) ∧ (fromPeer u f = true) ∧ (pw f 1 % 256 = 0x81) ∧ (pw f 2 % 256 = 0) ∧ (h.taking = false)) ∧
    (∃ (f : Frame) (u : State) (h : Handover) (s : State),
      (stwRuns s = true) ∧ (takeTwin 1 ((· == 0x82)) s = some (f, u)) ∧ (fromPeer u f = true) ∧ (u.twin.handover = some h) ∧ (h.taking = true) ∧ (u.twin.stages = false)) ∧
    (∃ (h : Handover) (s : State),
      (stwRuns s = true) ∧ (takeTwin 1 (· == 0x82) s = none) ∧ (s.twin.handover = some h) ∧ (h.taking = false) ∧ (h.ok = false) ∧ (h.h ≤ s.ringNs + 200000)) ∧
    (∃ (w : Writer) (u : State) (s : State),
      (mayWrite w oTWN_REQ s = true) ∧ (twinOn s = true) ∧ (twinRole s = 1) ∧ (s.twin.handover = none) ∧ (stwRuns s = true) ∧ (u = setTwin { s.twin with handover := some ⟨s.ringNs + 1000000, false, false, false, 1⟩ } s)) :=
  ⟨⟨got (takeTwin 1 (fun op => op != 0x81 && op != 0x82) (twinS 1 [0x85])), rest (takeTwin 1 (fun op => op != 0x81 && op != 0x82) (twinS 1 [0x85])), twinS 1 [0x85], by decide⟩,
   ⟨got (takeTwin 1 (fun op => op != 0x81 && op != 0x82) (twinS 1 [0x80, 5])), rest (takeTwin 1 (fun op => op != 0x81 && op != 0x82) (twinS 1 [0x80, 5])), twinS 1 [0x80, 5], by decide⟩,
   ⟨setTwin { (roleS 1).twin with helloDue := 1000000 } (roleS 1), roleS 1, by decide⟩,
   ⟨atClk (10 ^ 8) (roleS 1), by decide⟩,
   ⟨got (takeTwin 1 ((· == 0x81)) (setF fTWN_STAT_ROLE 2 (twinS 1 [0x81, 5, 6, 7]))), rest (takeTwin 1 ((· == 0x81)) (setF fTWN_STAT_ROLE 2 (twinS 1 [0x81, 5, 6, 7]))), setF fTWN_STAT_ROLE 2 (twinS 1 [0x81, 5, 6, 7]), by decide⟩,
   ⟨got (takeTwin 2 (fun _ => true) (handS ⟨5, false, false, false, 1⟩ (twinS 2 [0x81, 0]))), rest (takeTwin 2 (fun _ => true) (handS ⟨5, false, false, false, 1⟩ (twinS 2 [0x81, 0]))), ⟨5, false, false, false, 1⟩, handS ⟨5, false, false, false, 1⟩ (twinS 2 [0x81, 0]), by decide⟩,
   ⟨got (takeTwin 1 ((· == 0x82)) (handS ⟨5, true, false, false, 1⟩ (twinS 1 [0x82]))), rest (takeTwin 1 ((· == 0x82)) (handS ⟨5, true, false, false, 1⟩ (twinS 1 [0x82]))), ⟨5, true, false, false, 1⟩, handS ⟨5, true, false, false, 1⟩ (twinS 1 [0x82]), by decide⟩,
   ⟨⟨5, false, false, false, 1⟩, handS ⟨5, false, false, false, 1⟩ (roleS 4), by decide⟩,
   ⟨.steward, setTwin { (roleS 1).twin with handover := some ⟨(roleS 1).ringNs + 1000000, false, false, false, 1⟩ } (roleS 1), roleS 1, by decide⟩⟩


theorem test_meets_TwinRoles :
    (∃ (l : List Nat) (s : State),
      (twinOn s = true) ∧ (flag s fTWN_CTL_CLAIM_EN = true) ∧ (twinClaims s = false)) ∧
    (∃ (l : List Nat) (s : State),
      (twinOn s = true) ∧ (twinClaims s = true) ∧ ((l.map (· % 16)).foldl max 0 ≤ getF s fTWN_CTL_CLAIM_NUM) ∧ (twinRole s ≠ 3)) ∧
    (∃ (h : Handover) (s : State),
      (s.twin.handover = some h) ∧ (h.taking = true) ∧ (h.prepared = false) ∧ (h.h ≤ s.ringNs + 100000) ∧ (stwRuns s = true)) ∧
    (∃ (h : Handover) (s : State),
      (s.twin.handover = some h) ∧ (h.h ≤ s.ringNs) ∧ (s.ringNs < h.h + 15000) ∧ (stwRuns s = true) ∧ (h.ok = true) ∧ (h.taking = false)) ∧
    (∃ (h : Handover) (s : State),
      (s.twin.handover = some h) ∧ (h.h + 15000 ≤ s.ringNs) ∧ (s.ringNs < h.h + 20000) ∧ (stwRuns s = true) ∧ (h.ok = true) ∧ (h.taking = false) ∧ (s.twin.stages = true)) ∧
    (∃ (h : Handover) (s : State),
      (s.twin.handover = some h) ∧ (h.h ≤ s.ringNs) ∧ (s.ringNs < h.h + 20000) ∧ (stwRuns s = true) ∧ (h.ok = true) ∧ (h.taking = true) ∧ (h.prepared = true) ∧ (s.twin.stages = false)) ∧
    (∃ (s : State),
      (twinOn s = true) ∧ (twinRole s = 2) ∧ (flag s fTWN_CTL_CLAIM_EN = true) ∧ (stwRuns s = true) ∧ (s.twin.roundAt + 4 ≤ s.ringNs / 8000)) ∧
    (∃ (n : Nat) (s : State),
      (twinOn s = true) ∧ (twinRole s ≠ 0) ∧ (getF s fTWN_CTL_ROT_PER = 0) ∧ (n = s.ringNs / 3600000000000 - s.twin.hourStart)) ∧
    (∃ (d : Nat) (u : State) (s : State),
      (s.twin.bothSince = some d) ∧ (twinOn s = true) ∧ (twinRole s = 1) ∧ (d + 2000000 ≤ s.clk) ∧ (u = raise 621 (setF fTWN_STAT_BOTH 1 (setTwin { s.twin with bothSince := none } s))) ∧ (getF u fTWN_CTL_CLAIM_NUM < u.twin.peerClaim)) :=
  ⟨⟨[3, 21], setF fTWN_CTL_CLAIM_EN 1 (roleS 1), by decide⟩,
   ⟨[3, 21], setTwin { (roleS 1).twin with stages := true } (setF fTWN_CTL_CLAIM_NUM 7 (setF fTWN_CTL_CLAIM_EN 1 (roleS 1))), by decide⟩,
   ⟨⟨5, true, true, false, 1⟩, handS ⟨5, true, true, false, 1⟩ (roleS 3), by decide⟩,
   ⟨⟨0, false, true, false, 1⟩, handS ⟨0, false, true, false, 1⟩ (roleS 4), by decide⟩,
   ⟨⟨0, false, true, false, 1⟩, handL 15000, by decide⟩,
   ⟨⟨0, true, true, true, 1⟩, handS ⟨0, true, true, true, 1⟩ (roleS 3), by decide⟩,
   ⟨{ setF fTWN_CTL_CLAIM_EN 1 (roleS 2) with ringNs := 32000 }, by decide⟩,
   ⟨0, roleS 1, by decide⟩,
   ⟨0, raise 621 (setF fTWN_STAT_BOTH 1 (setTwin { bothS.twin with bothSince := none } bothS)), bothS, by decide⟩⟩


theorem test_meets_SecurityVolumes :
    (∃ (p : Nat) (s : State),
      (p < 4) ∧ (ringUp s p = true) ∧ (protectedPort s p = true) ∧ (2 ^ 32 - 1 ≤ tget (fun _ => 0) s.sec.txCount p)) ∧
    (∃ (p : Nat) (e : Nat) (s : State),
      (p < 4) ∧ (tget (fun _ => none) s.sec.rxNew p = some e) ∧ (flag s fSEC_STATUS_TRNG_OK = true)) ∧
    (∃ (e : Nat) (s : State),
      (s.sec.debugUntil = some e) ∧ (1000000000 * e ≤ s.ringNs)) ∧
    (∃ (v : Nat) (auto : Bool) (at0 : Nat) (s : State),
      (v < 2) ∧ (s.sec.volArmed = some (v, auto, at0)) ∧ (stwRuns s = true) ∧ (at0 ≤ s.ringNs) ∧ (s.ringNs ≤ at0 + 1000000) ∧ (s.sec.trial = none)) ∧
    (∃ (r : Trial) (s : State),
      (s.sec.trial = some r) ∧ (healthOk s r = true)) ∧
    (∃ (r : Trial) (s : State),
      (s.sec.trial = some r) ∧ (r.t + 30000000000 ≤ s.ringNs) ∧ (getF s fSEC_VOL_PHASE ≠ 2)) ∧
    (∃ (r : Trial) (s : State),
      (s.sec.trial = some r) ∧ (r.t + 30000000000 ≤ s.ringNs) ∧ (getF s fSEC_VOL_PHASE = 2) ∧ (r.auto = true) ∧ (flag s fSEC_STATUS_SETTINGS_DEFAULTED = false) ∧ (stwRuns s = true)) :=
  ⟨⟨3, rollS, by decide⟩,
   ⟨3, 5, inSec (fun x => { x with rxNew := [(3, some 5)] }) (setF fSEC_STATUS_TRNG_OK 1 allOn), by decide⟩,
   ⟨0, inSec (fun x => { x with debugUntil := some 0 }) allOn, by decide⟩,
   ⟨1, false, 0, inSec (fun x => { x with volArmed := some (1, false, 0) }) stwUp, by decide⟩,
   ⟨⟨0, false, [], none, false⟩, setF fPWR_STATUS_CLK 1 (inSec (fun x => { x with trial := some ⟨0, false, [], none, false⟩ }) stwUp), by decide⟩,
   ⟨⟨0, false, [], none, false⟩, { inSec (fun x => { x with trial := some ⟨0, false, [], none, false⟩ }) stwUp with ringNs := 10 ^ 11 }, by decide⟩,
   ⟨⟨0, true, [], none, false⟩, { inSec (fun x => { x with trial := some ⟨0, true, [], none, false⟩ }) (setF fSEC_VOL_PHASE 2 stwUp) with ringNs := 10 ^ 11 }, by decide⟩⟩


theorem test_meets_ResetsBoot :
    (∃ (s : State),
      (domOn s 4 = true) ∧ (s.boot.coreReset = false) ∧ (flag s fDSK_CORE_STOPPED = false) ∧ (s.stw.haltedAt = none)) ∧
    (∃ (s : State),
      (s.stw.haltedAt ≠ none)) ∧
    (∃ (s : State),
      (s.stw.haltedAt ≠ none)) ∧
    (∃ (s : State),
      (s.stw.haltedAt ≠ none) ∧ (flag s fDSK_CORE_DEGRADED = false)) ∧
    (∃ (s : State),
      (stwRuns s = true)) ∧
    (∃ (s : State),
      (s.stw.kickAt + 1000000000 ≤ s.clk) ∧ (domOn s 4 = true) ∧ (s.boot.coreReset = false) ∧ (flag s fDSK_CORE_STOPPED = false) ∧ (getF s fGLB_BOOT_STAGE < 14) ∧ (s.stw.booted = true) ∧ (s.sec.trial = none)) ∧
    (∃ (s : State),
      (s.stw.kickAt + 1000000000 ≤ s.clk) ∧ (domOn s 4 = true) ∧ (s.boot.coreReset = false) ∧ (flag s fDSK_CORE_STOPPED = false) ∧ (getF s fGLB_BOOT_STAGE < 14) ∧ (s.sec.trial ≠ none)) ∧
    (∃ (straps : BitVec 9) (cores : List Nat) (ok : Bool) (u : State) (s : State),
      (s.boot.coreReset = true) ∧ (s.boot.quietFrom + 100000 ≤ s.clk) ∧ (s.boot.causes.contains 0 = false) ∧ (s.boot.causes.contains 4 = false) ∧ (u = setReg oGLB_STRAP (wd straps.toNat) (setBoot { s.boot with coreReset := false, causes := [], bootFailN := true } s))) ∧
    (∃ (s : State),
      (getF s fGLB_BOOT_STAGE = 4) ∧ (s.stw.booted = false) ∧ (domOn s 4 = true) ∧ (s.boot.coreReset = false) ∧ (flag s fDSK_CORE_STOPPED = false) ∧ (s.stw.haltedAt = none)) ∧
    (∃ (d : Nat) (s : State),
      (s.boot.startedAt = some d) ∧ (d + 10000000000 ≤ s.clk) ∧ (stwRuns s = true)) :=
  ⟨⟨stwUp, by decide⟩,
   ⟨inStw (fun x => { x with haltedAt := some 0 }) stwUp, by decide⟩,
   ⟨inStw (fun x => { x with haltedAt := some 0 }) stwUp, by decide⟩,
   ⟨inStw (fun x => { x with haltedAt := some 0 }) stwUp, by decide⟩,
   ⟨stwUp, by decide⟩,
   ⟨atClk (10 ^ 10) stwUp, by decide⟩,
   ⟨atClk (10 ^ 10) (inSec (fun x => { x with trial := some ⟨0, false, [], none, false⟩ }) stwUp), by decide⟩,
   ⟨5, [], true, setReg oGLB_STRAP 5 (setBoot { (relS).boot with coreReset := false, causes := [], bootFailN := true } relS), relS, by decide⟩,
   ⟨{ setF fGLB_BOOT_STAGE 4 allOn with boot := { allOn.boot with coreReset := false } }, by decide⟩,
   ⟨0, atClk (10 ^ 11) { stwUp with boot := { stwUp.boot with startedAt := some 0 } }, by decide⟩⟩


theorem test_meets_HostRemainder :
    (∃ (s : State),
      (usbOn s = true)) ∧
    (∃ (tag : Nat) (r : ReadOut) (a : Unacked) (d : Nat) (s : State),
      (tget (fun _ => none) s.ring.readTags tag = some r) ∧ (r.retryDue = some d) ∧ (readUnacked s tag = some a) ∧ (d ≤ s.clk)) ∧
    (∃ (speed : Nat) (width : Nat) (s : State),
      (1 ≤ speed) ∧ (speed ≤ 4) ∧ (width = 1 ∨ width = 2 ∨ width = 4) ∧ (hifOn s = true) ∧ (s.hif.perst = true) ∧ (flag s fGLB_STRAP_PCIE = true) ∧ (s.boot.coreReset = false)) ∧
    (∃ (c : CfgRequest) (s : State),
      (hifOn s = true) ∧ (s.boot.coreReset = false) ∧ (s.hif.ready = false)) ∧
    (∃ (c : CfgRequest) (s : State),
      (hifOn s = true) ∧ (s.boot.coreReset = false) ∧ (s.hif.ready = true)) ∧
    (∃ (s : State),
      (anaOn s = true)) ∧
    (∃ (s : State),
      (anaOn s = true)) ∧
    (∃ (e : Ecc) (u : State) (s : State),
      (deviceLive s = true) ∧ (flag s fUSB_STATUS_STREAMING = true) ∧ (u = emit (.usb 4 0 (((s.usb.frames.take 7).flatMap id).flatMap (fun w => bytesLE w.toNat 3))) (microframeEnds s)) ∧ (u.usb.microframe % 4 ≠ 0)) ∧
    (∃ (u : State) (v : Nat) (s : State),
      (deviceLive s = true) ∧ (flag s fUSB_STATUS_STREAMING = true) ∧ (u = emit (.usb 4 0 (((s.usb.frames.take 7).flatMap id).flatMap (fun w => bytesLE w.toNat 3))) (microframeEnds s)) ∧ (u.usb.microframe % 4 = 0) ∧ (v = feedback u.usb.perFrame)) :=
  ⟨⟨allOn, by decide⟩,
   ⟨7, { ro with retryDue := some 0 }, ⟨fr 13 5 7 [0], 0, 0, 0⟩, 0, rg (fun x => { x with readTags := [(7, some { ro with retryDue := some 0 })], unacked := [⟨fr 13 5 7 [0], 0, 0, 0⟩] }) numUp, by decide⟩,
   ⟨3, 4, hostS, by decide⟩,
   ⟨.msiControl true, stwUp, by decide⟩,
   ⟨.msiControl true, hostS, by decide⟩,
   ⟨allOn, by decide⟩,
   ⟨allOn, by decide⟩,
   ⟨.ok, emit (.usb 4 0 []) (microframeEnds isoS), isoS, by decide⟩,
   ⟨emit (.usb 4 0 []) (microframeEnds (iso 3)), feedback (emit (.usb 4 0 []) (microframeEnds (iso 3))).usb.perFrame, iso 3, by decide⟩⟩


theorem test_meets_PairedRegisters :
    (∃ (w : Writer) (n : Nat) (v : Word) (s : State),
      (n < 16) ∧ (mayWrite w (oFED_FSC_LIM n) s = true) ∧ (10 ≤ bitsOf v.toNat 0 9) ∧ (bitsOf v.toNat 0 9 ≤ 400) ∧ (bitsOf v.toNat 0 9 ≠ bitsOf (reg s (oFED_FSC_LIM n)).toNat 0 9) ∧ (s.pairs.find? (fun h => h.offA == oFED_FSC_LIM n) = none)) ∧
    (∃ (w : Writer) (n : Nat) (v : Word) (h : PairHold) (s : State),
      (n < 16) ∧ (mayWrite w (oFED_FSC_LIM n) s = true) ∧ (10 ≤ bitsOf v.toNat 0 9) ∧ (bitsOf v.toNat 0 9 ≤ 400) ∧ (s.pairs.find? (fun h => h.offA == oFED_FSC_LIM n) = some h) ∧ (h.maskA = 0) ∧ (h.maskB ≠ 0)) ∧
    (∃ (off : Nat) (h : PairHold) (s : State),
      (s.pairs.find? (fun h => heldMember h == off && h.since + 10000000 < s.clk) = some h)) :=
  ⟨⟨.steward, 15, 20, allOn, by decide⟩,
   ⟨.steward, 15, 20, ⟨0x8179, 0x817A, 0, 0, 0x3FF, 70, 0⟩, { allOn with pairs := [⟨0x8179, 0x817A, 0, 0, 0x3FF, 70, 0⟩] }, by decide⟩,
   ⟨0x817A, ⟨0x8179, 0x817A, 0, 0, 0x3FF, 70, 0⟩, atClk 10000001 { allOn with pairs := [⟨0x8179, 0x817A, 0, 0, 0x3FF, 70, 0⟩] }, by decide⟩⟩


theorem test_meets_CompletionRingFull :
    (∃ (c : Nat) (d : Nat) (s : State),
      (c < 12) ∧ ((getCq s c).fullSince = some d) ∧ (d + 100000000 ≤ s.clk) ∧ ((getCq s c).fullRaised = false) ∧ (cqFree s c = 0)) :=
  ⟨11, 0, atClk (10 ^ 8) (setF (fHIF_CQ_HEAD_HEAD 11) 1 (setCq 11 { Cq.init with fullSince := some 0 } allOn)), by decide⟩


theorem test_meets_DisarmWindow :
    (∃ (d : Nat) (u : State) (a : Armed) (s : State),
      (deskServes d 0x21 0 4 true s = true) ∧ (u = takeDoorbell d s) ∧ (u.stw.armed = some a) ∧ (u.ringNs < a.t - 10000000)) ∧
    (∃ (d : Nat) (u : State) (a : Armed) (s : State),
      (deskServes d 0x21 0 4 true s = true) ∧ (u = takeDoorbell d s) ∧ (u.stw.armed = some a) ∧ (a.t - 10000000 ≤ u.ringNs)) ∧
    (∃ (a : Armed) (s : State),
      (s.stw.armed = some a) ∧ (stwRuns s = true) ∧ (a.t - 10000000 ≤ s.ringNs)) :=
  ⟨⟨2, left 2 (inStw (fun x => { x with armed := some ⟨1, 10 ^ 9⟩ }) (deskS 2 0x21 [])), ⟨1, 10 ^ 9⟩, inStw (fun x => { x with armed := some ⟨1, 10 ^ 9⟩ }) (deskS 2 0x21 []), by decide⟩,
   ⟨2, left 2 (inStw (fun x => { x with armed := some ⟨1, 10000000⟩ }) (deskS 2 0x21 [])), ⟨1, 10000000⟩, inStw (fun x => { x with armed := some ⟨1, 10000000⟩ }) (deskS 2 0x21 []), by decide⟩,
   ⟨⟨1, 5⟩, inStw (fun x => { x with armed := some ⟨1, 5⟩ }) stwUp, by decide⟩⟩


theorem test_meets_SessionEnds :
    (∃ (d : Nat) (s : State) (t : State),
      (d < 8) ∧ (flag s (fDSK_DESK_SESSION d) = true) ∧ (t = closeSession d s)) ∧
    (∃ (d : Nat) (ws : List Word) (s : State),
      (d < 8) ∧ ((getDesk s d).discard = true)) ∧
    (∃ (f : Frame) (u : State) (s : State),
      (stwRuns s = true) ∧ (takeQ 34 (isControl 3) s = some (f, u)) ∧ (holdsSession u f = true)) :=
  ⟨⟨7, sess7, closeSession 7 sess7, by decide⟩,
   ⟨7, [0, 0], setDesk 7 { Desk.init with discard := true } stwUp, by decide⟩,
   ⟨ctl 3, restC 3 (sessS 3), sessS 3, by decide⟩⟩


theorem test_meets_InsulationAlarm :
    (∃ (p : Nat) (kohm : Nat) (r : Nat) (s : State),
      (p < 4) ∧ (flag s (fRGx_IR_STAT_RUNNING p) = true) ∧ (irAllowed s p = true) ∧ ((getPort s p).irRetry = none) ∧ ((getPort s p).irSince + 360000000 ≤ s.clk) ∧ (r = (if kohm < 100 then 0 else min kohm 1000000))) :=
  ⟨3, 99, 0, { irRuns 3 with clk := 360000000 }, by decide⟩


theorem test_meets_AutomaticDrops :
    (∃ (x : Nat) (d : Nat) (s : State),
      (x < 2) ∧ ((getByp s x).downSince = some d) ∧ (pairInLine s x = true) ∧ (flag s (fRGx_BYP_CTL_AUTO_DROP x) = true) ∧ (d + 250000000 * getF s (fRGx_BYP_CTL_DROP_TIME x) < s.clk) ∧ (((getByp s x).drops.filter (fun d => s.clk ≤ d + 600000000000)).length < 2)) ∧
    (∃ (x : Nat) (d : Nat) (s : State),
      (x < 2) ∧ ((getByp s x).downSince = some d) ∧ (pairInLine s x = true) ∧ (flag s (fRGx_BYP_CTL_AUTO_DROP x) = true) ∧ (d + 250000000 * getF s (fRGx_BYP_CTL_DROP_TIME x) < s.clk) ∧ (2 ≤ ((getByp s x).drops.filter (fun d => s.clk ≤ d + 600000000000)).length)) :=
  ⟨⟨1, 0, dropDue, by decide⟩,
   ⟨1, 0, setByp 1 { getByp dropDue 1 with drops := [1, 0] } dropDue, by decide⟩⟩


theorem test_meets_WritesOfRecords :
    (∃ (ecc : Ecc) (f : Frame) (u : State) (s : State),
      (takeQ 38 (fun f => f.typ == 17) s = some (f, u)) ∧ (addrNode (reqAddr f) = nodeId u) ∧ (addrSpace (reqAddr f) = 0) ∧ (1 ≤ reqCount f) ∧ (reqCount f ≤ 679) ∧ (reqCount f = (f.payload.drop 3).length) ∧ (spanInExtent 0 (addrOff (reqAddr f)) (reqCount f) = true) ∧ (reqCount f ≠ 1 ∨ addrOff (reqAddr f) % 4 ≠ 0)) ∧
    (∃ (ecc : Ecc) (f : Frame) (u : State) (v : Word) (s : State),
      (takeQ 38 (fun f => f.typ == 17) s = some (f, u)) ∧ (addrNode (reqAddr f) = nodeId u) ∧ (addrSpace (reqAddr f) = 0) ∧ (reqCount f = 1) ∧ (f.payload.drop 3 = [v]) ∧ (spanInExtent 0 (addrOff (reqAddr f)) 1 = true) ∧ (addrOff (reqAddr f) % 4 = 0)) ∧
    (∃ (addr : Nat) (tag : Nat) (ws : List Word) (e : Ecc) (s : State),
      (noSuchNode s (addrNode addr) = false) ∧ (addrNode addr = nodeId s) ∧ (addrSpace addr = 0) ∧ (ws ≠ []) ∧ (spanInExtent 0 (addrOff addr) ws.length = true) ∧ (ws.length ≠ 1 ∨ addrOff addr % 4 ≠ 0)) :=
  ⟨⟨.ok, fr 17 6 7 (adr 0 4 ++ [2, 5, 6]), restQ 38 17 (qFrame 38 (fr 17 6 7 (adr 0 4 ++ [2, 5, 6]))), qFrame 38 (fr 17 6 7 (adr 0 4 ++ [2, 5, 6])), by decide⟩,
   ⟨.ok, fr 17 6 7 (adr 0 4 ++ [1, 5]), restQ 38 17 (qFrame 38 (fr 17 6 7 (adr 0 4 ++ [1, 5]))), 5, qFrame 38 (fr 17 6 7 (adr 0 4 ++ [1, 5])), by decide⟩,
   ⟨2 ^ 36 * nodeId selfUp + 5, 7, [5], .ok, selfUp, by decide⟩⟩


theorem test_meets_ChannelTrips :
    (∃ (n : Nat) (cause : FscTrip) (m : Sensed) (held : Nat) (s : State),
      (n < 16) ∧ (tripHolds s n cause m held = true) ∧ (getF s (fFED_FSC_STAT_TRIPS n) < 15) ∧ (getF s (fFED_FSC_RETRY_LATCH_N n) = 0 ∨ getF s (fFED_FSC_RETRY_LATCH_N n) ≠ getF s (fFED_FSC_STAT_TRIPS n) + 1)) ∧
    (∃ (n : Nat) (cause : FscTrip) (m : Sensed) (held : Nat) (s : State),
      (n < 16) ∧ (tripHolds s n cause m held = true) ∧ (getF s (fFED_FSC_STAT_TRIPS n) < 15) ∧ (getF s (fFED_FSC_RETRY_LATCH_N n) = getF s (fFED_FSC_STAT_TRIPS n) + 1)) ∧
    (∃ (n : Nat) (s : State),
      (n < 16) ∧ (fscState s n = 5) ∧ ((getFsc s n).retryAt ≤ s.clk) ∧ (fscMayOn s n = true)) :=
  ⟨⟨15, .fastTrip, ⟨48000, 0, 10 ^ 6⟩, 0, setF (fFED_FSC_RETRY_LATCH_N 15) 0 (fscAt 4), by decide⟩,
   ⟨15, .shortDuringRamp, ⟨48000, 0, 10 ^ 6⟩, 10 ^ 9, setF (fFED_FSC_RETRY_LATCH_N 15) 1 (fscAt 3), by decide⟩,
   ⟨15, setF (fFED_FSC_CTL_EN 15) 1 (fscAt 5), by decide⟩⟩


theorem test_meets_QuietRequest :
    (∃ (p : Nat) (s : State),
      (p < 4) ∧ (portAlive s p = true) ∧ (silent s p = false) ∧ (linkUp s p = true)) ∧
    (∃ (p : Nat) (s : State),
      (p < 4) ∧ (portAlive s p = true) ∧ (silent s p = false) ∧ (linkUp s p = false) ∧ ((getPort s p).tdrPhase = 0)) ∧
    (∃ (p : Nat) (d : Nat) (s : State),
      (p < 4) ∧ ((getPort s p).quietUntil = some d) ∧ (d ≤ s.clk)) ∧
    (∃ (p : Nat) (info : BitVec 48) (u : State) (v : State) (s : State),
      (p < 4) ∧ (portAlive s p = true) ∧ ((getPort s p).infoCand = some info.toNat) ∧ (u = setReg (oRGx_PHY_INFO_HI p) (wd (info.toNat / 2 ^ 24)) (setReg (oRGx_PHY_INFO_LO p) (wd info.toNat) s)) ∧ (v = setPort p { getPort u p with infoOk := true } u) ∧ (farInfo v p 10 1 = 0) ∧ (silent v p = true)) :=
  ⟨⟨3, linkPort 3 2 3, by decide⟩,
   ⟨3, portRdy 3 2, by decide⟩,
   ⟨3, 0, setPort 3 { Port.init with quietUntil := some 0 } (portRdy 3 2), by decide⟩,
   ⟨3, 5, infoU, setPort 3 { getPort infoU 3 with infoOk := true } infoU, infoS, by decide⟩⟩


theorem test_meets_RecordEvents :
    (∃ (p : Nat) (v : Word) (st : PSt) (u : State) (s : State),
      (u = preRead p .ok s)) ∧
    (∃ (p : Nat) (u : State) (s : State),
      (u = preRead p .ok s) ∧ ((getPt u p).forced = true)) ∧
    (∃ (p : Nat) (u : State) (s : State) (t : State),
      (u = preRead p .ok s) ∧ (t = writeFailed p s)) ∧
    (∃ (p : Nat) (src : Nat) (now : Nat) (u : State) (s : State) (t : State),
      (u = preRead p .ok s) ∧ (catSource (getCatK u (ptKey u p)) = src) ∧ ((getCatK u (ptKey u p)).mark = .loaded) ∧ ((getPt u p).forced = false) ∧ (t = srcWrite src p .comms now s)) ∧
    (∃ (p : Nat) (src : Nat) (ev : SrcEv) (now : Nat) (u : State) (s : State),
      (u = preRead p .ok s) ∧ ((getPt u p).forced = true)) ∧
    (∃ (p : Nat) (s : State),
      (flipsAt s 0 (ptKey s p) = 0) ∧ (flipsAt s 1 (ptKey s p) = 0)) ∧
    (∃ (p : Nat) (r : Rec) (q : Nat) (s : State),
      (s.stk.copy = none) ∧ (ptKey s q ≠ ptKey s p)) :=
  ⟨⟨5, 7, .bad, preRead 5 .ok (forceable stwUp), forceable stwUp, by decide⟩,
   ⟨5, preRead 5 .ok (forceable stwUp), forceable stwUp, by decide⟩,
   ⟨5, preRead 5 .ok allOn, allOn, writeFailed 5 allOn, by decide⟩,
   ⟨5, 0, 7, preRead 5 .ok (setCatK 5 ⟨0, 0, 0, .loaded⟩ allOn), setCatK 5 ⟨0, 0, 0, .loaded⟩ allOn, srcWrite 0 5 .comms 7 (setCatK 5 ⟨0, 0, 0, .loaded⟩ allOn), by decide⟩,
   ⟨5, 0, .comms, 7, preRead 5 .ok (forceable stwUp), forceable stwUp, by decide⟩,
   ⟨5, allOn, by decide⟩,
   ⟨5, Rec.empty .none 0, 6, allOn, by decide⟩⟩


theorem test_meets_FeedsFrame :
    (∃ (x : Nat) (v : Nat) (held : Nat) (s : State) (t : State),
      (exec (.feedStateChange x v held) s = .next t)) ∧
    (∃ (x : Nat) (v : Nat) (w : Nat) (s : State) (t : State),
      (exec (.feedQualified x v w) s = .next t)) ∧
    (∃ (x : Nat) (v : Nat) (w : Nat) (s : State) (t : State),
      (exec (.oringReverse x v w) s = .next t)) ∧
    (∃ (x : Nat) (a : Nat) (b : Nat) (c : Nat) (held : Nat) (s : State) (t : State),
      (exec (.oringFetFault x a b c held) s = .next t)) ∧
    (∃ (v : Nat) (w : Nat) (b : Bool) (s : State) (t : State),
      (exec (.nodePhaseChange v w b) s = .next t)) ∧
    (∃ (v : Nat) (w : Nat) (i : Nat) (held : Nat) (s : State) (t : State),
      (exec (.nodeTrip v w i held) s = .next t)) ∧
    (∃ (s : State) (t : State),
      (exec .nodeRetry s = .next t)) ∧
    (∃ (v : Nat) (held : Nat) (s : State) (t : State),
      (exec (.feedWarnAssert v held) s = .next t)) ∧
    (∃ (v : Nat) (held : Nat) (s : State) (t : State),
      (exec (.feedWarnRelease v held) s = .next t)) ∧
    (∃ (n : Nat) (m : Sensed) (s : State) (t : State),
      (exec (.fscCheckEnd n m) s = .next t)) ∧
    (∃ (n : Nat) (m : Sensed) (s : State) (t : State),
      (exec (.fscRampStart n m) s = .next t)) ∧
    (∃ (n : Nat) (m : Sensed) (b : Bool) (s : State) (t : State),
      (exec (.fscOn n m b) s = .next t)) ∧
    (∃ (n : Nat) (c : FscTrip) (m : Sensed) (held : Nat) (s : State) (t : State),
      (exec (.fscTrip n c m held) s = .next t)) ∧
    (∃ (n : Nat) (s : State) (t : State),
      (exec (.fscRetryExpiry n) s = .next t)) ∧
    (∃ (n : Nat) (s : State) (t : State),
      (exec (.fscClearTimer n) s = .next t)) ∧
    (∃ (n : Nat) (m : Sensed) (s : State) (t : State),
      (exec (.fscProbe n m) s = .next t)) ∧
    (∃ (n : Nat) (b : Bool) (m : Sensed) (held : Nat) (s : State) (t : State),
      (exec (.fscRemoval n b m held) s = .next t)) ∧
    (∃ (n : Nat) (s : State) (t : State),
      (exec (.fscReinsertion n) s = .next t)) ∧
    (∃ (n : Nat) (s : State) (t : State),
      (exec (.fscDebounceEnd n) s = .next t)) ∧
    (∃ (n : Nat) (m : Sensed) (held : Nat) (s : State) (t : State),
      (exec (.fscFetShort n m held) s = .next t)) ∧
    (∃ (w : Writer) (n : Nat) (b : Bool) (s : State) (t : State),
      (exec (.fscEnWrite w n b) s = .next t)) ∧
    (∃ (w : Writer) (n : Nat) (m : Sensed) (s : State) (t : State),
      (exec (.fscUnlatch w n m) s = .next t)) ∧
    (∃ (n : Nat) (c : FscHold) (v : Nat) (s : State) (t : State),
      (exec (.fscHoldBegin n c v) s = .next t)) ∧
    (∃ (n : Nat) (c : FscHold) (v : Nat) (s : State) (t : State),
      (exec (.fscHoldEnd n c v) s = .next t)) :=
  ⟨⟨1, 1, 1, allOn, nextOf (exec (.feedStateChange 1 1 1) allOn), rfl⟩,
   ⟨1, 1, 1, allOn, nextOf (exec (.feedQualified 1 1 1) allOn), rfl⟩,
   ⟨1, 1, 1, allOn, nextOf (exec (.oringReverse 1 1 1) allOn), rfl⟩,
   ⟨1, 1, 1, 1, 1, allOn, nextOf (exec (.oringFetFault 1 1 1 1 1) allOn), rfl⟩,
   ⟨1, 1, true, allOn, nextOf (exec (.nodePhaseChange 1 1 true) allOn), rfl⟩,
   ⟨1, 1, 1, 1, allOn, nextOf (exec (.nodeTrip 1 1 1 1) allOn), rfl⟩,
   ⟨allOn, nextOf (exec .nodeRetry allOn), rfl⟩,
   ⟨1, 1, allOn, nextOf (exec (.feedWarnAssert 1 1) allOn), rfl⟩,
   ⟨1, 1, allOn, nextOf (exec (.feedWarnRelease 1 1) allOn), rfl⟩,
   ⟨1, ⟨48000, 0, 0⟩, allOn, nextOf (exec (.fscCheckEnd 1 ⟨48000, 0, 0⟩) allOn), rfl⟩,
   ⟨1, ⟨48000, 0, 0⟩, allOn, nextOf (exec (.fscRampStart 1 ⟨48000, 0, 0⟩) allOn), rfl⟩,
   ⟨1, ⟨48000, 0, 0⟩, true, allOn, nextOf (exec (.fscOn 1 ⟨48000, 0, 0⟩ true) allOn), rfl⟩,
   ⟨1, .fastTrip, ⟨48000, 0, 0⟩, 1, allOn, nextOf (exec (.fscTrip 1 .fastTrip ⟨48000, 0, 0⟩ 1) allOn), rfl⟩,
   ⟨1, allOn, nextOf (exec (.fscRetryExpiry 1) allOn), rfl⟩,
   ⟨1, allOn, nextOf (exec (.fscClearTimer 1) allOn), rfl⟩,
   ⟨1, ⟨48000, 0, 0⟩, allOn, nextOf (exec (.fscProbe 1 ⟨48000, 0, 0⟩) allOn), rfl⟩,
   ⟨1, true, ⟨48000, 0, 0⟩, 1, allOn, nextOf (exec (.fscRemoval 1 true ⟨48000, 0, 0⟩ 1) allOn), rfl⟩,
   ⟨1, allOn, nextOf (exec (.fscReinsertion 1) allOn), rfl⟩,
   ⟨1, allOn, nextOf (exec (.fscDebounceEnd 1) allOn), rfl⟩,
   ⟨1, ⟨48000, 0, 0⟩, 1, allOn, nextOf (exec (.fscFetShort 1 ⟨48000, 0, 0⟩ 1) allOn), rfl⟩,
   ⟨.steward, 1, true, allOn, nextOf (exec (.fscEnWrite .steward 1 true) allOn), rfl⟩,
   ⟨.steward, 1, ⟨48000, 0, 0⟩, allOn, nextOf (exec (.fscUnlatch .steward 1 ⟨48000, 0, 0⟩) allOn), rfl⟩,
   ⟨1, .vinLow, 1, allOn, nextOf (exec (.fscHoldBegin 1 .vinLow 1) allOn), rfl⟩,
   ⟨1, .vinLow, 1, allOn, nextOf (exec (.fscHoldEnd 1 .vinLow 1) allOn), rfl⟩⟩



theorem test_meets_InvariantKept :
    (∃ (s : State) (t : State),
      (Inv s) ∧ (step s = .next t)) :=
  ⟨State.reset, tick State.reset, And.intro (by decide) (by decide), rfl⟩


theorem test_meets_RunsNeverStop :
    (∃ (s : State),
      (Inv s)) ∧
    (∃ (c : Instr) (s : State),
      (c.wf = true)) :=
  ⟨⟨State.reset, And.intro (by decide) (by decide)⟩,
   ⟨.sweep, State.reset, by decide⟩⟩


theorem test_meets_OnlyStopIsAnAbsentUnit :
    (∃ (c : Instr) (s : State) (e : Fault),
      (exec c s = .fault e)) :=
  ⟨.retrain .steward 4, State.reset, .noSuchUnit, rfl⟩


theorem test_meets_CommandsTakeNoTime :
    (∃ (c : Instr) (s : State) (t : State),
      (exec c s = .next t)) :=
  ⟨.fltFirstClear, State.reset, firstClear State.reset, rfl⟩


theorem test_meets_ResetState :
    (∃ (l : Nat),
      (l < 4)) :=
  ⟨3, by decide⟩


theorem test_meets_UnitsFrame :
    (∃ (w : Writer) (n : Nat) (v : Word) (s : State) (t : State),
      (exec (.stkStaleLimWrite w n v) s = .next t)) ∧
    (∃ (s : State) (t : State),
      (exec .scrubPassEnd s = .next t)) ∧
    (∃ (e : Nat) (v : Word) (s : State) (t : State),
      (exec (.clkEngBindWrite e v) s = .next t)) ∧
    (∃ (w : Writer) (v : Word) (s : State) (t : State),
      (exec (.dioWdogKick w v) s = .next t)) ∧
    (∃ (w : Writer) (line : Nat) (cfg : Word) (par : Word) (s : State) (t : State),
      (exec (.dioLineConfig w line cfg par) s = .next t)) ∧
    (∃ (w : Writer) (k : Nat) (line : Nat) (s : State) (t : State),
      (exec (.dioSpareStandin w k line) s = .next t)) ∧
    (∃ (w : Writer) (k : Nat) (s : State) (t : State),
      (exec (.dioSpareReturn w k) s = .next t)) ∧
    (∃ (w : Writer) (ch : Nat) (v : Word) (s : State) (t : State),
      (exec (.anaChcfgWrite w ch v) s = .next t)) ∧
    (∃ (w : Writer) (ch : Nat) (cv : Nat) (s : State) (t : State),
      (exec (.steerStart w ch cv) s = .next t)) ∧
    (∃ (short : Int) (ref : Int) (offset : Word) (gain : Word) (s : State) (t : State),
      (exec (.rotationCheckEnd short ref offset gain) s = .next t)) ∧
    (∃ (s : State) (t : State),
      (exec .audioPllLock s = .next t)) ∧
    (∃ (s : State) (t : State),
      (exec .referenceRestored s = .next t)) ∧
    (∃ (p : Nat) (info : BitVec 48) (s : State) (t : State),
      (exec (.infoFieldRx p info) s = .next t)) ∧
    (∃ (p : Nat) (a : Nat) (b : Nat) (c : Nat) (s : State) (t : State),
      (exec (.linkDegraded p a b c) s = .next t)) ∧
    (∃ (p : Nat) (id : List Nat) (s : State) (t : State),
      (exec (.moduleInserted p id) s = .next t)) ∧
    (∃ (p : Nat) (s : State) (t : State),
      (exec (.irGuardRetry p) s = .next t)) ∧
    (∃ (p : Nat) (kohm : Nat) (s : State) (t : State),
      (exec (.irComplete p kohm) s = .next t)) ∧
    (∃ (s : State) (t : State),
      (exec .irHourRollover s = .next t)) ∧
    (∃ (p : Nat) (s : State) (t : State),
      (exec (.quietTimeout p) s = .next t)) ∧
    (∃ (x : Nat) (a : Nat) (b : Nat) (s : State) (t : State),
      (exec (.selfTrainDone x a b) s = .next t)) ∧
    (∃ (x : Nat) (s : State) (t : State),
      (exec (.selfTrainFail x) s = .next t)) ∧
    (∃ (p : Nat) (sq : Nat) (turn : Nat) (s : State) (t : State),
      (exec (.dlyReq p sq turn) s = .next t)) ∧
    (∃ (p : Nat) (sq : Nat) (turn : Nat) (el : Nat) (s : State) (t : State),
      (exec (.dlyResp p sq turn el) s = .next t)) ∧
    (∃ (p : Nat) (s : State) (t : State),
      (exec (.delayMeasureTimer p) s = .next t)) ∧
    (∃ (s : State) (t : State),
      (exec .descriptorStarve s = .next t)) ∧
    (∃ (cell : Nat) (bad : Bool) (link : Bool) (s : State) (t : State),
      (exec (.cellPatrolVisit cell bad link) s = .next t)) ∧
    (∃ (w : Writer) (off : Nat) (v : Word) (s : State) (t : State),
      (exec (.swqLimitWrite w off v) s = .next t)) ∧
    (∃ (k : PcieError) (s : State) (t : State),
      (exec (.pcieError k) s = .next t)) ∧
    (∃ (s : State) (t : State),
      (exec .usbSuspend s = .next t)) ∧
    (∃ (k : Nat) (s : State) (t : State),
      (exec (.usbResume k) s = .next t)) ∧
    (∃ (n : Nat) (a : Nat) (s : State) (t : State),
      (exec (.usbOverCurrent n a) s = .next t)) ∧
    (∃ (n : Nat) (b : Bool) (s : State) (t : State),
      (exec (.setPortPower n b) s = .next t)) ∧
    (∃ (e : Nat) (s : State) (t : State),
      (exec (.clearEndpointHalt e) s = .next t)) ∧
    (∃ (d : Nat) (o : Nat) (v : Word) (s : State) (t : State),
      (exec (.deskAreaWrite d o v) s = .next t)) ∧
    (∃ (s : State) (t : State),
      (exec .armLock s = .next t)) ∧
    (∃ (s : State) (t : State),
      (exec .xtalStop s = .next t)) ∧
    (∃ (b : Bool) (s : State) (t : State),
      (exec (.pllLockTimeout b) s = .next t)) ∧
    (∃ (s : State) (t : State),
      (exec .fltFirstClear s = .next t)) ∧
    (∃ (w : Writer) (i : Nat) (v : Word) (s : State) (t : State),
      (exec (.fltForceWrite w i v) s = .next t)) ∧
    (∃ (s : State) (t : State),
      (exec .cntClearAll s = .next t)) ∧
    (∃ (k : Nat) (v : Word) (s : State) (t : State),
      (exec (.cntClr k v) s = .next t)) ∧
    (∃ (s : State) (t : State),
      (exec .wearHourCheck s = .next t)) ∧
    (∃ (a : Nat) (w : Nat) (s : State) (t : State),
      (exec (.rowReplace a w) s = .next t)) ∧
    (∃ (s : State) (t : State),
      (exec .trngFail s = .next t)) ∧
    (∃ (bytes : List Nat) (s : State) (t : State),
      (exec (.unlockToken bytes) s = .next t)) :=
  ⟨⟨.steward, 1, 5, allOn, nextOf (exec (.stkStaleLimWrite .steward 1 5) allOn), rfl⟩,
   ⟨allOn, nextOf (exec .scrubPassEnd allOn), rfl⟩,
   ⟨1, 5, allOn, nextOf (exec (.clkEngBindWrite 1 5) allOn), rfl⟩,
   ⟨.steward, 5, allOn, nextOf (exec (.dioWdogKick .steward 5) allOn), rfl⟩,
   ⟨.steward, 1, 5, 5, allOn, nextOf (exec (.dioLineConfig .steward 1 5 5) allOn), rfl⟩,
   ⟨.steward, 1, 1, allOn, nextOf (exec (.dioSpareStandin .steward 1 1) allOn), rfl⟩,
   ⟨.steward, 1, allOn, nextOf (exec (.dioSpareReturn .steward 1) allOn), rfl⟩,
   ⟨.steward, 1, 5, allOn, nextOf (exec (.anaChcfgWrite .steward 1 5) allOn), rfl⟩,
   ⟨.steward, 1, 1, allOn, nextOf (exec (.steerStart .steward 1 1) allOn), rfl⟩,
   ⟨0, 0, 5, 5, allOn, nextOf (exec (.rotationCheckEnd 0 0 5 5) allOn), rfl⟩,
   ⟨allOn, nextOf (exec .audioPllLock allOn), rfl⟩,
   ⟨allOn, nextOf (exec .referenceRestored allOn), rfl⟩,
   ⟨1, 5, allOn, nextOf (exec (.infoFieldRx 1 5) allOn), rfl⟩,
   ⟨1, 1, 1, 1, allOn, nextOf (exec (.linkDegraded 1 1 1 1) allOn), rfl⟩,
   ⟨1, [], allOn, nextOf (exec (.moduleInserted 1 []) allOn), rfl⟩,
   ⟨1, allOn, nextOf (exec (.irGuardRetry 1) allOn), rfl⟩,
   ⟨1, 1, allOn, nextOf (exec (.irComplete 1 1) allOn), rfl⟩,
   ⟨allOn, nextOf (exec .irHourRollover allOn), rfl⟩,
   ⟨1, allOn, nextOf (exec (.quietTimeout 1) allOn), rfl⟩,
   ⟨1, 1, 1, allOn, nextOf (exec (.selfTrainDone 1 1 1) allOn), rfl⟩,
   ⟨1, allOn, nextOf (exec (.selfTrainFail 1) allOn), rfl⟩,
   ⟨1, 1, 1, allOn, nextOf (exec (.dlyReq 1 1 1) allOn), rfl⟩,
   ⟨1, 1, 1, 1, allOn, nextOf (exec (.dlyResp 1 1 1 1) allOn), rfl⟩,
   ⟨1, allOn, nextOf (exec (.delayMeasureTimer 1) allOn), rfl⟩,
   ⟨allOn, nextOf (exec .descriptorStarve allOn), rfl⟩,
   ⟨1, true, true, allOn, nextOf (exec (.cellPatrolVisit 1 true true) allOn), rfl⟩,
   ⟨.steward, 1, 5, allOn, nextOf (exec (.swqLimitWrite .steward 1 5) allOn), rfl⟩,
   ⟨.correctable, allOn, nextOf (exec (.pcieError .correctable) allOn), rfl⟩,
   ⟨allOn, nextOf (exec .usbSuspend allOn), rfl⟩,
   ⟨1, allOn, nextOf (exec (.usbResume 1) allOn), rfl⟩,
   ⟨2, 1, allOn, nextOf (exec (.usbOverCurrent 2 1) allOn), rfl⟩,
   ⟨2, true, allOn, nextOf (exec (.setPortPower 2 true) allOn), rfl⟩,
   ⟨1, allOn, nextOf (exec (.clearEndpointHalt 1) allOn), rfl⟩,
   ⟨1, 1, 5, allOn, nextOf (exec (.deskAreaWrite 1 1 5) allOn), rfl⟩,
   ⟨allOn, nextOf (exec .armLock allOn), rfl⟩,
   ⟨allOn, nextOf (exec .xtalStop allOn), rfl⟩,
   ⟨true, allOn, nextOf (exec (.pllLockTimeout true) allOn), rfl⟩,
   ⟨allOn, nextOf (exec .fltFirstClear allOn), rfl⟩,
   ⟨.steward, 1, 5, allOn, nextOf (exec (.fltForceWrite .steward 1 5) allOn), rfl⟩,
   ⟨allOn, nextOf (exec .cntClearAll allOn), rfl⟩,
   ⟨1, 5, allOn, nextOf (exec (.cntClr 1 5) allOn), rfl⟩,
   ⟨allOn, nextOf (exec .wearHourCheck allOn), rfl⟩,
   ⟨1, 1, allOn, nextOf (exec (.rowReplace 1 1) allOn), rfl⟩,
   ⟨allOn, nextOf (exec .trngFail allOn), rfl⟩,
   ⟨[], allOn, nextOf (exec (.unlockToken []) allOn), rfl⟩⟩

/-! Worked examples of the spec. -/

/-- 01, the example under R32: node 209, point 332. -/
theorem test_handle_of_the_lamp : handleOf 209 332 = 0x0D10_014C := by decide

def lampCat : Cat := ⟨0x50_0605, 0x00_0280, 0x00_1502, .loaded⟩
/-- 02, "The lamp": the three Catalogue words give the fields of the example. -/
theorem test_fields_of_the_lamp : catSource lampCat = 5 ∧ catDevice lampCat = 12 ∧ catObject lampCat = 0xA0 ∧
    catType lampCat = 5 ∧ catDeadband lampCat = 0 ∧ catGroup lampCat = 1 ∧ catClass lampCat = 2 ∧ catAlarm lampCat = 0 := by decide

/-- 02, Table 20 step 2: 150 becomes 180 at 0x3A_1F2C_4D80. -/
theorem test_lamp_level : recWords (goodRec 5 0 180 0x3A_1F2C_4D80 ⟨150, .good, false, false, false, .none, 0⟩) =
    [0x00_00B4, 0x08_3A1F, 0x2C_4D80] := by decide

def humidity : List (Int × Int) := [(1342177, 0), (6710886, 10000)]
/-- 05, Table 13 step 2: the mean code 4,026,532 scales to 5,000. -/
theorem test_humidity_scales : scaleFwd humidity 4026532 = (5000, false) := by decide
/-- 05, the broken loop: below the first breakpoint the value is 0, beyond the table. -/
theorem test_broken_loop : scaleFwd humidity 0 = (0, true) := by decide
/-- R396: the whole point value is rounded, halves away from zero (-0.5 and 1.5). -/
theorem test_scaling_rounds : scaleFwd [(-10, -5), (10, 5)] (-1) = (-1, false) ∧ scaleFwd [(-10, -5), (10, 5)] 3 = (2, false) := by
  decide
/-- 05, the same example: a group delay of 150 ms at ANA_CHCFG = 0x00_4813. -/
theorem test_group_delay : anaDelay (setReg (oANA_CHCFG 3) 0x00_4813 State.reset) 3 = 150000000 := by decide

def remote : State := { stwUp with stw := { stwUp.stw with inForce := some { emptyEdition with rights := [(126, 31)] } } }
/-- 17, the worked example: node 126 writes CLK_HOLD of place 40, which the steward owns. -/
theorem test_refused_remote_write :
    let t := nextOf (exec (.registerWrite (.fabric 126) 0x12_8012 0) remote)
    reg t oGLB_OWNER_LOG = 0xB2_8012 ∧ reg t oGLB_OWNER_NODE = 0x00_007E ∧ flag t fGLB_STATUS_OWNER_REJECT = true := by decide
/-- 17, the same example: CLK_STAT 0x00_0381 names engine 40. -/
theorem test_engine_of_place_40 : servingEngine (setReg (oCLK_STAT 40) 0x00_0381 State.reset) 40 = some 40 := by decide

def sameCycle : State := { stwUp with flt := { stwUp.flt with pulse := [336, 337] } }
/-- 14, the example under R471: 336 of severity 2 and 337 of severity 1 in one cycle. -/
theorem test_first_of_one_cycle :
    let t := nextOf (exec .faultRaise sameCycle)
    getF t fFLT_FIRST0_SOURCE = 336 ∧ bitsOf (reg t (oFLT_MASK 14)).toNat 1 1 = 1 := by decide

/-- R133: signals of a data field 0x34 0x12: little-endian, 8 bits from bit 4; big-endian, 8 bits from bit 7 of byte 0; and a
signed one of 4 bits. -/
theorem test_can_signals : signalOf 7 (7 * 1024 + 4) [0x34, 0x12] = 0x23 ∧ signalOf 7 (2 ^ 15 + 7 * 1024 + 7) [0x34, 0x12] = 0x34 ∧
    signalOf 4 (3 * 1024 + 1) [0x34, 0x12] = -6 := by decide
/-- R137: the check value of a CRC-8 with polynomial 0x07 over "123456789". -/
theorem test_crc8 : crc8 [0x31, 0x32, 0x33, 0x34, 0x35, 0x36, 0x37, 0x38, 0x39] = 0xF4 := by decide

/-! The checks of WellFormed: each refuses an ill-formed command. -/

def rxZero : RxFrame := ⟨mkFrame 0 0 0 false 0 [], 0, 0, .good, 0, 0, true, 0⟩

theorem test_wf_refuses_1 : ([.registerWrite (.fabric 4096) 0 0,
    .cntLoRead 64,
    .pairedWrite (.fabric 4096) 0 0,
    .stkStaleLimWrite (.fabric 4096) 0 0,
    .stkStaleLimWrite .host 8 0,
    .catalogueReload 1048576,
    .stkCopyStart (.fabric 4096) 0,
    .stkCopyAbort (.fabric 4096) 0,
    .stkBankMapWrite (.fabric 4096) 0,
    .bankMapNocopy (.fabric 4096) 0,
    .scanCycleDue 104 0,
    .scanCycleDue 0 8,
    .pollTransaction 104 .silent true,
    .attemptTimeout 104,
    .unsolicitedInput 104 (.uartFrame []),
    .housekeepingStep 104 .plain,
    .commandItem 104 .accepted,
    .portDown 104 true,
    .portUp 104,
    .holdTimerExpiry 104] : List Instr).all (fun c => !c.wf) = true := by decide

theorem test_wf_refuses_2 : ([.itemLimitExpiry 104,
    .engineStoreError 104 .ok,
    .clkEngRun (.fabric 4096) 0 true,
    .clkEngRun .host 104 true,
    .clkEngBindWrite 104 0,
    .clkPinselWrite (.fabric 4096) 0 0,
    .clkPinselWrite .host 104 0,
    .clkPinselWrite .host 0 32,
    .engineHandover 104,
    .placeRebind 104,
    .rebindComplete 104 true,
    .i2cBusTest 104 true true true,
    .discreteEdge 272 true,
    .debounceStable 272 true,
    .dioRefresh [272],
    .dioCommand 272,
    .dioReadback 272 true,
    .pwmPeriodBoundary 272,
    .dioWdogKick (.fabric 4096) 0,
    .dioLineConfig (.fabric 4096) 0 0 0] : List Instr).all (fun c => !c.wf) = true := by decide

theorem test_wf_refuses_3 : ([.dioLineConfig .host 272 0 0,
    .dioSpareStandin (.fabric 4096) 0 0,
    .dioSpareStandin .host 16 0,
    .dioSpareStandin .host 0 272,
    .dioSpareReturn (.fabric 4096) 0,
    .dioSpareReturn .host 16,
    .anaWindowEnd 64 [],
    .anaChcfgWrite (.fabric 4096) 0 0,
    .anaChcfgWrite .host 64 0,
    .openSensorCheck 64 0,
    .converterFault 68 1,
    .converterFault 0 3,
    .steerStart (.fabric 4096) 0 0,
    .steerStart .host 64 0,
    .steerStart .host 0 68,
    .steerSwitch 64 [],
    .portEnable (.fabric 4096) 0 true,
    .portEnable .host 4 true,
    .retrain (.fabric 4096) 0,
    .retrain .host 4] : List Instr).all (fun c => !c.wf) = true := by decide

theorem test_wf_refuses_4 : ([.trainingComplete 4 .wiring,
    .detectionRetry 4,
    .infoFieldRx 4 0,
    .linkDown 4 .noSignal,
    .linkUp 4,
    .linkDegraded 4 0 0 0,
    .keepaliveShift 4,
    .keepaliveExit 4 true,
    .moduleInserted 4 [],
    .moduleFault 4 true,
    .ddmPoll 4 none,
    .opticalLinkUp 4,
    .irStart 4 true,
    .irGuardRetry 4,
    .irComplete 4 0,
    .tdrStart (.fabric 4096) 0 0,
    .tdrStart .host 4 0,
    .tdrSilence 4 true,
    .tdrComplete 4 [],
    .quietReceived 4] : List Instr).all (fun c => !c.wf) = true := by decide

theorem test_wf_refuses_5 : ([.quietTimeout 4,
    .bypHoldEnWrite (.fabric 4096) 0 0,
    .bypHoldEnWrite .host 2 0,
    .selfTrainDone 2 0 0,
    .selfTrainFail 2,
    .bypassSettle 2 true,
    .autoDrop 2,
    .frameTransit 4 rxZero,
    .egressFrameEnd 4,
    .editionMismatchCheck 4,
    .readReq [(1048576, .ok)],
    .dlyReq 4 0 0,
    .dlyResp 4 0 0 0,
    .delayMeasureTimer 4,
    .ackTimeout 8 0,
    .ackTimeout 0 65536,
    .evtMarkTimer none 5,
    .replayWaitExpiry 4096 true 3,
    .replayWaitExpiry 0 true 5,
    .beaconReturnTimeout 2] : List Instr).all (fun c => !c.wf) = true := by decide

theorem test_wf_refuses_6 : ([.seedingEnd 2,
    .bulkProgressTimeout 0 (some (4096, [])),
    .sweepSlot 0 [(1048576, .ok)],
    .queuePush [256] [],
    .queuePushResume 256,
    .queuePop 256 .ok [],
    .queuePop 0 .ok [(0, 1048576)],
    .cellPatrolVisit 16384 true true,
    .swqLimitWrite (.fabric 4096) 0 0,
    .bar0Access (.read 0x100_0000),
    .bar2Write 64 0 [] .ok,
    .bar2Write 0 0x40_0000 [] .ok,
    .bar2Write 0 0 (List.replicate 129 none) .ok,
    .bar2Read 64 0 1 [],
    .bar2Read 0 0x40_0000 1 [],
    .bar2Read 0 0 0 [],
    .bar2Read 0 0 1025 [],
    .bar2Read 0 0 1 [(1048576, .ok)],
    .sqTailDoorbell 12 0,
    .descriptorFetched 12 (List.replicate 32 0)] : List Instr).all (fun c => !c.wf) = true := by decide

theorem test_wf_refuses_7 : ([.descriptorFetched 0 [],
    .dmaRead 12 [],
    .dmaRead 0 [(1048576, .ok)],
    .dmaWrite 12 [] .ok,
    .dmaFetch 12,
    .fetchWaitResume 12,
    .dmaFence 12,
    .dmaHostReadFail 12 true 0,
    .dmaHostReadFail 0 true 8,
    .cqHeadDoorbell 12 0,
    .cqSignal 12,
    .cqFullTimeout 12,
    .msixUnmask 64,
    .deskWrite 256 [] .ok,
    .deskWrite 0 (List.replicate 65 0) .ok,
    .deskRead 256 0 .ok,
    .deskRead 0 65 .ok,
    .remoteWake 0,
    .remoteWake 5,
    .usbConnect (.fabric 4096) true] : List Instr).all (fun c => !c.wf) = true := by decide

theorem test_wf_refuses_8 : ([.usbReattach (.fabric 4096),
    .usbOverCurrent 1 0,
    .usbOverCurrent 5 0,
    .setPortPower 1 true,
    .setPortPower 5 true,
    .clearEndpointHalt 6,
    .deskAreaWrite 8 0 0,
    .deskAreaWrite 0 0x400 0,
    .deskAreaWrite 0 0x2_0000 0,
    .deskDoorbell 8,
    .deskDone 8,
    .sessionIdleTimeout 1,
    .sessionIdleTimeout 6,
    .identify 8,
    .sessionClose 8,
    .lock 8,
    .unlock 8,
    .stageOpen 8,
    .stageCommit 8 true,
    .stageClose 8 true] : List Instr).all (fun c => !c.wf) = true := by decide

theorem test_wf_refuses_9 : ([.stageAbort 8,
    .editionArm 8,
    .editionDisarm 8,
    .editionActivateNow 8 true,
    .editionStatus 8,
    .groupList 8,
    .pointForce 8,
    .pointRelease 8,
    .spareSwap 8,
    .unitReturn 8 true 0 0,
    .powerState 8,
    .volumeStatus 8,
    .volumeArm 8,
    .volumeCommit 8 true,
    .volumeFallback 8,
    .settingsGet 8,
    .settingsSet 8 true,
    .timeSet 8,
    .timeEpoch 8 true,
    .restart 8] : List Instr).all (fun c => !c.wf) = true := by decide

theorem test_wf_refuses_10 : ([.feedStateChange 2 0 0,
    .feedQualified 2 0 0,
    .oringReverse 2 0 0,
    .oringFetFault 2 0 0 0 0,
    .fscCheckEnd 16 ⟨0, 0, 0⟩,
    .fscRampStart 16 ⟨0, 0, 0⟩,
    .fscOn 16 ⟨0, 0, 0⟩ true,
    .fscTrip 16 .overcurrent ⟨0, 0, 0⟩ 0,
    .fscRetryExpiry 16,
    .fscClearTimer 16,
    .fscProbe 16 ⟨0, 0, 0⟩,
    .fscRemoval 16 true ⟨0, 0, 0⟩ 0,
    .fscReinsertion 16,
    .fscDebounceEnd 16,
    .fscFetShort 16 ⟨0, 0, 0⟩ 0,
    .fscEnWrite (.fabric 4096) 0 true,
    .fscEnWrite .host 16 true,
    .fscUnlatch (.fabric 4096) 0 ⟨0, 0, 0⟩,
    .fscUnlatch .host 16 ⟨0, 0, 0⟩,
    .fscHoldBegin 16 .vinLow 0] : List Instr).all (fun c => !c.wf) = true := by decide

theorem test_wf_refuses_11 : ([.fscHoldEnd 16 .vinLow 0,
    .pwrReqGo (.fabric 4096) 0,
    .pwrDomOffWrite (.fabric 4096) 0,
    .wakeEvent [0] ⟨0, 0, 0⟩,
    .domainAckTimeout 16,
    .fltForceWrite (.fabric 4096) 0 0,
    .fltForceWrite .host 27 0,
    .cntClr 64 0,
    .rowReplace 10 0,
    .claimRound [16],
    .twinHandoverReq (.fabric 4096),
    .epochRollover 4,
    .epochKeyReady 4,
    .unlockToken [],
    .coreResetRelease 0 [3] true,
    .pcieLinkUp 0 1,
    .pcieLinkUp 5 1,
    .pcieLinkUp 1 5] : List Instr).all (fun c => !c.wf) = true := by decide

theorem test_wf_accepts_1 : ([.registerWrite .host 0 0,
    .cntLoRead 0,
    .pairedWrite .host 0 0,
    .stkStaleLimWrite .host 0 0,
    .catalogueReload 0,
    .stkCopyStart .host 0,
    .stkCopyAbort .host 0,
    .stkBankMapWrite .host 0,
    .bankMapNocopy .host 0,
    .scanCycleDue 0 0,
    .pollTransaction 0 .silent true,
    .attemptTimeout 0,
    .unsolicitedInput 0 (.uartFrame []),
    .housekeepingStep 0 .plain,
    .commandItem 0 .accepted,
    .portDown 0 true,
    .portUp 0,
    .holdTimerExpiry 0,
    .itemLimitExpiry 0,
    .engineStoreError 0 .ok] : List Instr).all (fun c => c.wf) = true := by decide

theorem test_wf_accepts_2 : ([.clkEngRun .host 0 true,
    .clkEngBindWrite 0 0,
    .clkPinselWrite .host 0 0,
    .engineHandover 0,
    .placeRebind 0,
    .rebindComplete 0 true,
    .i2cBusTest 0 true true true,
    .discreteEdge 0 true,
    .debounceStable 0 true,
    .dioRefresh [],
    .dioCommand 0,
    .dioReadback 0 true,
    .pwmPeriodBoundary 0,
    .dioWdogKick .host 0,
    .dioLineConfig .host 0 0 0,
    .dioSpareStandin .host 0 0,
    .dioSpareReturn .host 0,
    .anaWindowEnd 0 [],
    .anaChcfgWrite .host 0 0,
    .openSensorCheck 0 0] : List Instr).all (fun c => c.wf) = true := by decide

theorem test_wf_accepts_3 : ([.converterFault 0 1,
    .steerStart .host 0 0,
    .steerSwitch 0 [],
    .portEnable .host 0 true,
    .retrain .host 0,
    .trainingComplete 0 .wiring,
    .detectionRetry 0,
    .infoFieldRx 0 0,
    .linkDown 0 .noSignal,
    .linkUp 0,
    .linkDegraded 0 0 0 0,
    .keepaliveShift 0,
    .keepaliveExit 0 true,
    .moduleInserted 0 [],
    .moduleFault 0 true,
    .ddmPoll 0 none,
    .opticalLinkUp 0,
    .irStart 0 true,
    .irGuardRetry 0,
    .irComplete 0 0] : List Instr).all (fun c => c.wf) = true := by decide

theorem test_wf_accepts_4 : ([.tdrStart .host 0 0,
    .tdrSilence 0 true,
    .tdrComplete 0 [],
    .quietReceived 0,
    .quietTimeout 0,
    .bypHoldEnWrite .host 0 0,
    .selfTrainDone 0 0 0,
    .selfTrainFail 0,
    .bypassSettle 0 true,
    .autoDrop 0,
    .frameTransit 0 rxZero,
    .egressFrameEnd 0,
    .editionMismatchCheck 0,
    .readReq [],
    .dlyReq 0 0 0,
    .dlyResp 0 0 0 0,
    .delayMeasureTimer 0,
    .ackTimeout 0 0,
    .evtMarkTimer none 3,
    .replayWaitExpiry 0 true 3] : List Instr).all (fun c => c.wf) = true := by decide

theorem test_wf_accepts_5 : ([.beaconReturnTimeout 0,
    .seedingEnd 0,
    .bulkProgressTimeout 0 none,
    .sweepSlot 0 [],
    .queuePush [] [],
    .queuePushResume 0,
    .queuePop 0 .ok [],
    .cellPatrolVisit 0 true true,
    .swqLimitWrite .host 0 0,
    .bar0Access (.read 0),
    .bar2Write 0 0 [] .ok,
    .bar2Read 0 0 1 [],
    .sqTailDoorbell 0 0,
    .descriptorFetched 0 (List.replicate 32 0),
    .dmaRead 0 [],
    .dmaWrite 0 [] .ok,
    .dmaFetch 0,
    .fetchWaitResume 0,
    .dmaFence 0,
    .dmaHostReadFail 0 true 0] : List Instr).all (fun c => c.wf) = true := by decide

theorem test_wf_accepts_6 : ([.cqHeadDoorbell 0 0,
    .cqSignal 0,
    .cqFullTimeout 0,
    .msixUnmask 0,
    .deskWrite 0 [] .ok,
    .deskRead 0 0 .ok,
    .remoteWake 1,
    .usbConnect .host true,
    .usbReattach .host,
    .usbOverCurrent 2 0,
    .setPortPower 2 true,
    .clearEndpointHalt 0,
    .deskAreaWrite 0 0 0,
    .deskDoorbell 0,
    .deskDone 0,
    .sessionIdleTimeout 2,
    .identify 0,
    .sessionClose 0,
    .lock 0,
    .unlock 0] : List Instr).all (fun c => c.wf) = true := by decide

theorem test_wf_accepts_7 : ([.stageOpen 0,
    .stageCommit 0 true,
    .stageClose 0 true,
    .stageAbort 0,
    .editionArm 0,
    .editionDisarm 0,
    .editionActivateNow 0 true,
    .editionStatus 0,
    .groupList 0,
    .pointForce 0,
    .pointRelease 0,
    .spareSwap 0,
    .unitReturn 0 true 0 0,
    .powerState 0,
    .volumeStatus 0,
    .volumeArm 0,
    .volumeCommit 0 true,
    .volumeFallback 0,
    .settingsGet 0,
    .settingsSet 0 true] : List Instr).all (fun c => c.wf) = true := by decide

theorem test_wf_accepts_8 : ([.timeSet 0,
    .timeEpoch 0 true,
    .restart 0,
    .feedStateChange 0 0 0,
    .feedQualified 0 0 0,
    .oringReverse 0 0 0,
    .oringFetFault 0 0 0 0 0,
    .fscCheckEnd 0 ⟨0, 0, 0⟩,
    .fscRampStart 0 ⟨0, 0, 0⟩,
    .fscOn 0 ⟨0, 0, 0⟩ true,
    .fscTrip 0 .overcurrent ⟨0, 0, 0⟩ 0,
    .fscRetryExpiry 0,
    .fscClearTimer 0,
    .fscProbe 0 ⟨0, 0, 0⟩,
    .fscRemoval 0 true ⟨0, 0, 0⟩ 0,
    .fscReinsertion 0,
    .fscDebounceEnd 0,
    .fscFetShort 0 ⟨0, 0, 0⟩ 0,
    .fscEnWrite .host 0 true,
    .fscUnlatch .host 0 ⟨0, 0, 0⟩] : List Instr).all (fun c => c.wf) = true := by decide

theorem test_wf_accepts_9 : ([.fscHoldBegin 0 .vinLow 0,
    .fscHoldEnd 0 .vinLow 0,
    .pwrReqGo .host 0,
    .pwrDomOffWrite .host 0,
    .wakeEvent [] ⟨0, 0, 0⟩,
    .domainAckTimeout 0,
    .fltForceWrite .host 0 0,
    .cntClr 0 0,
    .rowReplace 0 0,
    .claimRound [],
    .twinHandoverReq .host,
    .epochRollover 0,
    .epochKeyReady 0,
    .unlockToken (List.replicate 128 0),
    .coreResetRelease 0 [] true,
    .pcieLinkUp 1 1] : List Instr).all (fun c => c.wf) = true := by decide


end Sys2Proof.Tests
end

/-! PROOFS. What a write of this hub's space 0 does at the write server, from the fabric and from this hub's host (R31,
R69): the cause that fails it, and the write of W0 that it is where nothing fails it. -/

section
open Sys2Proof Sys2Proof.Machine

namespace Sys2Proof.Proofs

/-- The oldest frame of a queue that has the handler's type is handled on the state it leaves. -/
theorem onQ_of_takeQ {q typ : Nat} {h : Frame → State → State} {f : Frame} {u s : State}
    (ht : takeQ q (fun g => g.typ == typ) s = some (f, u)) : onQ q typ h s = h f u := by
  simp [onQ, ht]

/-! ### The cause that fails a write of space 0 (Table 3 of R31) -/

/-- Inside the extent of space 0 a write of anything but one word at W0 is refused as READ_ONLY (R69). -/
theorem writeCause_records_readOnly {node addr n : Nat} (s : State) (hsp : addrSpace addr = 0)
    (hext : spanInExtent 0 (addrOff addr) n = true) (hw : n ≠ 1 ∨ addrOff addr % 4 ≠ 0) :
    writeCause s node addr n = some cREAD_ONLY := by
  have hnot : (decide (n = 1) && addrOff addr % 4 == 0) = false := by
    rcases hw with h | h <;> simp [h]
  simp [writeCause, hsp, hext, hnot]

/-- One word at a W0 inside the extent of space 0 has no cause to fail before the record's own checks. -/
theorem writeCause_w0_none {node addr : Nat} (s : State) (hsp : addrSpace addr = 0)
    (hext : spanInExtent 0 (addrOff addr) 1 = true) (hoff : addrOff addr % 4 = 0) :
    writeCause s node addr 1 = none := by
  simp [writeCause, hsp, hext, hoff]

/-! ### A write of space 0 as it is served -/

/-- A write of space 0 other than one word at W0 is only reported: no record is written. -/
theorem serveWrite_records_readOnly {addr : Nat} {ws : List Word} (node tag : Nat) (host : Bool) (e : Ecc) (s : State)
    (hsp : addrSpace addr = 0) (hext : spanInExtent 0 (addrOff addr) ws.length = true)
    (hw : ws.length ≠ 1 ∨ addrOff addr % 4 ≠ 0) :
    serveWrite addr node tag host ws e s = writeError node tag addr cREAD_ONLY s := by
  simp [serveWrite, writeCause_records_readOnly s hsp hext hw]

/-- One word at a W0 is the write of the record that the slot holds. -/
theorem serveWrite_w0 {addr : Nat} (node tag : Nat) (host : Bool) (v : Word) (e : Ecc) (s : State)
    (hsp : addrSpace addr = 0) (hext : spanInExtent 0 (addrOff addr) 1 = true) (hoff : addrOff addr % 4 = 0) :
    serveWrite addr node tag host [v] e s = writeW0 (addrOff addr / 4) node tag host v e s := by
  have hc : writeCause s node addr [v].length = none := writeCause_w0_none s hsp hext hoff
  simp only [serveWrite, hc]
  simp [putWords, hsp]

/-! ### How the two initiators' writes reach the server -/

/-- A WRITE addressed to this hub, whose count is in range and that of its words, is served as its frame says (R31). -/
theorem exec_write_serves {ecc : Ecc} {f : Frame} {u s : State}
    (ht : takeQ 38 (fun f => f.typ == 17) s = some (f, u)) (hnode : addrNode (reqAddr f) = nodeId u)
    (hlo : 1 ≤ reqCount f) (hhi : reqCount f ≤ 679) (hlen : reqCount f = (f.payload.drop 3).length) :
    exec (.write ecc) s =
      .next (serveWrite (reqAddr f) f.src f.aux (bitsOf (pw f 2) 10 1 == 1) (f.payload.drop 3) ecc u) := by
  have hgood : ¬ ((addrNode (reqAddr f) != nodeId u) = true ∨ reqCount f < 1 ∨ 679 < reqCount f ∨
      reqCount f ≠ (f.payload.drop 3).length) := by
    simp only [bne_iff_ne]
    omega
  calc exec (.write ecc) s
      = .next (onQ 38 17 (writeIn ecc) s) := rfl
    _ = .next (writeIn ecc f u) := by rw [onQ_of_takeQ ht]
    _ = _ := by rw [writeIn, if_neg hgood]

/-- A write of this hub's host to this hub is served in its own name (R33, R311). -/
theorem hostWriteWords_serves {addr : Nat} {ws : List Word} {s : State} (tag : Nat) (e : Ecc)
    (hknown : noSuchNode s (addrNode addr) = false) (hnode : addrNode addr = nodeId s) (hws : ws ≠ []) :
    hostWriteWords addr tag ws e s = serveWrite addr (nodeId s) tag true ws e s := by
  rw [hnode] at hknown
  simp [hostWriteWords, hws, hknown, hnode]

/-- Settles O49: each request reaches `serveWrite`, where all but one word at W0 has the cause READ_ONLY. -/
theorem writesOfRecords : Obligations.WritesOfRecords := by
  unfold Obligations.WritesOfRecords
  refine ⟨?fabricFails, ?fabricWrites, ?hostFails⟩
  case fabricFails =>
    intro ecc f u s ht hnode hsp hlo hhi hlen hext hw
    rw [exec_write_serves ht hnode hlo hhi hlen]
    rw [hlen] at hext hw
    rw [serveWrite_records_readOnly _ _ _ _ _ hsp hext hw]
  case fabricWrites =>
    intro ecc f u v s ht hnode hsp hone hpay hext hoff
    have hlen : reqCount f = (f.payload.drop 3).length := by simp [hone, hpay]
    rw [exec_write_serves ht hnode (by omega) (by omega) hlen, hpay, serveWrite_w0 _ _ _ _ _ _ hsp hext hoff]
  case hostFails =>
    intro addr tag ws e s hknown hnode hsp hws hext hw
    rw [hostWriteWords_serves tag e hknown hnode hws, serveWrite_records_readOnly _ _ _ _ _ hsp hext hw]

end Sys2Proof.Proofs
end

/-! PROOFS. Ring media (chapter 06): the insulation alarm (R205), a port that falls silent on QUIET (R208) and the automatic
drops of a pair (R215), with the registers and fault causes that a link going down leaves. -/

section
open Sys2Proof Sys2Proof.Machine

namespace Sys2Proof.Proofs

/-! ### A cause that follows a condition -/

theorem reg_causeIs (b : Bool) (n : Nat) (s : State) (o : Nat) : reg (causeIs b n s) o = reg s o := by
  cases b <;> rfl

theorem flag_causeIs (b : Bool) (n : Nat) (s : State) (f : Fld) : flag (causeIs b n s) f = flag s f := by
  cases b <;> rfl

/-- A source whose cause begins or ends with a condition stands exactly while the condition holds. -/
theorem mem_level_causeIs_self (b : Bool) (n : Nat) (s : State) : n ∈ (causeIs b n s).flt.level ↔ b = true := by
  cases b
  · simpa [causeIs] using mem_level_causeOff n s
  · simpa [causeIs] using mem_level_causeOn n s

theorem mem_level_causeIs_other {n m : Nat} (b : Bool) (s : State) (h : m ≠ n) :
    m ∈ (causeIs b n s).flt.level ↔ m ∈ s.flt.level := by
  cases b
  · exact (mem_delSet n m _).trans (and_iff_right h)
  · exact (mem_insSet n m _).trans (or_iff_right h)

/-! ### The result of an insulation measurement (R202, R205) -/

/-- The word of a result holds it in its low 20 bits, whatever its marks. -/
theorem bitsOf_irRes {r : Nat} (low high : Bool) (h : r < 2 ^ 20) :
    bitsOf (wd (r + 2 ^ 20 * bit low + 2 ^ 21 * bit high + 2 ^ 23)).toNat 0 20 = r := by
  simp only [bitsOf, BitVec.toNat_ofNat, Nat.shiftRight_zero]
  omega

/-- A result above 1 GΩ reads 1 GΩ. -/
theorem irResult_eq (kohm : Nat) :
    (if kohm < 100 then 0 else if 1000000 < kohm then 1000000 else kohm) = if kohm < 100 then 0 else min kohm 1000000 := by
  split_ifs <;> omega

theorem exec_irComplete (p kohm : Nat) (s : State) : exec (.irComplete p kohm) s = execIrComplete p kohm s := rfl

/-- Settles O47: ALARM and the cause of the port's insulation source are both the comparison of the result with the
threshold; the trend's source is another one. -/
theorem insulationAlarm : Obligations.InsulationAlarm := by
  unfold Obligations.InsulationAlarm
  intro p kohm r s hp hrun hmay hretry hdue hr
  have hr20 : r < 2 ^ 20 := by subst hr; split <;> omega
  have hnot : ¬ ((getPort s p).irRetry.isSome || decide (s.clk < (getPort s p).irSince + 360000000)) = true := by
    simp [hretry, hdue]
  simp only [exec_irComplete, execIrComplete, hp, hrun, hmay, decide_true, unit_true, Bool.not_true, Bool.false_eq_true,
    if_false, hnot, irResult_eq, ← hr]
  refine ⟨_, rfl, ?alarm, ?source, ?result⟩
  case alarm =>
    rw [flag_causeIs, flag_causeIs, flag_setPort, flag_setF_other _ _ (by simp [fRGx_IR_STAT_RUNNING])
      (by simp [fRGx_IR_STAT_RUNNING, fRGx_IR_STAT_ALARM]), flag_setF_self _ _ (by simp [fRGx_IR_STAT_ALARM])]
    cases decide (r < getF s (fRGx_IR_ALARM_ALARM p)) <;> rfl
  case source =>
    rw [mem_level_causeIs_other _ _ (by simp [mediaSource]), mediaSource, mem_level_causeIs_self, decide_eq_true_iff]
  case result =>
    rw [reg_causeIs, reg_causeIs, reg_setPort, reg_setF_other, reg_setF_other, reg_setF_other, reg_setReg,
      if_pos rfl, bitsOf_irRes _ _ hr20]
    all_goals simp [oRGx_IR_RES, fRGx_IR_STAT_RUNNING, fRGx_IR_STAT_ALARM, fRGx_IR_STAT_TREND, oRGx_IR_STAT]

/-! ### Updates of the switch core alone -/

/-- `t` differs from `s` in the switch core's hidden state at most. -/
def SwqOnly (s t : State) : Prop := ∃ q, t = { s with swq := q }

theorem SwqOnly.refl (s : State) : SwqOnly s s := ⟨s.swq, rfl⟩

theorem SwqOnly.trans {s t u : State} (h : SwqOnly s t) (k : SwqOnly t u) : SwqOnly s u := by
  obtain ⟨a, rfl⟩ := h
  obtain ⟨b, rfl⟩ := k
  exact ⟨b, rfl⟩

theorem SwqOnly.regs {s t : State} (h : SwqOnly s t) : t.regs = s.regs := by
  obtain ⟨q, rfl⟩ := h; rfl

theorem SwqOnly.flt {s t : State} (h : SwqOnly s t) : t.flt = s.flt := by
  obtain ⟨q, rfl⟩ := h; rfl

theorem SwqOnly.foldl {α : Type} {f : State → α → State} (hf : ∀ t a, SwqOnly t (f t a)) (l : List α) (s : State) :
    SwqOnly s (l.foldl f s) := by
  induction l generalizing s with
  | nil => exact .refl s
  | cons a l ih => exact (hf s a).trans (ih _)

theorem noteDesc_swqOnly (s : State) : SwqOnly s (noteDesc s) := by
  unfold noteDesc
  split_ifs
  · exact ⟨_, rfl⟩
  · exact .refl s
  · exact ⟨_, rfl⟩

theorem setItem_swqOnly (i : Nat) (x : Option Item) (s : State) : SwqOnly s (setItem i x s) := ⟨_, rfl⟩

theorem release_swqOnly (i : Nat) (s : State) : SwqOnly s (release i s) := by
  unfold release
  split
  · split_ifs
    · refine .trans ?_ (noteDesc_swqOnly _)
      exact ⟨_, rfl⟩
    · exact setItem_swqOnly _ _ s
  · exact .refl s

theorem flushQ_swqOnly (q : Nat) (s : State) : SwqOnly s (flushQ q s) :=
  SwqOnly.trans (t := setQ q [] s) ⟨_, rfl⟩ (.foldl (fun t i => release_swqOnly i t) _ _)

/-! ### What the flush and the end of a link write (R257) -/

theorem flushQs_swqOnly (p : Nat) (s : State) :
    SwqOnly s ((List.range 8).foldl (fun t i => flushQ (8 * p + i) t) s) :=
  .foldl (fun t i => flushQ_swqOnly (8 * p + i) t) _ s

theorem reg_addF_other {f : Fld} {o : Nat} (n : Nat) (s : State) (h : o ≠ f.off) : reg (addF f n s) o = reg s o :=
  reg_setF_other h

/-- Pushes that give up waiting for a port are counted as flushed. -/
theorem dropWaits_counts (p : Nat) (s : State) : ∃ n t, SwqOnly s t ∧ dropWaits p s = addF (fRGx_RP_FLUSH_FLUSH p) n t :=
  ⟨_, _, ⟨_, rfl⟩, rfl⟩

theorem reg_dropWaits_other {p o : Nat} (s : State) (h : o ≠ oRGx_RP_FLUSH p) : reg (dropWaits p s) o = reg s o := by
  obtain ⟨n, t, ht, heq⟩ := dropWaits_counts p s
  rw [heq, reg_addF_other n t h, reg_congr ht.regs]

theorem dropWaits_flt (p : Nat) (s : State) : (dropWaits p s).flt = s.flt := rfl

/-- A flush of a port's queues writes its flush counter and no other register. -/
theorem reg_flushPort_other {p o : Nat} (s : State) (h : o ≠ oRGx_RP_FLUSH p) : reg (flushPort p s) o = reg s o := by
  rw [flushPort, reg_dropWaits_other _ h, reg_addF_other _ _ h, reg_congr (flushQs_swqOnly p s).regs]

theorem flushPort_flt (p : Nat) (s : State) : (flushPort p s).flt = s.flt := by
  rw [flushPort, dropWaits_flt, addF_flt, (flushQs_swqOnly p s).flt]

theorem notePair_byps (p : Nat) (s : State) : ∃ b, notePair p s = { s with byps := b } := by
  unfold notePair
  dsimp only
  split_ifs
  · exact ⟨_, rfl⟩
  · exact ⟨s.byps, rfl⟩
  · exact ⟨_, rfl⟩

theorem notePair_regs (p : Nat) (s : State) : (notePair p s).regs = s.regs := by
  obtain ⟨b, h⟩ := notePair_byps p s; rw [h]

theorem notePair_flt (p : Nat) (s : State) : (notePair p s).flt = s.flt := by
  obtain ⟨b, h⟩ := notePair_byps p s; rw [h]

theorem reg_unkeyPort_other {p o : Nat} (s : State) (h : o ≠ oSEC_LP_STAT p) : reg (unkeyPort p s) o = reg s o := by
  unfold unkeyPort
  split
  · exact reg_setF_other h
  · rfl

theorem unkeyPort_flt (p : Nat) (s : State) : (unkeyPort p s).flt = s.flt := by
  unfold unkeyPort
  split <;> rfl

theorem linkUp_downCause (p c q : Nat) (s : State) : linkUp (downCause p c s) q = linkUp s q := by
  unfold linkUp downCause
  exact flag_setF_other _ _ (by simp [fRGx_PHY_STAT_DOWN_CAUSE])
    (by simp [fRGx_PHY_STAT_DOWN_CAUSE, fRGx_PHY_STAT_LINK])

/-- The link of a port goes down by the writes of four of its registers. -/
theorem reg_takeDown_other {p o : Nat} (c : Nat) (lost : Bool) (s : State) (hstat : o ≠ oRGx_PHY_STAT p)
    (hcnt : o ≠ oRGx_DOWN_CNT p) (hsec : o ≠ oSEC_LP_STAT p) (hflush : o ≠ oRGx_RP_FLUSH p) :
    reg (takeDown p c lost s) o = reg s o := by
  have hdown : reg (downCause p c s) o = reg s o := reg_setF_other hstat
  unfold takeDown
  dsimp only
  split
  · rw [reg_congr (notePair_regs _ _), reg_flushPort_other _ hflush, reg_unkeyPort_other _ hsec, forgetLink,
      reg_causeOff, reg_setPort, ← hdown]
    cases lost
    · rw [if_neg Bool.false_ne_true, wrapF, reg_setF_other hcnt, reg_setF_other hstat]
    · rw [if_pos rfl, reg_causeOn, wrapF, reg_setF_other hcnt, reg_setF_other hstat]
  · exact hdown

/-- A link that goes down without a report of its loss ends the cause of its degraded source, and leaves the others. -/
theorem takeDown_flt_of_up {p : Nat} (c : Nat) {s : State} (h : linkUp s p = true) :
    (takeDown p c false s).flt = { s.flt with level := delSet (mediaSource p 3) s.flt.level } := by
  have hup : linkUp (downCause p c s) p = true := (linkUp_downCause p c p s).trans h
  unfold takeDown
  dsimp only
  rw [if_pos hup, notePair_flt, flushPort_flt, unkeyPort_flt]
  rfl

/-! ### A port that falls silent (R208) -/

/-- A port that falls silent with its link up ends the cause of its degraded source, and leaves the others. -/
theorem goQuiet_flt_of_up {p : Nat} {s : State} (h : linkUp s p = true) :
    (goQuiet p s).flt = { s.flt with level := delSet (mediaSource p 3) s.flt.level } := by
  rw [← takeDown_flt_of_up 7 h]
  unfold goQuiet
  dsimp only
  rw [if_pos h]
  split <;> rfl

theorem exec_quietReceived {p : Nat} {s : State} (hp : p < 4) (halive : portAlive s p = true)
    (hloud : silent s p = false) : exec (.quietReceived p) s = .next (goQuiet p s) := by
  calc exec (.quietReceived p) s
      = unit (p < 4) (when (portAlive s p && !silent s p) (goQuiet p) s) := rfl
    _ = .next (goQuiet p s) := by simp [hp, halive, hloud]

/-- A copper link of port 0 that is up and degraded (R193). -/
def degradedLink : State :=
  causeOn (mediaSource 0 3) (setF (fRGx_PHY_STAT_LINK 0) 1 (setF (fRGx_PHY_CTL_MEDIUM 0) 2
    (setF (fRGx_PHY_CTL_EN 0) 1 (setDom 1 1 State.reset))))

/-- Refutes O51: on QUIET a degraded link goes down and its degraded source's cause ends with it (R193), so the fault
lines do change. -/
theorem not_quietRequest : ¬ Obligations.QuietRequest := by
  unfold Obligations.QuietRequest
  rintro ⟨hup, -⟩
  have halive : portAlive degradedLink 0 = true := by decide
  have hloud : silent degradedLink 0 = false := by decide
  have hlink : linkUp degradedLink 0 = true := by decide
  obtain ⟨t, ht, -, -, hflt, -⟩ := hup 0 degradedLink (by decide) halive hloud hlink
  rw [exec_quietReceived (by decide) halive hloud] at ht
  injection ht with ht
  have hstands : mediaSource 0 3 ∈ degradedLink.flt.level := mem_level_causeOn _ _
  rw [← hflt, ← ht, goQuiet_flt_of_up hlink, mem_delSet] at hstands
  exact hstands.1 rfl

/-! ### A pair leaves the ring and trains again (R213 to R216) -/

theorem getF_of_reg_eq {s t : State} (f : Fld) (h : reg t f.off = reg s f.off) : getF t f = getF s f := by
  simp only [getF, h]

theorem flag_of_reg_eq {s t : State} (f : Fld) (h : reg t f.off = reg s f.off) : flag t f = flag s f := by
  simp only [flag, getF, h]

theorem reg_setPortState_other {p o : Nat} (v : Nat) (s : State) (hstat : o ≠ oRGx_PHY_STAT p) (hrtm : o ≠ oRTM_STATUS) :
    reg (setPortState p v s) o = reg s o := by
  rw [setPortState, reg_setF_other hrtm, reg_setF_other hstat]

theorem reg_irHalt_other {p o : Nat} (s : State) (h : o ≠ oRGx_IR_STAT p) : reg (irHalt p s) o = reg s o := by
  unfold irHalt
  split
  · rw [reg_setF_other h, reg_setPort]
  · rfl

theorem reg_noteServing_other {o : Nat} (s : State) (h : o ≠ oGLB_BOOT) : reg (noteServing s) o = reg s o := by
  unfold noteServing
  split
  · exact reg_setF_other h
  · rfl

theorem noteServing_flt (s : State) : (noteServing s).flt = s.flt := by
  unfold noteServing
  split <;> rfl

theorem lt_of_mem_pairPorts {x p : Nat} (hx : x < 2) (h : p ∈ pairPorts x) : p < 4 := by
  simp only [pairPorts, List.mem_cons, List.not_mem_nil, or_false] at h
  omega

/-- What leaves a register at each port of a pair leaves it at both. -/
theorem reg_foldl_pairPorts {x o : Nat} {f : State → Nat → State}
    (hf : ∀ t, ∀ p ∈ pairPorts x, reg (f t p) o = reg t o) (s : State) :
    reg ((pairPorts x).foldl f s) o = reg s o := by
  have hE := hf s (2 * x) (by simp [pairPorts])
  have hW := hf (f s (2 * x)) (2 * x + 1) (by simp [pairPorts])
  exact hW.trans hE

/-- The status of a bypass is none of the registers that a port's link or its measurement writes. -/
theorem bypStat_ne_port {p : Nat} (x : Nat) (hp : p < 4) :
    oRGx_BYP_STAT x ≠ oRGx_PHY_CTL p ∧ oRGx_BYP_STAT x ≠ oRGx_PHY_STAT p ∧ oRGx_BYP_STAT x ≠ oRGx_DOWN_CNT p ∧
      oRGx_BYP_STAT x ≠ oSEC_LP_STAT p ∧ oRGx_BYP_STAT x ≠ oRGx_RP_FLUSH p ∧ oRGx_BYP_STAT x ≠ oRGx_IR_STAT p := by
  simp only [oRGx_BYP_STAT, oRGx_PHY_CTL, oRGx_PHY_STAT, oRGx_DOWN_CNT, oSEC_LP_STAT, oRGx_RP_FLUSH, oRGx_IR_STAT]
  omega

theorem bypStat_ne_rtmStatus (x : Nat) : oRGx_BYP_STAT x ≠ oRTM_STATUS := by
  simp only [oRGx_BYP_STAT, oRTM_STATUS]
  omega

theorem bypStat_ne_boot (x : Nat) : oRGx_BYP_STAT x ≠ oGLB_BOOT := by
  simp only [oRGx_BYP_STAT, oGLB_BOOT]
  omega

/-- The links of a pair go down without a write of its bypass's status. -/
theorem reg_bypStat_portsDown {x : Nat} (hx : x < 2) (s : State) :
    reg ((pairPorts x).foldl (fun t p => setPortState p 0 (takeDown p 8 true t)) s) (oRGx_BYP_STAT x) =
      reg s (oRGx_BYP_STAT x) := by
  refine reg_foldl_pairPorts (fun t p hp => ?_) s
  obtain ⟨-, hstat, hcnt, hsec, hflush, -⟩ := bypStat_ne_port x (lt_of_mem_pairPorts hx hp)
  rw [reg_setPortState_other _ _ hstat (bypStat_ne_rtmStatus x), reg_takeDown_other _ _ _ hstat hcnt hsec hflush]

theorem reg_bypStat_irHalts {x : Nat} (hx : x < 2) (s : State) :
    reg ((pairPorts x).foldl (fun t p => irHalt p t) s) (oRGx_BYP_STAT x) = reg s (oRGx_BYP_STAT x) := by
  refine reg_foldl_pairPorts (fun t p hp => ?_) s
  obtain ⟨-, -, -, -, -, hir⟩ := bypStat_ne_port x (lt_of_mem_pairPorts hx hp)
  exact reg_irHalt_other t hir

/-- The release of a pair writes HOLD, SENSED and STATE of its bypass's status. -/
theorem reg_bypStat_releasePair {x : Nat} (hx : x < 2) (s : State) :
    ∃ u, reg u (oRGx_BYP_STAT x) = reg s (oRGx_BYP_STAT x) ∧ reg (releasePair x s) (oRGx_BYP_STAT x) =
      reg (bypState x 0 (setF (fRGx_BYP_STAT_HOLD x) 0 (setF (fRGx_BYP_STAT_SENSED x) 0 u))) (oRGx_BYP_STAT x) :=
  ⟨_, reg_bypStat_portsDown hx s, by rw [releasePair, reg_bypStat_irHalts hx, reg_setByp]⟩

theorem flag_hold_releasePair {x : Nat} (hx : x < 2) (s : State) :
    flag (releasePair x s) (fRGx_BYP_STAT_HOLD x) = false := by
  obtain ⟨u, -, hrel⟩ := reg_bypStat_releasePair hx s
  rw [flag_of_reg_eq (fRGx_BYP_STAT_HOLD x) hrel, bypState, flag_setF_other _ _ (by simp [fRGx_BYP_STAT_STATE])
    (by simp [fRGx_BYP_STAT_STATE, fRGx_BYP_STAT_HOLD]), flag_setF_self _ _ (by simp [fRGx_BYP_STAT_HOLD])]
  simp

theorem getF_state_releasePair {x : Nat} (hx : x < 2) (s : State) :
    getF (releasePair x s) (fRGx_BYP_STAT_STATE x) = 0 := by
  obtain ⟨u, -, hrel⟩ := reg_bypStat_releasePair hx s
  rw [getF_of_reg_eq (fRGx_BYP_STAT_STATE x) hrel, bypState, getF_setF_self _ _ (by simp [fRGx_BYP_STAT_STATE]),
    Nat.zero_mod]

theorem flag_lockedOut_releasePair {x : Nat} (hx : x < 2) (s : State) :
    flag (releasePair x s) (fRGx_BYP_STAT_LOCKED_OUT x) = flag s (fRGx_BYP_STAT_LOCKED_OUT x) := by
  obtain ⟨u, hu, hrel⟩ := reg_bypStat_releasePair hx s
  rw [flag_of_reg_eq (fRGx_BYP_STAT_LOCKED_OUT x) hrel, bypState, flag_setF_other, flag_setF_other, flag_setF_other]
  · exact flag_of_reg_eq (fRGx_BYP_STAT_LOCKED_OUT x) hu
  all_goals simp [fRGx_BYP_STAT_STATE, fRGx_BYP_STAT_HOLD, fRGx_BYP_STAT_SENSED, fRGx_BYP_STAT_LOCKED_OUT]

theorem reg_bypState_congr {x : Nat} {s t : State} (v : Nat) (h : reg t (oRGx_BYP_STAT x) = reg s (oRGx_BYP_STAT x)) :
    reg (bypState x v t) (oRGx_BYP_STAT x) = reg (bypState x v s) (oRGx_BYP_STAT x) := by
  have hoff : (fRGx_BYP_STAT_STATE x).off = oRGx_BYP_STAT x := rfl
  rw [bypState, bypState, setF, setF, reg_setReg, reg_setReg, hoff, h, if_pos rfl]

/-- The insertion of a pair writes STATE of its bypass's status. -/
theorem reg_bypStat_insertPair {x : Nat} (hx : x < 2) (s : State) :
    reg (insertPair x s) (oRGx_BYP_STAT x) = reg (bypState x 1 s) (oRGx_BYP_STAT x) := by
  unfold insertPair
  rw [reg_foldl_pairPorts]
  · exact reg_bypState_congr 1 (reg_setByp _ _ _ _)
  · intro t p hp
    obtain ⟨hctl, hstat, -⟩ := bypStat_ne_port x (lt_of_mem_pairPorts hx hp)
    rw [reg_setPortState_other _ _ hstat (bypStat_ne_rtmStatus x), downCause, reg_setF_other hstat, reg_setF_other hctl]

theorem getF_state_insertPair {x : Nat} (hx : x < 2) (s : State) : getF (insertPair x s) (fRGx_BYP_STAT_STATE x) = 1 := by
  rw [getF_of_reg_eq (fRGx_BYP_STAT_STATE x) (reg_bypStat_insertPair hx s), bypState,
    getF_setF_self _ _ (by simp [fRGx_BYP_STAT_STATE])]
  simp [fRGx_BYP_STAT_STATE]

/-- The insertion of a pair leaves its bypass's other status fields. -/
theorem flag_insertPair {x : Nat} {f : Fld} (hx : x < 2) (s : State) (hf : f.off = oRGx_BYP_STAT x)
    (hdisj : f.lo + f.w ≤ 2 ∨ 4 ≤ f.lo) : flag (insertPair x s) f = flag s f := by
  have hreg : reg (insertPair x s) f.off = reg (bypState x 1 s) f.off := by
    rw [hf]
    exact reg_bypStat_insertPair hx s
  rw [flag_of_reg_eq f hreg, bypState,
    flag_setF_other _ _ (by simp [fRGx_BYP_STAT_STATE]) (.inr hdisj)]

/-! ### A lock-out (R214, R215) -/

theorem reg_bypStat_lockOut (x : Nat) (s : State) :
    reg (lockOut x s) (oRGx_BYP_STAT x) =
      reg (setF (fRGx_BYP_STAT_LOCKED_OUT x) 1 (releasePair x s)) (oRGx_BYP_STAT x) := by
  rw [lockOut, reg_noteServing_other _ (bypStat_ne_boot x), reg_causeOn]

theorem flag_hold_lockOut {x : Nat} (hx : x < 2) (s : State) : flag (lockOut x s) (fRGx_BYP_STAT_HOLD x) = false := by
  rw [flag_of_reg_eq (fRGx_BYP_STAT_HOLD x) (reg_bypStat_lockOut x s), flag_setF_other, flag_hold_releasePair hx]
  all_goals simp [fRGx_BYP_STAT_HOLD, fRGx_BYP_STAT_LOCKED_OUT]

theorem getF_state_lockOut {x : Nat} (hx : x < 2) (s : State) : getF (lockOut x s) (fRGx_BYP_STAT_STATE x) = 0 := by
  rw [getF_of_reg_eq (fRGx_BYP_STAT_STATE x) (reg_bypStat_lockOut x s), getF_setF_other, getF_state_releasePair hx]
  all_goals simp [fRGx_BYP_STAT_STATE, fRGx_BYP_STAT_LOCKED_OUT]

theorem flag_lockedOut_lockOut (x : Nat) (s : State) : flag (lockOut x s) (fRGx_BYP_STAT_LOCKED_OUT x) = true := by
  rw [flag_of_reg_eq (fRGx_BYP_STAT_LOCKED_OUT x) (reg_bypStat_lockOut x s),
    flag_setF_self _ _ (by simp [fRGx_BYP_STAT_LOCKED_OUT])]
  simp [fRGx_BYP_STAT_LOCKED_OUT]

theorem mem_level_lockOut (x : Nat) (s : State) : bypSource x ∈ (lockOut x s).flt.level := by
  rw [lockOut, noteServing_flt]
  exact mem_level_causeOn _ _

/-! ### Automatic drops (R215) -/

/-- The times of a pair's automatic drops within 10 min, with one that takes place now. -/
def dropsNow (s : State) (x : Nat) : List Nat :=
  s.clk :: (getByp s x).drops.filter (fun d => s.clk ≤ d + 600000000000)

/-- A drop that takes place now is noted. -/
def noteDrop (x : Nat) (s : State) : State :=
  setF (fRGx_BYP_STAT_DROPS x) (min 15 (dropsNow s x).length) (setByp x { getByp s x with drops := dropsNow s x } s)

theorem flag_lockedOut_noteDrop (x : Nat) (s : State) :
    flag (noteDrop x s) (fRGx_BYP_STAT_LOCKED_OUT x) = flag s (fRGx_BYP_STAT_LOCKED_OUT x) := by
  rw [noteDrop, flag_setF_other _ _ (by simp [fRGx_BYP_STAT_DROPS])
    (by simp [fRGx_BYP_STAT_DROPS, fRGx_BYP_STAT_LOCKED_OUT]), flag_setByp]

/-- A pair whose drop is due is dropped: the third within 10 min locks it out, any other begins again at step 1. -/
theorem exec_autoDrop_due {x d : Nat} {s : State} (hx : x < 2) (hd : (getByp s x).downSince = some d)
    (hin : pairInLine s x = true) (hauto : flag s (fRGx_BYP_CTL_AUTO_DROP x) = true)
    (hdue : d + 250000000 * getF s (fRGx_BYP_CTL_DROP_TIME x) < s.clk) :
    exec (.autoDrop x) s = .next (if 3 ≤ (dropsNow s x).length then lockOut x (noteDrop x s)
      else insertPair x (releasePair x (noteDrop x s))) := by
  calc exec (.autoDrop x) s = execAutoDrop x s := rfl
    _ = _ := by
      unfold execAutoDrop
      simp only [hx, decide_true, unit_true, hin, hauto, hdue, Bool.and_self, if_true, noteDrop, dropsNow, hd]

/-- Settles O48: the drop due is a release and an insertion, or at the third within 10 min a lock-out. -/
theorem automaticDrops : Obligations.AutomaticDrops := by
  unfold Obligations.AutomaticDrops
  refine ⟨?again, ?locked⟩
  case again =>
    intro x d s hx hd hin hauto hdue hfew
    have hless : ¬ 3 ≤ (dropsNow s x).length := by
      rw [dropsNow, List.length_cons]
      omega
    refine ⟨_, (exec_autoDrop_due hx hd hin hauto hdue).trans (by rw [if_neg hless]), ?_, getF_state_insertPair hx _, ?_⟩
    · rw [flag_insertPair hx _ rfl (by simp [fRGx_BYP_STAT_HOLD]), flag_hold_releasePair hx]
    · rw [flag_insertPair hx _ rfl (by simp [fRGx_BYP_STAT_LOCKED_OUT]), flag_lockedOut_releasePair hx,
        flag_lockedOut_noteDrop]
  case locked =>
    intro x d s hx hd hin hauto hdue hmany
    have hthird : 3 ≤ (dropsNow s x).length := by
      rw [dropsNow, List.length_cons]
      omega
    exact ⟨_, (exec_autoDrop_due hx hd hin hauto hdue).trans (by rw [if_pos hthird]), flag_hold_lockOut hx _,
      getF_state_lockOut hx _, flag_lockedOut_lockOut x _, mem_level_lockOut x _⟩

end Sys2Proof.Proofs
end

/-! PROOFS. The completion rings of the PCI Express bridge (chapter 09): a ring that has been full for 100 ms (R321). -/

section
open Sys2Proof Sys2Proof.Machine

namespace Sys2Proof.Proofs

/-- A change of a completion ring's own record leaves the entries that wait for any ring. -/
theorem hif_cqWait_setCq (c : Nat) (x : Cq) (s : State) : (setCq c x s).hif.cqWait = s.hif.cqWait := rfl

/-- A ring full for 100 ms raises source 581 and notes that it has; it does nothing else (R321). -/
theorem exec_cqFullTimeout_due {c d : Nat} {s : State} (hc : c < 12) (hsince : (getCq s c).fullSince = some d)
    (hdue : d + 100000000 ≤ s.clk) (hnot : (getCq s c).fullRaised = false) (hfull : cqFree s c = 0) :
    exec (.cqFullTimeout c) s = .next (raise 581 (setCq c { getCq s c with fullRaised := true } s)) := by
  calc exec (.cqFullTimeout c) s = execCqFullTimeout c s := rfl
    _ = _ := by simp [execCqFullTimeout, hc, hsince, hdue, hnot, hfull]

/-- Settles O44: of what the statement names, the state that follows differs from the one before only in the source
raised. -/
theorem completionRingFull : Obligations.CompletionRingFull := by
  unfold Obligations.CompletionRingFull
  intro c d s hc hsince hdue hnot hfull
  refine ⟨_, exec_cqFullTimeout_due hc hsince hdue hnot hfull, mem_pulse_raise 581 _, ?waiting, ?registers, ?sent⟩
  case waiting => rw [raise_hif, hif_cqWait_setCq]
  case registers => rw [raise_regs, setCq_regs]
  case sent => rw [raise_out, setCq_out]

end Sys2Proof.Proofs
end

/-! PROOFS. The steward's desk (chapter 11): when an armed edition may be disarmed (R401), and what the end of a session does
and leaves (R389). -/

section
open Sys2Proof Sys2Proof.Machine

namespace Sys2Proof.Proofs

/-! ### Disarming (R401) -/

/-- A served EDITION_DISARM takes the armed edition back until 10 ms before T, and is refused from then on. -/
theorem exec_editionDisarm_armed {d : Nat} {a : Armed} {s : State} (hs : deskServes d 0x21 0 4 true s = true)
    (ha : (takeDoorbell d s).stw.armed = some a) :
    exec (.editionDisarm d) s = .next (if a.t ≤ (takeDoorbell d s).ringNs + 10000000
      then answer d 0x12 0 [] (takeDoorbell d s) else answerOk d [] (setArmed none 0 (takeDoorbell d s))) := by
  calc exec (.editionDisarm d) s = execEditionDisarm d s := rfl
    _ = _ := by
      rw [execEditionDisarm, Sys2Proof.Laws.deskCmd_serves hs rfl]
      simp only [ha]

/-- From 10 ms before T on, the steward shows the armed edition as locked. -/
theorem exec_armLock_due {a : Armed} {s : State} (ha : s.stw.armed = some a) (hruns : stwRuns s = true)
    (hdue : a.t ≤ s.ringNs + 10000000) : exec .armLock s = .next (setF fDSK_ED_ARMED_STATE 2 s) := by
  calc exec .armLock s = execArmLock s := rfl
    _ = _ := by simp [execArmLock, ha, hruns, hdue]

/-- Settles O45: the two outcomes of EDITION_DISARM are the two sides of one comparison of T with the ring time. -/
theorem disarmWindow : Obligations.DisarmWindow := by
  unfold Obligations.DisarmWindow
  refine ⟨?before, ?after, ?locked⟩
  case before =>
    rintro d _ a s hs rfl ha hearly
    rw [exec_editionDisarm_armed hs ha, if_neg (by omega), answerOk]
  case after =>
    rintro d _ a s hs rfl ha hlate
    rw [exec_editionDisarm_armed hs ha, if_pos (by omega)]
  case locked =>
    intro a s ha hruns hdue
    refine ⟨_, exec_armLock_due ha hruns (by omega), ?_, setF_stw _ _ _⟩
    rw [getF_setF_self _ _ (by decide)]
    rfl

/-! ### The end of a session (R389) -/

/-- The desk's register shows no session, no node, no rights and no lock. -/
def vacateDesk (d : Nat) (s : State) : State :=
  setF (fDSK_DESK_LOCK d) 0 (setF (fDSK_DESK_SESSION d) 0 (setF (fDSK_DESK_NODE d) 0 (setF (fDSK_DESK_RIGHTS d) 0 s)))

/-- A desk's record once its session has ended: of a command in progress the response is to be discarded. -/
def closedDesk (s : State) (d : Nat) : Desk :=
  { getDesk s d with sessionId := 0, window := [], discard := getF s (fDSK_DESK_STATE d) == 1 }

/-- A session ends on its desk and, for desk 1, at the USB device. -/
def hangUp (d : Nat) (s : State) : State :=
  if d = 1 then setF fUSB_STATUS_SESSION 0 (vacateDesk d (setDesk d (closedDesk s d) s))
  else vacateDesk d (setDesk d (closedDesk s d) s)

/-- A staging transfer, where it is another desk's. -/
def stagingOfOthers (d : Nat) (x : Option Staging) : Option Staging :=
  match x with
  | some g => if g.desk = d then none else some g
  | none => none

/-- The steward's own state once desk d has no session: its staging transfer and its lock are gone. -/
def withoutDesk (d : Nat) (x : Steward) : Steward :=
  { x with staging := stagingOfOthers d x.staging, lock := if x.lock = some d then none else x.lock }

theorem desk_ne_of_stagingOfOthers {d : Nat} {x : Option Staging} {g : Staging} (h : stagingOfOthers d x = some g) :
    g.desk ≠ d := by
  cases x with
  | none => contradiction
  | some y =>
    rw [stagingOfOthers] at h
    split at h
    · contradiction
    · next hne =>
      cases h
      exact hne

theorem lock_withoutDesk_ne (d : Nat) (x : Steward) : (withoutDesk d x).lock ≠ some d := by
  simp only [withoutDesk]
  split
  · exact Option.some_ne_none d ∘ Eq.symm
  · assumption

theorem hangUp_stw (d : Nat) (s : State) : (hangUp d s).stw = s.stw := by
  unfold hangUp vacateDesk
  split <;> simp only [setF_stw, setDesk_stw]

theorem hangUp_sec (d : Nat) (s : State) : (hangUp d s).sec = s.sec := by
  unfold hangUp vacateDesk
  split <;> simp only [setF_sec, setDesk_sec]

/-- The end of a session changes no desk's record but its own. -/
theorem hangUp_desks (d : Nat) (s : State) : (hangUp d s).desks = (setDesk d (closedDesk s d) s).desks := by
  unfold hangUp vacateDesk
  split <;> simp only [setF_desks]

theorem getDesk_hangUp_self (d : Nat) (s : State) : getDesk (hangUp d s) d = closedDesk s d := by
  rw [getDesk, hangUp_desks]
  exact tget_tset_self _ _ _ _

theorem reg_deskReg_hangUp (d : Nat) (s : State) : reg (hangUp d s) (oDSK_DESK d) = reg (vacateDesk d s) (oDSK_DESK d) := by
  by_cases hd : d = 1
  · rw [hangUp, if_pos hd, reg_setF_other (by subst hd; decide)]
    rfl
  · rw [hangUp, if_neg hd]
    rfl

/-- An open session that closes ends on its desk, and the steward drops what it held for it. -/
theorem closeSession_of_open {d : Nat} {s : State} (h : flag s (fDSK_DESK_SESSION d) = true) :
    closeSession d s = setStw (withoutDesk d s.stw) (hangUp d s) := by
  have hclose : closeSession d s = setStw (withoutDesk d (hangUp d s).stw) (hangUp d s) := by
    simp only [closeSession, h, Bool.not_true, Bool.false_eq_true, if_false]
    rfl
  rw [hclose, hangUp_stw]

theorem flag_session_vacateDesk (d : Nat) (s : State) : flag (vacateDesk d s) (fDSK_DESK_SESSION d) = false := by
  rw [vacateDesk, flag_setF_other _ _ (by simp [fDSK_DESK_LOCK]) (by simp [fDSK_DESK_LOCK, fDSK_DESK_SESSION]),
    flag_setF_self _ _ (by simp [fDSK_DESK_SESSION])]
  simp

theorem getF_state_vacateDesk (d : Nat) (s : State) :
    getF (vacateDesk d s) (fDSK_DESK_STATE d) = getF s (fDSK_DESK_STATE d) := by
  rw [vacateDesk, getF_setF_other, getF_setF_other, getF_setF_other, getF_setF_other]
  all_goals simp [fDSK_DESK_STATE, fDSK_DESK_LOCK, fDSK_DESK_SESSION, fDSK_DESK_NODE, fDSK_DESK_RIGHTS]

/-- A discarded response leaves its desk IDLE: no response is written or sent (log 100). -/
theorem publish_of_discard {d : Nat} {s : State} (ws : List Word) (h : (getDesk s d).discard = true) :
    publish d ws s = setF (fDSK_DESK_STATE d) 0 (setDesk d { getDesk s d with prepared := none, discard := false } s) :=
  if_pos h

/-- CONTROL CLOSE by the holder of the session that it names closes that session. -/
theorem exec_controlClose_holder {f : Frame} {u s : State} (hruns : stwRuns s = true)
    (ht : takeQ 34 (isControl 3) s = some (f, u)) (hholds : holdsSession u f = true) :
    exec .controlClose s = .next (closeSession (bitsOf (pw f 0) 2 3) u) := by
  calc exec .controlClose s = execControlClose s := rfl
    _ = _ := by simp [execControlClose, onControl, hruns, ht, hholds]

/-- Settles O46: a session that closes is its desk's record, its desk's register and the steward's state, each by its own
lemma. -/
theorem sessionEnds : Obligations.SessionEnds := by
  unfold Obligations.SessionEnds
  refine ⟨?closes, ?discarded, ?control⟩
  case closes =>
    rintro d s t - hopen rfl
    rw [closeSession_of_open hopen]
    have hdesk : getDesk (setStw (withoutDesk d s.stw) (hangUp d s)) d = closedDesk s d := getDesk_hangUp_self d s
    rw [hdesk]
    refine ⟨?session, ?state, rfl, rfl, rfl, rfl, ?staging, lock_withoutDesk_ne d s.stw, rfl, ?volume⟩
    case session =>
      rw [flag_setStw, flag_of_reg_eq (fDSK_DESK_SESSION d) (reg_deskReg_hangUp d s), flag_session_vacateDesk]
    case state =>
      rw [getF_setStw, getF_of_reg_eq (fDSK_DESK_STATE d) (reg_deskReg_hangUp d s), getF_state_vacateDesk]
    case staging => exact fun g hg => desk_ne_of_stagingOfOthers hg
    case volume => rw [setStw_sec, hangUp_sec]
  case discarded => exact fun d ws s _ hdiscard => publish_of_discard ws hdiscard
  case control => exact fun f u s hruns ht hholds => exec_controlClose_holder hruns ht hholds

end Sys2Proof.Proofs
end

/-! PROOFS. Paired registers (chapter 11): the halves of the pair FED_FSC LIM and TMR as they are written (R377, R437), and
the end of a pair that stays half-written (R379). -/

section
open Sys2Proof Sys2Proof.Machine

namespace Sys2Proof.Proofs

/-! ### Bits under a mask -/

theorem bitsOf_bitsOf_self (v k : Nat) : bitsOf (bitsOf v 0 k) 0 k = bitsOf v 0 k := by
  simp [bitsOf]

theorem reg_writeBits (o m v p : Nat) (s : State) :
    reg (writeBits o m v s) p = if p = o then wd (mergeBits (reg s o).toNat m v) else reg s p := reg_setReg _ _ _ _

/-- The bits written under a mask of the lowest k bits are those of the value. -/
theorem bitsOf_mergeBits_low {k : Nat} (o v : Nat) (hk : k ≤ 24) :
    bitsOf (wd (mergeBits o (2 ^ k - 1) v)).toNat 0 k = bitsOf v 0 k := by
  apply Nat.eq_of_testBit_eq
  intro i
  rw [testBit_bitsOf, testBit_bitsOf, Nat.zero_add]
  by_cases hi : i < k
  · rw [BitVec.toNat_ofNat, Nat.testBit_mod_two_pow, testBit_mergeBits (by omega), Nat.testBit_two_pow_sub_one]
    have hi24 : i < 24 := by omega
    simp [hi, hi24]
  · simp [hi]

/-! ### The pair of a channel's LIM and TMR (12 Table 12) -/

theorem rowOf_lim {n : Nat} (hn : n < 16) :
    rowOf (oFED_FSC_LIM n) = some (⟨0x8101, [(16, 0x8)], [⟨0, 9, .rw, .paired, 0x64⟩]⟩, [n]) := by
  interval_cases n <;> rfl

theorem rowOf_tmr {n : Nat} (hn : n < 16) : rowOf (oFED_FSC_TMR n) =
    some (⟨0x8102, [(16, 0x8)], [⟨0, 10, .rw, .paired, 0x64⟩, ⟨10, 8, .rw, .live, 0x32⟩, ⟨18, 2, .rw, .live, 0x2⟩]⟩, [n]) := by
  interval_cases n <;> rfl

theorem blockOf_lim {n : Nat} (hn : n < 16) : blockOf (oFED_FSC_LIM n) = some .fed := by
  interval_cases n <;> rfl

theorem pairOf_lim {n : Nat} (hn : n < 16) : pairOf (oFED_FSC_LIM n) = some (oFED_FSC_LIM n, oFED_FSC_TMR n) := by
  have htmr : oFED_FSC_TMR n = oFED_FSC_LIM n + 1 := by
    simp only [oFED_FSC_LIM, oFED_FSC_TMR]
    omega
  rw [htmr, pairOf, rowOf_lim hn]
  rfl

theorem pairedMask_lim {n : Nat} (hn : n < 16) : pairedMask (oFED_FSC_LIM n) = 0x1FF := by
  simp [pairedMask, rowOf_lim hn, fldMask]

theorem pairedMask_tmr {n : Nat} (hn : n < 16) : pairedMask (oFED_FSC_TMR n) = 0x3FF := by
  simp [pairedMask, rowOf_tmr hn, fldMask]

theorem lim_mod_eight (n : Nat) : oFED_FSC_LIM n % 8 = 1 := by
  simp only [oFED_FSC_LIM]
  omega

theorem lim_ne_tmr (n m : Nat) : oFED_FSC_LIM n ≠ oFED_FSC_TMR m := by
  simp only [oFED_FSC_LIM, oFED_FSC_TMR]
  omega

/-- What is taken of a value written to LIM. -/
theorem and_pairedMask_lim {n : Nat} (x : Nat) (hn : n < 16) : x &&& pairedMask (oFED_FSC_LIM n) = bitsOf x 0 9 := by
  rw [pairedMask_lim hn]
  exact Nat.and_two_pow_sub_one_eq_mod x 9

/-- A limit of 10 to 400 units is in range (R437). -/
theorem badMember_lim {n v : Nat} (hn : n < 16) (hlo : 10 ≤ bitsOf v 0 9) (hhi : bitsOf v 0 9 ≤ 400) :
    badMember (oFED_FSC_LIM n) (v &&& pairedMask (oFED_FSC_LIM n)) = false := by
  rw [and_pairedMask_lim v hn, badMember]
  split
  · simp [lim_mod_eight, hlo, hhi]
  · rfl

/-! ### A write of a pair's member (R377, R378) -/

/-- The first write of a pair's first member is held, where it brings a new value that is in range. -/
theorem pairWrite_holds {a b v : Nat} {s : State} (hab : a ≠ b) (hgood : badMember a (v &&& pairedMask a) = false)
    (hnone : s.pairs.find? (fun h => h.offA == a) = none)
    (hnew : v &&& pairedMask a ≠ (reg s a).toNat &&& pairedMask a) :
    pairWrite a a b v s =
      { s with pairs := s.pairs ++ [⟨a, b, pairedMask a, v &&& pairedMask a, 0, 0, s.clk⟩] } := by
  simp [pairWrite, hgood, hab, hnone, hnew]

/-- The write of a pair's first member, where the second is held, ends the hold and applies both. -/
theorem pairWrite_applies {a b v : Nat} {h : PairHold} {s : State} (hab : a ≠ b)
    (hgood : badMember a (v &&& pairedMask a) = false) (hmask : pairedMask a ≠ 0)
    (hheld : s.pairs.find? (fun h => h.offA == a) = some h) (hB : h.maskB ≠ 0) :
    pairWrite a a b v s =
      applyPair a (v &&& pairedMask a) h.valB { s with pairs := s.pairs.filter (fun x => x.offA != a) } := by
  simp [pairWrite, hgood, hab, hheld, hmask, hB]

/-- The two members of a channel's pair take effect at once. -/
theorem applyPair_lim {n : Nat} (va vb : Nat) (s : State) (hn : n < 16) :
    applyPair (oFED_FSC_LIM n) va vb s =
      writeBits (oFED_FSC_TMR n) 0x3FF vb (writeBits (oFED_FSC_LIM n) 0x1FF va s) := by
  have hnotAna : ¬ (0x3_4180 ≤ oFED_FSC_LIM n ∧ oFED_FSC_LIM n < 0x3_4280) := by
    simp only [oFED_FSC_LIM]
    omega
  simp only [applyPair, blockOf_lim hn, pairOf_lim hn, if_neg hnotAna, if_neg (lim_ne_tmr n n), pairedMask_lim hn,
    pairedMask_tmr hn]

/-- LIM holds its Paired field alone, so a write of it is the write of the pair's member. -/
theorem rowWrite_lim {n : Nat} (v : Nat) (s : State) (hn : n < 16) :
    rowWrite (oFED_FSC_LIM n) v s = pairWrite (oFED_FSC_LIM n) (oFED_FSC_LIM n) (oFED_FSC_TMR n) v s := by
  simp [rowWrite, rowOf_lim hn, heldByPlace, blockOf_lim hn, writeRow, fldMask, pairOf_lim hn]

theorem busPut_lim {n : Nat} (v : Word) (s : State) (hn : n < 16) :
    busPut (oFED_FSC_LIM n) v s = rowWrite (oFED_FSC_LIM n) v.toNat s := by
  obtain ⟨hreq, hdom, hwarn⟩ :
      oFED_FSC_LIM n ≠ oPWR_REQ ∧ oFED_FSC_LIM n ≠ oPWR_DOM_OFF ∧ oFED_FSC_LIM n ≠ 0x8001 := by
    simp only [oFED_FSC_LIM, oPWR_REQ, oPWR_DOM_OFF]
    omega
  simp [busPut, hreq, hdom, regWrite, blockOf_lim hn, fedWrite, hwarn, lim_mod_eight]

theorem exec_pairedWrite_lim {w : Writer} {n : Nat} {s : State} (v : Word) (hn : n < 16)
    (hmay : mayWrite w (oFED_FSC_LIM n) s = true) : exec (.pairedWrite w (oFED_FSC_LIM n) v) s =
      .next (pairWrite (oFED_FSC_LIM n) (oFED_FSC_LIM n) (oFED_FSC_TMR n) v.toNat s) := by
  calc exec (.pairedWrite w (oFED_FSC_LIM n) v) s = execPairedWrite w (oFED_FSC_LIM n) v s := rfl
    _ = .next (busWrite w (oFED_FSC_LIM n) v s) := by simp [execPairedWrite, pairOf_lim hn]
    _ = _ := by rw [busWrite, guardWrite_may hmay, busPut_lim v s hn, rowWrite_lim _ s hn]

/-! ### A pair that stays half-written (R379) -/

/-- The pair whose held member is named, and is overdue, is given up and recorded. -/
theorem exec_pairExpiry_due {off : Nat} {h : PairHold} {s : State}
    (hdue : s.pairs.find? (fun h => heldMember h == off && h.since + 10000000 < s.clk) = some h) :
    exec (.pairExpiry off) s = .next (raise 515 (setReg oDSK_PAIR_LOG (wd (off + 2 ^ 23))
      { s with pairs := s.pairs.filter (fun x => x.offA != h.offA) })) := by
  calc exec (.pairExpiry off) s = execPairExpiry off s := rfl
    _ = _ := by rw [execPairExpiry, hdue]

/-- Settles O43: the first write meets no held member, the second one completes the pair, and a hold that is overdue is given
up. -/
theorem pairedRegisters : Obligations.PairedRegisters := by
  unfold Obligations.PairedRegisters
  refine ⟨?held, ?applied, ?expired⟩
  case held =>
    intro w n v s hn hmay hlo hhi hnew hnone
    have hdiff : v.toNat &&& pairedMask (oFED_FSC_LIM n) ≠
        (reg s (oFED_FSC_LIM n)).toNat &&& pairedMask (oFED_FSC_LIM n) := by
      rwa [and_pairedMask_lim _ hn, and_pairedMask_lim _ hn]
    refine ⟨_, exec_pairedWrite_lim v hn hmay, ?_⟩
    rw [pairWrite_holds (lim_ne_tmr n n) (badMember_lim hn hlo hhi) hnone hdiff, and_pairedMask_lim _ hn,
      pairedMask_lim hn]
  case applied =>
    intro w n v h s hn hmay hlo hhi hheld _ hB
    have hmask : pairedMask (oFED_FSC_LIM n) ≠ 0 := by simp [pairedMask_lim hn]
    refine ⟨_, exec_pairedWrite_lim v hn hmay, ?_⟩
    rw [pairWrite_applies (lim_ne_tmr n n) (badMember_lim hn hlo hhi) hmask hheld hB, and_pairedMask_lim _ hn,
      applyPair_lim _ _ _ hn]
    refine ⟨rfl, ?lim, ?tmr⟩
    case lim =>
      rw [reg_writeBits, if_neg (lim_ne_tmr n n), reg_writeBits, if_pos rfl]
      exact (bitsOf_mergeBits_low (k := 9) _ _ (by decide)).trans (bitsOf_bitsOf_self _ 9)
    case tmr =>
      rw [reg_writeBits, if_pos rfl]
      exact bitsOf_mergeBits_low (k := 10) _ _ (by decide)
  case expired =>
    intro off h s hdue
    refine ⟨_, exec_pairExpiry_due hdue, ?log, mem_pulse_raise 515 _, ?others, rfl⟩
    case log => rw [reg_raise, reg_setReg, if_pos rfl]
    case others =>
      intro o ho
      rw [reg_raise, reg_setReg, if_neg ho]
      rfl

end Sys2Proof.Proofs
end

/-! PROOFS. The field supply channels (chapter 12): a trip as it is counted, the retry or the latch it leads to, and the end
of the retry timer (R426). -/

section
open Sys2Proof Sys2Proof.Machine

namespace Sys2Proof.Proofs

/-! ### A channel that enters a state (Table 4) -/

/-- A channel is in the state it has entered. -/
theorem fscState_fscGo {n st : Nat} (s : State) (hst : st < 16) : fscState (fscGo n st s) n = st := by
  rw [fscState, fscGo, getF_setFsc, getF_setF_self _ _ (by simp [fFED_FSC_STAT_STATE])]
  exact Nat.mod_eq_of_lt hst

/-- A channel that enters a state writes STATE alone. -/
theorem getF_fscGo_other {n : Nat} {f : Fld} (st : Nat) (s : State) (h : f.off ≠ oFED_FSC_STAT n ∨ 4 ≤ f.lo) :
    getF (fscGo n st s) f = getF s f := by
  rw [fscGo, getF_setFsc, getF_setF_other _ _ (by simp [fFED_FSC_STAT_STATE]) (h.imp_right .inr)]

@[simp] theorem fscGo_clk (n st : Nat) (s : State) : (fscGo n st s).clk = s.clk := rfl

@[simp] theorem fscGo_flt (n st : Nat) (s : State) : (fscGo n st s).flt = s.flt := rfl

/-! ### A trip as it is counted (R426) -/

/-- What a trip leaves whatever state the channel then enters: the two counts, the cause in LAST, and source 16 + n. -/
def countTrip (n code : Nat) (s : State) : State :=
  raise (16 + n) (wrapF (fFED_FSC_CNT_TRIPS_TOTAL n)
    (setF (fFED_FSC_STAT_LAST n) code (setF (fFED_FSC_STAT_TRIPS n) (min 15 (getF s (fFED_FSC_STAT_TRIPS n) + 1)) s)))

theorem countTrip_clk (n code : Nat) (s : State) : (countTrip n code s).clk = s.clk := by
  simp only [countTrip, raise_clk, wrapF_clk, setF_clk]

theorem mem_pulse_countTrip (n code : Nat) (s : State) : 16 + n ∈ (countTrip n code s).flt.pulse :=
  mem_pulse_raise (16 + n) _

/-- A channel's STAT, its CNT and the setting of its retries are three registers. -/
theorem fscRegisters_ne (n : Nat) : oFED_FSC_STAT n ≠ oFED_FSC_CNT n ∧ oFED_FSC_RETRY n ≠ oFED_FSC_STAT n ∧
    oFED_FSC_RETRY n ≠ oFED_FSC_CNT n := by
  simp only [oFED_FSC_RETRY, oFED_FSC_STAT, oFED_FSC_CNT]
  omega

/-- The count of all trips writes the channel's CNT alone. -/
theorem getF_wrapTripsTotal {n : Nat} {f : Fld} (s : State) (hcnt : f.off ≠ oFED_FSC_CNT n) :
    getF (wrapF (fFED_FSC_CNT_TRIPS_TOTAL n) s) f = getF s f :=
  getF_setF_other _ _ (by simp [fFED_FSC_CNT_TRIPS_TOTAL]) (.inl hcnt)

/-- A trip counted leaves the setting of the channel's retries. -/
theorem getF_retry_countTrip {n : Nat} {f : Fld} (code : Nat) (s : State) (hf : f.off = oFED_FSC_RETRY n) :
    getF (countTrip n code s) f = getF s f := by
  obtain ⟨-, hstat, hcnt⟩ := fscRegisters_ne n
  rw [← hf] at hstat hcnt
  rw [countTrip, getF_raise, getF_wrapTripsTotal _ hcnt, getF_setF_other _ _ (by simp [fFED_FSC_STAT_LAST]) (.inl hstat),
    getF_setF_other _ _ (by simp [fFED_FSC_STAT_TRIPS]) (.inl hstat)]

theorem getF_trips_countTrip {n : Nat} {s : State} (code : Nat) (hfew : getF s (fFED_FSC_STAT_TRIPS n) < 15) :
    getF (countTrip n code s) (fFED_FSC_STAT_TRIPS n) = getF s (fFED_FSC_STAT_TRIPS n) + 1 := by
  rw [countTrip, getF_raise, getF_wrapTripsTotal _ (fscRegisters_ne n).1,
    getF_setF_other _ _ (by simp [fFED_FSC_STAT_LAST]) (by simp [fFED_FSC_STAT_TRIPS, fFED_FSC_STAT_LAST]),
    getF_setF_self _ _ (by simp [fFED_FSC_STAT_TRIPS]), Nat.min_eq_right hfew]
  exact Nat.mod_eq_of_lt (Nat.succ_lt_succ hfew)

theorem tripCode_lt (cause : FscTrip) : tripCode cause < 8 := by
  cases cause <;> decide

theorem getF_last_countTrip (n : Nat) (cause : FscTrip) (s : State) :
    getF (countTrip n (tripCode cause) s) (fFED_FSC_STAT_LAST n) = tripCode cause := by
  rw [countTrip, getF_raise, getF_wrapTripsTotal _ (fscRegisters_ne n).1,
    getF_setF_self _ _ (by simp [fFED_FSC_STAT_LAST])]
  exact Nat.mod_eq_of_lt (tripCode_lt cause)

/-- A trip is counted and the channel enters a state. -/
def tripInto (n code st : Nat) (s : State) : State := fscGo n st (countTrip n code s)

theorem fscState_tripInto {n st : Nat} (code : Nat) (s : State) (hst : st < 16) :
    fscState (tripInto n code st s) n = st :=
  fscState_fscGo _ hst

theorem getF_trips_tripInto {n : Nat} {s : State} (code st : Nat) (hfew : getF s (fFED_FSC_STAT_TRIPS n) < 15) :
    getF (tripInto n code st s) (fFED_FSC_STAT_TRIPS n) = getF s (fFED_FSC_STAT_TRIPS n) + 1 := by
  rw [tripInto, getF_fscGo_other _ _ (.inr (by simp [fFED_FSC_STAT_TRIPS])), getF_trips_countTrip _ hfew]

theorem getF_last_tripInto (n : Nat) (cause : FscTrip) (st : Nat) (s : State) :
    getF (tripInto n (tripCode cause) st s) (fFED_FSC_STAT_LAST n) = tripCode cause := by
  rw [tripInto, getF_fscGo_other _ _ (.inr (by simp [fFED_FSC_STAT_LAST])), getF_last_countTrip]

theorem mem_pulse_tripInto (n code st : Nat) (s : State) : 16 + n ∈ (tripInto n code st s).flt.pulse := by
  rw [tripInto, fscGo_flt]
  exact mem_pulse_countTrip n code s

/-! ### Where a trip leads (R426) -/

/-- The retry timer starts. -/
def startRetry (n : Nat) (s : State) : State :=
  setFsc n { getFsc s n with retryAt := s.clk + 100000000 * max 1 (getF s (fFED_FSC_RETRY_RETRY_T n)) } s

theorem getF_startRetry (n : Nat) (s : State) (f : Fld) : getF (startRetry n s) f = getF s f :=
  getF_setFsc _ _ _ _

theorem startRetry_flt (n : Nat) (s : State) : (startRetry n s).flt = s.flt := setFsc_flt _ _ _

/-- A trip is counted first; a nonzero LATCH_N that the count has come to latches the channel, otherwise it retries. -/
theorem tripChannel_eq (n code : Nat) (s : State) : tripChannel n code s =
    if getF s (fFED_FSC_RETRY_LATCH_N n) ≠ 0 ∧
        min 15 (getF s (fFED_FSC_STAT_TRIPS n) + 1) = getF s (fFED_FSC_RETRY_LATCH_N n)
    then raise (32 + n) (tripInto n code 6 s) else startRetry n (tripInto n code 5 s) := by
  have hbool : tripChannel n code s =
      if (getF (countTrip n code s) (fFED_FSC_RETRY_LATCH_N n) != 0 &&
        min 15 (getF s (fFED_FSC_STAT_TRIPS n) + 1) == getF (countTrip n code s) (fFED_FSC_RETRY_LATCH_N n)) = true
      then raise (32 + n) (tripInto n code 6 s) else startRetry n (tripInto n code 5 s) := rfl
  rw [hbool, getF_retry_countTrip code s rfl]
  simp only [Bool.and_eq_true, bne_iff_ne, beq_iff_eq]

theorem tripChannel_latches {n code : Nat} {s : State} (hfew : getF s (fFED_FSC_STAT_TRIPS n) < 15)
    (hlast : getF s (fFED_FSC_RETRY_LATCH_N n) = getF s (fFED_FSC_STAT_TRIPS n) + 1) :
    tripChannel n code s = raise (32 + n) (tripInto n code 6 s) := by
  rw [tripChannel_eq, if_pos (by omega)]

theorem tripChannel_retries {n code : Nat} {s : State} (hfew : getF s (fFED_FSC_STAT_TRIPS n) < 15)
    (hmore : getF s (fFED_FSC_RETRY_LATCH_N n) = 0 ∨
      getF s (fFED_FSC_RETRY_LATCH_N n) ≠ getF s (fFED_FSC_STAT_TRIPS n) + 1) :
    tripChannel n code s = startRetry n (tripInto n code 5 s) := by
  rw [tripChannel_eq, if_neg (by omega)]

theorem exec_fscTrip_holds {n held : Nat} {cause : FscTrip} {m : Sensed} {s : State} (hn : n < 16)
    (htrip : tripHolds s n cause m held = true) :
    exec (.fscTrip n cause m held) s = .next (tripChannel n (tripCode cause) s) := by
  calc exec (.fscTrip n cause m held) s = execFscTrip n cause m held s := rfl
    _ = _ := by rw [execFscTrip, decide_eq_true hn, htrip, unit_true, when_true]

/-- The retry timer of a channel that has tripped runs for RETRY_T from the trip. -/
theorem retryAt_startRetry_tripInto (n code st : Nat) (s : State) :
    (getFsc (startRetry n (tripInto n code st s)) n).retryAt =
      s.clk + 100000000 * max 1 (getF s (fFED_FSC_RETRY_RETRY_T n)) := by
  rw [startRetry, getFsc_setFsc, if_pos rfl, tripInto, fscGo_clk, countTrip_clk,
    getF_fscGo_other _ _ (.inl (fscRegisters_ne n).2.1), getF_retry_countTrip _ _ rfl]

/-! ### The end of the retry timer (R426) -/

/-- A channel in RETRY whose timer has run out, and that may be on, turns on from CHECK. -/
theorem exec_fscRetryExpiry_due {n : Nat} {s : State} (hn : n < 16) (hretry : fscState s n = 5)
    (hdue : (getFsc s n).retryAt ≤ s.clk) (hon : fscMayOn s n = true) :
    exec (.fscRetryExpiry n) s = .next (fscGo n 1 s) := by
  calc exec (.fscRetryExpiry n) s = execFscRetryExpiry n s := rfl
    _ = .next (fscRest n s) := by simp [execFscRetryExpiry, hn, hretry, hdue]
    _ = _ := by rw [fscRest, if_pos hon]

/-- Settles O50: every trip is counted alike, and LATCH_N only decides which state the channel then enters. -/
theorem channelTrips : Obligations.ChannelTrips := by
  unfold Obligations.ChannelTrips
  refine ⟨?retries, ?latches, ?expires⟩
  case retries =>
    intro n cause m held s hn htrip hfew hmore
    refine ⟨_, (exec_fscTrip_holds hn htrip).trans (congrArg _ (tripChannel_retries hfew hmore)), ?_⟩
    rw [fscState, getF_startRetry, getF_startRetry, getF_startRetry, startRetry_flt]
    exact ⟨fscState_tripInto _ s (by decide), getF_trips_tripInto _ 5 hfew, getF_last_tripInto n cause 5 s,
      mem_pulse_tripInto n _ 5 s, retryAt_startRetry_tripInto n _ 5 s⟩
  case latches =>
    intro n cause m held s hn htrip hfew hlatch
    refine ⟨_, (exec_fscTrip_holds hn htrip).trans (congrArg _ (tripChannel_latches hfew hlatch)), ?_⟩
    rw [fscState, getF_raise, getF_raise, getF_raise]
    exact ⟨fscState_tripInto _ s (by decide), getF_trips_tripInto _ 6 hfew, getF_last_tripInto n cause 6 s,
      (mem_insSet _ _ _).2 (.inr (mem_pulse_tripInto n _ 6 s)), mem_pulse_raise (32 + n) _⟩
  case expires =>
    intro n s hn hretry hdue hon
    exact ⟨_, exec_fscRetryExpiry_due hn hretry hdue hon, fscState_fscGo s (by decide)⟩

end Sys2Proof.Proofs
end

/-! PROOFS. The guards of the commands' meanings, for a rewrite: a unit that the part has, and a condition that is known. -/

section
open Sys2Proof Sys2Proof.Machine

namespace Sys2Proof.Proofs

theorem unit_pos {c : Bool} {t : State} (h : c = true) : unit c t = .next t := by rw [h, unit_true]

theorem when_pos {c : Bool} {f : State → State} {s : State} (h : c = true) : when c f s = f s := by rw [h, when_true]

theorem when_neg {c : Bool} {f : State → State} {s : State} (h : c = false) : when c f s = s := by rw [h, when_false]

end Sys2Proof.Proofs
end

/-! PROOFS. Every command and the tick at once (00, log 2, log 190): a command stops only where its operand names no unit
of the part, a command and a tick keep the invariant, and so a run of well-formed commands goes on for ever. -/

section
open Sys2Proof Sys2Proof.Machine

namespace Sys2Proof.Proofs

/-! ### What a command answers -/

/-- Every command's meaning is one next state, behind a check of its operands that a well-formed command passes. The
three groups are the commands with no check, those whose check is all of `Instr.wf`, and those that check a part of it. -/
theorem exec_eq_unit (c : Instr) (s : State) : ∃ ok t, exec c s = unit ok t ∧ (c.wf = true → ok = true) := by
  cases c
  case registerWrite | rcRead | rtmTimeRead | pairedWrite | pairExpiry | scrubVisit | scrubPassEnd | stkCopyStart |
      bankCopyDone | stkCopyAbort | stkBankMapWrite | bankMapNocopy | alarmCheck | dioRefresh | dioWdogKick |
      dioWdogExpiry | rotationStep | rotationCheckEnd | rotationStall | audioPllUnlock | referenceFault |
      irHourRollover | sweep | timeSync | timeAnnounce | ack | nak | beacon | controlOpen | controlCommand |
      controlResponse | controlClose | replayReq | event | dfr | evtMark | replayGone | readReq | readResp | readErr
      | readRetry | write | bulkData | bulkAck | bulkAbort | ackTimeout | evtMarkTimer | replayWaitExpiry |
      beaconTimer | bulkAckTimer | bulkProgressTimeout | bulkTimeout | sweepSlot | sweepLostCheck | timeSyncTimer |
      timeAnnounceTimer | grandmasterTimeout | syncHoldover | offsetAlarm | ppsInEdge | ppsMissed | ppsOutPulse |
      couplerCreditWait | descriptorStarve | swqLimitWrite | queueRebuild | bar0Access | bar2ReadComplete |
      rdLimitExpiry | pcieLinkReset | pcieError | pciePerstRelease | deskWrite | deskRead | ep2OutTransfer |
      ep2InTransfer | ep1Notification | usbBusReset | usbSetup | usbSuspend | usbResume | remoteWakeTimeout |
      vbusLost | usbConnect | usbReattach | reattachTimer | setInterface | setCurFrequency | isoPacketMissed |
      lockstepMismatch | coreSelftestEnd | restartPoint | armLock | editionActivation | lateActivation |
      nodePhaseChange | nodeTrip | nodeRetry | feedWarnAssert | feedWarnRelease | pwrReqGo | drainComplete |
      drainTimeout | pwrDomOffWrite | wakeEvent | pllLockTimeout | nightOrder | orderResend | xtalStop | faultRaise
      | fltFirstClear | cntClearAll | wearHourCheck | ringbStandin | twinHello | twinHelloTimer | twinPeerLost |
      claimRound | twinHandover | twinHandoverOk | twinCancel | twinHandoverReq | handoverPrepare | handoverTime |
      twinClaimIdle | twinRotation | twinBothActive | trngFail | unlockToken | debugExpiry | volumeSwitch |
      volumeHealthy | trialDeadline | aonWatchdogExpiry | aonReset | coreReset | coreResetRelease | archivistStart |
      fieldStartTimer | vbusDetected | readReissue | pcieLinkUp | configRequest | audioPllLock | referenceRestored |
      trngHealthy | isoInPacket | streamSample =>
    exact ⟨true, _, rfl, fun _ => rfl⟩
  case cntLoRead | catalogueReload | scanCycleDue | pollTransaction | attemptTimeout | unsolicitedInput |
      housekeepingStep | commandItem | portDown | portUp | holdTimerExpiry | itemLimitExpiry | engineStoreError |
      clkEngBindWrite | engineHandover | placeRebind | rebindComplete | i2cBusTest | discreteEdge | debounceStable |
      dioCommand | dioReadback | pwmPeriodBoundary | anaWindowEnd | openSensorCheck | converterFault | steerSwitch |
      trainingComplete | detectionRetry | infoFieldRx | linkDown | linkUp | linkDegraded | keepaliveShift |
      keepaliveExit | moduleInserted | moduleFault | ddmPoll | opticalLinkUp | irStart | irGuardRetry | irComplete |
      tdrSilence | tdrComplete | quietReceived | quietTimeout | selfTrainDone | selfTrainFail | bypassSettle |
      autoDrop | frameTransit | egressFrameEnd | editionMismatchCheck | dlyReq | dlyResp | delayMeasureTimer |
      beaconReturnTimeout | seedingEnd | queuePush | queuePushResume | cellPatrolVisit | sqTailDoorbell | dmaWrite |
      dmaFetch | fetchWaitResume | dmaFence | cqHeadDoorbell | cqSignal | cqFullTimeout | msixUnmask | remoteWake |
      usbOverCurrent | setPortPower | clearEndpointHalt | deskAreaWrite | deskDoorbell | deskDone |
      sessionIdleTimeout | identify | sessionClose | lock | unlock | stageOpen | stageCommit | stageClose |
      stageAbort | editionArm | editionDisarm | editionActivateNow | editionStatus | groupList | pointForce |
      pointRelease | spareSwap | unitReturn | powerState | volumeStatus | volumeArm | volumeCommit | volumeFallback
      | settingsGet | settingsSet | timeSet | timeEpoch | restart | feedStateChange | feedQualified | oringReverse |
      oringFetFault | fscCheckEnd | fscRampStart | fscOn | fscTrip | fscRetryExpiry | fscClearTimer | fscProbe |
      fscRemoval | fscReinsertion | fscDebounceEnd | fscFetShort | fscHoldBegin | fscHoldEnd | domainAckTimeout |
      cntClr | rowReplace | epochRollover | epochKeyReady =>
    exact ⟨_, _, rfl, id⟩
  case stkStaleLimWrite | clkEngRun | clkPinselWrite | dioLineConfig | dioSpareStandin | dioSpareReturn |
      anaChcfgWrite | steerStart | portEnable | retrain | tdrStart | bypHoldEnWrite | queuePop | bar2Write |
      bar2Read | descriptorFetched | dmaRead | dmaHostReadFail | fscEnWrite | fscUnlatch | fltForceWrite =>
    refine ⟨_, _, rfl, fun h => ?_⟩
    simp only [Instr.wf, Bool.and_eq_true] at h ⊢
    tauto

/-- A well-formed command answers a next state in every state. -/
theorem exec_next_of_wf {c : Instr} (s : State) (h : c.wf = true) : ∃ t, exec c s = .next t := by
  obtain ⟨ok, t, hexec, hok⟩ := exec_eq_unit c s
  exact ⟨t, by rw [hexec, hok h, unit_true]⟩

/-- A command that keeps no state keeps none because its operand names no unit. -/
theorem exec_stops {c : Instr} {s : State} (h : ∀ t, exec c s ≠ .next t) :
    exec c s = .fault .noSuchUnit ∧ c.wf = false := by
  obtain ⟨ok, t, hexec, hok⟩ := exec_eq_unit c s
  cases ok with
  | true => exact absurd (hexec.trans (unit_true t)) (h t)
  | false => exact ⟨hexec.trans (unit_false t), Bool.eq_false_iff.2 fun hwf => Bool.false_ne_true (hok hwf)⟩

/-- Settles O57: what does not answer a next state is the one fault of `exec_stops`. -/
theorem onlyStopIsAnAbsentUnit : Obligations.OnlyStopIsAnAbsentUnit := by
  unfold Obligations.OnlyStopIsAnAbsentUnit
  refine ⟨?noRefusal, ?fault⟩
  case noRefusal =>
    intro c s r hrefused
    obtain ⟨hfault, -⟩ := exec_stops (c := c) (s := s) (by simp [hrefused])
    rw [hfault] at hrefused
    contradiction
  case fault =>
    intro c s e hfaults
    obtain ⟨hfault, hwf⟩ := exec_stops (c := c) (s := s) (by simp [hfaults])
    rw [hfault] at hfaults
    injection hfaults with he
    exact ⟨he.symm, hwf⟩

/-! ### What a command keeps -/

/-- Every command leaves the queue and the clock alone and keeps the memories canonical, each by the law of its meaning. -/
theorem exec_kept {s t : State} : ∀ c : Instr, exec c s = .next t → Kept s t
  | .registerWrite by_ off v, hnext => execRegisterWrite_kept by_ off v s hnext
  | .rcRead off, hnext => execRcRead_kept off s hnext
  | .rtmTimeRead, hnext => execRtmTimeRead_kept s hnext
  | .cntLoRead k, hnext => execCntLoRead_kept k s hnext
  | .pairedWrite by_ off v, hnext => execPairedWrite_kept by_ off v s hnext
  | .pairExpiry off, hnext => execPairExpiry_kept off s hnext
  | .stkStaleLimWrite by_ n v, hnext => execStkStaleLimWrite_kept by_ n v s hnext
  | .scrubVisit ecc, hnext => execScrubVisit_kept ecc s hnext
  | .scrubPassEnd, hnext => execScrubPassEnd_kept s hnext
  | .catalogueReload p, hnext => execCatalogueReload_kept p s hnext
  | .stkCopyStart by_ v, hnext => execStkCopyStart_kept by_ v s hnext
  | .bankCopyDone bad, hnext => execBankCopyDone_kept bad s hnext
  | .stkCopyAbort by_ v, hnext => execStkCopyAbort_kept by_ v s hnext
  | .stkBankMapWrite by_ v, hnext => execStkBankMapWrite_kept by_ v s hnext
  | .bankMapNocopy by_ v, hnext => execBankMapNocopy_kept by_ v s hnext
  | .alarmCheck, hnext => execAlarmCheck_kept s hnext
  | .scanCycleDue n k, hnext => execScanCycleDue_kept n k s hnext
  | .pollTransaction n r shadowDiffers, hnext => execPollTransaction_kept n r shadowDiffers s hnext
  | .attemptTimeout n, hnext => execAttemptTimeout_kept n s hnext
  | .unsolicitedInput n u, hnext => execUnsolicitedInput_kept n u s hnext
  | .housekeepingStep n h, hnext => execHousekeepingStep_kept n h s hnext
  | .commandItem n r, hnext => execCommandItem_kept n r s hnext
  | .portDown n busLost, hnext => execPortDown_kept n busLost s hnext
  | .portUp n, hnext => execPortUp_kept n s hnext
  | .holdTimerExpiry n, hnext => execHoldTimerExpiry_kept n s hnext
  | .itemLimitExpiry e, hnext => execItemLimitExpiry_kept e s hnext
  | .engineStoreError e ecc, hnext => execEngineStoreError_kept e ecc s hnext
  | .clkEngRun by_ e run, hnext => execClkEngRun_kept by_ e run s hnext
  | .clkEngBindWrite e v, hnext => execClkEngBindWrite_kept e v s hnext
  | .clkPinselWrite by_ n g, hnext => execClkPinselWrite_kept by_ n g s hnext
  | .engineHandover n, hnext => execEngineHandover_kept n s hnext
  | .placeRebind n, hnext => execPlaceRebind_kept n s hnext
  | .rebindComplete n busLost, hnext => execRebindComplete_kept n busLost s hnext
  | .i2cBusTest n low0 low1 low2, hnext => execI2cBusTest_kept n low0 low1 low2 s hnext
  | .discreteEdge line level, hnext => execDiscreteEdge_kept line level s hnext
  | .debounceStable line level, hnext => execDebounceStable_kept line level s hnext
  | .dioRefresh differ, hnext => execDioRefresh_kept differ s hnext
  | .dioCommand line, hnext => execDioCommand_kept line s hnext
  | .dioReadback line pin, hnext => execDioReadback_kept line pin s hnext
  | .pwmPeriodBoundary line, hnext => execPwmPeriodBoundary_kept line s hnext
  | .dioWdogKick by_ v, hnext => execDioWdogKick_kept by_ v s hnext
  | .dioWdogExpiry, hnext => execDioWdogExpiry_kept s hnext
  | .dioLineConfig by_ line cfg par, hnext => execDioLineConfig_kept by_ line cfg par s hnext
  | .dioSpareStandin by_ k line, hnext => execDioSpareStandin_kept by_ k line s hnext
  | .dioSpareReturn by_ k, hnext => execDioSpareReturn_kept by_ k s hnext
  | .anaWindowEnd ch volts, hnext => execAnaWindowEnd_kept ch volts s hnext
  | .anaChcfgWrite by_ ch v, hnext => execAnaChcfgWrite_kept by_ ch v s hnext
  | .openSensorCheck ch ohms, hnext => execOpenSensorCheck_kept ch ohms s hnext
  | .converterFault cv cause, hnext => execConverterFault_kept cv cause s hnext
  | .rotationStep, hnext => execRotationStep_kept s hnext
  | .rotationCheckEnd short ref offset gain, hnext => execRotationCheckEnd_kept short ref offset gain s hnext
  | .rotationStall, hnext => execRotationStall_kept s hnext
  | .steerStart by_ ch cv, hnext => execSteerStart_kept by_ ch cv s hnext
  | .steerSwitch ch pairs, hnext => execSteerSwitch_kept ch pairs s hnext
  | .audioPllUnlock, hnext => execAudioPllUnlock_kept s hnext
  | .referenceFault, hnext => execReferenceFault_kept s hnext
  | .portEnable by_ p en, hnext => execPortEnable_kept by_ p en s hnext
  | .retrain by_ p, hnext => execRetrain_kept by_ p s hnext
  | .trainingComplete p r, hnext => execTrainingComplete_kept p r s hnext
  | .detectionRetry p, hnext => execDetectionRetry_kept p s hnext
  | .infoFieldRx p info, hnext => execInfoFieldRx_kept p info s hnext
  | .linkDown p c, hnext => execLinkDown_kept p c s hnext
  | .linkUp p, hnext => execLinkUp_kept p s hnext
  | .linkDegraded p margin corrected uncorrectable, hnext =>
      execLinkDegraded_kept p margin corrected uncorrectable s hnext
  | .keepaliveShift p, hnext => execKeepaliveShift_kept p s hnext
  | .keepaliveExit p fast, hnext => execKeepaliveExit_kept p fast s hnext
  | .moduleInserted p id, hnext => execModuleInserted_kept p id s hnext
  | .moduleFault p absent, hnext => execModuleFault_kept p absent s hnext
  | .ddmPoll p r, hnext => execDdmPoll_kept p r s hnext
  | .opticalLinkUp p, hnext => execOpticalLinkUp_kept p s hnext
  | .irStart p written, hnext => execIrStart_kept p written s hnext
  | .irGuardRetry p, hnext => execIrGuardRetry_kept p s hnext
  | .irComplete p kohm, hnext => execIrComplete_kept p kohm s hnext
  | .irHourRollover, hnext => execIrHourRollover_kept s hnext
  | .tdrStart by_ p v, hnext => execTdrStart_kept by_ p v s hnext
  | .tdrSilence p quiet, hnext => execTdrSilence_kept p quiet s hnext
  | .tdrComplete p refl, hnext => execTdrComplete_kept p refl s hnext
  | .quietReceived p, hnext => execQuietReceived_kept p s hnext
  | .quietTimeout p, hnext => execQuietTimeout_kept p s hnext
  | .bypHoldEnWrite by_ x v, hnext => execBypHoldEnWrite_kept by_ x v s hnext
  | .selfTrainDone x rateE rateW, hnext => execSelfTrainDone_kept x rateE rateW s hnext
  | .selfTrainFail x, hnext => execSelfTrainFail_kept x s hnext
  | .bypassSettle x sense, hnext => execBypassSettle_kept x sense s hnext
  | .autoDrop x, hnext => execAutoDrop_kept x s hnext
  | .frameTransit p f, hnext => execFrameTransit_kept p f s hnext
  | .egressFrameEnd p, hnext => execEgressFrameEnd_kept p s hnext
  | .sweep, hnext => execSweep_kept s hnext
  | .timeSync, hnext => execTimeSync_kept s hnext
  | .timeAnnounce, hnext => execTimeAnnounce_kept s hnext
  | .ack, hnext => execAck_kept s hnext
  | .nak, hnext => execNak_kept s hnext
  | .beacon, hnext => execBeacon_kept s hnext
  | .editionMismatchCheck p, hnext => execEditionMismatchCheck_kept p s hnext
  | .controlOpen, hnext => execControlOpen_kept s hnext
  | .controlCommand, hnext => execControlCommand_kept s hnext
  | .controlResponse, hnext => execControlResponse_kept s hnext
  | .controlClose, hnext => execControlClose_kept s hnext
  | .replayReq, hnext => execReplayReq_kept s hnext
  | .event, hnext => execEvent_kept s hnext
  | .dfr, hnext => execDfr_kept s hnext
  | .evtMark, hnext => execEvtMark_kept s hnext
  | .replayGone, hnext => execReplayGone_kept s hnext
  | .readReq ecc, hnext => execReadReq_kept ecc s hnext
  | .readResp, hnext => execReadResp_kept s hnext
  | .readErr, hnext => execReadErr_kept s hnext
  | .readRetry, hnext => execReadRetry_kept s hnext
  | .write ecc, hnext => execWrite_kept ecc s hnext
  | .bulkData, hnext => execBulkData_kept s hnext
  | .bulkAck, hnext => execBulkAck_kept s hnext
  | .bulkAbort, hnext => execBulkAbort_kept s hnext
  | .dlyReq p sq turnaround, hnext => execDlyReq_kept p sq turnaround s hnext
  | .dlyResp p sq turnaround elapsed, hnext => execDlyResp_kept p sq turnaround elapsed s hnext
  | .delayMeasureTimer p, hnext => execDelayMeasureTimer_kept p s hnext
  | .ackTimeout cls sq, hnext => execAckTimeout_kept cls sq s hnext
  | .evtMarkTimer dest cls, hnext => execEvtMarkTimer_kept dest cls s hnext
  | .replayWaitExpiry src bcast cls, hnext => execReplayWaitExpiry_kept src bcast cls s hnext
  | .beaconTimer, hnext => execBeaconTimer_kept s hnext
  | .beaconReturnTimeout x, hnext => execBeaconReturnTimeout_kept x s hnext
  | .seedingEnd x, hnext => execSeedingEnd_kept x s hnext
  | .bulkAckTimer src tid, hnext => execBulkAckTimer_kept src tid s hnext
  | .bulkProgressTimeout tid opened, hnext => execBulkProgressTimeout_kept tid opened s hnext
  | .bulkTimeout tid, hnext => execBulkTimeout_kept tid s hnext
  | .sweepSlot entry ecc, hnext => execSweepSlot_kept entry ecc s hnext
  | .sweepLostCheck node group, hnext => execSweepLostCheck_kept node group s hnext
  | .timeSyncTimer, hnext => execTimeSyncTimer_kept s hnext
  | .timeAnnounceTimer, hnext => execTimeAnnounceTimer_kept s hnext
  | .grandmasterTimeout, hnext => execGrandmasterTimeout_kept s hnext
  | .syncHoldover, hnext => execSyncHoldover_kept s hnext
  | .offsetAlarm, hnext => execOffsetAlarm_kept s hnext
  | .ppsInEdge, hnext => execPpsInEdge_kept s hnext
  | .ppsMissed, hnext => execPpsMissed_kept s hnext
  | .ppsOutPulse, hnext => execPpsOutPulse_kept s hnext
  | .couplerCreditWait toFar, hnext => execCouplerCreditWait_kept toFar s hnext
  | .queuePush qs words, hnext => execQueuePush_kept qs words s hnext
  | .queuePushResume q, hnext => execQueuePushResume_kept q s hnext
  | .queuePop q chk copies, hnext => execQueuePop_kept q chk copies s hnext
  | .cellPatrolVisit cell bad linkBad, hnext => execCellPatrolVisit_kept cell bad linkBad s hnext
  | .descriptorStarve, hnext => execDescriptorStarve_kept s hnext
  | .swqLimitWrite by_ off v, hnext => execSwqLimitWrite_kept by_ off v s hnext
  | .queueRebuild kept, hnext => execQueueRebuild_kept kept s hnext
  | .bar0Access a, hnext => execBar0Access_kept a s hnext
  | .bar2Write k b data ecc, hnext => execBar2Write_kept k b data ecc s hnext
  | .bar2Read k b n ecc, hnext => execBar2Read_kept k b n ecc s hnext
  | .bar2ReadComplete id, hnext => execBar2ReadComplete_kept id s hnext
  | .rdLimitExpiry id, hnext => execRdLimitExpiry_kept id s hnext
  | .sqTailDoorbell sq v, hnext => execSqTailDoorbell_kept sq v s hnext
  | .descriptorFetched sq bytes, hnext => execDescriptorFetched_kept sq bytes s hnext
  | .dmaRead sq ecc, hnext => execDmaRead_kept sq ecc s hnext
  | .dmaWrite sq data ecc, hnext => execDmaWrite_kept sq data ecc s hnext
  | .dmaFetch sq, hnext => execDmaFetch_kept sq s hnext
  | .fetchWaitResume sq, hnext => execFetchWaitResume_kept sq s hnext
  | .dmaFence sq, hnext => execDmaFence_kept sq s hnext
  | .dmaHostReadFail sq descriptor hostErr, hnext => execDmaHostReadFail_kept sq descriptor hostErr s hnext
  | .cqHeadDoorbell c v, hnext => execCqHeadDoorbell_kept c v s hnext
  | .cqSignal c, hnext => execCqSignal_kept c s hnext
  | .cqFullTimeout c, hnext => execCqFullTimeout_kept c s hnext
  | .msixUnmask vec, hnext => execMsixUnmask_kept vec s hnext
  | .pcieLinkReset kind, hnext => execPcieLinkReset_kept kind s hnext
  | .pcieError kind, hnext => execPcieError_kept kind s hnext
  | .pciePerstRelease, hnext => execPciePerstRelease_kept s hnext
  | .deskWrite first words ecc, hnext => execDeskWrite_kept first words ecc s hnext
  | .deskRead first n ecc, hnext => execDeskRead_kept first n ecc s hnext
  | .ep2OutTransfer bytes ecc, hnext => execEp2OutTransfer_kept bytes ecc s hnext
  | .ep2InTransfer ecc, hnext => execEp2InTransfer_kept ecc s hnext
  | .ep1Notification ecc, hnext => execEp1Notification_kept ecc s hnext
  | .usbBusReset high upstream, hnext => execUsbBusReset_kept high upstream s hnext
  | .usbSetup r, hnext => execUsbSetup_kept r s hnext
  | .usbSuspend, hnext => execUsbSuspend_kept s hnext
  | .usbResume hostK, hnext => execUsbResume_kept hostK s hnext
  | .remoteWake src, hnext => execRemoteWake_kept src s hnext
  | .remoteWakeTimeout, hnext => execRemoteWakeTimeout_kept s hnext
  | .vbusLost, hnext => execVbusLost_kept s hnext
  | .usbConnect by_ connect, hnext => execUsbConnect_kept by_ connect s hnext
  | .usbReattach by_, hnext => execUsbReattach_kept by_ s hnext
  | .reattachTimer, hnext => execReattachTimer_kept s hnext
  | .usbOverCurrent n lowAt, hnext => execUsbOverCurrent_kept n lowAt s hnext
  | .setPortPower n ocHigh, hnext => execSetPortPower_kept n ocHigh s hnext
  | .setInterface alt, hnext => execSetInterface_kept alt s hnext
  | .setCurFrequency hz, hnext => execSetCurFrequency_kept hz s hnext
  | .clearEndpointHalt e, hnext => execClearEndpointHalt_kept e s hnext
  | .isoPacketMissed, hnext => execIsoPacketMissed_kept s hnext
  | .lockstepMismatch, hnext => execLockstepMismatch_kept s hnext
  | .coreSelftestEnd failA failB, hnext => execCoreSelftestEnd_kept failA failB s hnext
  | .restartPoint, hnext => execRestartPoint_kept s hnext
  | .deskAreaWrite d u v, hnext => execDeskAreaWrite_kept d u v s hnext
  | .deskDoorbell d, hnext => execDeskDoorbell_kept d s hnext
  | .deskDone d, hnext => execDeskDone_kept d s hnext
  | .sessionIdleTimeout d, hnext => execSessionIdleTimeout_kept d s hnext
  | .identify d, hnext => execIdentify_kept d s hnext
  | .sessionClose d, hnext => execSessionClose_kept d s hnext
  | .lock d, hnext => execLock_kept d s hnext
  | .unlock d, hnext => execUnlock_kept d s hnext
  | .stageOpen d, hnext => execStageOpen_kept d s hnext
  | .stageCommit d flashOk, hnext => execStageCommit_kept d flashOk s hnext
  | .stageClose d flashOk, hnext => execStageClose_kept d flashOk s hnext
  | .stageAbort d, hnext => execStageAbort_kept d s hnext
  | .editionArm d, hnext => execEditionArm_kept d s hnext
  | .editionDisarm d, hnext => execEditionDisarm_kept d s hnext
  | .armLock, hnext => execArmLock_kept s hnext
  | .editionActivateNow d flashOk, hnext => execEditionActivateNow_kept d flashOk s hnext
  | .editionStatus d, hnext => execEditionStatus_kept d s hnext
  | .groupList d, hnext => execGroupList_kept d s hnext
  | .pointForce d, hnext => execPointForce_kept d s hnext
  | .pointRelease d, hnext => execPointRelease_kept d s hnext
  | .spareSwap d, hnext => execSpareSwap_kept d s hnext
  | .unitReturn d passed offset gain, hnext => execUnitReturn_kept d passed offset gain s hnext
  | .powerState d, hnext => execPowerState_kept d s hnext
  | .volumeStatus d, hnext => execVolumeStatus_kept d s hnext
  | .volumeArm d, hnext => execVolumeArm_kept d s hnext
  | .volumeCommit d flashOk, hnext => execVolumeCommit_kept d flashOk s hnext
  | .volumeFallback d, hnext => execVolumeFallback_kept d s hnext
  | .settingsGet d, hnext => execSettingsGet_kept d s hnext
  | .settingsSet d flashOk, hnext => execSettingsSet_kept d flashOk s hnext
  | .timeSet d, hnext => execTimeSet_kept d s hnext
  | .timeEpoch d flashOk, hnext => execTimeEpoch_kept d flashOk s hnext
  | .restart d, hnext => execRestart_kept d s hnext
  | .editionActivation flashOk, hnext => execEditionActivation_kept flashOk s hnext
  | .lateActivation flashOk, hnext => execLateActivation_kept flashOk s hnext
  | .feedStateChange x v held, hnext => execFeedStateChange_kept x v held s hnext
  | .feedQualified x vfeed vnode, hnext => execFeedQualified_kept x vfeed vnode s hnext
  | .oringReverse x vin bus, hnext => execOringReverse_kept x vin bus s hnext
  | .oringFetFault x vx vother bus held, hnext => execOringFetFault_kept x vx vother bus held s hnext
  | .nodePhaseChange vfeed vnode enhanced, hnext => execNodePhaseChange_kept vfeed vnode enhanced s hnext
  | .nodeTrip vfeed vnode sense held, hnext => execNodeTrip_kept vfeed vnode sense held s hnext
  | .nodeRetry, hnext => execNodeRetry_kept s hnext
  | .feedWarnAssert vnode held, hnext => execFeedWarnAssert_kept vnode held s hnext
  | .feedWarnRelease vnode held, hnext => execFeedWarnRelease_kept vnode held s hnext
  | .fscCheckEnd n m, hnext => execFscCheckEnd_kept n m s hnext
  | .fscRampStart n m, hnext => execFscRampStart_kept n m s hnext
  | .fscOn n m enhanced, hnext => execFscOn_kept n m enhanced s hnext
  | .fscTrip n cause m held, hnext => execFscTrip_kept n cause m held s hnext
  | .fscRetryExpiry n, hnext => execFscRetryExpiry_kept n s hnext
  | .fscClearTimer n, hnext => execFscClearTimer_kept n s hnext
  | .fscProbe n m, hnext => execFscProbe_kept n m s hnext
  | .fscRemoval n pin m held, hnext => execFscRemoval_kept n pin m held s hnext
  | .fscReinsertion n, hnext => execFscReinsertion_kept n s hnext
  | .fscDebounceEnd n, hnext => execFscDebounceEnd_kept n s hnext
  | .fscFetShort n m held, hnext => execFscFetShort_kept n m held s hnext
  | .fscEnWrite by_ n en, hnext => execFscEnWrite_kept by_ n en s hnext
  | .fscUnlatch by_ n m, hnext => execFscUnlatch_kept by_ n m s hnext
  | .fscHoldBegin n c vin, hnext => execFscHoldBegin_kept n c vin s hnext
  | .fscHoldEnd n c vin, hnext => execFscHoldEnd_kept n c vin s hnext
  | .pwrReqGo by_ v, hnext => execPwrReqGo_kept by_ v s hnext
  | .drainComplete, hnext => execDrainComplete_kept s hnext
  | .drainTimeout, hnext => execDrainTimeout_kept s hnext
  | .pwrDomOffWrite by_ v, hnext => execPwrDomOffWrite_kept by_ v s hnext
  | .wakeEvent active failed, hnext => execWakeEvent_kept active failed s hnext
  | .pllLockTimeout refclk, hnext => execPllLockTimeout_kept refclk s hnext
  | .domainAckTimeout dom, hnext => execDomainAckTimeout_kept dom s hnext
  | .nightOrder, hnext => execNightOrder_kept s hnext
  | .orderResend, hnext => execOrderResend_kept s hnext
  | .xtalStop, hnext => execXtalStop_kept s hnext
  | .faultRaise, hnext => execFaultRaise_kept s hnext
  | .fltFirstClear, hnext => execFltFirstClear_kept s hnext
  | .fltForceWrite by_ word v, hnext => execFltForceWrite_kept by_ word v s hnext
  | .cntClearAll, hnext => execCntClearAll_kept s hnext
  | .cntClr k v, hnext => execCntClr_kept k v s hnext
  | .wearHourCheck, hnext => execWearHourCheck_kept s hnext
  | .rowReplace a row, hnext => execRowReplace_kept a row s hnext
  | .ringbStandin ph, hnext => execRingbStandin_kept ph s hnext
  | .twinHello, hnext => execTwinHello_kept s hnext
  | .twinHelloTimer, hnext => execTwinHelloTimer_kept s hnext
  | .twinPeerLost, hnext => execTwinPeerLost_kept s hnext
  | .claimRound others, hnext => execClaimRound_kept others s hnext
  | .twinHandover, hnext => execTwinHandover_kept s hnext
  | .twinHandoverOk, hnext => execTwinHandoverOk_kept s hnext
  | .twinCancel, hnext => execTwinCancel_kept s hnext
  | .twinHandoverReq by_, hnext => execTwinHandoverReq_kept by_ s hnext
  | .handoverPrepare, hnext => execHandoverPrepare_kept s hnext
  | .handoverTime, hnext => execHandoverTime_kept s hnext
  | .twinClaimIdle, hnext => execTwinClaimIdle_kept s hnext
  | .twinRotation, hnext => execTwinRotation_kept s hnext
  | .twinBothActive, hnext => execTwinBothActive_kept s hnext
  | .epochRollover p, hnext => execEpochRollover_kept p s hnext
  | .epochKeyReady p, hnext => execEpochKeyReady_kept p s hnext
  | .trngFail, hnext => execTrngFail_kept s hnext
  | .unlockToken bytes, hnext => execUnlockToken_kept bytes s hnext
  | .debugExpiry, hnext => execDebugExpiry_kept s hnext
  | .volumeSwitch, hnext => execVolumeSwitch_kept s hnext
  | .volumeHealthy, hnext => execVolumeHealthy_kept s hnext
  | .trialDeadline, hnext => execTrialDeadline_kept s hnext
  | .aonWatchdogExpiry, hnext => execAonWatchdogExpiry_kept s hnext
  | .aonReset inTolerance, hnext => execAonReset_kept inTolerance s hnext
  | .coreReset c, hnext => execCoreReset_kept c s hnext
  | .coreResetRelease straps cores flashOk, hnext => execCoreResetRelease_kept straps cores flashOk s hnext
  | .archivistStart, hnext => execArchivistStart_kept s hnext
  | .fieldStartTimer, hnext => execFieldStartTimer_kept s hnext
  | .vbusDetected, hnext => execVbusDetected_kept s hnext
  | .readReissue tag, hnext => execReadReissue_kept tag s hnext
  | .pcieLinkUp speed width, hnext => execPcieLinkUp_kept speed width s hnext
  | .configRequest c, hnext => execConfigRequest_kept c s hnext
  | .audioPllLock, hnext => execAudioPllLock_kept s hnext
  | .referenceRestored, hnext => execReferenceRestored_kept s hnext
  | .trngHealthy, hnext => execTrngHealthy_kept s hnext
  | .isoInPacket ecc3 ecc4, hnext => execIsoInPacket_kept ecc3 ecc4 s hnext
  | .streamSample volts, hnext => execStreamSample_kept volts s hnext

/-- Settles O58: a command keeps the clock and the queue, and the tick adds its 1000 ns. -/
theorem commandsTakeNoTime : Obligations.CommandsTakeNoTime := by
  unfold Obligations.CommandsTakeNoTime
  refine ⟨fun c s t hnext => ?command, fun s => ⟨tick_clk s, tick_pending s⟩⟩
  case command =>
    obtain ⟨hpending, hclk, -⟩ := exec_kept c hnext
    exact ⟨hclk, hpending⟩

/-! ### A step -/

/-- A step on a queue runs the command at its front on the rest of the queue. -/
theorem step_cons (c : Instr) (rest : List Instr) (s : State) :
    step { s with pending := c :: rest } = exec c { s with pending := rest } := rfl

/-- A step on an empty queue is the tick. -/
theorem step_nil {s : State} (h : s.pending = []) : step s = .next (tick s) := by
  simp [step, h]

/-- A step on a queue, of a state that is not taken apart. -/
theorem step_of_pending {s : State} {c : Instr} {rest : List Instr} (h : s.pending = c :: rest) :
    step s = exec c { s with pending := rest } := by
  simp [step, h]

/-- Settles O1. -/
theorem commandAtFront : Obligations.CommandAtFront := by
  unfold Obligations.CommandAtFront
  exact ⟨step_cons, fun _ => step_nil⟩

/-! ### The invariant -/

/-- Settles O54: at reset no register, record or command is listed. -/
theorem resetInvariant : Obligations.ResetInvariant := by
  unfold Obligations.ResetInvariant
  exact ⟨by decide, by decide⟩

theorem tick_inv {s : State} (h : Inv s) : Inv (tick s) := by
  obtain ⟨hmem, hqueue⟩ := h
  exact ⟨tick_wf s hmem, by rwa [tick_pending]⟩

/-- The front of a queue of well-formed commands is well-formed, and so is the rest. -/
theorem queueWf_cons {c : Instr} {rest : List Instr} :
    queueWf (c :: rest) = true ↔ c.wf = true ∧ queueWf rest = true := by
  simp only [queueWf, List.all_cons, Bool.and_eq_true]

/-- A command that leaves the front of the queue leaves a state that meets the invariant. -/
theorem inv_pop {s : State} {c : Instr} {rest : List Instr} (h : Inv s) (hp : s.pending = c :: rest) :
    Inv { s with pending := rest } := by
  obtain ⟨hmem, hqueue⟩ := h
  rw [hp, queueWf_cons] at hqueue
  exact ⟨hmem, hqueue.2⟩

theorem exec_inv {c : Instr} {s t : State} (h : Inv s) (hnext : exec c s = .next t) : Inv t := by
  obtain ⟨hmem, hqueue⟩ := h
  obtain ⟨hpending, -, hkept⟩ := exec_kept c hnext
  exact ⟨hkept hmem, by rwa [hpending]⟩

/-- A step from a state that meets the invariant answers a state that meets it. -/
theorem step_inv {s : State} (h : Inv s) : ∃ t, step s = .next t ∧ Inv t := by
  cases hp : s.pending with
  | nil => exact ⟨tick s, step_nil hp, tick_inv h⟩
  | cons c rest =>
    have hqueue := h.2
    rw [hp, queueWf_cons] at hqueue
    obtain ⟨t, hnext⟩ := exec_next_of_wf { s with pending := rest } hqueue.1
    exact ⟨t, (step_of_pending hp).trans hnext, exec_inv (inv_pop h hp) hnext⟩

/-- Settles O55: the one next state of a step meets the invariant by `step_inv`. -/
theorem invariantKept : Obligations.InvariantKept := by
  unfold Obligations.InvariantKept
  intro s t h hstep
  obtain ⟨u, hnext, hu⟩ := step_inv h
  rw [hnext] at hstep
  injection hstep with hut
  exact hut ▸ hu

/-- A run from a state that meets the invariant reaches, after any number of steps, a state that meets it. -/
theorem runFor_inv (n : Nat) {s : State} (h : Inv s) : ∃ t, runFor n s = some t ∧ Inv t := by
  induction n generalizing s with
  | zero => exact ⟨s, rfl, h⟩
  | succ n ih =>
    obtain ⟨u, hstep, hu⟩ := step_inv h
    obtain ⟨t, hrun, ht⟩ := ih hu
    exact ⟨t, by simpa only [runFor, hstep] using hrun, ht⟩

/-- Settles O56, by `runFor_inv` for runs and `exec_next_of_wf` for commands. -/
theorem runsNeverStop : Obligations.RunsNeverStop := by
  unfold Obligations.RunsNeverStop
  refine ⟨fun s h n => ?run, fun c s => exec_next_of_wf s⟩
  case run =>
    obtain ⟨t, hrun, -⟩ := runFor_inv n h
    rw [hrun]
    rfl

end Sys2Proof.Proofs
end

/-! PROOFS. What reset leaves (00, 02, 12, 16, 17). -/

section
open Sys2Proof Sys2Proof.Machine

namespace Sys2Proof.Proofs

/-- At reset no point record is listed, so each reads as the empty record of its bank. -/
theorem getPt_reset (p : Nat) : getPt State.reset p = ⟨0, .noValue, false, false, true, .none, 0⟩ := by
  have hfill (k : Nat) : recFill Archive.init.fill k = Rec.empty .none 0 := by
    rw [recFill, Archive.init, List.getD_eq_getElem?_getD, List.getElem?_replicate]
    split <;> rfl
  exact hfill _

/-- Settles O59: the records by `getPt_reset`, and the rest by evaluating the state after reset. -/
theorem resetState : Obligations.ResetState := by
  unfold Obligations.ResetState
  refine ⟨getPt_reset, by decide, by decide⟩

end Sys2Proof.Proofs
end

/-! PROOFS. Frames: which parts of the state an operation may change. `f_only` says it of the operation `f`: a state that
follows by changes of some parts follows by changes of those parts still, once `f` has run, where they hold `f`'s own. -/

section
open Sys2Proof Sys2Proof.Machine

namespace Sys2Proof.Proofs

/-! ### Parts of the state -/

/-- The parts of the state: one for each field, and `booted` of the steward's apart from the rest of that field. -/
inductive Part where
  | pending | clk | ringNs | cyc | draw | out | regs | staged | pairs | ready | cnts | stk | swq | places | engines | dio
  | ana | ports | byps | ring | rtime | hif | usb | desks | stw | booted | fed | pwr | flt | twin | sec
  | boot
deriving DecidableEq

/-- The state `s` with the listed parts taken from `t`. -/
def graft (l : List Part) (s t : State) : State where
  pending := if .pending ∈ l then t.pending else s.pending
  clk := if .clk ∈ l then t.clk else s.clk
  ringNs := if .ringNs ∈ l then t.ringNs else s.ringNs
  cyc := if .cyc ∈ l then t.cyc else s.cyc
  draw := if .draw ∈ l then t.draw else s.draw
  out := if .out ∈ l then t.out else s.out
  regs := if .regs ∈ l then t.regs else s.regs
  staged := if .staged ∈ l then t.staged else s.staged
  pairs := if .pairs ∈ l then t.pairs else s.pairs
  ready := if .ready ∈ l then t.ready else s.ready
  cnts := if .cnts ∈ l then t.cnts else s.cnts
  stk := if .stk ∈ l then t.stk else s.stk
  swq := if .swq ∈ l then t.swq else s.swq
  places := if .places ∈ l then t.places else s.places
  engines := if .engines ∈ l then t.engines else s.engines
  dio := if .dio ∈ l then t.dio else s.dio
  ana := if .ana ∈ l then t.ana else s.ana
  ports := if .ports ∈ l then t.ports else s.ports
  byps := if .byps ∈ l then t.byps else s.byps
  ring := if .ring ∈ l then t.ring else s.ring
  rtime := if .rtime ∈ l then t.rtime else s.rtime
  hif := if .hif ∈ l then t.hif else s.hif
  usb := if .usb ∈ l then t.usb else s.usb
  desks := if .desks ∈ l then t.desks else s.desks
  stw := { (if .stw ∈ l then t.stw else s.stw) with booted := if .booted ∈ l then t.stw.booted else s.stw.booted }
  fed := if .fed ∈ l then t.fed else s.fed
  pwr := if .pwr ∈ l then t.pwr else s.pwr
  flt := if .flt ∈ l then t.flt else s.flt
  twin := if .twin ∈ l then t.twin else s.twin
  sec := if .sec ∈ l then t.sec else s.sec
  boot := if .boot ∈ l then t.boot else s.boot

/-- `t` differs from `s` in the listed parts at most. -/
def Only (l : List Part) (s t : State) : Prop := t = graft l s t

/-- One part of two states is the same. -/
def Same : Part → State → State → Prop
  | .pending, s, t => t.pending = s.pending
  | .clk, s, t => t.clk = s.clk
  | .ringNs, s, t => t.ringNs = s.ringNs
  | .cyc, s, t => t.cyc = s.cyc
  | .draw, s, t => t.draw = s.draw
  | .out, s, t => t.out = s.out
  | .regs, s, t => t.regs = s.regs
  | .staged, s, t => t.staged = s.staged
  | .pairs, s, t => t.pairs = s.pairs
  | .ready, s, t => t.ready = s.ready
  | .cnts, s, t => t.cnts = s.cnts
  | .stk, s, t => t.stk = s.stk
  | .swq, s, t => t.swq = s.swq
  | .places, s, t => t.places = s.places
  | .engines, s, t => t.engines = s.engines
  | .dio, s, t => t.dio = s.dio
  | .ana, s, t => t.ana = s.ana
  | .ports, s, t => t.ports = s.ports
  | .byps, s, t => t.byps = s.byps
  | .ring, s, t => t.ring = s.ring
  | .rtime, s, t => t.rtime = s.rtime
  | .hif, s, t => t.hif = s.hif
  | .usb, s, t => t.usb = s.usb
  | .desks, s, t => t.desks = s.desks
  | .stw, s, t => { t.stw with booted := false } = { s.stw with booted := false }
  | .booted, s, t => t.stw.booted = s.stw.booted
  | .fed, s, t => t.fed = s.fed
  | .pwr, s, t => t.pwr = s.pwr
  | .flt, s, t => t.flt = s.flt
  | .twin, s, t => t.twin = s.twin
  | .sec, s, t => t.sec = s.sec
  | .boot, s, t => t.boot = s.boot

/-- A part that is not listed is the same. -/
theorem Only.same {l : List Part} {s t : State} (h : Only l s t) (p : Part) (hp : p ∉ l) : Same p s t := by
  rw [h]
  cases p
  case stw => simp [Same, graft, hp]
  all_goals exact if_neg hp

/-- Where every part that is not listed is the same, the states differ in the listed ones at most. -/
theorem only_of_same {l : List Part} {s t : State} (h : ∀ p, p ∉ l → Same p s t) : Only l s t := by
  have part {α : Type} {p : Part} {a b : α} (hp : p ∉ l → b = a) : b = if p ∈ l then b else a := by
    split
    · rfl
    · exact hp ‹_›
  have steward : t.stw = (graft l s t).stw := by
    have hrest : { t.stw with booted := false } = { (if .stw ∈ l then t.stw else s.stw) with booted := false } := by
      split
      · rfl
      · exact h .stw ‹_›
    exact (congrArg (fun x => { x with booted := t.stw.booted }) hrest).trans
      (congrArg (fun b => { (if .stw ∈ l then t.stw else s.stw) with booted := b }) (part (h .booted)))
  cases t
  unfold Only graft
  congr 1
  all_goals exact part (h _)

theorem Only.refl (l : List Part) (s : State) : Only l s s :=
  only_of_same fun p _ => by cases p <;> rfl

theorem Only.trans {l : List Part} {s t u : State} (h : Only l s t) (k : Only l t u) : Only l s u := by
  refine only_of_same fun p hp => ?_
  have hst := h.same p hp
  have htu := k.same p hp
  cases p <;> exact htu.trans hst

theorem Only.mono {l m : List Part} {s t : State} (h : Only m s t) (hm : m ⊆ l) : Only l s t :=
  only_of_same fun p hp => h.same p fun hpm => hp (hm hpm)

theorem Same.symm {p : Part} {s t : State} (h : Same p s t) : Same p t s := by
  cases p <;> exact Eq.symm h

theorem Only.symm {l : List Part} {s t : State} (h : Only l s t) : Only l t s :=
  only_of_same fun p hp => (h.same p hp).symm

theorem Only.stw {l : List Part} {s t : State} (h : Only l s t) (hrest : .stw ∉ l) (hbooted : .booted ∉ l) :
    t.stw = s.stw :=
  (congrArg (fun x => { x with booted := t.stw.booted }) (h.same .stw hrest)).trans
    (congrArg (fun b => { s.stw with booted := b }) (h.same .booted hbooted))

/-- A change of parts that are all listed is no matter to a frame. -/
theorem Only.iff_step {l : List Part} (m : List Part) {s₀ s t : State} (h : Only m s t) (hm : m ⊆ l) :
    Only l s₀ t ↔ Only l s₀ s :=
  ⟨fun k => k.trans (h.mono hm).symm, fun k => k.trans (h.mono hm)⟩

/-! ### Rules -/

@[simp] theorem only_refl (l : List Part) (s : State) : Only l s s := Only.refl l s

/-- A command's frame is that of the state it answers. -/
theorem only_of_unit {ps : List Part} {c : Bool} {s u t : State} (h : unit c u = .next t) (hu : Only ps s u) :
    Only ps s t := by
  obtain ⟨-, rfl⟩ := of_unit h
  exact hu

theorem only_of_next {ps : List Part} {s u t : State} (h : (.next u : Host.Outcome State Fault Refusal) = .next t)
    (hu : Only ps s u) : Only ps s t := by
  injection h with h
  exact h ▸ hu

section
variable {ps : List Part} {s₀ : State}

@[simp ↓] theorem only_ite {c : Prop} [Decidable c] (a b : State) :
    Only ps s₀ (if c then a else b) ↔ if c then Only ps s₀ a else Only ps s₀ b := by split <;> rfl

@[simp ↓] theorem only_when (c : Bool) (f : State → State) (s : State) :
    Only ps s₀ (when c f s) ↔ if c then Only ps s₀ (f s) else Only ps s₀ s := by cases c <;> simp

@[simp ↓] theorem only_foldl {α : Type} {f : State → α → State} (hf : ∀ t a, Only ps t (f t a)) (as : List α)
    (s : State) : Only ps s₀ (as.foldl f s) ↔ Only ps s₀ s := by
  induction as generalizing s with
  | nil => rfl
  | cons a as ih => exact (ih _).trans (Only.iff_step ps (hf s a) (List.Subset.refl ps))

@[simp ↓] theorem only_foldr {α : Type} {f : α → State → State} (hf : ∀ a t, Only ps t (f a t)) (as : List α)
    (s : State) : Only ps s₀ (as.foldr f s) ↔ Only ps s₀ s := by
  induction as with
  | nil => rfl
  | cons a as ih => exact (Only.iff_step ps (hf a _) (List.Subset.refl ps)).trans ih

/-! ### Updates of one part -/

@[simp ↓] theorem only_with_staged (x : Tab (Nat × Nat)) (s : State) (hm : .staged ∈ ps) :
    Only ps s₀ { s with staged := x } ↔ Only ps s₀ s := Only.iff_step [.staged] rfl (by simpa)
@[simp ↓] theorem only_with_ready (x : List PairHold) (s : State) (hm : .ready ∈ ps) :
    Only ps s₀ { s with ready := x } ↔ Only ps s₀ s := Only.iff_step [.ready] rfl (by simpa)
@[simp ↓] theorem only_with_cnts (x : Tab Counter) (s : State) (hm : .cnts ∈ ps) :
    Only ps s₀ { s with cnts := x } ↔ Only ps s₀ s := Only.iff_step [.cnts] rfl (by simpa)
@[simp ↓] theorem only_with_stk (x : Archive) (s : State) (hm : .stk ∈ ps) :
    Only ps s₀ { s with stk := x } ↔ Only ps s₀ s := Only.iff_step [.stk] rfl (by simpa)
@[simp ↓] theorem only_with_swq (x : Swq) (s : State) (hm : .swq ∈ ps) :
    Only ps s₀ { s with swq := x } ↔ Only ps s₀ s := Only.iff_step [.swq] rfl (by simpa)
@[simp ↓] theorem only_with_places (x : Tab Place) (s : State) (hm : .places ∈ ps) :
    Only ps s₀ { s with places := x } ↔ Only ps s₀ s := Only.iff_step [.places] rfl (by simpa)
@[simp ↓] theorem only_with_engines (x : Tab Engine) (s : State) (hm : .engines ∈ ps) :
    Only ps s₀ { s with engines := x } ↔ Only ps s₀ s := Only.iff_step [.engines] rfl (by simpa)
@[simp ↓] theorem only_with_dio (x : Dio) (s : State) (hm : .dio ∈ ps) :
    Only ps s₀ { s with dio := x } ↔ Only ps s₀ s := Only.iff_step [.dio] rfl (by simpa)
@[simp ↓] theorem only_with_ana (x : Ana) (s : State) (hm : .ana ∈ ps) :
    Only ps s₀ { s with ana := x } ↔ Only ps s₀ s := Only.iff_step [.ana] rfl (by simpa)
@[simp ↓] theorem only_with_ports (x : Tab Port) (s : State) (hm : .ports ∈ ps) :
    Only ps s₀ { s with ports := x } ↔ Only ps s₀ s := Only.iff_step [.ports] rfl (by simpa)
@[simp ↓] theorem only_with_hif (x : Hif) (s : State) (hm : .hif ∈ ps) :
    Only ps s₀ { s with hif := x } ↔ Only ps s₀ s := Only.iff_step [.hif] rfl (by simpa)
@[simp ↓] theorem only_with_stw (x : Steward) (s : State) (hx : x.booted = s.stw.booted) (hm : .stw ∈ ps) :
    Only ps s₀ { s with stw := x } ↔ Only ps s₀ s :=
  Only.iff_step [.stw] (only_of_same fun p hp => by
    cases p
    case stw => simp at hp
    case booted => exact hx
    all_goals rfl) (by simpa)
@[simp ↓] theorem only_with_pwr (x : Pwr) (s : State) (hm : .pwr ∈ ps) :
    Only ps s₀ { s with pwr := x } ↔ Only ps s₀ s := Only.iff_step [.pwr] rfl (by simpa)
@[simp ↓] theorem only_with_flt (x : Flt) (s : State) (hm : .flt ∈ ps) :
    Only ps s₀ { s with flt := x } ↔ Only ps s₀ s := Only.iff_step [.flt] rfl (by simpa)
@[simp ↓] theorem only_with_boot (x : Boot) (s : State) (hm : .boot ∈ ps) :
    Only ps s₀ { s with boot := x } ↔ Only ps s₀ s := Only.iff_step [.boot] rfl (by simpa)

/-! ### The operations, in the order of the model -/

@[simp ↓] theorem only_setReg (off : Nat) (v : Word) (s : State) (hm : [Part.regs] ⊆ ps) :
    Only ps s₀ (setReg off v s) ↔ Only ps s₀ s :=
  Only.iff_step [Part.regs] rfl hm

@[simp ↓] theorem only_setF (f : Fld) (v : Nat) (s : State) (hm : [Part.regs] ⊆ ps) :
    Only ps s₀ (setF f v s) ↔ Only ps s₀ s :=
  Only.iff_step [Part.regs] rfl hm

@[simp ↓] theorem only_addF (f : Fld) (n : Nat) (s : State) (hm : [Part.regs] ⊆ ps) :
    Only ps s₀ (addF f n s) ↔ Only ps s₀ s :=
  Only.iff_step [Part.regs] rfl hm

@[simp ↓] theorem only_incF (f : Fld) (s : State) (hm : [Part.regs] ⊆ ps) :
    Only ps s₀ (incF f s) ↔ Only ps s₀ s :=
  Only.iff_step [Part.regs] rfl hm

@[simp ↓] theorem only_wrapF (f : Fld) (s : State) (hm : [Part.regs] ⊆ ps) :
    Only ps s₀ (wrapF f s) ↔ Only ps s₀ s :=
  Only.iff_step [Part.regs] rfl hm

@[simp ↓] theorem only_emit (o : Out) (s : State) (hm : [Part.out] ⊆ ps) :
    Only ps s₀ (emit o s) ↔ Only ps s₀ s :=
  Only.iff_step [Part.out] rfl hm

@[simp ↓] theorem only_drawn (s : State) (hm : [Part.draw] ⊆ ps) :
    Only ps s₀ (drawn s) ↔ Only ps s₀ s :=
  Only.iff_step [Part.draw] rfl hm

@[simp ↓] theorem only_raise (src : Nat) (s : State) (hm : [Part.flt] ⊆ ps) :
    Only ps s₀ (raise src s) ↔ Only ps s₀ s :=
  Only.iff_step [Part.flt] rfl hm

@[simp ↓] theorem only_wornUnit (src kind u : Nat) (s : State) (hm : [Part.flt] ⊆ ps) :
    Only ps s₀ (wornUnit src kind u s) ↔ Only ps s₀ s :=
  Only.iff_step _ (by simp [wornUnit]) hm

@[simp ↓] theorem only_wearStep (src kind u limit count : Nat) (s : State) (hm : [Part.flt] ⊆ ps) :
    Only ps s₀ (wearStep src kind u limit count s) ↔ Only ps s₀ s :=
  Only.iff_step _ (by simp [wearStep]) hm

@[simp ↓] theorem only_causeOn (src : Nat) (s : State) (hm : [Part.flt] ⊆ ps) :
    Only ps s₀ (causeOn src s) ↔ Only ps s₀ s :=
  Only.iff_step [Part.flt] rfl hm

@[simp ↓] theorem only_causeOff (src : Nat) (s : State) (hm : [Part.flt] ⊆ ps) :
    Only ps s₀ (causeOff src s) ↔ Only ps s₀ s :=
  Only.iff_step [Part.flt] rfl hm

@[simp ↓] theorem only_causeIs (b : Bool) (src : Nat) (s : State) (hm : [Part.flt] ⊆ ps) :
    Only ps s₀ (causeIs b src s) ↔ Only ps s₀ s :=
  Only.iff_step _ (by simp [causeIs]) hm

@[simp ↓] theorem only_setCnt (k : Nat) (c : Counter) (s : State) (hm : [Part.cnts] ⊆ ps) :
    Only ps s₀ (setCnt k c s) ↔ Only ps s₀ s :=
  Only.iff_step [Part.cnts] rfl hm

@[simp ↓] theorem only_bumpCnt (k n : Nat) (s : State) (hm : [Part.cnts] ⊆ ps) :
    Only ps s₀ (bumpCnt k n s) ↔ Only ps s₀ s :=
  Only.iff_step [Part.cnts] rfl hm

@[simp ↓] theorem only_countEv (group index n : Nat) (s : State) (hm : [Part.cnts] ⊆ ps) :
    Only ps s₀ (countEv group index n s) ↔ Only ps s₀ s :=
  Only.iff_step _ (by simp [countEv]) hm

@[simp ↓] theorem only_setEngine (e : Nat) (x : Engine) (s : State) (hm : [Part.engines] ⊆ ps) :
    Only ps s₀ (setEngine e x s) ↔ Only ps s₀ s :=
  Only.iff_step [Part.engines] rfl hm

@[simp ↓] theorem only_setLine (n : Nat) (l : Line) (s : State) (hm : [Part.dio] ⊆ ps) :
    Only ps s₀ (setLine n l s) ↔ Only ps s₀ s :=
  Only.iff_step [Part.dio] rfl hm

@[simp ↓] theorem only_setChan (n : Nat) (c : Chan) (s : State) (hm : [Part.ana] ⊆ ps) :
    Only ps s₀ (setChan n c s) ↔ Only ps s₀ s :=
  Only.iff_step [Part.ana] rfl hm

@[simp ↓] theorem only_setPort (p : Nat) (x : Port) (s : State) (hm : [Part.ports] ⊆ ps) :
    Only ps s₀ (setPort p x s) ↔ Only ps s₀ s :=
  Only.iff_step [Part.ports] rfl hm

@[simp ↓] theorem only_setByp (x : Nat) (b : Bypass) (s : State) (hm : [Part.byps] ⊆ ps) :
    Only ps s₀ (setByp x b s) ↔ Only ps s₀ s :=
  Only.iff_step [Part.byps] rfl hm

@[simp ↓] theorem only_setDesk (d : Nat) (x : Desk) (s : State) (hm : [Part.desks] ⊆ ps) :
    Only ps s₀ (setDesk d x s) ↔ Only ps s₀ s :=
  Only.iff_step [Part.desks] rfl hm

@[simp ↓] theorem only_setFsc (n : Nat) (x : Fsc) (s : State) (hm : [Part.fed] ⊆ ps) :
    Only ps s₀ (setFsc n x s) ↔ Only ps s₀ s :=
  Only.iff_step [Part.fed] rfl hm

@[simp ↓] theorem only_setFeed (x : Nat) (f : Feed) (s : State) (hm : [Part.fed] ⊆ ps) :
    Only ps s₀ (setFeed x f s) ↔ Only ps s₀ s :=
  Only.iff_step [Part.fed] rfl hm

@[simp ↓] theorem only_setQ (q : Nat) (l : List Nat) (s : State) (hm : [Part.swq] ⊆ ps) :
    Only ps s₀ (setQ q l s) ↔ Only ps s₀ s :=
  Only.iff_step [Part.swq] rfl hm

@[simp ↓] theorem only_setItem (i : Nat) (x : Option Item) (s : State) (hm : [Part.swq] ⊆ ps) :
    Only ps s₀ (setItem i x s) ↔ Only ps s₀ s :=
  Only.iff_step [Part.swq] rfl hm

@[simp ↓] theorem only_joinQ (i : Nat) (q : Nat) (s : State) (hm : [Part.regs, .cnts, .swq] ⊆ ps) :
    Only ps s₀ (joinQ i s q) ↔ Only ps s₀ s :=
  Only.iff_step _ (by simp [joinQ]) hm

@[simp ↓] theorem only_mirrorTo (i : Nat) (qs : List Nat) (k : Nat) (s : State) (hm : [Part.regs, .cnts, .swq] ⊆ ps) :
    Only ps s₀ (mirrorTo i qs s k) ↔ Only ps s₀ s := by
  refine Only.iff_step _ ?_ hm
  simp only [mirrorTo]
  repeat' split
  all_goals simp

@[simp ↓] theorem only_enterQ (qs : List Nat) (b : Body) (cls : Nat) (transit : Bool) (ch : List (Charge × Nat)) (s : State)
    (hm : [Part.regs, .cnts, .swq] ⊆ ps) :
    Only ps s₀ (enterQ qs b cls transit ch s) ↔ Only ps s₀ s :=
  Only.iff_step _ (by simp [enterQ]) hm

@[simp ↓] theorem only_noteDesc (s : State) (hm : [Part.swq] ⊆ ps) :
    Only ps s₀ (noteDesc s) ↔ Only ps s₀ s :=
  Only.iff_step _ (by simp [noteDesc]) hm

@[simp ↓] theorem only_pushBody (qs : List Nat) (b : Body) (cls : Nat) (s : State)
    (hm : [Part.regs, .cnts, .swq] ⊆ ps) :
    Only ps s₀ (pushBody qs b cls s) ↔ Only ps s₀ s := by
  refine Only.iff_step _ ?_ hm
  simp only [pushBody]
  repeat' split
  all_goals simp

@[simp ↓] theorem only_pushWords (q : Nat) (ws : List Word) (s : State) (hm : [Part.regs, .cnts, .swq] ⊆ ps) :
    Only ps s₀ (pushWords q ws s) ↔ Only ps s₀ s :=
  Only.iff_step _ (by simp [pushWords]) hm

@[simp ↓] theorem only_release (i : Nat) (s : State) (hm : [Part.swq] ⊆ ps) :
    Only ps s₀ (release i s) ↔ Only ps s₀ s := by
  refine Only.iff_step _ ?_ hm
  simp only [release]
  split <;> simp

@[simp ↓] theorem only_flushQ (q : Nat) (s : State) (hm : [Part.swq] ⊆ ps) :
    Only ps s₀ (flushQ q s) ↔ Only ps s₀ s :=
  Only.iff_step _ (by simp [flushQ]) hm

@[simp ↓] theorem only_ownerReject (w : Writer) (off : Nat) (s : State) (hm : [Part.regs] ⊆ ps) :
    Only ps s₀ (ownerReject w off s) ↔ Only ps s₀ s :=
  Only.iff_step _ (by cases w <;> simp [ownerReject]) hm

/-- A write that is refused or ignored changes registers at most. -/
@[simp ↓] theorem only_guardWrite {f : State → State} (hf : ∀ t, Only ps t (f t)) (w : Writer) (o : Nat) (s : State)
    (hm : [Part.regs] ⊆ ps) : Only ps s₀ (guardWrite w o f s) ↔ Only ps s₀ s := by
  have hstep (t : State) : Only ps s₀ (f t) ↔ Only ps s₀ t := Only.iff_step ps (hf t) (List.Subset.refl ps)
  cases w <;> simp [guardWrite, hm, hstep]

@[simp ↓] theorem only_scrubBegin (s : State) (hm : [Part.stk] ⊆ ps) :
    Only ps s₀ (scrubBegin s) ↔ Only ps s₀ s :=
  Only.iff_step [Part.stk] rfl hm

@[simp ↓] theorem only_reject (off : Nat) (s : State) (hm : [Part.regs] ⊆ ps) :
    Only ps s₀ (reject off s) ↔ Only ps s₀ s := by
  refine Only.iff_step _ ?_ hm
  simp only [reject]
  repeat' split
  all_goals simp

@[simp ↓] theorem only_writeBits (off mask v : Nat) (s : State) (hm : [Part.regs] ⊆ ps) :
    Only ps s₀ (writeBits off mask v s) ↔ Only ps s₀ s :=
  Only.iff_step [Part.regs] rfl hm

@[simp ↓] theorem only_stageBits (off mask v : Nat) (s : State) (hm : [Part.regs, .staged] ⊆ ps) :
    Only ps s₀ (stageBits off mask v s) ↔ Only ps s₀ s :=
  Only.iff_step _ (by simp [stageBits]) hm

@[simp ↓] theorem only_setRecK (k : Nat) (r : Rec) (s : State) (hm : [Part.stk] ⊆ ps) :
    Only ps s₀ (setRecK k r s) ↔ Only ps s₀ s :=
  Only.iff_step [Part.stk] rfl hm

@[simp ↓] theorem only_strike (arr k : Nat) (e : Ecc) (s : State) (hm : [Part.stk] ⊆ ps) :
    Only ps s₀ (strike arr k e s) ↔ Only ps s₀ s :=
  Only.iff_step _ (by simp [strike]) hm

@[simp ↓] theorem only_mend (arr k : Nat) (s : State) (hm : [Part.stk] ⊆ ps) :
    Only ps s₀ (mend arr k s) ↔ Only ps s₀ s :=
  Only.iff_step [Part.stk] rfl hm

@[simp ↓] theorem only_putRec (k : Nat) (r : Rec) (s : State) (hm : [Part.stk] ⊆ ps) :
    Only ps s₀ (putRec k r s) ↔ Only ps s₀ s := by
  refine Only.iff_step _ ?_ hm
  simp only [putRec]
  split <;> simp

@[simp ↓] theorem only_alarmItem (p : Nat) (s : State) (hm : [Part.regs, .cnts, .swq] ⊆ ps) :
    Only ps s₀ (alarmItem p s) ↔ Only ps s₀ s :=
  Only.iff_step _ (by simp [alarmItem]) hm

@[simp ↓] theorem only_storeRec (p : Nat) (new : Rec) (s : State) (hm : [Part.regs, .cnts, .stk, .swq] ⊆ ps) :
    Only ps s₀ (storeRec p new s) ↔ Only ps s₀ s :=
  Only.iff_step _ (by simp [storeRec]) hm

@[simp ↓] theorem only_noteRow (b row : Nat) (s : State) (hm : [Part.stk] ⊆ ps) :
    Only ps s₀ (noteRow b row s) ↔ Only ps s₀ s :=
  Only.iff_step [Part.stk] rfl hm

@[simp ↓] theorem only_bankCe (b at_ : Nat) (s : State) (hm : [Part.regs, .cnts, .stk, .flt] ⊆ ps) :
    Only ps s₀ (bankCe b at_ s) ↔ Only ps s₀ s :=
  Only.iff_step _ (by simp only [bankCe]; simp) hm

@[simp ↓] theorem only_ueLast (b idx arr : Nat) (s : State) (hm : [Part.regs] ⊆ ps) :
    Only ps s₀ (ueLast b idx arr s) ↔ Only ps s₀ s :=
  Only.iff_step _ (by simp [ueLast]) hm

@[simp ↓] theorem only_alarmOfKey (b idx : Nat) (s : State) (hm : [Part.regs, .cnts, .swq] ⊆ ps) :
    Only ps s₀ (alarmOfKey b idx s) ↔ Only ps s₀ s := by
  refine Only.iff_step _ ?_ hm
  simp only [alarmOfKey]
  split <;> simp

@[simp ↓] theorem only_checkRec (b idx : Nat) (e : Ecc) (s : State) (hm : [Part.regs, .cnts, .stk, .swq, .flt] ⊆ ps) :
    Only ps s₀ (checkRec b idx e s) ↔ Only ps s₀ s :=
  Only.iff_step _ (by simp [checkRec]) hm

@[simp ↓] theorem only_spoilCat (k : Nat) (s : State) (hm : [Part.stk] ⊆ ps) :
    Only ps s₀ (spoilCat k s) ↔ Only ps s₀ s :=
  Only.iff_step [Part.stk] rfl hm

@[simp ↓] theorem only_checkCat (b idx : Nat) (e : Ecc) (s : State) (hm : [Part.regs, .cnts, .stk, .stw, .flt] ⊆ ps) :
    Only ps s₀ (checkCat b idx e s) ↔ Only ps s₀ s :=
  Only.iff_step _ (by simp [checkCat]) hm

@[simp ↓] theorem only_touchCat (p : Nat) (e : Ecc) (s : State) (hm : [Part.regs, .cnts, .stk, .stw, .flt] ⊆ ps) :
    Only ps s₀ (touchCat p e s) ↔ Only ps s₀ s :=
  Only.iff_step _ (by simp [touchCat]) hm

@[simp ↓] theorem only_preRead (p : Nat) (e : Ecc) (s : State)
    (hm : [Part.regs, .cnts, .stk, .swq, .stw, .flt] ⊆ ps) :
    Only ps s₀ (preRead p e s) ↔ Only ps s₀ s :=
  Only.iff_step _ (by simp [preRead]) hm

@[simp ↓] theorem only_strayWrite (src : Nat) (s : State) (hm : [Part.flt] ⊆ ps) :
    Only ps s₀ (strayWrite src s) ↔ Only ps s₀ s := by
  refine Only.iff_step _ ?_ hm
  simp only [strayWrite]
  split <;> simp

@[simp ↓] theorem only_srcWrite (src p : Nat) (ev : SrcEv) (time : Nat) (s : State)
    (hm : [Part.regs, .cnts, .stk, .swq, .stw, .flt] ⊆ ps) :
    Only ps s₀ (srcWrite src p ev time s) ↔ Only ps s₀ s :=
  Only.iff_step _ (by simp [srcWrite]) hm

@[simp ↓] theorem only_closeSeg (n : Nat) (s : State) (hm : [Part.ana] ⊆ ps) :
    Only ps s₀ (closeSeg n s) ↔ Only ps s₀ s :=
  Only.iff_step _ (by simp [closeSeg]) hm

@[simp ↓] theorem only_loadTrim (v g : Nat) (s : State) (hm : [Part.regs, .ana] ⊆ ps) :
    Only ps s₀ (loadTrim v g s) ↔ Only ps s₀ s :=
  Only.iff_step _ (by simp only [loadTrim]; simp) hm

@[simp ↓] theorem only_useGain (v g : Nat) (s : State) (hm : [Part.regs, .ana] ⊆ ps) :
    Only ps s₀ (useGain v g s) ↔ Only ps s₀ s :=
  Only.iff_step _ (by simp [useGain]) hm

@[simp ↓] theorem only_excludeChan (n extra : Nat) (s : State) (hm : [Part.ana] ⊆ ps) :
    Only ps s₀ (excludeChan n extra s) ↔ Only ps s₀ s :=
  Only.iff_step _ (by simp [excludeChan]) hm

@[simp ↓] theorem only_freshWindow (n : Nat) (s : State) (hm : [Part.ana] ⊆ ps) :
    Only ps s₀ (freshWindow n s) ↔ Only ps s₀ s :=
  Only.iff_step _ (by simp [freshWindow]) hm

@[simp ↓] theorem only_chcfgWrite (n : Nat) (v : Word) (s : State) (hm : [Part.regs, .ana] ⊆ ps) :
    Only ps s₀ (chcfgWrite n v s) ↔ Only ps s₀ s := by
  refine Only.iff_step _ ?_ hm
  simp only [chcfgWrite]
  repeat' split
  all_goals simp

@[simp ↓] theorem only_steerBegin (n w : Nat) (s : State) (hm : [Part.regs, .ana] ⊆ ps) :
    Only ps s₀ (steerBegin n w s) ↔ Only ps s₀ s :=
  Only.iff_step _ (by simp [steerBegin]) hm

@[simp ↓] theorem only_chselWrite (n w : Nat) (s : State) (hm : [Part.regs, .ana] ⊆ ps) :
    Only ps s₀ (chselWrite n w s) ↔ Only ps s₀ s :=
  Only.iff_step _ (by simp [chselWrite]) hm

@[simp ↓] theorem only_rotNextConv (v : Nat) (s : State) (hm : [Part.regs, .ana] ⊆ ps) :
    Only ps s₀ (rotNextConv v s) ↔ Only ps s₀ s :=
  Only.iff_step _ (by simp only [rotNextConv]; simp) hm

@[simp ↓] theorem only_rotIdle (s : State) (hm : [Part.regs, .ana] ⊆ ps) :
    Only ps s₀ (rotIdle s) ↔ Only ps s₀ s :=
  Only.iff_step _ (by simp [rotIdle]) hm

@[simp ↓] theorem only_setFed (f : Fed) (s : State) (hm : [Part.fed] ⊆ ps) :
    Only ps s₀ (setFed f s) ↔ Only ps s₀ s :=
  Only.iff_step [Part.fed] rfl hm

@[simp ↓] theorem only_fscGo (n st : Nat) (s : State) (hm : [Part.regs, .fed] ⊆ ps) :
    Only ps s₀ (fscGo n st s) ↔ Only ps s₀ s :=
  Only.iff_step _ (by simp [fscGo]) hm

@[simp ↓] theorem only_fscRest (n : Nat) (s : State) (hm : [Part.regs, .fed] ⊆ ps) :
    Only ps s₀ (fscRest n s) ↔ Only ps s₀ s :=
  Only.iff_step _ (by simp [fscRest]) hm

@[simp ↓] theorem only_fetShorted (n : Nat) (s : State) (hm : [Part.regs, .fed, .flt] ⊆ ps) :
    Only ps s₀ (fetShorted n s) ↔ Only ps s₀ s :=
  Only.iff_step _ (by simp [fetShorted]) hm

@[simp ↓] theorem only_tripChannel (n code : Nat) (s : State) (hm : [Part.regs, .fed, .flt] ⊆ ps) :
    Only ps s₀ (tripChannel n code s) ↔ Only ps s₀ s :=
  Only.iff_step _ (by simp [tripChannel]) hm

@[simp ↓] theorem only_removeBoard (n : Nat) (s : State) (hm : [Part.regs, .fed] ⊆ ps) :
    Only ps s₀ (removeBoard n s) ↔ Only ps s₀ s :=
  Only.iff_step _ (by simp [removeBoard]) hm

@[simp ↓] theorem only_boardSeen (n : Nat) (s : State) (hm : [Part.regs, .fed] ⊆ ps) :
    Only ps s₀ (boardSeen n s) ↔ Only ps s₀ s :=
  Only.iff_step _ (by simp [boardSeen]) hm

@[simp ↓] theorem only_fscEnable (n : Nat) (en : Bool) (s : State) (hm : [Part.regs, .fed] ⊆ ps) :
    Only ps s₀ (fscEnable n en s) ↔ Only ps s₀ s :=
  Only.iff_step _ (by simp [fscEnable]) hm

@[simp ↓] theorem only_unlatch (n : Nat) (testHolds : Bool) (s : State) (hm : [Part.regs, .fed] ⊆ ps) :
    Only ps s₀ (unlatch n testHolds s) ↔ Only ps s₀ s :=
  Only.iff_step _ (by simp [unlatch]) hm

@[simp ↓] theorem only_setHolds (n : Nat) (l : List Nat) (s : State) (hm : [Part.regs, .fed] ⊆ ps) :
    Only ps s₀ (setHolds n l s) ↔ Only ps s₀ s :=
  Only.iff_step _ (by simp [setHolds]) hm

@[simp ↓] theorem only_holdOn (n code : Nat) (s : State) (hm : [Part.regs, .fed] ⊆ ps) :
    Only ps s₀ (holdOn n code s) ↔ Only ps s₀ s :=
  Only.iff_step _ (by simp [holdOn]) hm

@[simp ↓] theorem only_holdOff (n code : Nat) (s : State) (hm : [Part.regs, .fed] ⊆ ps) :
    Only ps s₀ (holdOff n code s) ↔ Only ps s₀ s :=
  Only.iff_step _ (by simp [holdOff]) hm

@[simp ↓] theorem only_noteWarn (s : State) (hm : [Part.fed] ⊆ ps) :
    Only ps s₀ (noteWarn s) ↔ Only ps s₀ s :=
  Only.iff_step _ (by simp [noteWarn]) hm

@[simp ↓] theorem only_warnLow (s : State) (hm : [Part.regs, .fed, .flt] ⊆ ps) :
    Only ps s₀ (warnLow s) ↔ Only ps s₀ s :=
  Only.iff_step _ (by simp [warnLow]) hm

@[simp ↓] theorem only_nodeGo (st : Nat) (s : State) (hm : [Part.regs, .fed] ⊆ ps) :
    Only ps s₀ (nodeGo st s) ↔ Only ps s₀ s :=
  Only.iff_step _ (by simp [nodeGo]) hm

@[simp ↓] theorem only_nodeStart (s : State) (hm : [Part.regs, .fed] ⊆ ps) :
    Only ps s₀ (nodeStart s) ↔ Only ps s₀ s :=
  Only.iff_step _ (by simp [nodeStart]) hm

@[simp ↓] theorem only_feedLost (x : Nat) (high : Bool) (s : State) (hm : [Part.regs, .fed, .flt] ⊆ ps) :
    Only ps s₀ (feedLost x high s) ↔ Only ps s₀ s :=
  Only.iff_step _ (by simp [feedLost]) hm

@[simp ↓] theorem only_moveFeed (x : Nat) (st : FeedTo) (s : State) (hm : [Part.regs, .fed, .flt] ⊆ ps) :
    Only ps s₀ (moveFeed x st s) ↔ Only ps s₀ s :=
  Only.iff_step _ (by cases st <;> simp [moveFeed]) hm

@[simp ↓] theorem only_fetOver (x : Nat) (s : State) (hm : [Part.fed, .flt] ⊆ ps) :
    Only ps s₀ (fetOver x s) ↔ Only ps s₀ s :=
  Only.iff_step _ (by simp [fetOver]) hm

@[simp ↓] theorem only_fetCheck (s : State) (hm : [Part.fed, .flt] ⊆ ps) :
    Only ps s₀ (fetCheck s) ↔ Only ps s₀ s :=
  Only.iff_step _ (by simp [fetCheck]) hm

@[simp ↓] theorem only_feedBand (x v : Nat) (s : State) (hm : [Part.fed] ⊆ ps) :
    Only ps s₀ (feedBand x v s) ↔ Only ps s₀ s :=
  Only.iff_step _ (by simp [feedBand]) hm

@[simp ↓] theorem only_fetFault (x : Nat) (shorted : Bool) (s : State) (hm : [Part.regs, .fed, .flt] ⊆ ps) :
    Only ps s₀ (fetFault x shorted s) ↔ Only ps s₀ s :=
  Only.iff_step _ (by simp [fetFault]) hm

@[simp ↓] theorem only_raiseTrip (s : State) (hm : [Part.fed, .flt] ⊆ ps) :
    Only ps s₀ (raiseTrip s) ↔ Only ps s₀ s :=
  Only.iff_step _ (by simp [raiseTrip]) hm

@[simp ↓] theorem only_setPortState (p v : Nat) (s : State) (hm : [Part.regs] ⊆ ps) :
    Only ps s₀ (setPortState p v s) ↔ Only ps s₀ s :=
  Only.iff_step _ (by simp [setPortState]) hm

@[simp ↓] theorem only_downCause (p v : Nat) (s : State) (hm : [Part.regs] ⊆ ps) :
    Only ps s₀ (downCause p v s) ↔ Only ps s₀ s :=
  Only.iff_step _ (by simp [downCause]) hm

@[simp ↓] theorem only_dropWaits (p : Nat) (s : State) (hm : [Part.regs, .swq] ⊆ ps) :
    Only ps s₀ (dropWaits p s) ↔ Only ps s₀ s :=
  Only.iff_step _ (by simp [dropWaits]) hm

@[simp ↓] theorem only_flushPort (p : Nat) (s : State) (hm : [Part.regs, .swq] ⊆ ps) :
    Only ps s₀ (flushPort p s) ↔ Only ps s₀ s :=
  Only.iff_step _ (by simp [flushPort]) hm

@[simp ↓] theorem only_notePair (p : Nat) (s : State) (hm : [Part.byps] ⊆ ps) :
    Only ps s₀ (notePair p s) ↔ Only ps s₀ s :=
  Only.iff_step _ (by simp [notePair]) hm

@[simp ↓] theorem only_unkeyPort (p : Nat) (s : State) (hm : [Part.regs] ⊆ ps) :
    Only ps s₀ (unkeyPort p s) ↔ Only ps s₀ s :=
  Only.iff_step _ (by simp [unkeyPort]) hm

@[simp ↓] theorem only_forgetLink (p : Nat) (s : State) (hm : [Part.ports, .flt] ⊆ ps) :
    Only ps s₀ (forgetLink p s) ↔ Only ps s₀ s :=
  Only.iff_step _ (by simp [forgetLink]) hm

@[simp ↓] theorem only_takeDown (p cause : Nat) (lost : Bool) (s : State)
    (hm : [Part.regs, .swq, .ports, .byps, .flt] ⊆ ps) :
    Only ps s₀ (takeDown p cause lost s) ↔ Only ps s₀ s :=
  Only.iff_step _ (by simp [takeDown]) hm

@[simp ↓] theorem only_startDetect (p : Nat) (s : State) (hm : [Part.regs, .ports] ⊆ ps) :
    Only ps s₀ (startDetect p s) ↔ Only ps s₀ s :=
  Only.iff_step _ (by simp [startDetect]) hm

@[simp ↓] theorem only_irHalt (p : Nat) (s : State) (hm : [Part.regs, .ports] ⊆ ps) :
    Only ps s₀ (irHalt p s) ↔ Only ps s₀ s :=
  Only.iff_step _ (by simp [irHalt]) hm

@[simp ↓] theorem only_goQuiet (p : Nat) (s : State) (hm : [Part.regs, .swq, .ports, .byps, .flt] ⊆ ps) :
    Only ps s₀ (goQuiet p s) ↔ Only ps s₀ s :=
  Only.iff_step _ (by simp [goQuiet]) hm

@[simp ↓] theorem only_endQuiet (p : Nat) (s : State) (hm : [Part.regs, .ports] ⊆ ps) :
    Only ps s₀ (endQuiet p s) ↔ Only ps s₀ s :=
  Only.iff_step _ (by simp [endQuiet]) hm

@[simp ↓] theorem only_infoAccepted (p : Nat) (s : State) (hm : [Part.regs, .swq, .ports, .byps, .flt] ⊆ ps) :
    Only ps s₀ (infoAccepted p s) ↔ Only ps s₀ s :=
  Only.iff_step _ (by simp [infoAccepted]) hm

@[simp ↓] theorem only_guardFailed (p : Nat) (s : State) (hm : [Part.draw, .regs, .ports] ⊆ ps) :
    Only ps s₀ (guardFailed p s) ↔ Only ps s₀ s :=
  Only.iff_step _ (by simp [guardFailed]) hm

@[simp ↓] theorem only_irTry (p : Nat) (s : State) (hm : [Part.draw, .regs, .ports] ⊆ ps) :
    Only ps s₀ (irTry p s) ↔ Only ps s₀ s :=
  Only.iff_step _ (by simp [irTry]) hm

@[simp ↓] theorem only_irShift (p : Nat) (s : State) (hm : [Part.regs, .ports] ⊆ ps) :
    Only ps s₀ (irShift p s) ↔ Only ps s₀ s :=
  Only.iff_step _ (by simp [irShift]) hm

@[simp ↓] theorem only_bypState (x v : Nat) (s : State) (hm : [Part.regs] ⊆ ps) :
    Only ps s₀ (bypState x v s) ↔ Only ps s₀ s :=
  Only.iff_step _ (by simp [bypState]) hm

@[simp ↓] theorem only_energise (x : Nat) (s : State) (hm : [Part.regs, .byps] ⊆ ps) :
    Only ps s₀ (energise x s) ↔ Only ps s₀ s :=
  Only.iff_step _ (by simp [energise]) hm

@[simp ↓] theorem only_engBindWrite (e : Nat) (v : Word) (s : State) (hm : [Part.regs] ⊆ ps) :
    Only ps s₀ (engBindWrite e v s) ↔ Only ps s₀ s :=
  Only.iff_step _ (by simp [engBindWrite]) hm

@[simp ↓] theorem only_dioWrite (n q : Nat) (v : Int) (s : State)
    (hm : [Part.regs, .cnts, .stk, .swq, .stw, .flt] ⊆ ps) :
    Only ps s₀ (dioWrite n q v s) ↔ Only ps s₀ s :=
  Only.iff_step _ (by simp [dioWrite]) hm

@[simp ↓] theorem only_countFilter (n : Nat) (s : State) (hm : [Part.dio] ⊆ ps) :
    Only ps s₀ (countFilter n s) ↔ Only ps s₀ s := by
  refine Only.iff_step _ ?_ hm
  simp only [countFilter]
  split <;> simp

@[simp ↓] theorem only_enterMode (n mode par : Nat) (s : State) (hm : [Part.regs, .dio] ⊆ ps) :
    Only ps s₀ (enterMode n mode par s) ↔ Only ps s₀ s :=
  Only.iff_step _ (by simp [enterMode]) hm

@[simp ↓] theorem only_applyLine (n mode par : Nat) (s : State) (hm : [Part.regs, .dio] ⊆ ps) :
    Only ps s₀ (applyLine n mode par s) ↔ Only ps s₀ s :=
  Only.iff_step _ (by simp [applyLine]) hm

@[simp ↓] theorem only_resample (n : Nat) (s : State) (hm : [Part.regs, .cnts, .stk, .swq, .dio, .stw, .flt] ⊆ ps) :
    Only ps s₀ (resample n s) ↔ Only ps s₀ s :=
  Only.iff_step _ (by simp [resample]) hm

@[simp ↓] theorem only_applySpare (k line : Nat) (en : Bool) (s : State)
    (hm : [Part.regs, .cnts, .stk, .swq, .dio, .stw, .flt] ⊆ ps) :
    Only ps s₀ (applySpare k line en s) ↔ Only ps s₀ s :=
  Only.iff_step _ (by simp [applySpare]) hm

@[simp ↓] theorem only_applyLineLive (n mask v : Nat) (s : State)
    (hm : [Part.regs, .cnts, .stk, .swq, .dio, .stw, .flt] ⊆ ps) :
    Only ps s₀ (applyLineLive n mask v s) ↔ Only ps s₀ s :=
  Only.iff_step _ (by simp [applyLineLive]) hm

@[simp ↓] theorem only_linePairWrite (n mode par : Nat) (s : State) (hm : [Part.regs, .ready, .dio] ⊆ ps) :
    Only ps s₀ (linePairWrite n mode par s) ↔ Only ps s₀ s :=
  Only.iff_step _ (by simp [linePairWrite]) hm

@[simp ↓] theorem only_spareWrite (k : Nat) (v : Word) (s : State)
    (hm : [Part.regs, .ready, .cnts, .stk, .swq, .dio, .stw, .flt] ⊆ ps) :
    Only ps s₀ (spareWrite k v s) ↔ Only ps s₀ s :=
  Only.iff_step _ (by simp [spareWrite]) hm

@[simp ↓] theorem only_lineLive (n : Nat) (v : Word) (s : State)
    (hm : [Part.regs, .cnts, .stk, .swq, .dio, .stw, .flt] ⊆ ps) :
    Only ps s₀ (lineLive n v s) ↔ Only ps s₀ s :=
  Only.iff_step _ (by simp [lineLive]) hm

@[simp ↓] theorem only_wdogWrite (v : Word) (s : State) (hm : [Part.regs, .dio, .flt] ⊆ ps) :
    Only ps s₀ (wdogWrite v s) ↔ Only ps s₀ s := by
  refine Only.iff_step _ ?_ hm
  simp only [wdogWrite]
  repeat' split
  all_goals simp

@[simp ↓] theorem only_cmdAreaWrite (d i : Nat) (v : Word) (s : State) (hm : [Part.desks, .flt] ⊆ ps) :
    Only ps s₀ (cmdAreaWrite d i v s) ↔ Only ps s₀ s :=
  Only.iff_step _ (by simp [cmdAreaWrite]) hm

@[simp ↓] theorem only_windowWrite (d i : Nat) (v : Word) (s : State) (hm : [Part.desks] ⊆ ps) :
    Only ps s₀ (windowWrite d i v s) ↔ Only ps s₀ s :=
  Only.iff_step _ (by simp [windowWrite]) hm

@[simp ↓] theorem only_retireCell (c : Nat) (s : State) (hm : [Part.regs, .swq, .flt] ⊆ ps) :
    Only ps s₀ (retireCell c s) ↔ Only ps s₀ s := by
  refine Only.iff_step _ ?_ hm
  simp only [retireCell]
  repeat' split
  all_goals simp

@[simp ↓] theorem only_freezeFree (s : State) (hm : [Part.regs, .swq, .flt] ⊆ ps) :
    Only ps s₀ (freezeFree s) ↔ Only ps s₀ s :=
  Only.iff_step _ (by simp [freezeFree]) hm

@[simp ↓] theorem only_limitWrite (off : Nat) (v : Word) (s : State) (hm : [Part.regs, .staged] ⊆ ps) :
    Only ps s₀ (limitWrite off v s) ↔ Only ps s₀ s :=
  Only.iff_step _ (by simp [limitWrite]) hm

@[simp ↓] theorem only_staleLimWrite (n : Nat) (v : Word) (s : State) (hm : [Part.regs, .staged] ⊆ ps) :
    Only ps s₀ (staleLimWrite n v s) ↔ Only ps s₀ s :=
  Only.iff_step _ (by simp [staleLimWrite]) hm

@[simp ↓] theorem only_noteForced (s : State) (hm : [Part.regs] ⊆ ps) :
    Only ps s₀ (noteForced s) ↔ Only ps s₀ s :=
  Only.iff_step _ (by simp [noteForced]) hm

@[simp ↓] theorem only_forceWrite (i : Nat) (v : Word) (s : State) (hm : [Part.regs] ⊆ ps) :
    Only ps s₀ (forceWrite i v s) ↔ Only ps s₀ s :=
  Only.iff_step _ (by simp [forceWrite]) hm

@[simp ↓] theorem only_firstClear (s : State) (hm : [Part.regs] ⊆ ps) :
    Only ps s₀ (firstClear s) ↔ Only ps s₀ s :=
  Only.iff_step _ (by simp [firstClear]) hm

@[simp ↓] theorem only_cntClearAll (s : State) (hm : [Part.cnts] ⊆ ps) :
    Only ps s₀ (cntClearAll s) ↔ Only ps s₀ s :=
  Only.iff_step _ (by simp [cntClearAll]) hm

@[simp ↓] theorem only_cntSelWrite (k : Nat) (v : Word) (s : State) (hm : [Part.regs, .cnts] ⊆ ps) :
    Only ps s₀ (cntSelWrite k v s) ↔ Only ps s₀ s :=
  Only.iff_step _ (by simp [cntSelWrite]) hm

@[simp ↓] theorem only_setUsb (u : Usb) (s : State) (hm : [Part.usb] ⊆ ps) :
    Only ps s₀ (setUsb u s) ↔ Only ps s₀ s :=
  Only.iff_step [Part.usb] rfl hm

@[simp ↓] theorem only_portOff (n : Nat) (s : State) (hm : [Part.regs] ⊆ ps) :
    Only ps s₀ (portOff n s) ↔ Only ps s₀ s :=
  Only.iff_step _ (by simp [portOff]) hm

@[simp ↓] theorem only_overCurrent (n : Nat) (s : State) (hm : [Part.regs, .usb, .flt] ⊆ ps) :
    Only ps s₀ (overCurrent n s) ↔ Only ps s₀ s :=
  Only.iff_step _ (by simp [overCurrent]) hm

@[simp ↓] theorem only_setPwr (x : Pwr) (s : State) (hm : [Part.pwr] ⊆ ps) :
    Only ps s₀ (setPwr x s) ↔ Only ps s₀ s :=
  Only.iff_step [Part.pwr] rfl hm

@[simp ↓] theorem only_setSec (x : Sec) (s : State) (hm : [Part.sec] ⊆ ps) :
    Only ps s₀ (setSec x s) ↔ Only ps s₀ s :=
  Only.iff_step [Part.sec] rfl hm

@[simp ↓] theorem only_noteRevoked (id : Nat) (s : State) (hm : [Part.flt] ⊆ ps) :
    Only ps s₀ (noteRevoked id s) ↔ Only ps s₀ s :=
  Only.iff_step _ (by simp [noteRevoked]) hm

end

end Sys2Proof.Proofs
end

/-! PROOFS. The frame of the feeds and the supply channels (chapter 12): registers, fault sources and the feeds' own
state. -/

section
open Sys2Proof Sys2Proof.Machine

namespace Sys2Proof.Proofs

/-- The parts that the feeds and the supply channels change. -/
abbrev feedParts : List Part := [.regs, .flt, .fed]

/-- Settles O53: each command's meaning is written over the operations above. -/
theorem feedsFrame : Obligations.FeedsFrame := by
  unfold Obligations.FeedsFrame
  refine ⟨?feedStateChange, ?feedQualified, ?oringReverse, ?oringFetFault, ?nodePhaseChange, ?nodeTrip, ?nodeRetry,
    ?feedWarnAssert, ?feedWarnRelease, ?fscCheckEnd, ?fscRampStart, ?fscOn, ?fscTrip, ?fscRetryExpiry, ?fscClearTimer,
    ?fscProbe, ?fscRemoval, ?fscReinsertion, ?fscDebounceEnd, ?fscFetShort, ?fscEnWrite, ?fscUnlatch, ?fscHoldBegin,
    ?fscHoldEnd⟩
  case feedStateChange =>
    intro x v held s t h
    refine only_of_unit (ps := feedParts) h ?_
    split <;> simp
  case feedQualified =>
    intro x v w s t h
    exact only_of_unit (ps := feedParts) h (by simp)
  case oringReverse =>
    intro x v w s t h
    exact only_of_unit (ps := feedParts) h (by simp)
  case oringFetFault =>
    intro x a b c held s t h
    exact only_of_unit (ps := feedParts) h (by simp)
  case nodePhaseChange =>
    intro v w b s t h
    refine only_of_next (ps := feedParts) h ?_
    split <;> simp
  case nodeTrip =>
    intro v w i held s t h
    exact only_of_next (ps := feedParts) h (by simp)
  case nodeRetry =>
    intro s t h
    refine only_of_next (ps := feedParts) h ?_
    split <;> simp
  case feedWarnAssert =>
    intro v held s t h
    exact only_of_next (ps := feedParts) h (by simp)
  case feedWarnRelease =>
    intro v held s t h
    refine only_of_next (ps := feedParts) h ?_
    split <;> simp
  case fscCheckEnd =>
    intro n m s t h
    exact only_of_unit (ps := feedParts) h (by simp)
  case fscRampStart =>
    intro n m s t h
    exact only_of_unit (ps := feedParts) h (by simp)
  case fscOn =>
    intro n m b s t h
    exact only_of_unit (ps := feedParts) h (by simp)
  case fscTrip =>
    intro n c m held s t h
    exact only_of_unit (ps := feedParts) h (by simp)
  case fscRetryExpiry =>
    intro n s t h
    exact only_of_unit (ps := feedParts) h (by simp)
  case fscClearTimer =>
    intro n s t h
    exact only_of_unit (ps := feedParts) h (by simp)
  case fscProbe =>
    intro n m s t h
    exact only_of_unit (ps := feedParts) h (by simp)
  case fscRemoval =>
    intro n b m held s t h
    exact only_of_unit (ps := feedParts) h (by simp)
  case fscReinsertion =>
    intro n s t h
    exact only_of_unit (ps := feedParts) h (by simp)
  case fscDebounceEnd =>
    intro n s t h
    exact only_of_unit (ps := feedParts) h (by simp)
  case fscFetShort =>
    intro n m held s t h
    exact only_of_unit (ps := feedParts) h (by simp)
  case fscEnWrite =>
    intro w n b s t h
    exact only_of_unit (ps := feedParts) h (by simp)
  case fscUnlatch =>
    intro w n m s t h
    exact only_of_unit (ps := feedParts) h (by simp)
  case fscHoldBegin =>
    intro n c v s t h
    exact only_of_unit (ps := feedParts) h (by simp)
  case fscHoldEnd =>
    intro n c v s t h
    exact only_of_unit (ps := feedParts) h (by simp)

end Sys2Proof.Proofs
end

/-! PROOFS. What commands of single units leave unchanged: each is written over operations whose frames are known. -/

section
open Sys2Proof Sys2Proof.Machine

namespace Sys2Proof.Proofs

/-- A word of a desk's area other than its doorbell is the desk's own (R384). -/
theorem only_deskWordWrite {ps : List Part} {s₀ : State} {o : Nat} (ho : o ≠ 0x80) (d : Nat) (v : Word) (s : State)
    (hm : [Part.desks, .flt] ⊆ ps) : Only ps s₀ (deskWordWrite d o v s) ↔ Only ps s₀ s := by
  refine Only.iff_step _ ?_ hm
  simp only [deskWordWrite, if_neg ho]
  simp

/-- The end of a scrub pass changes, of the archive, the scrubber's own state. -/
theorem scrubPassEnd_frame {s t : State} (h : exec .scrubPassEnd s = .next t) :
    t = { s with regs := t.regs, flt := t.flt, stk := { s.stk with scrub := t.stk.scrub } } := by
  injection h with h
  rw [← h, when]
  repeat' split
  all_goals rfl

/-- The replacement of a row changes, of the archive, the rows that showed an error. -/
theorem rowReplace_frame {a w : Nat} {s t : State} (h : exec (.rowReplace a w) s = .next t) :
    t = { s with regs := t.regs, flt := t.flt, stk := { s.stk with ceRows := t.stk.ceRows } } := by
  obtain ⟨-, rfl⟩ := of_unit h
  rw [when]
  dsimp only
  repeat' split
  all_goals rfl

/-- The wear of engines, banks and converters that a clock hour has shown, and the engines' counts cleared (R476). -/
def wearFound (s : State) : State :=
  let s := (List.range 104).foldl (fun t e => wearStep 624 0 e (getF t fFLT_ATC_THR_ENG_CE) (getEngine t e).ceHour t) s
  let s := (List.range 5).foldl (fun t b =>
    wearStep (192 + b) 1 b (getF t fFLT_ATC_THR_BANK_CE) (tget (fun _ => 0) t.stk.ceHour b) t) s
  let s := (List.range 68).foldl (fun t v =>
    wearStep 625 2 v (getF t fFLT_ATC_THR_DRIFT * 16 + 1) (tget (fun _ => 0) t.ana.drift v) t) s
  s.engines.foldl (fun t x => setEngine x.1 { getEngine t x.1 with ceHour := 0 } t) s

/-- The end of a clock hour: the wear found, with the counts of the hour cleared. -/
theorem exec_wearHourCheck_due {s : State} (h : s.flt.wearHour < s.ringNs / 3600000000000) :
    exec .wearHourCheck s = .next { wearFound s with
      stk := { (wearFound s).stk with ceHour := [] }, ana := { (wearFound s).ana with drift := [] }
      flt := { (wearFound s).flt with wearHour := (wearFound s).ringNs / 3600000000000, wornHour := [] } } := by
  calc exec .wearHourCheck s = execWearHourCheck s := rfl
    _ = _ := by rw [execWearHourCheck, when_pos (decide_eq_true h)]; simp only [wearFound]

theorem exec_wearHourCheck_early {s : State} (h : ¬ s.flt.wearHour < s.ringNs / 3600000000000) :
    exec .wearHourCheck s = .next s := by
  calc exec .wearHourCheck s = execWearHourCheck s := rfl
    _ = _ := by rw [execWearHourCheck, when_neg (decide_eq_false h)]

theorem only_wearFound (s : State) : Only [.engines, .flt] s (wearFound s) := by simp [wearFound]

/-- The end of a clock hour clears the counts of the engines, the banks and the drift; the wear found raises sources. -/
theorem wearHourCheck_frame {s t : State} (h : exec .wearHourCheck s = .next t) :
    t = { s with engines := t.engines, flt := t.flt, ana := { s.ana with drift := t.ana.drift },
                 stk := { s.stk with ceHour := t.stk.ceHour } } := by
  by_cases hdue : s.flt.wearHour < s.ringNs / 3600000000000
  · have hu := only_wearFound s
    rw [exec_wearHourCheck_due hdue] at h
    simp only [Host.Outcome.next.injEq] at h
    generalize wearFound s = u at h hu
    obtain ⟨e, f, rfl⟩ : ∃ e f, u = { s with engines := e, flt := f } := ⟨u.engines, u.flt, hu⟩
    rw [← h]
  · rw [exec_wearHourCheck_early hdue] at h
    injection h with h
    rw [← h]

/-- Settles O60: the frame of each command is that of the operations it is written over. -/
theorem unitsFrame : Obligations.UnitsFrame := by
  unfold Obligations.UnitsFrame
  refine ⟨?stkStaleLimWrite, ?scrubPassEnd, ?clkEngBindWrite, ?dioWdogKick, ?dioLineConfig, ?dioSpareStandin,
    ?dioSpareReturn, ?anaChcfgWrite, ?steerStart, ?rotationCheckEnd, ?audioPllLock, ?referenceRestored, ?infoFieldRx,
    ?linkDegraded, ?moduleInserted, ?irGuardRetry, ?irComplete, ?irHourRollover, ?quietTimeout, ?selfTrainDone,
    ?selfTrainFail, ?dlyReq, ?dlyResp, ?delayMeasureTimer, ?descriptorStarve, ?cellPatrolVisit, ?swqLimitWrite,
    ?pcieError, ?usbSuspend, ?usbResume, ?usbOverCurrent, ?setPortPower, ?clearEndpointHalt, ?deskAreaWrite, ?armLock,
    ?xtalStop, ?pllLockTimeout, ?fltFirstClear, ?fltForceWrite, ?cntClearAll, ?cntClr, ?wearHourCheck, ?rowReplace,
    ?trngFail, ?unlockToken⟩
  case stkStaleLimWrite =>
    intro w n v s t h
    exact only_of_unit (ps := [.regs, .staged]) h (by simp)
  case scrubPassEnd =>
    intro s t h
    exact scrubPassEnd_frame h
  case clkEngBindWrite =>
    intro e v s t h
    exact only_of_unit (ps := [.regs]) h (by simp)
  case dioWdogKick =>
    intro w v s t h
    exact only_of_next (ps := [.regs, .dio, .flt]) h (by simp)
  case dioLineConfig =>
    intro w line cfg par s t h
    exact only_of_unit (ps := [.regs, .dio, .ready, .cnts, .flt, .stk, .stw, .booted, .swq]) h (by simp)
  case dioSpareStandin =>
    intro w k line s t h
    exact only_of_unit (ps := [.regs, .dio, .ready, .cnts, .flt, .stk, .stw, .booted, .swq]) h (by simp)
  case dioSpareReturn =>
    intro w k s t h
    exact only_of_unit (ps := [.regs, .dio, .ready, .cnts, .flt, .stk, .stw, .booted, .swq]) h (by simp)
  case anaChcfgWrite =>
    intro w ch v s t h
    exact only_of_unit (ps := [.regs, .ana]) h (by simp)
  case steerStart =>
    intro w ch cv s t h
    exact only_of_unit (ps := [.regs, .ana]) h (by simp)
  case rotationCheckEnd =>
    intro short ref offset gain s t h
    refine only_of_next (ps := [.regs, .ana, .flt]) h ?_
    dsimp only
    repeat' split
    all_goals simp
  case audioPllLock =>
    intro s t h
    exact only_of_next (ps := [.regs, .flt]) h (by simp)
  case referenceRestored =>
    intro s t h
    exact only_of_next (ps := [.regs, .flt]) h (by simp)
  case infoFieldRx =>
    intro p info s t h
    exact only_of_unit (ps := [.regs, .ports, .byps, .flt, .swq]) h (by simp)
  case linkDegraded =>
    intro p a b c s t h
    exact only_of_unit (ps := [.regs, .ports, .flt]) h (by simp)
  case moduleInserted =>
    intro p id s t h
    exact only_of_unit (ps := [.regs, .ports, .flt]) h (by simp)
  case irGuardRetry =>
    intro p s t h
    refine only_of_unit (ps := [.regs, .ports, .draw]) h ?_
    repeat' split
    all_goals simp
  case irComplete =>
    intro p kohm s t h
    exact only_of_unit (ps := [.regs, .ports, .flt]) h (by simp)
  case irHourRollover =>
    intro s t h
    exact only_of_next (ps := [.regs, .ports]) h (by simp)
  case quietTimeout =>
    intro p s t h
    refine only_of_unit (ps := [.regs, .ports]) h ?_
    split <;> simp
  case selfTrainDone =>
    intro x a b s t h
    exact only_of_unit (ps := [.regs, .flt, .byps]) h (by simp)
  case selfTrainFail =>
    intro x s t h
    exact only_of_unit (ps := [.flt, .byps]) h (by simp)
  case dlyReq =>
    intro p sq turn s t h
    exact only_of_unit (ps := [.out]) h (by simp)
  case dlyResp =>
    intro p sq turn el s t h
    refine only_of_unit (ps := [.regs, .ports]) h ?_
    dsimp only
    repeat' split
    all_goals simp
  case delayMeasureTimer =>
    intro p s t h
    exact only_of_unit (ps := [.ports, .out]) h (by simp)
  case descriptorStarve =>
    intro s t h
    refine only_of_next (ps := [.swq, .flt]) h ?_
    split <;> simp
  case cellPatrolVisit =>
    intro cell bad link s t h
    exact only_of_unit (ps := [.regs, .swq, .flt]) h (by simp)
  case swqLimitWrite =>
    intro w off v s t h
    exact only_of_next (ps := [.regs, .staged]) h (by simp)
  case pcieError =>
    intro k s t h
    refine only_of_next (ps := [.regs, .hif, .flt, .out]) h ?_
    cases k <;> simp
  case usbSuspend =>
    intro s t h
    exact only_of_next (ps := [.regs, .usb]) h (by simp)
  case usbResume =>
    intro k s t h
    exact only_of_next (ps := [.regs, .usb, .pwr]) h (by simp)
  case usbOverCurrent =>
    intro n a s t h
    exact only_of_unit (ps := [.regs, .usb, .flt]) h (by simp)
  case setPortPower =>
    intro n b s t h
    exact only_of_unit (ps := [.regs, .usb]) h (by simp)
  case clearEndpointHalt =>
    intro e s t h
    exact only_of_unit (ps := [.usb]) h (by simp)
  case deskAreaWrite =>
    intro d o v s t h
    refine only_of_unit (ps := [.desks, .flt]) h ?_
    simp only [only_when, only_ite]
    split
    · split
      · next ho => simp [only_deskWordWrite (show o ≠ 0x80 by omega)]
      · simp
    · simp
  case armLock =>
    intro s t h
    refine only_of_next (ps := [.regs]) h ?_
    split <;> simp
  case xtalStop =>
    intro s t h
    exact only_of_next (ps := [.regs, .flt]) h (by simp)
  case pllLockTimeout =>
    intro b s t h
    refine only_of_next (ps := [.regs, .flt, .pwr, .boot]) h ?_
    split <;> simp
  case fltFirstClear =>
    intro s t h
    exact only_of_next (ps := [.regs]) h (by simp)
  case fltForceWrite =>
    intro w i v s t h
    exact only_of_unit (ps := [.regs, .flt]) h (by simp)
  case cntClearAll =>
    intro s t h
    exact only_of_next (ps := [.cnts]) h (by simp)
  case cntClr =>
    intro k v s t h
    exact only_of_unit (ps := [.regs, .cnts]) h (by simp)
  case wearHourCheck =>
    intro s t h
    exact wearHourCheck_frame h
  case rowReplace =>
    intro a w s t h
    exact rowReplace_frame h
  case trngFail =>
    intro s t h
    exact only_of_next (ps := [.regs, .flt]) h (by simp)
  case unlockToken =>
    intro bytes s t h
    exact only_of_next (ps := [.regs, .flt, .sec, .out]) h (by simp)

end Sys2Proof.Proofs
end

/-! PROOFS. What a change of one part of the state leaves of the registers. -/

section
open Sys2Proof Sys2Proof.Machine

namespace Sys2Proof.Proofs

@[simp] theorem flag_setUsb (u : Usb) (s : State) (f : Fld) : flag (setUsb u s) f = flag s f := rfl
@[simp] theorem getF_setUsb (u : Usb) (s : State) (f : Fld) : getF (setUsb u s) f = getF s f := rfl
@[simp] theorem reg_setUsb (u : Usb) (s : State) (o : Nat) : reg (setUsb u s) o = reg s o := rfl
@[simp] theorem flag_setPwr (p : Pwr) (s : State) (f : Fld) : flag (setPwr p s) f = flag s f := rfl
@[simp] theorem getF_setPwr (p : Pwr) (s : State) (f : Fld) : getF (setPwr p s) f = getF s f := rfl
@[simp] theorem reg_setPwr (p : Pwr) (s : State) (o : Nat) : reg (setPwr p s) o = reg s o := rfl
@[simp] theorem flag_setSec (x : Sec) (s : State) (f : Fld) : flag (setSec x s) f = flag s f := rfl
@[simp] theorem getF_setSec (x : Sec) (s : State) (f : Fld) : getF (setSec x s) f = getF s f := rfl
@[simp] theorem reg_setSec (x : Sec) (s : State) (o : Nat) : reg (setSec x s) o = reg s o := rfl
@[simp] theorem flag_setBoot (b : Boot) (s : State) (f : Fld) : flag (setBoot b s) f = flag s f := rfl
@[simp] theorem getF_setBoot (b : Boot) (s : State) (f : Fld) : getF (setBoot b s) f = getF s f := rfl
@[simp] theorem reg_setBoot (b : Boot) (s : State) (o : Nat) : reg (setBoot b s) o = reg s o := rfl

/-- A packet whose memory reads well counts and raises nothing. -/
@[simp] theorem packetEcc_ok (e : Nat) (s : State) : packetEcc e .ok s = s := rfl

end Sys2Proof.Proofs
end

/-! PROOFS. Frames of the operations of places, the ring's sources, key pairs and the steward's start, in the manner of
the frames above. -/

section
open Sys2Proof Sys2Proof.Machine

namespace Sys2Proof.Proofs

section
variable {ps : List Part} {s₀ : State}

@[simp ↓] theorem only_with_out (x : List Out) (s : State) (hm : .out ∈ ps) :
    Only ps s₀ { s with out := x } ↔ Only ps s₀ s := Only.iff_step [.out] rfl (by simpa)
@[simp ↓] theorem only_with_ring (x : Ring) (s : State) (hm : .ring ∈ ps) :
    Only ps s₀ { s with ring := x } ↔ Only ps s₀ s := Only.iff_step [.ring] rfl (by simpa)
@[simp ↓] theorem only_with_usb (x : Usb) (s : State) (hm : .usb ∈ ps) :
    Only ps s₀ { s with usb := x } ↔ Only ps s₀ s := Only.iff_step [.usb] rfl (by simpa)
@[simp ↓] theorem only_with_desks (x : Tab Desk) (s : State) (hm : .desks ∈ ps) :
    Only ps s₀ { s with desks := x } ↔ Only ps s₀ s := Only.iff_step [.desks] rfl (by simpa)
@[simp ↓] theorem only_with_twin (x : Twin) (s : State) (hm : .twin ∈ ps) :
    Only ps s₀ { s with twin := x } ↔ Only ps s₀ s := Only.iff_step [.twin] rfl (by simpa)
@[simp ↓] theorem only_with_sec (x : Sec) (s : State) (hm : .sec ∈ ps) :
    Only ps s₀ { s with sec := x } ↔ Only ps s₀ s := Only.iff_step [.sec] rfl (by simpa)

@[simp ↓] theorem only_setTwin (x : Twin) (s : State) (hm : [Part.twin] ⊆ ps) :
    Only ps s₀ (setTwin x s) ↔ Only ps s₀ s :=
  Only.iff_step _ (by simp [setTwin]) hm

@[simp ↓] theorem only_engineHalt (e : Nat) (s : State) (hm : [Part.regs, .engines] ⊆ ps) :
    Only ps s₀ (engineHalt e s) ↔ Only ps s₀ s :=
  Only.iff_step _ (by simp [engineHalt]) hm

@[simp ↓] theorem only_engineIdle (e : Nat) (s : State) (hm : [Part.regs, .engines] ⊆ ps) :
    Only ps s₀ (engineIdle e s) ↔ Only ps s₀ s :=
  Only.iff_step _ (by simp [engineIdle]) hm

@[simp ↓] theorem only_setPlace (n : Nat) (p : Place) (s : State) (hm : [Part.places] ⊆ ps) :
    Only ps s₀ (setPlace n p s) ↔ Only ps s₀ s :=
  Only.iff_step _ (by simp [setPlace]) hm

@[simp ↓] theorem only_showCause (n : Nat) (s : State) (hm : [Part.regs, .flt] ⊆ ps) :
    Only ps s₀ (showCause n s) ↔ Only ps s₀ s :=
  Only.iff_step _ (by simp [showCause]) hm

@[simp ↓] theorem only_engineServe (n e : Nat) (s : State) (hm : [Part.regs, .places, .engines, .flt] ⊆ ps) :
    Only ps s₀ (engineServe n e s) ↔ Only ps s₀ s :=
  Only.iff_step _ (by simp [engineServe]) hm

@[simp ↓] theorem only_atticLog (w : Swap) (result : Nat) (s : State) (hm : [Part.regs] ⊆ ps) :
    Only ps s₀ (atticLog w result s) ↔ Only ps s₀ s :=
  Only.iff_step _ (by simp [atticLog]) hm

@[simp ↓] theorem only_ledger (kind code timeUs : Nat) (body : List Word) (s : State) (hm : [Part.regs, .stw] ⊆ ps) :
    Only ps s₀ (ledger kind code timeUs body s) ↔ Only ps s₀ s :=
  Only.iff_step _ (by simp [ledger]) hm

@[simp ↓] theorem only_toEgress (ports : List Nat) (f : Frame) (s : State) (hm : [Part.regs, .cnts, .swq] ⊆ ps) :
    Only ps s₀ (toEgress ports f s) ↔ Only ps s₀ s :=
  Only.iff_step _ (by simp [toEgress]) hm

@[simp ↓] theorem only_sendEventFrame (typ cls dest : Nat) (bcast : Bool) (payload : List Word) (s : State)
    (hm : [Part.regs, .cnts, .swq, .ring] ⊆ ps) :
    Only ps s₀ (sendEventFrame typ cls dest bcast payload s) ↔ Only ps s₀ s :=
  Only.iff_step _ (by simp [sendEventFrame]) hm

@[simp ↓] theorem only_event (code cls route : Nat) (body : List Word) (s : State)
    (hm : [Part.regs, .cnts, .swq, .ring, .stw] ⊆ ps) :
    Only ps s₀ (event code cls route body s) ↔ Only ps s₀ s :=
  Only.iff_step _ (by simp [event]) hm

@[simp ↓] theorem only_spareChanged (w : Swap) (result : Nat) (s : State)
    (hm : [Part.regs, .cnts, .swq, .ring, .stw] ⊆ ps) :
    Only ps s₀ (spareChanged w result s) ↔ Only ps s₀ s :=
  Only.iff_step _ (by simp [spareChanged]) hm

@[simp ↓] theorem only_atticEnd (w : Swap) (result : Nat) (s : State)
    (hm : [Part.regs, .cnts, .swq, .ring, .stw, .flt] ⊆ ps) :
    Only ps s₀ (atticEnd w result s) ↔ Only ps s₀ s :=
  Only.iff_step _ (by simp [atticEnd]) hm

@[simp ↓] theorem only_applyLive (n : Nat) (s : State) (hm : [Part.regs, .places] ⊆ ps) :
    Only ps s₀ (applyLive n s) ↔ Only ps s₀ s :=
  Only.iff_step _ (by simp [applyLive]) hm

@[simp ↓] theorem only_leaveItem (n : Nat) (s : State) (hm : [Part.regs, .places] ⊆ ps) :
    Only ps s₀ (leaveItem n s) ↔ Only ps s₀ s :=
  Only.iff_step _ (by simp [leaveItem]) hm

@[simp ↓] theorem only_commsFailAll (n : Nat) (s : State) (hm : [Part.regs, .cnts, .stk, .swq, .stw, .flt] ⊆ ps) :
    Only ps s₀ (commsFailAll n s) ↔ Only ps s₀ s :=
  Only.iff_step _ (by simp [commsFailAll]) hm

@[simp ↓] theorem only_setCq (c : Nat) (x : Cq) (s : State) (hm : [Part.hif] ⊆ ps) :
    Only ps s₀ (setCq c x s) ↔ Only ps s₀ s :=
  Only.iff_step _ (by simp [setCq]) hm

@[simp ↓] theorem only_cqDrain (c : Nat) (l : List CqEnt) (s : State) (hm : [Part.out, .regs, .hif] ⊆ ps) :
    Only ps s₀ (cqDrain c l s) ↔ Only ps s₀ s := by
  refine Only.iff_step _ ?_ hm
  clear hm
  induction l generalizing s with
  | nil => simp [cqDrain]
  | cons e rest ih =>
    have hrest (t : State) : Only [.out, .regs, .hif] s (cqDrain c rest t) ↔ Only [.out, .regs, .hif] s t :=
      Only.iff_step _ (ih t) (by simp)
    simp [cqDrain, hrest]

@[simp ↓] theorem only_cqPost (c : Nat) (e : CqEnt) (s : State) (hm : [Part.out, .regs, .hif] ⊆ ps) :
    Only ps s₀ (cqPost c e s) ↔ Only ps s₀ s :=
  Only.iff_step _ (by simp [cqPost]) hm

@[simp ↓] theorem only_placeReport (ws : List Word) (s : State) (hm : [Part.out, .regs, .cnts, .swq, .hif] ⊆ ps) :
    Only ps s₀ (placeReport ws s) ↔ Only ps s₀ s :=
  Only.iff_step _ (by simp [placeReport]) hm

@[simp ↓] theorem only_report (node tag handle cause : Nat) (s : State)
    (hm : [Part.out, .regs, .cnts, .swq, .ring, .hif] ⊆ ps) :
    Only ps s₀ (report node tag handle cause s) ↔ Only ps s₀ s :=
  Only.iff_step _ (by simp [report]) hm

@[simp ↓] theorem only_dropFront (q : Nat) (s : State) (hm : [Part.cnts, .swq] ⊆ ps) :
    Only ps s₀ (dropFront q s) ↔ Only ps s₀ s := by
  refine Only.iff_step _ ?_ hm
  simp only [dropFront]
  split <;> simp

@[simp ↓] theorem only_cmdLeaves (n : Nat) (s : State) (hm : [Part.cnts, .swq, .places] ⊆ ps) :
    Only ps s₀ (cmdLeaves n s) ↔ Only ps s₀ s :=
  Only.iff_step _ (by simp [cmdLeaves]) hm

@[simp ↓] theorem only_writeRec (p : Nat) (new : Rec) (s : State) (hm : [Part.regs, .cnts, .stk, .swq] ⊆ ps) :
    Only ps s₀ (writeRec p new s) ↔ Only ps s₀ s :=
  Only.iff_step _ (by simp [writeRec]) hm

@[simp ↓] theorem only_writeFailed (p : Nat) (s : State) (hm : [Part.regs, .cnts, .stk, .swq, .stw, .flt] ⊆ ps) :
    Only ps s₀ (writeFailed p s) ↔ Only ps s₀ s :=
  Only.iff_step _ (by simp [writeFailed]) hm

@[simp ↓] theorem only_failCmd (n cause : Nat) (s : State)
    (hm : [Part.out, .regs, .cnts, .stk, .swq, .places, .ring, .hif, .stw, .flt] ⊆ ps) :
    Only ps s₀ (failCmd n cause s) ↔ Only ps s₀ s := by
  refine Only.iff_step _ ?_ hm
  simp only [failCmd]
  split <;> simp

@[simp ↓] theorem only_failAllCmds (n cause : Nat) (k : Nat) (s : State)
    (hm : [Part.out, .regs, .cnts, .stk, .swq, .places, .ring, .hif, .stw, .flt] ⊆ ps) :
    Only ps s₀ (failAllCmds n cause k s) ↔ Only ps s₀ s := by
  refine Only.iff_step _ ?_ hm
  clear hm
  induction k generalizing s with
  | zero => simp [failAllCmds]
  | succ k ih =>
    rw [failAllCmds]
    split
    · simp
    · exact Only.trans (by simp) (ih _)

@[simp ↓] theorem only_holdExpire (n : Nat) (s : State)
    (hm : [Part.out, .regs, .cnts, .stk, .swq, .places, .ring, .hif, .stw, .flt] ⊆ ps) :
    Only ps s₀ (holdExpire n s) ↔ Only ps s₀ s :=
  Only.iff_step _ (by simp only [holdExpire]; simp) hm

@[simp ↓] theorem only_portDown (n : Nat) (s : State)
    (hm : [Part.out, .regs, .cnts, .stk, .swq, .places, .ring, .hif, .stw, .flt] ⊆ ps) :
    Only ps s₀ (portDown n s) ↔ Only ps s₀ s :=
  Only.iff_step _ (by simp [portDown]) hm

@[simp ↓] theorem only_portCheck (n : Nat) (s : State)
    (hm : [Part.out, .regs, .cnts, .stk, .swq, .places, .ring, .hif, .stw, .flt] ⊆ ps) :
    Only ps s₀ (portCheck n s) ↔ Only ps s₀ s :=
  Only.iff_step _ (by simp [portCheck]) hm

@[simp ↓] theorem only_unserve (n : Nat) (s : State)
    (hm : [Part.out, .regs, .cnts, .stk, .swq, .places, .engines, .ring, .hif, .stw, .flt] ⊆ ps) :
    Only ps s₀ (unserve n s) ↔ Only ps s₀ s := by
  refine Only.iff_step _ ?_ hm
  simp only [unserve]
  repeat' split
  all_goals simp

@[simp ↓] theorem only_applyEnginePair (e role pl : Nat) (s : State)
    (hm : [Part.out, .regs, .cnts, .stk, .swq, .places, .engines, .ring, .hif, .stw, .flt] ⊆ ps) :
    Only ps s₀ (applyEnginePair e role pl s) ↔ Only ps s₀ s := by
  refine Only.iff_step _ ?_ hm
  simp only [applyEnginePair]
  repeat' split
  all_goals simp

@[simp ↓] theorem only_drainPairs (k : Nat) (s : State)
    (hm : [Part.out, .regs, .ready, .cnts, .stk, .swq, .places, .engines, .ring, .hif, .stw, .flt] ⊆ ps) :
    Only ps s₀ (drainPairs k s) ↔ Only ps s₀ s := by
  refine Only.iff_step _ ?_ hm
  clear hm
  induction k generalizing s with
  | zero => simp [drainPairs]
  | succ k ih =>
    rw [drainPairs]
    split
    · exact Only.trans (by simp) (ih _)
    · simp

@[simp ↓] theorem only_settlePairs (s : State)
    (hm : [Part.out, .regs, .ready, .cnts, .stk, .swq, .places, .engines, .ring, .hif, .stw, .flt] ⊆ ps) :
    Only ps s₀ (settlePairs s) ↔ Only ps s₀ s :=
  Only.iff_step _ (by simp [settlePairs]) hm

@[simp ↓] theorem only_fenceEngine (e : Nat) (s : State)
    (hm : [Part.out, .regs, .ready, .cnts, .stk, .swq, .places, .engines, .ring, .hif, .stw, .flt] ⊆ ps) :
    Only ps s₀ (fenceEngine e s) ↔ Only ps s₀ s :=
  Only.iff_step _ (by simp [fenceEngine]) hm

@[simp ↓] theorem only_handOver (n : Nat) (s : State)
    (hm : [Part.out, .regs, .ready, .cnts, .stk, .swq, .places, .engines, .ring, .hif, .stw, .flt] ⊆ ps) :
    Only ps s₀ (handOver n s) ↔ Only ps s₀ s := by
  refine Only.iff_step _ ?_ hm
  simp only [handOver]
  repeat' split
  all_goals simp

@[simp ↓] theorem only_startCycle (n k d : Nat) (s : State)
    (hm : [Part.out, .regs, .ready, .cnts, .stk, .swq, .places, .engines, .ring, .hif, .stw, .flt] ⊆ ps) :
    Only ps s₀ (startCycle n k d s) ↔ Only ps s₀ s :=
  Only.iff_step _ (by simp [startCycle]) hm

@[simp ↓] theorem only_freshCycles (n : Nat) (s : State)
    (hm : [Part.out, .regs, .ready, .cnts, .stk, .swq, .places, .engines, .ring, .hif, .stw, .flt] ⊆ ps) :
    Only ps s₀ (freshCycles n s) ↔ Only ps s₀ s :=
  Only.iff_step _ (by simp [freshCycles]) hm

@[simp ↓] theorem only_atBoundary (n : Nat) (s : State)
    (hm : [Part.out, .regs, .ready, .cnts, .stk, .swq, .places, .engines, .ring, .hif, .stw, .flt] ⊆ ps) :
    Only ps s₀ (atBoundary n s) ↔ Only ps s₀ s := by
  refine Only.iff_step _ ?_ hm
  simp only [atBoundary]
  split <;> simp

@[simp ↓] theorem only_tagWaits (n before : Nat) (s : State) (hm : [Part.swq] ⊆ ps) :
    Only ps s₀ (tagWaits n before s) ↔ Only ps s₀ s :=
  Only.iff_step _ (by simp [tagWaits]) hm

@[simp ↓] theorem only_atticShadow (n : Nat) (s : State)
    (hm : [Part.out, .regs, .ready, .cnts, .stk, .swq, .places, .engines, .ring, .hif, .stw, .flt] ⊆ ps) :
    Only ps s₀ (atticShadow n s) ↔ Only ps s₀ s := by
  refine Only.iff_step _ ?_ hm
  simp only [atticShadow]
  split <;> simp

@[simp ↓] theorem only_endCycle (n k : Nat) (s : State)
    (hm : [Part.out, .regs, .ready, .cnts, .stk, .swq, .places, .engines, .ring, .hif, .stw, .flt] ⊆ ps) :
    Only ps s₀ (endCycle n k s) ↔ Only ps s₀ s :=
  Only.iff_step _ (by simp [endCycle]) hm

@[simp ↓] theorem only_endWork (n : Nat) (s : State)
    (hm : [Part.out, .regs, .ready, .cnts, .stk, .swq, .places, .engines, .ring, .hif, .stw, .flt] ⊆ ps) :
    Only ps s₀ (endWork n s) ↔ Only ps s₀ s := by
  refine Only.iff_step _ ?_ hm
  simp only [endWork]
  split <;> simp

@[simp ↓] theorem only_sendEntry (n i : Nat) (new : Option (Nat × Int)) (s : State) (hm : [Part.out] ⊆ ps) :
    Only ps s₀ (sendEntry n i new s) ↔ Only ps s₀ s :=
  Only.iff_step _ (by simp [sendEntry]) hm

@[simp ↓] theorem only_sendPoll (n : Nat) (pts : List Nat) (s : State) (hm : [Part.out] ⊆ ps) :
    Only ps s₀ (sendPoll n pts s) ↔ Only ps s₀ s := by
  refine Only.iff_step _ ?_ hm
  simp only [sendPoll]
  split <;> simp

@[simp ↓] theorem only_startItem (n : Nat) (it : PlaceItem) (s : State) (hm : [Part.places] ⊆ ps) :
    Only ps s₀ (startItem n it s) ↔ Only ps s₀ s :=
  Only.iff_step _ (by simp [startItem]) hm

@[simp ↓] theorem only_startPoll (n k : Nat) (s : State) (hm : [Part.out, .places] ⊆ ps) :
    Only ps s₀ (startPoll n k s) ↔ Only ps s₀ s :=
  Only.iff_step _ (by simp [startPoll]) hm

@[simp ↓] theorem only_countStream (n i : Nat) (s : State) (hm : [Part.places] ⊆ ps) :
    Only ps s₀ (countStream n i s) ↔ Only ps s₀ s :=
  Only.iff_step _ (by simp [countStream]) hm

@[simp ↓] theorem only_takeUnsolicited (n time : Nat) (u : Unsolicited) (s : State)
    (hm : [Part.regs, .cnts, .stk, .swq, .places, .stw, .flt] ⊆ ps) :
    Only ps s₀ (takeUnsolicited n time u s) ↔ Only ps s₀ s := by
  refine Only.iff_step _ ?_ hm
  simp only [takeUnsolicited]
  split <;> simp

@[simp ↓] theorem only_sendCmd (n : Nat) (c : Cmd) (s : State) (hm : [Part.out] ⊆ ps) :
    Only ps s₀ (sendCmd n c s) ↔ Only ps s₀ s :=
  Only.iff_step _ (by simp [sendCmd]) hm

@[simp ↓] theorem only_startCmd (n : Nat) (s : State)
    (hm : [Part.out, .regs, .cnts, .stk, .swq, .places, .ring, .hif, .stw, .flt] ⊆ ps) :
    Only ps s₀ (startCmd n s).1 ↔ Only ps s₀ s := by
  refine Only.iff_step _ ?_ hm
  simp only [startCmd]
  repeat' split
  all_goals simp

@[simp ↓] theorem only_choose (n : Nat) (k : Nat) (s : State)
    (hm : [Part.out, .regs, .ready, .cnts, .stk, .swq, .places, .engines, .ring, .hif, .stw, .flt] ⊆ ps) :
    Only ps s₀ (choose n k s) ↔ Only ps s₀ s := by
  refine Only.iff_step _ ?_ hm
  clear hm
  induction k generalizing s with
  | zero => simp [choose]
  | succ k ih =>
    have hnext (t : State) :
        Only [Part.out, .regs, .ready, .cnts, .stk, .swq, .places, .engines, .ring, .hif, .stw, .flt] s (choose n k t) ↔
          Only [Part.out, .regs, .ready, .cnts, .stk, .swq, .places, .engines, .ring, .hif, .stw, .flt] s t :=
      Only.iff_step _ (ih t) (by simp)
    unfold choose
    dsimp only
    split
    all_goals simp [hnext]

@[simp ↓] theorem only_chooseNext (n : Nat) (s : State)
    (hm : [Part.out, .regs, .ready, .cnts, .stk, .swq, .places, .engines, .ring, .hif, .stw, .flt] ⊆ ps) :
    Only ps s₀ (chooseNext n s) ↔ Only ps s₀ s :=
  Only.iff_step _ (by simp [chooseNext]) hm

@[simp ↓] theorem only_wakePlace (n : Nat) (s : State)
    (hm : [Part.out, .regs, .ready, .cnts, .stk, .swq, .places, .engines, .ring, .hif, .stw, .flt] ⊆ ps) :
    Only ps s₀ (wakePlace n s) ↔ Only ps s₀ s :=
  Only.iff_step _ (by simp [wakePlace]) hm

@[simp ↓] theorem only_engRunWrite (e : Nat) (run : Bool) (s : State)
    (hm : [Part.out, .regs, .ready, .cnts, .stk, .swq, .places, .engines, .ring, .hif, .stw, .flt] ⊆ ps) :
    Only ps s₀ (engRunWrite e run s) ↔ Only ps s₀ s :=
  Only.iff_step _ (by simp [engRunWrite]) hm

@[simp ↓] theorem only_stagesEnable (s : State)
    (hm : [Part.out, .regs, .ready, .cnts, .stk, .swq, .places, .engines, .ring, .hif, .stw, .flt, .twin] ⊆ ps) :
    Only ps s₀ (stagesEnable s) ↔ Only ps s₀ s := by
  refine Only.iff_step _ ?_ hm
  simp only [stagesEnable]
  refine (only_foldl (fun t n => ?_) _ _).2 (by simp)
  split <;> simp

@[simp ↓] theorem only_stagesDisable (s : State)
    (hm : [Part.out, .regs, .ready, .cnts, .stk, .swq, .places, .engines, .ring, .hif, .stw, .flt, .twin] ⊆ ps) :
    Only ps s₀ (stagesDisable s) ↔ Only ps s₀ s := by
  refine Only.iff_step _ ?_ hm
  simp only [stagesDisable]
  refine (only_foldl (fun t n => ?_) _ _).2 (by simp)
  split <;> simp

@[simp ↓] theorem only_noteBoth (s : State) (hm : [Part.twin] ⊆ ps) :
    Only ps s₀ (noteBoth s) ↔ Only ps s₀ s :=
  Only.iff_step _ (by simp [noteBoth]) hm

@[simp ↓] theorem only_twinChange (role cause : Nat) (s : State) (hm : [Part.regs, .twin] ⊆ ps) :
    Only ps s₀ (twinChange role cause s) ↔ Only ps s₀ s :=
  Only.iff_step _ (by simp [twinChange]) hm

@[simp ↓] theorem only_recordRaise (src time w4 : Nat) (s : State) (hm : [Part.regs, .cnts, .swq, .ring, .stw] ⊆ ps) :
    Only ps s₀ (recordRaise src time w4 s) ↔ Only ps s₀ s :=
  Only.iff_step _ (by simp [recordRaise]) hm

@[simp ↓] theorem only_drainRaises (s : State) (hm : [Part.regs, .cnts, .swq, .ring, .stw, .flt] ⊆ ps) :
    Only ps s₀ (drainRaises s) ↔ Only ps s₀ s :=
  Only.iff_step _ (by simp [drainRaises]) hm

@[simp ↓] theorem only_startPlace (n : Nat) (s : State)
    (hm : [Part.out, .regs, .ready, .cnts, .stk, .swq, .places, .engines, .ring, .hif, .stw, .flt] ⊆ ps) :
    Only ps s₀ (startPlace n s) ↔ Only ps s₀ s := by
  refine Only.iff_step _ ?_ hm
  simp only [startPlace]
  split <;> simp

@[simp ↓] theorem only_startLine (n : Nat) (s : State) (hm : [Part.regs, .dio] ⊆ ps) :
    Only ps s₀ (startLine n s) ↔ Only ps s₀ s := by
  refine Only.iff_step _ ?_ hm
  simp only [startLine]
  split <;> simp

@[simp ↓] theorem only_startChan (n : Nat) (s : State) (hm : [Part.regs, .ana] ⊆ ps) :
    Only ps s₀ (startChan n s) ↔ Only ps s₀ s :=
  Only.iff_step _ (by simp [startChan]) hm

@[simp ↓] theorem only_startField (s : State)
    (hm : [Part.out, .regs, .ready, .cnts, .stk, .swq, .places, .engines, .dio, .ana, .ring, .hif, .stw, .flt, .boot] ⊆ ps) :
    Only ps s₀ (startField s) ↔ Only ps s₀ s :=
  Only.iff_step _ (by simp [startField]) hm

@[simp ↓] theorem only_putShelf (v k : Nat) (x : Option (List Word)) (s : State) (hm : [Part.sec] ⊆ ps) :
    Only ps s₀ (putShelf v k x s) ↔ Only ps s₀ s :=
  Only.iff_step _ (by simp [putShelf]) hm

@[simp ↓] theorem only_defaultShelf (v : Nat) (s : State) (hm : [Part.regs, .flt, .sec] ⊆ ps) :
    Only ps s₀ (defaultShelf v s) ↔ Only ps s₀ s :=
  Only.iff_step _ (by simp [defaultShelf]) hm

@[simp ↓] theorem only_freeShelf (v : Nat) (s : State) (hm : [Part.sec] ⊆ ps) :
    Only ps s₀ (freeShelf v s) ↔ Only ps s₀ s :=
  Only.iff_step _ (by simp [freeShelf]) hm

@[simp ↓] theorem only_copyShelf (old new : Nat) (s : State) (hm : [Part.sec] ⊆ ps) :
    Only ps s₀ (copyShelf old new s) ↔ Only ps s₀ s :=
  Only.iff_step _ (by simp [copyShelf]) hm

@[simp ↓] theorem only_trialShelf (old new : Nat) (s : State) (hm : [Part.regs, .flt, .sec] ⊆ ps) :
    Only ps s₀ (trialShelf old new s) ↔ Only ps s₀ s :=
  Only.iff_step _ (by simp [trialShelf]) hm

@[simp ↓] theorem only_setStw (x : Steward) (s : State) (hm : [Part.stw, .booted] ⊆ ps) :
    Only ps s₀ (setStw x s) ↔ Only ps s₀ s :=
  Only.iff_step [Part.stw, .booted] rfl hm

@[simp ↓] theorem only_unloadEdition (s : State)
    (hm : [Part.out, .regs, .cnts, .stk, .swq, .places, .engines, .dio, .ring, .hif, .stw, .booted, .flt] ⊆ ps) :
    Only ps s₀ (unloadEdition s) ↔ Only ps s₀ s := by
  refine Only.iff_step _ ?_ hm
  simp only [unloadEdition]
  refine (only_foldl (fun t n => by simp) _ _).2 ?_
  refine (only_foldl (fun t n => by simp) _ _).2 ?_
  refine (only_foldl (fun t n => ?_) _ _).2 (by simp)
  split <;> simp

@[simp ↓] theorem only_seedPair (x : Nat) (s : State) (hm : [Part.regs, .ring] ⊆ ps) :
    Only ps s₀ (seedPair x s) ↔ Only ps s₀ s :=
  Only.iff_step _ (by simp [seedPair]) hm

@[simp ↓] theorem only_newEpoch (p : Nat) (s : State) (hm : [Part.regs, .flt, .sec] ⊆ ps) :
    Only ps s₀ (newEpoch p s) ↔ Only ps s₀ s :=
  Only.iff_step _ (by simp [newEpoch]) hm

@[simp ↓] theorem only_keyPort (p : Nat) (s : State) (hm : [Part.regs, .flt, .sec] ⊆ ps) :
    Only ps s₀ (keyPort p s) ↔ Only ps s₀ s := by
  refine Only.iff_step _ ?_ hm
  simp only [keyPort]
  repeat' split
  all_goals simp

@[simp ↓] theorem only_noteServing (s : State) (hm : [Part.regs] ⊆ ps) :
    Only ps s₀ (noteServing s) ↔ Only ps s₀ s :=
  Only.iff_step _ (by simp [noteServing]) hm

@[simp ↓] theorem only_setDevice (on : Bool) (s : State) (hm : [Part.regs, .usb] ⊆ ps) :
    Only ps s₀ (setDevice on s) ↔ Only ps s₀ s :=
  Only.iff_step _ (by simp [setDevice]) hm

@[simp ↓] theorem only_pullUpOn (s : State) (hm : [Part.regs, .usb] ⊆ ps) :
    Only ps s₀ (pullUpOn s) ↔ Only ps s₀ s :=
  Only.iff_step _ (by simp [pullUpOn]) hm

@[simp ↓] theorem only_hubIdle (s : State) (hm : [Part.regs, .usb] ⊆ ps) :
    Only ps s₀ (hubIdle s) ↔ Only ps s₀ s :=
  Only.iff_step _ (by simp [hubIdle]) hm

@[simp ↓] theorem only_closeSession (d : Nat) (s : State) (hm : [Part.regs, .desks, .stw] ⊆ ps) :
    Only ps s₀ (closeSession d s) ↔ Only ps s₀ s :=
  Only.iff_step _ (by simp [closeSession]) hm

@[simp ↓] theorem only_sessionReset (s : State) (hm : [Part.regs, .desks, .stw, .flt] ⊆ ps) :
    Only ps s₀ (sessionReset s) ↔ Only ps s₀ s :=
  Only.iff_step _ (by simp [sessionReset]) hm

@[simp ↓] theorem only_applyOwed (s : State) (hm : [Part.regs, .stw] ⊆ ps) :
    Only ps s₀ (applyOwed s) ↔ Only ps s₀ s :=
  Only.iff_step _ (by simp [applyOwed]) hm

@[simp ↓] theorem only_stopStream (s : State) (hm : [Part.regs, .usb, .stw] ⊆ ps) :
    Only ps s₀ (stopStream s) ↔ Only ps s₀ s :=
  Only.iff_step _ (by simp [stopStream]) hm

@[simp ↓] theorem only_deviceIdle (s : State) (hm : [Part.regs, .usb, .stw] ⊆ ps) :
    Only ps s₀ (deviceIdle s) ↔ Only ps s₀ s :=
  Only.iff_step _ (by simp [deviceIdle]) hm

@[simp ↓] theorem only_deviceReset (s : State) (hm : [Part.regs, .swq, .usb, .desks, .stw, .flt] ⊆ ps) :
    Only ps s₀ (deviceReset s) ↔ Only ps s₀ s :=
  Only.iff_step _ (by simp [deviceReset]) hm

@[simp ↓] theorem only_pullUpOff (s : State) (hm : [Part.regs, .swq, .usb, .desks, .stw, .flt] ⊆ ps) :
    Only ps s₀ (pullUpOff s) ↔ Only ps s₀ s :=
  Only.iff_step _ (by simp [pullUpOff]) hm

@[simp ↓] theorem only_connectWrite (connect : Bool) (s : State)
    (hm : [Part.regs, .swq, .usb, .desks, .stw, .flt] ⊆ ps) :
    Only ps s₀ (connectWrite connect s) ↔ Only ps s₀ s :=
  Only.iff_step _ (by simp [connectWrite]) hm

@[simp ↓] theorem only_hostReady (s : State) (hm : [Part.regs, .ready, .swq, .hif, .usb, .desks, .stw, .flt] ⊆ ps) :
    Only ps s₀ (hostReady s) ↔ Only ps s₀ s :=
  Only.iff_step _ (by simp [hostReady]) hm

end

end Sys2Proof.Proofs
end

/-! PROOFS. The host's windows: register accesses of BAR0 and memory accesses of BAR2 (chapter 09). -/

section
open Sys2Proof Sys2Proof.Machine

namespace Sys2Proof.Proofs

/-- Settles O23: each access is its command's meaning, taken down the branch that the conditions name. -/
theorem bridgeWindows : Obligations.BridgeWindows := by
  unfold Obligations.BridgeWindows
  refine ⟨?bar0Read, ?bar0WriteAll, ?bar0WriteSome, ?bar2WriteOpen, ?bar2WriteClosed, ?bar2ReadClosed,
    ?bar2ReadOpen, ?readAnswered, ?readFailed, ?rdLimitExpiry⟩
  case bar0Read =>
    intro b s hhifOn hb
    change execBar0Access (.read b) s = _
    simp [execBar0Access, when_pos, hhifOn, hb]
  case bar0WriteAll =>
    intro b v s hhifOn
    change execBar0Access (.write b v true) s = _
    simp [execBar0Access, when_pos, hhifOn]
  case bar0WriteSome =>
    intro b v s hhifOn
    change execBar0Access (.write b v false) s = _
    simp [execBar0Access, when_pos, hhifOn]
  case bar2WriteOpen =>
    intro k b data ecc s hk hhifOn hen hen2
    change execBar2Write k b data ecc s = _
    simp [execBar2Write, unit_pos, when_pos, hk, hhifOn, hen, hen2]
  case bar2WriteClosed =>
    intro k b data ecc s hk hhifOn hen
    change execBar2Write k b data ecc s = _
    simp [execBar2Write, unit_pos, when_pos, hk, hhifOn, hen]
  case bar2ReadClosed =>
    intro k b n ecc u s hk hhifOn hu hen
    subst hu
    change execBar2Read k b n ecc s = _
    simp [execBar2Read, unit_pos, when_pos, hk, hhifOn, hen]
  case bar2ReadOpen =>
    intro k b n ecc u s hk hhifOn hu hen
    subst hu
    change execBar2Read k b n ecc s = _
    simp [execBar2Read, unit_pos, when_pos, hk, hhifOn, hen]
  case readAnswered =>
    intro id r s hgetRead hrfailed hrleft
    change execBar2ReadComplete id s = _
    simp [execBar2ReadComplete, hgetRead, hrfailed, hrleft]
  case readFailed =>
    intro id r cause s hgetRead hrfailed
    change execBar2ReadComplete id s = _
    simp [execBar2ReadComplete, hgetRead, hrfailed]
  case rdLimitExpiry =>
    intro id r s hgetRead hdue hrfailed hrleft
    change execRdLimitExpiry id s = _
    simp [execRdLimitExpiry, hgetRead, hdue, hrfailed, hrleft]

end Sys2Proof.Proofs
end

/-! PROOFS. Discrete inputs: edges, debounce and refresh (chapter 04). -/

section
open Sys2Proof Sys2Proof.Machine

namespace Sys2Proof.Proofs

/-- Settles O8: each event is its command's meaning at a line whose guards hold; log 225 gives the refresh
interval of REFRESH 0. -/
theorem discreteInputs : Obligations.DiscreteInputs := by
  unfold Obligations.DiscreteInputs
  refine ⟨?discreteEdge, ?debounceStable, ?dioRefresh⟩
  case discreteEdge =>
    intro line lv n u s hline hlineOn hpinLevel hpinLine hu hpinLine2 hdioFenced
    subst hu
    change execDiscreteEdge line lv s = _
    simp [execDiscreteEdge, unit_pos, hline, hlineOn, hpinLevel, hpinLine, hpinLine2, hdioFenced]
  case debounceStable =>
    intro line lv n e s hline hpinLine hgetLine hdue hlineOn hlineMode hpinLevel hlv hdioFenced
    change execDebounceStable line lv s = _
    simp [execDebounceStable, unit_pos, hline, hpinLine, hgetLine, hdue, hlineOn, hlineMode, hpinLevel, hlv,
      hdioFenced]
  case dioRefresh =>
    intro differ s hdue
    change execDioRefresh differ s = _
    simp [execDioRefresh, hdue]

end Sys2Proof.Proofs
end

/-! PROOFS. Completion rings, interrupts and the PCI Express link (chapter 09). -/

section
open Sys2Proof Sys2Proof.Machine

namespace Sys2Proof.Proofs

/-- Settles O25: each event is its command's meaning where its guards hold; the correctable error is counted
on its own second (log 65). -/
theorem bridgeCompletion : Obligations.BridgeCompletion := by
  unfold Obligations.BridgeCompletion
  refine ⟨?cqHeadDoorbell, ?cqSignal, ?cqFullTimeout, ?msixUnmask, ?linkDown, ?functionReset,
    ?uncorrectableError, ?correctableError, ?pciePerstRelease⟩
  case cqHeadDoorbell =>
    intro c v u s hc hmayWrite hu hcqFree
    subst hu
    change execCqHeadDoorbell c v s = _
    simp [execCqHeadDoorbell, unit_pos, guardWrite_may, cqHeadWrite, hif_cqWait_setCq, hc, hmayWrite, hcqFree]
  case cqSignal =>
    intro c s hc hgetCq hthr hhifOn
    change execCqSignal c s = _
    simp [execCqSignal, unit_pos, hc, hgetCq, hthr, hhifOn]
  case cqFullTimeout =>
    intro c d s hc hgetCq hdue hgetCq2 hcqFree
    change execCqFullTimeout c s = _
    simp [execCqFullTimeout, unit_pos, hc, hgetCq, hdue, hgetCq2, hcqFree]
  case msixUnmask =>
    intro v s hv hhifOn
    change execMsixUnmask v s = _
    simp [execMsixUnmask, unit_pos, hv, hhifOn]
  case linkDown =>
    intro s hhifOn hup
    change execPcieLinkReset .linkDown s = _
    simp [execPcieLinkReset, when_pos, hhifOn, hup]
  case functionReset =>
    intro s hhifOn hup
    change execPcieLinkReset .flr s = _
    simp [execPcieLinkReset, when_pos, hhifOn, hup]
  case uncorrectableError =>
    intro b s hhifOn
    change execPcieError (.uncorrectable b) s = _
    simp [execPcieError, when_pos, hhifOn]
  case correctableError =>
    intro s hhifOn hdue
    have hnext : exec (.pcieError .correctable) s =
        .next { emit (.pcie 2) (incF fHIF_CORR_CNT_CORR_CNT s) with
          hif := { s.hif with corrSec := 1, corrSince := s.clk } } := by
      change execPcieError .correctable s = _
      simp [execPcieError, when_pos, hhifOn, hdue]
    refine ⟨_, hnext, ?_, rfl, rfl, rfl⟩
    rw [min_comm]
    exact getF_addF_self (f := fHIF_CORR_CNT_CORR_CNT) 1 s (by decide)
  case pciePerstRelease =>
    intro s hshifperst
    change execPciePerstRelease s = _
    simp [execPciePerstRelease, hshifperst]

end Sys2Proof.Proofs
end

/-! PROOFS. Attachment, configuration requests, re-issued reads and the audio stream's clocks (chapters 05,
07, 09, 10). -/

section
open Sys2Proof Sys2Proof.Machine

namespace Sys2Proof.Proofs

/-- Settles O42: each event is its command's meaning where its guards hold; a stream packet of good memory
counts nothing. -/
theorem hostRemainder : Obligations.HostRemainder := by
  unfold Obligations.HostRemainder
  refine ⟨?vbusDetected, ?readReissue, ?pcieLinkUp, ?configRequest_1, ?configRequest_2, ?audioPllLock,
    ?referenceRestored, ?isoInPacket, ?isoFeedback⟩
  case vbusDetected =>
    intro s husbOn
    change execVbusDetected s = _
    simp [execVbusDetected, when_pos, husbOn]
  case readReissue =>
    intro tag r a d s htget hrretryDue hreadUnacked hdue
    change execReadReissue tag s = _
    simp [execReadReissue, htget, hrretryDue, hreadUnacked, hdue]
  case pcieLinkUp =>
    intro speed width s h1 hspeed hwidth hhifOn hperst hpcie hcoreReset
    change execPcieLinkUp speed width s = _
    rw [execPcieLinkUp, when_pos (by simpa [h1, hspeed, hhifOn, hperst, hpcie, hcoreReset,
      or_assoc] using hwidth)]
  case configRequest_1 =>
    intro c s hhifOn hsbootcoreReset hshifready
    change execConfigRequest c s = _
    simp [execConfigRequest, when_pos, hhifOn, hsbootcoreReset, hshifready]
  case configRequest_2 =>
    intro c s hhifOn hsbootcoreReset hshifready
    change execConfigRequest c s = _
    simp [execConfigRequest, when_pos, hhifOn, hsbootcoreReset, hshifready]
  case audioPllLock =>
    intro s hanaOn
    change execAudioPllLock s = _
    simp [execAudioPllLock, hanaOn]
  case referenceRestored =>
    intro s hanaOn
    change execReferenceRestored s = _
    simp [execReferenceRestored, hanaOn]
  case isoInPacket =>
    intro e u s hdeviceLive hstreaming hu hframe
    subst hu
    change execIsoInPacket .ok e s = _
    simp only [emit_usb] at hframe
    simp [execIsoInPacket, when_pos, packetEcc, hdeviceLive, hstreaming, hframe]
  case isoFeedback =>
    intro u v s hdeviceLive hstreaming hu hframe hv
    subst hu hv
    change execIsoInPacket .ok .ok s = _
    simp only [emit_usb] at hframe
    simp [execIsoInPacket, when_pos, packetEcc, hdeviceLive, hstreaming, hframe]

end Sys2Proof.Proofs
end

/-! PROOFS. Converters: faults, the rotation's check, the audio clock and the reference (chapter 05). -/

section
open Sys2Proof Sys2Proof.Machine

namespace Sys2Proof.Proofs

/-! The words of a converter's correction are registers of their own, which no step at the end of a check
writes. -/

theorem reg_rotNextConv_other {v o : Nat} (s : State) (h : o ≠ oANA_ROT_STAT) : reg (rotNextConv v s) o = reg
  s o := by
  have hconv : reg (setF fANA_ROT_STAT_CONV 0x7F s) o = reg s o := reg_setF_other h
  rw [rotNextConv]
  split
  · exact (reg_setF_other h).trans hconv
  · exact hconv

theorem reg_rotIdle_other {o : Nat} (s : State) (h : o ≠ oANA_ROT_STAT) : reg (rotIdle s) o = reg s o :=
  reg_setF_other h

theorem reg_wearStep (src kind u limit count : Nat) (s : State) (o : Nat) :
    reg (wearStep src kind u limit count s) o = reg s o := by
  rw [wearStep]
  split <;> rfl

theorem wearStep_ana (src kind u limit count : Nat) (s : State) : (wearStep src kind u limit count s).ana =
  s.ana := by
  rw [wearStep]
  split <;> rfl

theorem rotNextConv_rotChan (v : Nat) (s : State) : (rotNextConv v s).ana.rotChan = s.ana.rotChan := by
  rw [rotNextConv]
  split <;> rfl

/-- Settles O11: each event is its command's meaning; what a passed check keeps is read through the registers
that the steps after it write. -/
theorem analogConverters : Obligations.AnalogConverters := by
  unfold Obligations.AnalogConverters
  refine ⟨?faultOfIdle, ?faultOfServing, ?rotationStep, ?shortBeyondLimit, ?referenceBeyondLimit,
    ?checkPasses, ?rotationStall, ?audioPllUnlock, ?referenceFault⟩
  case faultOfIdle =>
    intro cv cause s hcv hcause hanaOn hcause2
    change execConverterFault cv cause s = _
    simp [execConverterFault, unit_pos, hcv, hcause, hanaOn, hcause2]
  case faultOfServing =>
    intro cv cause n u s hcv hcause hanaOn hu hconvChan
    subst hu
    change execConverterFault cv cause s = _
    simp [execConverterFault, unit_pos, hcv, hcause, hanaOn, hconvChan]
  case rotationStep =>
    intro v u s hanaOn hen hdue hphase hrotConv hconvState hu
    subst hu
    have hchan : convChan s v = none := by simp [convChan, hconvState]
    change execRotationStep s = _
    simp [execRotationStep, hanaOn, hen, Nat.not_lt.2 hdue, hphase, hrotConv, hconvState, hchan]
  case shortBeyondLimit =>
    intro short ref offset gain v s hanaOn hsanarotPhase hdue hv hconvState h8388608
    subst hv
    change execRotationCheckEnd short ref offset gain s = _
    simp [execRotationCheckEnd, hanaOn, hsanarotPhase, Nat.not_lt.2 hdue, hconvState, Nat.not_le.2 h8388608]
  case referenceBeyondLimit =>
    intro short ref offset gain v s hanaOn hsanarotPhase hdue hv hconvState hcheckCode h
    subst hv
    change execRotationCheckEnd short ref offset gain s = _
    simp [execRotationCheckEnd, hanaOn, hsanarotPhase, Nat.not_lt.2 hdue, hconvState, hcheckCode,
      Nat.not_le.2 h]
  case checkPasses =>
    intro short ref offset gain v s hanaOn hphase hdue hv hconvState hshort href hchan hlt
    subst hv
    change ∃ t, execRotationCheckEnd short ref offset gain s = .next t ∧ _
    have hcalo : oANA_CALO s.ana.rotNext ≠ oANA_ROT_STAT := by unfold oANA_CALO oANA_ROT_STAT; omega
    have hcalg : oANA_CALG s.ana.rotNext ≠ oANA_ROT_STAT := by unfold oANA_CALG oANA_ROT_STAT; omega
    have hconv : oANA_CALO s.ana.rotNext ≠ oANA_CONV s.ana.rotNext ∧ oANA_CALG s.ana.rotNext ≠ oANA_CONV
      s.ana.rotNext ∧
        oANA_CALO s.ana.rotNext ≠ oANA_CALG s.ana.rotNext := by
      unfold oANA_CALO oANA_CALG oANA_CONV
      omega
    simp only [execRotationCheckEnd, hanaOn, hphase, Nat.not_lt.2 hdue, hconvState, hshort, href,
      rotNextConv_rotChan,
      wearStep_ana, setF_ana, setReg_ana, hchan, decide_true, decide_false, Bool.and_self, Bool.not_true,
        bne_self_eq_false,
      Bool.or_self, Bool.false_eq_true, if_true, if_false]
    refine ⟨_, rfl, ?_, ?_, rfl⟩
    all_goals
      rw [reg_rotIdle_other _ (by assumption), reg_setF_other (by simp [fANA_CONV_STATE, hconv]),
        reg_rotNextConv_other _ (by assumption), reg_wearStep]
      refine (reg_congr (s := setReg (oANA_CALG s.ana.rotNext) gain (setReg (oANA_CALO s.ana.rotNext) offset
        s)) rfl _).trans ?_
      simp [hconv]
  case rotationStall =>
    intro d s hanaOn hen hsanarotWait hdue
    change execRotationStall s = _
    simp [execRotationStall, hanaOn, hen, hsanarotWait, hdue]
  case audioPllUnlock =>
    intro s hanaOn
    change execAudioPllUnlock s = _
    simp [execAudioPllUnlock, hanaOn]
  case referenceFault =>
    intro s hanaOn
    change execReferenceFault s = _
    simp [execReferenceFault, hanaOn]

end Sys2Proof.Proofs
end

/-! PROOFS. Discrete lines: commands, read-back, pulse widths, the watchdog and spare lines (chapter 04). -/

section
open Sys2Proof Sys2Proof.Machine

namespace Sys2Proof.Proofs

/-- Settles O9: each event is its command's meaning; the word of a spare register names the line that the
stand-in takes. -/
theorem discreteOutputs : Obligations.DiscreteOutputs := by
  unfold Obligations.DiscreteOutputs
  refine ⟨?dioCommand_1, ?dioCommand_2, ?dioReadback_1, ?dioReadback_2, ?pwmPeriodBoundary_1,
    ?pwmPeriodBoundary_2, ?dioWdogKick, ?dioWdogExpiry, ?dioLineConfig, ?dioSpareStandin, ?dioSpareReturn⟩
  case dioCommand_1 =>
    intro line c cs raw s hline hgetLine hgetLine2 hlineCause hlineMode hlinePar hraw
    subst hraw
    change execDioCommand line s = _
    simp [execDioCommand, unit_pos, hline, hgetLine, hgetLine2, hlineCause, hlineMode, hlinePar]
  case dioCommand_2 =>
    intro line c cs cause s hline hgetLine hgetLine2 hlineCause
    change execDioCommand line s = _
    simp [execDioCommand, unit_pos, hline, hgetLine, hgetLine2, hlineCause]
  case dioReadback_1 =>
    intro line pin c cs s hline hgetLine hgetLine2 hlineMode hdue hbit
    change execDioReadback line pin s = _
    simp [execDioReadback, unit_pos, hline, hgetLine, hgetLine2, hlineMode, hdue, hbit]
  case dioReadback_2 =>
    intro line pin c cs s hline hgetLine hgetLine2 hlineMode hdue hbit
    change execDioReadback line pin s = _
    simp [execDioReadback, unit_pos, hline, hgetLine, hgetLine2, hlineMode, hdue, hbit]
  case pwmPeriodBoundary_1 =>
    intro line l s hline hlineMode hlineOn hl hdue hlsafe hlcmds
    subst hl
    change execPwmPeriodBoundary line s = _
    simp [execPwmPeriodBoundary, unit_pos, hline, hlineMode, hlineOn, hdue, hlsafe, hlcmds]
  case pwmPeriodBoundary_2 =>
    intro line l c cs s hline hlineMode hlineOn hl hdue hlsettling hlcmds
    subst hl
    change execPwmPeriodBoundary line s = _
    simp [execPwmPeriodBoundary, unit_pos, hline, hlineMode, hlineOn, hdue, hlsettling, hlcmds]
  case dioWdogKick =>
    intro w v u s hw hmayWrite hkick hu
    subst hu
    change execDioWdogKick w v s = _
    simp [execDioWdogKick, wdogWrite, when_pos, guardWrite_may, hw, hmayWrite, hkick]
  case dioWdogExpiry =>
    intro s htime hsdiowdogCause hdue
    change execDioWdogExpiry s = _
    simp [execDioWdogExpiry, htime, hsdiowdogCause, hdue]
  case dioLineConfig =>
    intro w line cfg par u s hline hmayWrite hu hlineBusy hbadPair
    subst hu
    change execDioLineConfig w line cfg par s = _
    simp [execDioLineConfig, unit_pos, guardWrite_may, linePairWrite, applyLine, hline, hmayWrite, hlineBusy,
      hbadPair]
  case dioSpareStandin =>
    intro w k line s hk hline hmayWrite hlineBusy hcluster hown hnone
    have hword : bitsOf (wd (line % 512 + 512)).toNat 0 9 = line ∧ bitsOf (wd (line % 512 + 512)).toNat 9 1 =
      1 := by
      simp only [bitsOf, wd, BitVec.toNat_ofNat]
      omega
    have hgood : badSpare s k line = false := by simp [badSpare, hline, hcluster, hown, hnone]
    change execDioSpareStandin w k line s = _
    rw [execDioSpareStandin, unit_pos (decide_eq_true hk), guardWrite_may hmayWrite]
    simp only [spareWrite, applySpare, hword]
    simp [hlineBusy, hgood, hnone, bit]
  case dioSpareReturn =>
    intro w k line was s hk hmayWrite hline hlineBusy hwas
    subst hline hwas
    have hword : bitsOf (wd (getF s (fDIO_SPARE_LINE k))).toNat 0 9 = getF s (fDIO_SPARE_LINE k) ∧
        bitsOf (wd (getF s (fDIO_SPARE_LINE k))).toNat 9 1 = 0 := by
      have hlt : getF s (fDIO_SPARE_LINE k) < 2 ^ 9 := getF_lt s _
      simp only [bitsOf, wd, BitVec.toNat_ofNat]
      omega
    change execDioSpareReturn w k s = _
    rw [execDioSpareReturn, unit_pos (decide_eq_true hk), guardWrite_may hmayWrite]
    simp only [spareWrite, applySpare, hword]
    simp [hlineBusy, bit]

end Sys2Proof.Proofs
end

/-! PROOFS. USB: port power, audio, endpoint halts and isochronous packets (chapter 10). -/

section
open Sys2Proof Sys2Proof.Machine

namespace Sys2Proof.Proofs

/-- Settles O28: each event is its command's meaning; a port that is not ganged stands for itself alone. -/
theorem usbPorts : Obligations.UsbPorts := by
  unfold Obligations.UsbPorts
  refine ⟨?usbOverCurrent, ?setPortPower, ?setInterface_1, ?streamSample, ?setInterface_2,
    ?setCurFrequency_1, ?setCurFrequency_2, ?clearEndpointHalt, ?isoPacketMissed⟩
  case usbOverCurrent =>
    intro n lowAt u s hlo hdue hhi husbOn hganged hu hganged2
    subst hu
    change execUsbOverCurrent n lowAt s = _
    rw [execUsbOverCurrent, unit_pos (by simp [hlo, hhi]), when_pos (by simp [husbOn, hdue])]
    simp only [overCurrent, powerPorts, hganged, Bool.false_and, Bool.false_eq_true, if_false,
      List.foldl_cons, List.foldl_nil,
      hganged2]
  case setPortPower =>
    intro n u s hlo hhi husbOn hattached hhubConf hganged hu hganged2
    subst hu
    change execSetPortPower n true s = _
    rw [execSetPortPower, unit_pos (by simp [hlo, hhi]), when_pos (by simp [husbOn, hattached, hhubConf])]
    simp only [powerPorts, hganged, Bool.false_eq_true, if_false, List.foldl_cons, List.foldl_nil, hganged2]
  case setInterface_1 =>
    intro s hdeviceLive hsusbaudio
    change execSetInterface 1 s = _
    simp [execSetInterface, when_pos, hdeviceLive, hsusbaudio]
  case streamSample =>
    intro volts s husbOn hanaOn hstreaming hlength hdue
    change execStreamSample volts s = _
    rw [execStreamSample, when_pos (by simp [husbOn, hanaOn, hstreaming, hlength, streamDue, hdue])]
  case setInterface_2 =>
    intro a s hdeviceLive h2
    change execSetInterface a s = _
    simp [execSetInterface, when_pos, hdeviceLive, h2]
  case setCurFrequency_1 =>
    intro s hdeviceLive hsusbaudio
    change execSetCurFrequency 48000 s = _
    simp [execSetCurFrequency, when_pos, hdeviceLive, hsusbaudio]
  case setCurFrequency_2 =>
    intro hz s hdeviceLive hhz
    change execSetCurFrequency hz s = _
    simp [execSetCurFrequency, when_pos, hdeviceLive, hhz]
  case clearEndpointHalt =>
    intro e s he hdeviceLive
    change execClearEndpointHalt e s = _
    simp [execClearEndpointHalt, unit_pos, when_pos, he, hdeviceLive]
  case isoPacketMissed =>
    intro u s hdeviceLive hstreaming hu hdue
    subst hu
    change ∃ t, execIsoPacketMissed s = .next t ∧ _
    rw [execIsoPacketMissed, when_pos (by simp [hdeviceLive, hstreaming])]
    simp only [hdue, if_true]
    exact ⟨_, rfl, rfl⟩

end Sys2Proof.Proofs
end

/-! PROOFS. Twin messages, hand-over requests and cancellations (chapter 14). -/

section
open Sys2Proof Sys2Proof.Machine

namespace Sys2Proof.Proofs

/-- A twin message of the hub's peer is what its handler makes of the state without it. -/
theorem onTwin_fromPeer {op : Nat → Bool} {h : Frame → State → State} {f : Frame} {s u : State} (hruns :
  stwRuns s = true)
    (htake : takeTwin 1 op s = some (f, u)) (hpeer : fromPeer u f = true) : onTwin op h s = h f u := by
  simp only [onTwin, hruns, htake, hpeer, if_true]

/-- Settles O38: a message of the peer reaches its handler, whose branch the message names. -/
theorem twinMessages : Obligations.TwinMessages := by
  unfold Obligations.TwinMessages
  refine ⟨?unknownOpcode, ?hello, ?twinHelloTimer, ?twinPeerLost, ?twinHandover, ?twinHandoverOk,
    ?twinCancel_1, ?twinCancel_2, ?twinHandoverReq⟩
  case unknownOpcode =>
    intro f u s hruns htake hpeer hop
    change execTwinHello s = _
    rw [execTwinHello, onTwin_fromPeer hruns htake hpeer, if_neg hop]
  case hello =>
    intro f u s hruns htake hpeer hop
    change execTwinHello s = _
    rw [execTwinHello, onTwin_fromPeer hruns htake hpeer, if_pos hop]
  case twinHelloTimer =>
    intro u s hstwRuns htwinOn htwinRole hdue hu
    subst hu
    change execTwinHelloTimer s = _
    simp [execTwinHelloTimer, when_pos, hstwRuns, htwinOn, htwinRole, hdue]
  case twinPeerLost =>
    intro s htwinOn htwinRole hdue
    change execTwinPeerLost s = _
    simp [execTwinPeerLost, when_pos, htwinOn, htwinRole, hdue]
  case twinHandover =>
    intro f u s hruns htake hpeer hrole hready
    change execTwinHandover s = _
    rw [execTwinHandover, onTwin_fromPeer hruns htake hpeer]
    simp [hrole, hready]
  case twinHandoverOk =>
    intro f u h s hstwRuns htakeTwin hutwinhandover hfromPeer hpw hpw2 hhtaking
    change execTwinHandoverOk s = _
    simp [execTwinHandoverOk, when_pos, hstwRuns, htakeTwin, hutwinhandover, hfromPeer, hpw, hpw2, hhtaking]
  case twinCancel_1 =>
    intro f u h s hstwRuns htakeTwin hfromPeer hutwinhandover hhtaking hutwinstages
    change execTwinCancel s = _
    simp [execTwinCancel, when_pos, hstwRuns, htakeTwin, hfromPeer, hutwinhandover, hhtaking, hutwinstages]
  case twinCancel_2 =>
    intro h s hstwRuns htakeTwin hstwinhandover hhtaking hhok hhh
    change execTwinCancel s = _
    simp [execTwinCancel, when_pos, hstwRuns, htakeTwin, hstwinhandover, hhtaking, hhok, hhh]
  case twinHandoverReq =>
    intro w u s hmayWrite htwinOn hrole hnone hruns hu
    subst hu
    change execTwinHandoverReq w s = _
    simp [execTwinHandoverReq, guardWrite_may, handoverStart, hmayWrite, htwinOn, hrole, hnone, hruns]

end Sys2Proof.Proofs
end

/-! PROOFS. Submission rings: doorbells, descriptors and transfers (chapter 09). -/

section
open Sys2Proof Sys2Proof.Machine

namespace Sys2Proof.Proofs

/-- Settles O24: each event is its command's meaning on a ring in the state named; the layout of the
descriptor and INFO 0 are the model's choices (logs 18, 186). -/
theorem bridgeDma : Obligations.BridgeDma := by
  unfold Obligations.BridgeDma
  refine ⟨?sqTailDoorbell_1, ?sqTailDoorbell_2, ?descriptorFetched, ?dmaRead, ?dmaWrite, ?dmaFetch,
    ?fetchWaitResume, ?dmaFence, ?dmaHostReadFail_1, ?dmaHostReadFail_2⟩
  case sqTailDoorbell_1 =>
    intro q v s hq hmayWrite hruns
    change execSqTailDoorbell q v s = _
    simp [execSqTailDoorbell, tailWrite, unit_pos, guardWrite_may, hq, hmayWrite, hruns]
  case sqTailDoorbell_2 =>
    intro q v s hq hmayWrite hruns
    change execSqTailDoorbell q v s = _
    simp [execSqTailDoorbell, tailWrite, unit_pos, guardWrite_may, hq, hmayWrite, hruns]
  case descriptorFetched =>
    intro q bytes b ch s hq hb hruns hhead hroom
    subst hb
    change execDescriptorFetched q bytes s = _
    rw [execDescriptorFetched, unit_pos (decide_eq_true hq)]
    simp only [hruns, hroom, Option.isSome_some, bne_iff_ne.2 hhead, Bool.and_self, if_true]
  case dmaRead =>
    intro q ecc d s hq hgetSq hhifOn
    change execDmaRead q ecc s = _
    simp [execDmaRead, unit_pos, hq, hgetSq, hhifOn]
  case dmaWrite =>
    intro q data ecc d s hq hgetSq hhifOn
    change execDmaWrite q data ecc s = _
    simp [execDmaWrite, unit_pos, hq, hgetSq, hhifOn]
  case dmaFetch =>
    intro q d r s hq hwaiting hwait hfrozen hhifOn hdom hr
    subst hr
    change execDmaFetch q s = _
    simp [execDmaFetch, runFetch, unit_pos, hq, hwaiting, hwait, hfrozen, hhifOn, hdom]
  case fetchWaitResume =>
    intro q d s hq hwaitingFetch hdwait hqCount
    change execFetchWaitResume q s = _
    simp [execFetchWaitResume, unit_pos, hq, hwaitingFetch, hdwait, hqCount]
  case dmaFence =>
    intro q d l s hq hgetSq hdop hdfin hhifOn
    change execDmaFence q s = _
    simp [execDmaFence, unit_pos, hq, hgetSq, hdop, hdfin, hhifOn]
  case dmaHostReadFail_1 =>
    intro q e s hq hlo hhi hhifOn hruns hhead
    change execDmaHostReadFail q true e s = _
    simp [execDmaHostReadFail, unit_pos, hq, Nat.one_le_iff_ne_zero.1 hlo, Nat.not_lt.2 hhi, hhifOn, hruns,
      hhead]
  case dmaHostReadFail_2 =>
    intro q e d s hq hlo hhi hhifOn hfind hop
    change execDmaHostReadFail q false e s = _
    simp only [execDmaHostReadFail, hfind, hop]
    simp [unit_pos, hq, Nat.one_le_iff_ne_zero.1 hlo, Nat.not_lt.2 hhi, hhifOn]

end Sys2Proof.Proofs
end

/-! PROOFS. USB: the desk endpoints and notifications (chapter 10). -/

section
open Sys2Proof Sys2Proof.Machine

namespace Sys2Proof.Proofs

/-- Settles O26: each transfer of good memory is its command's meaning, down the branch that the lengths and
the desk's state name. -/
theorem usbDesk : Obligations.UsbDesk := by
  unfold Obligations.UsbDesk
  refine ⟨?deskWrite, ?deskWriteBusy, ?deskRead, ?wrongLength, ?ep2OutTransfer, ?ep2InTransfer,
    ?ep1Notification⟩
  case deskWrite =>
    intro first ws u s hlive hctl hstate hu
    subst hu
    change execDeskWrite first ws .ok s = _
    simp [execDeskWrite, when_pos, packetEcc, hlive, hctl, hstate]
  case deskWriteBusy =>
    intro first ws s hlive hctl hstate
    change execDeskWrite first ws .ok s = _
    simp [execDeskWrite, when_pos, packetEcc, hlive, hctl, hstate]
  case deskRead =>
    intro first n ws s hlive hctl hlength
    change execDeskRead first n .ok s = _
    simp [execDeskRead, when_pos, packetEcc, hlive, hctl, hlength]
  case wrongLength =>
    intro bytes ecc n s hdeviceLive hepHalted hn hn2
    subst hn
    change execEp2OutTransfer bytes ecc s = _
    simp [execEp2OutTransfer, when_pos, hdeviceLive, hepHalted, hn2]
  case ep2OutTransfer =>
    intro bytes n ws ch s hlive hhalted hn hlo hhi hhigh hlength hws hroom
    subst hws hn
    change execEp2OutTransfer bytes .ok s = _
    rw [execEp2OutTransfer, when_pos (by simp [hlive, hhalted])]
    dsimp only
    rw [if_neg (by omega)]
    simp only [packetEcc, hroom, reduceCtorEq, if_false]
  case ep2InTransfer =>
    intro i x ws u s hlive hhalted hfront hbody hu hshort
    subst hu
    have hend : (!flag (dropFront 65 s) fUSB_CTL_LEGACY && 4 * (ws.length + 1) % bulkMax (emit (.usb 3 0
        ((wd ws.length :: ws).flatMap dwordBytes)) (dropFront 65 s)) == 0) = false := by
      rcases hshort with hlegacy | hpart
      · rw [flag_emit] at hlegacy
        simp only [hlegacy, Bool.not_true, Bool.false_and]
      · simp only [beq_eq_false_iff_ne.2 hpart, Bool.and_false]
    change execEp2InTransfer .ok s = _
    rw [execEp2InTransfer, when_pos (by simp [hlive, hhalted]), hfront]
    simp only [hbody, packetEcc, reduceCtorEq, if_false, flag_emit, hend, Bool.false_eq_true]
  case ep1Notification =>
    intro b l u s husbOn hu hnotif hlive hhalted hsent
    subst hu
    change execEp1Notification .ok s = _
    rw [execEp1Notification, when_pos husbOn]
    simp only [hnotif, hlive, hhalted, hsent, packetEcc, Bool.not_false, Bool.and_self, if_true,
      reduceCtorEq, if_false]
    rfl

end Sys2Proof.Proofs
end

/-! PROOFS. USB: resets, requests, suspend, wake-up and attachment (chapter 10). -/

section
open Sys2Proof Sys2Proof.Machine

namespace Sys2Proof.Proofs

/-- Settles O27: each event is its command's meaning; a resume with no wake-up pending and none driven is the
host's. -/
theorem usbBus : Obligations.UsbBus := by
  unfold Obligations.UsbBus
  refine ⟨?usbBusReset_1, ?usbBusReset_2, ?usbSetup, ?usbSuspend, ?usbResume, ?remoteWake,
    ?remoteWakeTimeout, ?vbusLost, ?usbConnect_1, ?usbConnect_2, ?usbReattach, ?reattachTimer⟩
  case usbBusReset_1 =>
    intro high s husbOn hattached
    change execUsbBusReset high true s = _
    simp [execUsbBusReset, when_pos, husbOn, hattached]
  case usbBusReset_2 =>
    intro high s husbOn hattached
    change execUsbBusReset high false s = _
    simp [execUsbBusReset, when_pos, husbOn, hattached]
  case usbSetup =>
    intro a s husbOn hattached hsuspended
    change execUsbSetup (.setAddress a) s = _
    simp [execUsbSetup, hubRequest, setupStage, when_pos, husbOn, hattached, hsuspended]
  case usbSuspend =>
    intro s husbOn hattached hsuspended
    change execUsbSuspend s = _
    simp [execUsbSuspend, when_pos, husbOn, hattached, hsuspended]
  case usbResume =>
    intro k s hdue hsuspended hattached husbOn hpending hdriven
    change ∃ t, execUsbResume k s = .next t ∧ _
    have hkind : wakeKind s k = (1, 0) := by simp [wakeKind, hpending, hdriven]
    simp only [execUsbResume, hsuspended, hattached, hdue, husbOn, hkind, decide_true, Bool.and_self, if_true]
    refine ⟨_, rfl, ?_, ?_, ?_, rfl⟩
    · exact flag_setF_self 0 _ (by decide)
    · rw [flag_setF_other _ _ (by decide) (by decide), flag_setUsb]
      exact flag_setF_self 1 _ (by decide)
    · rw [getF_setF_other _ _ (by decide) (by decide), getF_setUsb,
      getF_setF_other _ _ (by decide) (by decide)]
      exact getF_setF_self 1 _ (by decide)
  case remoteWake =>
    intro src d at0 s h1 hsrc husbOn hsuspended hsusbwakePending hmayWake hsusbsuspendAt hdue hsusbkDriven
    change execRemoteWake src s = _
    simp [execRemoteWake, unit_pos, when_pos, h1, hsrc, husbOn, hsuspended, hsusbwakePending, hmayWake,
      hsusbsuspendAt, hdue, hsusbkDriven]
  case remoteWakeTimeout =>
    intro d s hsusbkDriven hsuspended hdue
    change execRemoteWakeTimeout s = _
    simp [execRemoteWakeTimeout, hsusbkDriven, hsuspended, hdue]
  case vbusLost =>
    intro s husbOn hattached
    change execVbusLost s = _
    simp [execVbusLost, pullUpOff, when_pos, husbOn, hattached]
  case usbConnect_1 =>
    intro w s hmayWrite
    change execUsbConnect w false s = _
    simp [execUsbConnect, connectWrite, guardWrite_may, hmayWrite]
  case usbConnect_2 =>
    intro w s hmayWrite hlegacy
    change execUsbConnect w true s = _
    simp [execUsbConnect, connectWrite, guardWrite_may, hmayWrite, hlegacy]
  case usbReattach =>
    intro w u s hmayWrite hattached hu
    subst hu
    change execUsbReattach w s = _
    simp [execUsbReattach, reattachWrite, guardWrite_may, hmayWrite, hattached]
  case reattachTimer =>
    intro d s hsusbreattachAt hdue hattached
    change execReattachTimer s = _
    simp [execReattachTimer, hsusbreattachAt, hdue, hattached]

end Sys2Proof.Proofs
end

/-! PROOFS. Power states: requests, drains, wake-ups, clocks and orders (chapters 13 and 16). -/

section
open Sys2Proof Sys2Proof.Machine

namespace Sys2Proof.Proofs

/-- A retention check that found nothing marks no domain. -/
theorem uvMask_none (s : State) : uvMask ⟨0, 0, 0⟩ s = 0 := by
  simp [uvMask, uvDomains, bitsOf]

theorem failedBanks_none : failedBanks ⟨0, 0, 0⟩ = [] := by decide

/-- No wake edge falls into an entry's frozen cycles once the entries are over. -/
theorem edgesFrozen_of_over {s : State} (h : entering s = false) : edgesFrozen s = false := by
  cases he : s.pwr.entry with
  | none => simp [edgesFrozen, he]
  | some e =>
    simp only [entering, he, Option.any_some, decide_eq_false_iff_not] at h
    simp only [edgesFrozen, he, Option.any_some, Bool.and_eq_false_iff, decide_eq_false_iff_not]
    omega

/-- Settles O36: each event is its command's meaning; a wake order finds no frozen cycles once no entry runs.
-/
theorem powerStates : Obligations.PowerStates := by
  unfold Obligations.PowerStates
  refine ⟨?pwrReqGo, ?drainComplete, ?drainTimeout_1, ?drainTimeout_2, ?pwrDomOffWrite, ?wakeEvent,
    ?wakeEvent_2, ?wakeEvent_3, ?pllLockTimeout, ?domainAckTimeout, ?nightOrder_1, ?nightOrderSleep,
    ?nightOrderWake, ?orderResend, ?xtalStop⟩
  case pwrReqGo =>
    intro w v s hmayWrite hgo
    change execPwrReqGo w v s = _
    simp [execPwrReqGo, pwrReqWrite, guardWrite_may, hmayWrite, hgo]
  case drainComplete =>
    intro r s hspwrdomDrain hspwrreq hreqDrained
    change execDrainComplete s = _
    simp [execDrainComplete, hspwrdomDrain, hspwrreq, hreqDrained]
  case drainTimeout_1 =>
    intro r s hspwrdomDrain hspwrreq hdue hreqDrained hrforce
    change execDrainTimeout s = _
    simp [execDrainTimeout, hspwrdomDrain, hspwrreq, hdue, hreqDrained, hrforce]
  case drainTimeout_2 =>
    intro r s hspwrdomDrain hspwrreq hdue hreqDrained hrforce
    change execDrainTimeout s = _
    simp [execDrainTimeout, hspwrdomDrain, hspwrreq, hdue, hreqDrained, hrforce]
  case pwrDomOffWrite =>
    intro w v s hmayWrite hold hnew hdrain
    change ∃ t, execPwrDomOffWrite w v s = .next t ∧ _
    have hzero : (0 : Word).toNat = 0 := rfl
    have hbits : bitsOf v.toNat 0 6 < 2 ^ 6 := bitsOf_lt _ _ _
    have hword : reg (writeBits oPWR_DOM_OFF 0x3F v.toNat s) oPWR_DOM_OFF = wd (bitsOf v.toNat 0 6) := by
      rw [reg_writeBits, if_pos rfl, hold]
      simp only [mergeBits, hzero, Nat.zero_and, Nat.zero_or]
      rw [show (0x3F : Nat) = 2 ^ 6 - 1 from rfl, Nat.and_two_pow_sub_one_eq_mod]
      rfl
    have hnat : (wd (bitsOf v.toNat 0 6)).toNat = bitsOf v.toNat 0 6 := by
      rw [wd, BitVec.toNat_ofNat]
      omega
    have hadd : bitsOf v.toNat 0 6 &&& (0x3F ^^^ 0) = bitsOf v.toNat 0 6 := by
      rw [show (0x3F ^^^ 0 : Nat) = 2 ^ 6 - 1 from rfl, Nat.and_two_pow_sub_one_eq_mod,
        Nat.mod_eq_of_lt hbits]
    have hoff : offBits 0 = [] := rfl
    have hnone : (writeBits oPWR_DOM_OFF 0x3F v.toNat s).pwr.domDrain = none := hdrain
    rw [execPwrDomOffWrite, guardWrite_may hmayWrite, domOffWrite]
    simp only [hword, hold, hnat, hadd, hnone, hzero, Nat.zero_and, hoff, List.foldl_nil, Nat.zero_or,
      bne_iff_ne.2 hnew, if_true]
    exact ⟨_, rfl, rfl, hword⟩
  case wakeEvent =>
    intro act bad u s hentering hpwrState hu
    subst hu
    change execWakeEvent act bad s = _
    simp [execWakeEvent, hentering, hpwrState]
  case wakeEvent_2 =>
    intro act u s hentering hstate hu
    subst hu
    change execWakeEvent act ⟨0, 0, 0⟩ s = _
    have hon : pwrState s ≠ 0 ∧ pwrState s ≠ 3 := by omega
    simp only [execWakeEvent, hentering, hon, uvMask_none, failedBanks_none, if_false, if_true,
      Bool.false_eq_true]
    rfl
  case wakeEvent_3 =>
    intro act bad s hentering hpwrState
    change execWakeEvent act bad s = _
    simp [execWakeEvent, hentering, hpwrState]
  case pllLockTimeout =>
    intro b d s hpll hdue
    change execPllLockTimeout b s = _
    rw [execPllLockTimeout, hpll]
    dsimp only
    rw [if_pos hdue]
    rfl
  case domainAckTimeout =>
    intro i d s hi hdom hdue hdomOn
    change execDomainAckTimeout i s = _
    rw [execDomainAckTimeout, unit_pos (decide_eq_true hi), when_pos (by simp [hdom, hdue, hdomOn]), hdom]
    simp [tclear]
  case nightOrder_1 =>
    intro s hspwrorders
    change execNightOrder s = _
    simp [execNightOrder, hspwrorders]
  case nightOrderSleep =>
    intro r f l u v s horders hv hnumbered hr hcoupler hu hcoupler2
    change execNightOrder s = _
    rw [execNightOrder, horders]
    dsimp only
    rw [← hv, followOrder, ← hr]
    simp only [hnumbered, beq_self_eq_true, Bool.true_or, Bool.not_true, Bool.or_self, Bool.false_eq_true,
      if_false, if_true,
      ← hu, hcoupler2, Bool.false_and]
  case nightOrderWake =>
    intro r f l v s horders hv hnumbered hr hstate hentering
    have hasleep : asleep (setPwr { v.pwr with orderSeen := tset (fun _ => 0) r 0 v.pwr.orderSeen } v) = true
      := by
      simp only [pwrState] at hstate
      simp [asleep, hstate]
    have hopen : edgesFrozen (setPwr { v.pwr with orderSeen := tset (fun _ => 0) r 0 v.pwr.orderSeen } v) =
      false :=
      edgesFrozen_of_over (s := setPwr { v.pwr with orderSeen := tset (fun _ => 0) r 0 v.pwr.orderSeen } v)
        hentering
    change ∃ t, execNightOrder s = .next t ∧ _
    rw [execNightOrder, horders]
    dsimp only
    rw [← hv, followOrder, ← hr]
    simp only [hnumbered, beq_self_eq_true, Bool.true_or, Bool.not_true, Bool.or_self, Bool.false_eq_true,
      if_false, if_true,
      OfNat.zero_ne_ofNat, hasleep, noteEdge, hopen]
    exact ⟨_, rfl, (mem_insSet _ _ _).2 (.inl rfl), by rw [hv]; rfl, by rw [hv]; rfl⟩
  case orderResend =>
    intro f n d u s hspwrorderLeft hdue hu
    subst hu
    change execOrderResend s = _
    simp [execOrderResend, hspwrorderLeft, hdue]
  case xtalStop =>
    intro s
    change execXtalStop s = _
    simp [execXtalStop]

end Sys2Proof.Proofs
end

/-! PROOFS. The watchdog, the resets and the start of the steward (chapters 11 and 16). -/

section
open Sys2Proof Sys2Proof.Machine

namespace Sys2Proof.Proofs

/-! The state of a core reset. -/

theorem coreResetBy_boot (c : ResetCause) (s : State) :
    (coreResetBy c s).boot.coreReset = true ∧ resetCode c ∈ (coreResetBy c s).boot.causes := by
  simp [coreResetBy, coreDomains, mem_insSet]

theorem getF_rstCause_coreDomains (off : Bool) (t : State) :
    getF (coreDomains off t) fGLB_RST_CAUSE = getF t fGLB_RST_CAUSE := by
  simp [coreDomains, getF, fGLB_RST_CAUSE, oGLB_RST, oPWR_DOM_STAT0, oPWR_DOM_STAT1]

theorem getF_with_boot (b : Boot) (s : State) (f : Fld) : getF { s with boot := b } f = getF s f := rfl

theorem getF_rstCause_coreResetBy (c : ResetCause) (s : State) :
    getF (coreResetBy c s) fGLB_RST_CAUSE = resetCode c := by
  have hcode : resetCode c % 2 ^ fGLB_RST_CAUSE.w = resetCode c := by cases c <;> rfl
  have hset (t : State) : getF (setF fGLB_RST_CAUSE (resetCode c) t) fGLB_RST_CAUSE = resetCode c :=
    (getF_setF_self _ _ (by decide)).trans hcode
  rw [coreResetBy, getF_rstCause_coreDomains, getF_with_boot]
  split
  · rw [getF_setF_other _ _ (by decide) (by decide), hset]
  · rw [hset]

theorem coreResetBy_cleared (c : ResetCause) (s : State) :
    (coreResetBy c s).stw.booted = false ∧ (coreResetBy c s).ring.rx = [] := by
  cases c <;> simp [coreResetBy, coreDomains, resetCode, aonClear, coreClear, flashSteward, Steward.init,
    State.reset, Ring.init]
/-! What the end of the Archivist's start leaves of `booted` and of the time of the start. -/

theorem startField_startedAt (s : State) : (startField s).boot.startedAt = s.boot.startedAt := by
  by_cases hstarted : s.boot.fieldStarted = true
  · simp [startField, hstarted]
  · have h : Only [.out, .regs, .ready, .cnts, .stk, .swq, .places, .engines, .dio, .ana, .ring, .hif, .stw,
    .flt]
        { s with boot := { s.boot with fieldStarted := true } } (startField s) := by
      simp [startField, hstarted]
    exact (congrArg Boot.startedAt (h.same .boot (by decide))).trans rfl

/-- The first part of the Archivist's start: the settings shelf, the ports and the active edition are loaded.
-/
def shelfLoaded (s : State) : State :=
  let s := setF fPWR_STATUS_CLK 1 (setPwr { s.pwr with pllAt := some s.clk } s)
  let s := setReg oGLB_FW (wd (getVol s (runningVol s)).version) s
  loadActive (startPorts 1 (startPorts 0 (restoreShelf (takeShelfOf s))))

/-- The second part: the steward is booted, and what it loaded is shown. -/
def startShown (s : State) : State :=
  let s := setStw { s.stw with booted := true, kickAt := s.clk } s
  let s := setF fGLB_BOOT_STAGE (stageAfterLoad s) s
  let s := showArmed s.stw.armed (getF s fDSK_ED_COUNT_COUNT) s
  let s := hostReady (showVolArmed s)
  setBoot { s.boot with startedAt := some s.clk } s

/-- The last part: the field starts where ring time was locked, and the raises held are recorded. -/
def startEnds (s : State) : State := drainRaises (noteServing (if s.rtime.everLocked then startField s else
  s))

theorem shelfLoaded_clk (s : State) : (shelfLoaded s).clk = s.clk := by
  have h : Kept s (shelfLoaded s) :=
    loadActive_kept _ (startPorts_kept _ _ (startPorts_kept _ _ (restoreShelf_kept _ (takeShelfOf_kept _
      (setReg_kept _ _ _ (setF_kept _ _ _ (setPwr_kept _ _ (Kept.refl s))))))))
  exact h.2.1

/-- Showing what was loaded leaves the clock and `booted`. -/
theorem hostReady_showVolArmed_showArmed (a : Option Armed) (n : Nat) (s : State) :
    (hostReady (showVolArmed (showArmed a n s))).clk = s.clk ∧
      (hostReady (showVolArmed (showArmed a n s))).stw.booted = s.stw.booted := by
  have hshown : Only [.regs] s (showVolArmed (showArmed a n s)) := by
    simp only [showVolArmed, showArmed]
    repeat' split
    all_goals simp
  have h : Only [.regs, .hif, .usb, .flt] s (hostReady (showVolArmed (showArmed a n s))) := by
    have hready (t : State) : Only [.regs, .hif, .usb, .flt] t (hostReady t) := by simp [hostReady,
      connectWrite]
    exact (hshown.mono (by simp)).trans (hready _)
  exact ⟨h.same .clk (by decide), h.same .booted (by decide)⟩

theorem startShown_boot (s : State) : (startShown s).stw.booted = true ∧ (startShown s).boot.startedAt = some
  s.clk := by
  simp only [startShown]
  exact ⟨(hostReady_showVolArmed_showArmed _ _ _).2, congrArg some (hostReady_showVolArmed_showArmed _ _ _).1⟩

theorem startEnds_boot (s : State) :
    (startEnds s).stw.booted = s.stw.booted ∧ (startEnds s).boot.startedAt = s.boot.startedAt := by
  have hlast (t : State) : Only [.regs, .cnts, .swq, .ring, .stw,
    .flt] t (drainRaises (noteServing t)) := by simp
  have hfield : Only [.out, .regs, .ready, .cnts, .stk, .swq, .places, .engines, .dio, .ana, .ring, .hif,
    .stw, .flt, .boot]
      s (startField s) := by simp
  rw [startEnds]
  split
  · exact ⟨((hlast _).same .booted (by decide)).trans (hfield.same .booted (by decide)),
      (congrArg Boot.startedAt ((hlast _).same .boot (by decide))).trans (startField_startedAt s)⟩
  · exact ⟨(hlast s).same .booted (by decide), congrArg Boot.startedAt ((hlast s).same .boot (by decide))⟩

/-- Settles O41: the state of a reset is read part by part, and the Archivist's start is cut into what it
loads, what it shows and how it ends (logs 99, 137, 177). -/
theorem resetsBoot : Obligations.ResetsBoot := by
  unfold Obligations.ResetsBoot
  refine ⟨?lockstepMismatch, ?pairRestarts, ?bothFail, ?spareJoins, ?restartPoint, ?restartedSteward,
    ?endedTrial, ?aonResetEnds, ?aonResetBegins, ?coreReset, ?coreResetRelease, ?archivistStart,
    ?fieldStartTimer⟩
  case lockstepMismatch =>
    intro s hdomOn hsbootcoreReset hstopped hsstwhaltedAt
    change execLockstepMismatch s = _
    simp [execLockstepMismatch, when_pos, hdomOn, hsbootcoreReset, hstopped, hsstwhaltedAt]
  case pairRestarts =>
    intro s hhalted
    change execCoreSelftestEnd false false s = _
    rw [execCoreSelftestEnd, when_pos (Option.isSome_iff_ne_none.2 hhalted)]
    rfl
  case bothFail =>
    intro s hhalted
    change execCoreSelftestEnd true true s = _
    rw [execCoreSelftestEnd, when_pos (Option.isSome_iff_ne_none.2 hhalted)]
    rfl
  case spareJoins =>
    intro s hhalted hdegraded
    change execCoreSelftestEnd false true s = _
    rw [execCoreSelftestEnd, when_pos (Option.isSome_iff_ne_none.2 hhalted)]
    simp [hdegraded]
  case restartPoint =>
    intro s hstwRuns
    change execRestartPoint s = _
    simp [execRestartPoint, when_pos, hstwRuns]
  case restartedSteward =>
    intro s hdue hdomOn hsbootcoreReset hstopped hstage hsstwbooted hssectrial
    change execAonWatchdogExpiry s = _
    simp [execAonWatchdogExpiry, when_pos, hdue, hdomOn, hsbootcoreReset, hstopped, hstage, hsstwbooted,
      hssectrial]
  case endedTrial =>
    intro s hdue hdomOn hcoreReset hstopped hstage htrial
    have hsome : s.sec.trial.isSome = true := Option.isSome_iff_ne_none.2 htrial
    change execAonWatchdogExpiry s = _
    rw [execAonWatchdogExpiry, when_pos (by simp [hdue, hdomOn, hcoreReset, hstopped, hstage, hsome]),
      if_pos hsome]
  case aonResetEnds =>
    intro s
    change execAonReset true s = _
    simp [execAonReset]
  case aonResetBegins =>
    intro s
    change execAonReset false s = _
    simp [execAonReset]
  case coreReset =>
    intro c s
    obtain ⟨hreset, hcause⟩ := coreResetBy_boot c s
    obtain ⟨hbooted, hrx⟩ := coreResetBy_cleared c s
    exact ⟨coreResetBy c s, rfl, rfl, hreset, hcause, getF_rstCause_coreResetBy c s, hbooted, hrx⟩
  case coreResetRelease =>
    intro straps cores ok u s hcoreReset hquiet h0 h4 hu
    subst hu
    change execCoreResetRelease straps cores ok s = _
    have hmay : mayRelease s = true := by
      simp only [mayRelease, hcoreReset, hquiet, h0, h4, decide_true]
      rfl
    rw [execCoreResetRelease, when_pos hmay]
  case archivistStart =>
    intro s hstage hbooted hdomOn hcoreReset hstopped hhalted
    change ∃ t, execArchivistStart s = .next t ∧ _
    rw [execArchivistStart, when_pos (by simp [hstage, hbooted, hdomOn, hcoreReset, hstopped, hhalted])]
    obtain ⟨hbooted, hstarted⟩ := startShown_boot (shelfLoaded s)
    obtain ⟨hb, hs⟩ := startEnds_boot (startShown (shelfLoaded s))
    exact ⟨startEnds (startShown (shelfLoaded s)), rfl, hb.trans hbooted,
      hs.trans (hstarted.trans (by rw [shelfLoaded_clk]))⟩
  case fieldStartTimer =>
    intro d s hsbootstartedAt hdue hstwRuns
    change execFieldStartTimer s = _
    simp [execFieldStartTimer, hsbootstartedAt, hdue, hstwRuns]

end Sys2Proof.Proofs
end

/-! PROOFS. Twin: the claim, hand-over times, rotation and both active (chapter 14). -/

section
open Sys2Proof Sys2Proof.Machine

namespace Sys2Proof.Proofs

/-! A claim round (R488): the claims send their four bits, highest first, and a slot that any of them pulls
leaves those
that pull it. So the highest claim is left. -/

theorem mem_claimSlot {k x : Nat} {l : List Nat} :
    x ∈ claimSlot l k ↔ x ∈ l ∧ (claimPulls k x = true ∨ ∀ y ∈ l, claimPulls k y = false) := by
  rw [claimSlot]
  split
  · next hany =>
    obtain ⟨y, hy, hpulls⟩ := List.any_eq_true.1 hany
    rw [List.mem_filter]
    refine and_congr_right fun _ => ⟨.inl, fun h => h.resolve_right fun hnone => ?_⟩
    simp [hnone y hy] at hpulls
  · next hany =>
    have hnone : ∀ y ∈ l, claimPulls k y = false := by simpa using hany
    exact ⟨fun h => ⟨h, .inr hnone⟩, fun h => h.1⟩

theorem claimLeft_subset {l : List Nat} {x : Nat} (h : x ∈ claimLeft l) : x ∈ l := by
  simp only [claimLeft, List.foldl_cons, List.foldl_nil] at h
  exact (mem_claimSlot.1 (mem_claimSlot.1 (mem_claimSlot.1 (mem_claimSlot.1 h).1).1).1).1

/-- The bits of a claim above those that the slots still to come send. -/
def sentBits (k x : Nat) : Nat := x / 2 ^ (4 - k)

/-- After k slots the highest claim is left, and every claim left agrees with it in the bits sent. -/
def HighestLeft (m k : Nat) (l : List Nat) : Prop := m ∈ l ∧ ∀ x ∈ l, x ≤ m ∧ sentBits k x = sentBits k m

theorem claimPulls_iff {k x : Nat} : claimPulls k x = decide (x / 2 ^ (3 - k) % 2 = 1) := by
  rw [claimPulls, Nat.testBit_eq_decide_div_mod_eq]

theorem highestLeft_claimSlot {m k : Nat} {l : List Nat} (hk : k < 4) (h : HighestLeft m k l) :
    HighestLeft m (k + 1) (claimSlot l k) := by
  obtain ⟨hm, hl⟩ := h
  have hstep (x : Nat) : x / 2 ^ (4 - k) = x / 2 ^ (3 - k) / 2 := by
    rw [Nat.div_div_eq_div_mul, ← Nat.pow_succ, Nat.succ_eq_add_one, show 3 - k + 1 = 4 - k by omega]
  have hmono {x : Nat} (hx : x ≤ m) : x / 2 ^ (3 - k) ≤ m / 2 ^ (3 - k) := Nat.div_le_div_right hx
  have hhead {x : Nat} (hx : x ∈ l) : x / 2 ^ (3 - k) / 2 = m / 2 ^ (3 - k) / 2 := by
    have := (hl x hx).2
    rwa [sentBits, sentBits, hstep, hstep] at this
  refine ⟨mem_claimSlot.2 ⟨hm, ?_⟩, fun x hx => ?_⟩
  · by_cases hpulls : claimPulls k m = true
    · exact .inl hpulls
    · refine .inr fun y hy => ?_
      have hle := hmono (hl y hy).1
      have heq := hhead hy
      rw [claimPulls_iff, decide_eq_true_eq] at hpulls
      rw [claimPulls_iff, decide_eq_false_iff_not]
      omega
  · obtain ⟨hxl, hsent⟩ := mem_claimSlot.1 hx
    refine ⟨(hl x hxl).1, ?_⟩
    have hle := hmono (hl x hxl).1
    have heq := hhead hxl
    rw [sentBits, sentBits, show 4 - (k + 1) = 3 - k by omega]
    rcases hsent with hpulls | hnone
    · rw [claimPulls_iff, decide_eq_true_eq] at hpulls
      omega
    · have hx0 := hnone x hxl
      have hm0 := hnone m hm
      rw [claimPulls_iff, decide_eq_false_iff_not] at hx0 hm0
      omega

/-- The highest claim of a round is the only one left. -/
theorem claimLeft_highest {m : Nat} {l : List Nat} (hm : m ∈ l) (hlt : m < 16) (hmax : ∀ x ∈ l, x ≤ m) :
    m ∈ claimLeft l ∧ ∀ x ∈ claimLeft l, x = m := by
  have h0 : HighestLeft m 0 l := ⟨hm, fun x hx => ⟨hmax x hx, by
    have := hmax x hx
    simp only [sentBits]
    omega⟩⟩
  have h4 : HighestLeft m 4 (claimLeft l) :=
    highestLeft_claimSlot (by decide) (highestLeft_claimSlot (by decide) (highestLeft_claimSlot (by decide)
      (highestLeft_claimSlot (by decide) h0)))
  exact ⟨h4.1, fun x hx => by simpa [sentBits] using (h4.2 x hx).2⟩

theorem headD_of_forall_eq {m : Nat} {l : List Nat} (hm : m ∈ l) (h : ∀ x ∈ l, x = m) : l.headD 0 = m := by
  cases l with
  | nil => simp at hm
  | cons a l => exact h a List.mem_cons_self

theorem le_foldl_max (l : List Nat) (a : Nat) : a ≤ l.foldl max a ∧ ∀ x ∈ l, x ≤ l.foldl max a := by
  induction l generalizing a with
  | nil => simp
  | cons b l ih =>
    obtain ⟨hstart, hrest⟩ := ih (max a b)
    refine ⟨(le_max_left a b).trans hstart, fun x hx => ?_⟩
    rcases List.mem_cons.1 hx with rfl | hx
    · exact (le_max_right a x).trans hstart
    · exact hrest x hx

theorem stagesDisable_ringNs (s : State) : (stagesDisable s).ringNs = s.ringNs := by
  have h : Only [.out, .regs, .ready, .cnts, .stk, .swq, .places, .engines, .ring, .hif, .stw, .flt, .twin] s
      (stagesDisable s) := by simp
  exact h.same .ringNs (by decide)

theorem stagesEnable_ringNs (s : State) : (stagesEnable s).ringNs = s.ringNs := by
  have h : Only [.out, .regs, .ready, .cnts, .stk, .swq, .places, .engines, .ring, .hif, .stw, .flt, .twin] s
      (stagesEnable s) := by simp
  exact h.same .ringNs (by decide)

theorem twinChange_ringNs (role cause : Nat) (s : State) : (twinChange role cause s).ringNs = s.ringNs := by
  have h : Only [.regs, .twin] s (twinChange role cause s) := by simp
  exact h.same .ringNs (by decide)

/-- A round that this hub makes no claim in shows what is left of the others' claims. -/
theorem exec_claimRound_others {l : List Nat} {s : State} (htwinOn : twinOn s = true)
    (hen : flag s fTWN_CTL_CLAIM_EN = true) (hclaims : twinClaims s = false) :
    ∃ t, exec (.claimRound l) s = .next t ∧
      getF t fTWN_STAT_SEEN = (claimLeft (l.map (· % 16))).headD 0 ∧
      flag t fTWN_STAT_WON = false ∧
      twinRole t = twinRole s := by
  change ∃ t, execClaimRound l s = .next t ∧ _
  rw [execClaimRound, when_pos (by simp [htwinOn, hen])]
  simp only [hclaims, Bool.false_and, Bool.false_eq_true, if_false, List.append_nil]
  have htop : (claimLeft (l.map (· % 16))).headD 0 % 2 ^ fTWN_STAT_SEEN.w = (claimLeft (l.map (· %
    16))).headD 0 := by
    refine Nat.mod_eq_of_lt ?_
    cases hleft : claimLeft (l.map (· % 16)) with
    | nil => decide
    | cons a rest =>
      obtain ⟨x, -, hx⟩ := List.mem_map.1 (claimLeft_subset (hleft ▸ List.mem_cons_self : a ∈ _))
      rw [List.headD_cons, ← hx]
      exact Nat.mod_lt _ (by decide)
  have hseen (t : State) : getF (setF fTWN_STAT_WON (bit false) (setF fTWN_STAT_SEEN
      ((claimLeft (l.map (· % 16))).headD 0) t)) fTWN_STAT_SEEN = (claimLeft (l.map (· % 16))).headD 0 := by
    rw [getF_setF_other _ _ (by decide) (by decide), getF_setF_self _ _ (by decide), htop]
  have hwon (t : State) : flag (setF fTWN_STAT_WON (bit false) t) fTWN_STAT_WON = false := flag_setF_self 0 t
    (by decide)
  have hrole (v w : Nat) (t : State) : getF (setF fTWN_STAT_WON v (setF fTWN_STAT_SEEN w t)) fTWN_STAT_ROLE =
      getF t fTWN_STAT_ROLE := by
    rw [getF_setF_other _ _ (by decide) (by decide), getF_setF_other _ _ (by decide) (by decide)]
  refine ⟨_, rfl, ?_, ?_, ?_⟩
  all_goals split
  · exact hseen s
  · rw [getF_setTwin, hseen]
  · exact hwon _
  · rw [flag_setTwin, hwon]
  · rw [twinRole, hrole, twinRole]
  · rw [twinRole, getF_setTwin, hrole, twinRole]

/-- A round that this hub claims and is not outdone in is won, and noted. -/
theorem exec_claimRound_won {l : List Nat} {s : State} (htwinOn : twinOn s = true) (hclaims : twinClaims s =
  true)
    (hmax : (l.map (· % 16)).foldl max 0 ≤ getF s fTWN_CTL_CLAIM_NUM) (hrole : twinRole s ≠ 3) :
    ∃ t, exec (.claimRound l) s = .next t ∧
      flag t fTWN_STAT_WON = true ∧
      getF t fTWN_STAT_SEEN = getF s fTWN_CTL_CLAIM_NUM ∧
      t.twin.roundAt = s.ringNs / 8000 := by
  have hen : flag s fTWN_CTL_CLAIM_EN = true := by
    simp only [twinClaims, Bool.and_eq_true] at hclaims
    exact hclaims.1.1.2
  have hown : getF s fTWN_CTL_CLAIM_NUM < 16 := getF_lt s _
  obtain ⟨hleft, hall⟩ := claimLeft_highest (l := l.map (· % 16) ++ [getF s fTWN_CTL_CLAIM_NUM])
    (m := getF s fTWN_CTL_CLAIM_NUM) (by simp) hown fun x hx => by
      rcases List.mem_append.1 hx with hx | hx
      · exact ((le_foldl_max _ 0).2 x hx).trans hmax
      · exact (List.mem_singleton.1 hx).le
  have hhead := headD_of_forall_eq hleft hall
  have hne : l.map (· % 16) ++ [getF s fTWN_CTL_CLAIM_NUM] ≠ [] := by simp
  have hrole' (v w : Nat) (x : Twin) (t : State) (ht : twinRole t ≠ 3) :
      twinRole (setTwin x (setF fTWN_STAT_WON v (setF fTWN_STAT_SEEN w t))) ≠ 3 := by
    rwa [twinRole, getF_setTwin, getF_setF_other _ _ (by decide) (by decide),
      getF_setF_other _ _ (by decide) (by decide)]
  change ∃ t, execClaimRound l s = .next t ∧ _
  rw [execClaimRound, when_pos (by simp [htwinOn, hen])]
  simp only [hclaims, if_true, hhead, List.contains_iff_mem.2 hleft, Bool.and_self,
    List.isEmpty_eq_false_iff.2 hne, Bool.false_eq_true, if_false, hrole' _ _ _ _ hrole, decide_false,
      Bool.false_and, Bool.and_false]
  refine ⟨_, rfl, ?_, ?_, rfl⟩
  · rw [flag_setTwin, flag_setF_self _ _ (by decide)]
    rfl
  · rw [getF_setTwin, getF_setF_other _ _ (by decide) (by decide), getF_setF_self _ _ (by decide)]
    exact Nat.mod_eq_of_lt hown

/-- Settles O39: a round's slots leave the highest claim, and the other events are their commands' meaning at
the time that the conditions give (log 128). -/
theorem twinRoles : Obligations.TwinRoles := by
  unfold Obligations.TwinRoles
  refine ⟨?claimOthers, ?claimWon, ?handoverPrepare, ?tooEarly, ?releasing, ?taking, ?twinClaimIdle,
    ?twinRotation, ?twinBothActive⟩
  case claimOthers =>
    intro l s htwinOn hen hclaims
    exact exec_claimRound_others htwinOn hen hclaims
  case claimWon =>
    intro l s htwinOn hclaims hmax hrole
    exact exec_claimRound_won htwinOn hclaims hmax hrole
  case handoverPrepare =>
    intro h s hstwinhandover hhtaking hhprepared hhh hstwRuns
    change execHandoverPrepare s = _
    simp [execHandoverPrepare, when_pos, hstwinhandover, hhtaking, hhprepared, hhh, hstwRuns]
  case tooEarly =>
    intro h s hhandover hdue hearly hruns hok htaking
    change execHandoverTime s = _
    rw [execHandoverTime, hhandover]
    simp only [htaking, Bool.false_eq_true, if_false]
    rw [when_pos (by simp [hdue, hruns, hok])]
    simp [releasingTime, Nat.not_le.2 hearly, show ¬ h.h + 20000 ≤ s.ringNs by omega]
  case releasing =>
    intro h s hhandover hdue hearly hruns hok htaking hstages
    change execHandoverTime s = _
    rw [execHandoverTime, hhandover]
    simp only [htaking, Bool.false_eq_true, if_false]
    rw [when_pos (by simp [show h.h ≤ s.ringNs by omega, hruns, hok])]
    simp [releasingTime, hdue, hstages, twinChange_ringNs, stagesDisable_ringNs, Nat.not_le.2 hearly]
  case taking =>
    intro h s hhandover hdue hearly hruns hok htaking hprepared hstages
    change execHandoverTime s = _
    rw [execHandoverTime, hhandover]
    simp only [htaking, if_true]
    rw [when_pos (by simp [hdue, hruns, hok])]
    simp [takingTime, hprepared, hstages, stagesEnable_ringNs, Nat.not_le.2 hearly]
  case twinClaimIdle =>
    intro s htwinOn htwinRole hen hstwRuns hs
    change execTwinClaimIdle s = _
    simp [execTwinClaimIdle, when_pos, htwinOn, htwinRole, hen, hstwRuns, hs]
  case twinRotation =>
    intro n s htwinOn hrole hper hn
    subst hn
    change ∃ t, execTwinRotation s = .next t ∧ _
    rw [execTwinRotation, when_pos (by simp [htwinOn, hrole])]
    simp [hper]
  case twinBothActive =>
    intro d u s hsince htwinOn hrole hdue hu hclaim
    subst hu
    change execTwinBothActive s = _
    rw [execTwinBothActive, hsince]
    dsimp only
    rw [when_pos (by simp [htwinOn, hrole, hdue]), if_pos hclaim]

end Sys2Proof.Proofs
end

/-! PROOFS. Supply channels: checks, ramps, trips, boards and holds (chapter 12). -/

section
open Sys2Proof Sys2Proof.Machine

namespace Sys2Proof.Proofs

theorem getF_trips_tripInto_min (n code st : Nat) (s : State) :
    getF (tripInto n code st s) (fFED_FSC_STAT_TRIPS n) = min 15 (getF s (fFED_FSC_STAT_TRIPS n) + 1) := by
  rw [tripInto, getF_fscGo_other _ _ (.inr (by simp [fFED_FSC_STAT_TRIPS])), countTrip, getF_raise,
    getF_wrapTripsTotal _ (fscRegisters_ne n).1,
    getF_setF_other _ _ (by simp [fFED_FSC_STAT_LAST]) (by simp [fFED_FSC_STAT_TRIPS, fFED_FSC_STAT_LAST]),
    getF_setF_self _ _ (by simp [fFED_FSC_STAT_TRIPS])]
  exact Nat.mod_eq_of_lt (Nat.lt_succ_of_le (Nat.min_le_left 15 _))

/-- A trip of a channel that never latches leads to RETRY, with the retry timer running. -/
theorem exec_fscTrip_retries {n held : Nat} {cause : FscTrip} {m : Sensed} {s : State} (hn : n < 16)
    (htrip : tripHolds s n cause m held = true) (hlatch : getF s (fFED_FSC_RETRY_LATCH_N n) = 0) :
    ∃ t, exec (.fscTrip n cause m held) s = .next t ∧
      fscState t n = 5 ∧
      getF t (fFED_FSC_STAT_TRIPS n) = min 15 (getF s (fFED_FSC_STAT_TRIPS n) + 1) ∧
      getF t (fFED_FSC_STAT_LAST n) = tripCode cause ∧
      16 + n ∈ t.flt.pulse ∧
      (getFsc t n).retryAt = s.clk + 100000000 * max 1 (getF s (fFED_FSC_RETRY_RETRY_T n)) := by
  refine ⟨_, exec_fscTrip_holds hn htrip, ?_⟩
  rw [tripChannel_eq, if_neg (by omega), fscState, getF_startRetry, getF_startRetry, getF_startRetry,
    startRetry_flt]
  exact ⟨fscState_tripInto _ s (by decide), getF_trips_tripInto_min n _ 5 s, getF_last_tripInto n cause 5 s,
    mem_pulse_tripInto n _ 5 s, retryAt_startRetry_tripInto n _ 5 s⟩

/-- A channel that is not in DEBOUNCE loses its board: ABSENT, with LAST and the time of the absence. -/
theorem removeBoard_shows {n : Nat} {s : State} (hst : fscState s n ≠ 8) :
    fscState (removeBoard n s) n = 7 ∧
      flag (removeBoard n s) (fFED_FSC_STAT_PRESENT n) = false ∧
      getF (removeBoard n s) (fFED_FSC_STAT_LAST n) = 5 ∧
      (getFsc (removeBoard n s) n).absentAt = some s.clk := by
  simp only [removeBoard, if_neg hst]
  refine ⟨?_, ?_, ?_, ?_⟩
  · rw [fscState, getF_setFsc]
    exact fscState_fscGo _ (by decide)
  · rw [flag_setFsc, flag, getF_fscGo_other _ _ (.inr (by simp [fFED_FSC_STAT_PRESENT])),
      getF_setF_self _ _ (by simp [fFED_FSC_STAT_PRESENT])]
    rfl
  · rw [getF_setFsc, getF_fscGo_other _ _ (.inr (by simp [fFED_FSC_STAT_LAST])),
      getF_setF_other _ _ (by simp [fFED_FSC_STAT_PRESENT]) (by simp [fFED_FSC_STAT_LAST,
        fFED_FSC_STAT_PRESENT]),
      getF_setF_self _ _ (by simp [fFED_FSC_STAT_LAST])]
    rfl
  · rw [getFsc_setFsc, if_pos rfl]
    simp only [fscGo_clk, setF_clk, wrapF_clk]
    split <;> simp only [setF_clk]

/-- Below 2 V and below half of a per cent of the limit, a test shows no board. -/
theorem showsBoard_eq_false {s : State} {n : Nat} {m : Sensed} (hvout : m.vout < 2000)
    (hsense : 200 * m.sense < 250 * getF s (fFED_FSC_LIM_ILIM n)) : showsBoard s n m = false := by
  have hlow : ¬ fscLimit s n ≤ 100 * m.sense := by
    rw [fscLimit]
    omega
  rw [showsBoard, someCurrent, if_neg hlow, fscLimit, if_pos hsense, Bool.or_false]
  exact decide_eq_false (Nat.not_le.2 hvout)

/-- Settles O35: each clause is its command where its guards hold; a trip is tripChannel, which retries or
latches by LATCH_N. -/
theorem feedsChannels : Obligations.FeedsChannels := by
  unfold Obligations.FeedsChannels
  refine ⟨?fscCheckEnd_1, ?fscCheckEnd_2, ?fscRampStart, ?fscOn, ?fscTrip_1, ?fscTrip_2, ?fscTrip_3,
    ?fscTrip_4, ?fscRetryExpiry, ?fscClearTimer, ?fscProbe_1, ?fscProbe_2, ?fscRemoval_1, ?fscRemoval_2,
    ?fscReinsertion, ?fscDebounceEnd, ?fscFetShort, ?fscEnWrite_1, ?fscEnWrite_2, ?fscUnlatch_1,
    ?fscUnlatch_2, ?fscHoldBegin_1, ?fscHoldBegin_2, ?fscHoldEnd⟩
  case fscCheckEnd_1 =>
    intro n m s hn hfscState h
    change execFscCheckEnd n m s = _
    simp [execFscCheckEnd, unit_pos, when_pos, hn, hfscState, h]
  case fscCheckEnd_2 =>
    intro n m s hn hstate hvout hdue
    change execFscCheckEnd n m s = _
    rw [execFscCheckEnd, unit_pos (decide_eq_true hn), when_pos (by simp [hstate]), if_neg (by omega),
      if_pos hdue,
      fetShorted]
  case fscRampStart =>
    intro n m s hn hfscState hmvin
    change execFscRampStart n m s = _
    simp [execFscRampStart, unit_pos, when_pos, hn, hfscState, hmvin]
  case fscOn =>
    intro n m s hn hstate hlow hhigh
    have hin : 49 * m.vin ≤ 50 * m.vout ∧ 50 * m.vout ≤ 51 * m.vin := by omega
    change execFscOn n m true s = _
    rw [execFscOn, unit_pos (decide_eq_true hn), when_pos (by simp [hstate, hin])]
  case fscTrip_1 =>
    intro n m held s hn hstate hsense hheld hlatch
    obtain ⟨t, hnext, hst, htrips, hlast, hpulse,
      hretry⟩ := exec_fscTrip_retries (cause := .overcurrent) (m := m)
      (held := held) hn (by simp [tripHolds, hstate, fscLimit, hsense, pastSoa, hheld]) hlatch
    exact ⟨t, hnext, hst, htrips, hlast, hpulse, hretry⟩
  case fscTrip_2 =>
    intro n m held s hn hstate hsense hvout hlatch hcount
    have htrip : tripHolds s n .overcurrent m held = true := by simp [tripHolds, hstate, fscLimit, hsense,
      hvout]
    refine ⟨_, (exec_fscTrip_holds hn htrip).trans (congrArg _ ((tripChannel_eq _ _ _).trans (if_pos ⟨hlatch,
      hcount⟩))), ?_⟩
    rw [fscState, getF_raise, getF_raise]
    exact ⟨fscState_tripInto _ s (by decide), getF_last_tripInto n .overcurrent 6 s,
      (mem_insSet _ _ _).2 (.inr (mem_pulse_tripInto n _ 6 s)), mem_pulse_raise (32 + n) _⟩
  case fscTrip_3 =>
    intro n m held s hn hlo hhi hsense hlatch
    have hon : fscState s n = 2 ∨ fscState s n = 3 ∨ fscState s n = 4 := by omega
    have hover : 3 * fscLimit s n ≤ m.sense := by
      rw [fscLimit]
      omega
    obtain ⟨t, hnext, hst, -, hlast, hpulse,
      -⟩ := exec_fscTrip_retries (cause := .fastTrip) (m := m) (held := held) hn
      (by simp only [tripHolds, hover, decide_true, Bool.and_true]; simpa [or_assoc] using hon) hlatch
    exact ⟨t, hnext, hst, hlast, hpulse⟩
  case fscTrip_4 =>
    intro n m held s hn hstate hdue hvout hlatch
    obtain ⟨t, hnext, hst, -, hlast, hpulse,
      -⟩ := exec_fscTrip_retries (cause := .shortDuringRamp) (m := m) (held := held) hn
      (by simp [tripHolds, hstate, preWindowOut, hdue, hvout]) hlatch
    exact ⟨t, hnext, hst, hlast, hpulse⟩
  case fscRetryExpiry =>
    intro n s hn hstate hdue
    change execFscRetryExpiry n s = _
    rw [execFscRetryExpiry, unit_pos (decide_eq_true hn), when_pos (by simp [hstate, hdue]), fscRest]
  case fscClearTimer =>
    intro n s hn hfscState hdue
    change execFscClearTimer n s = _
    simp [execFscClearTimer, unit_pos, when_pos, hn, hfscState, hdue]
  case fscProbe_1 =>
    intro n m u s hn hpres hstate hdue hvout hu
    subst hu
    have hshows : showsBoard s n m = true := by simp [showsBoard, hvout]
    change execFscProbe n m s = _
    rw [execFscProbe, unit_pos (decide_eq_true hn), when_pos (by simp [hstate, hpres, hdue]), if_pos hstate,
      if_pos hshows,
      boardSeen]
  case fscProbe_2 =>
    intro n m s hn hpres hstate hdue hvout hsense
    have hhere : (fscState s n == 5 || fscState s n == 7 || fscState s n == 8) = true := by
      rcases hstate with h | h <;> simp [h]
    change execFscProbe n m s = _
    rw [execFscProbe, unit_pos (decide_eq_true hn), when_pos (by simp only [hhere, hpres, hdue]; rfl),
      if_neg (by omega),
      showsBoard_eq_false hvout hsense]
    rfl
  case fscRemoval_1 =>
    intro n m held s hn hstate hvout hsense hheld
    refine ⟨removeBoard n s, ?_, removeBoard_shows (by omega)⟩
    change execFscRemoval n false m held s = _
    rw [execFscRemoval, unit_pos (decide_eq_true hn),
      when_pos (by simp [removalShows, hstate, showsBoard_eq_false hvout hsense, hheld])]
  case fscRemoval_2 =>
    intro n m held s hn hstate hpres
    refine ⟨removeBoard n s, ?_, removeBoard_shows (by omega)⟩
    change execFscRemoval n true m held s = _
    rw [execFscRemoval, unit_pos (decide_eq_true hn), when_pos (by simp [removalShows, hstate, hpres])]
  case fscReinsertion =>
    intro n s hn hstate hpres
    change execFscReinsertion n s = _
    rw [execFscReinsertion, unit_pos (decide_eq_true hn), when_pos (by simp [hstate, hpres]), boardSeen]
  case fscDebounceEnd =>
    intro n d s hn hfscState hdue hgetFsc hd
    change execFscDebounceEnd n s = _
    simp [execFscDebounceEnd, unit_pos, when_pos, hn, hfscState, hdue, hgetFsc, hd]
  case fscFetShort =>
    intro n m held s hn hstate hsense hheld
    have hoff : (fscState s n == 0 || fscState s n == 5 || fscState s n == 6) = true := by
      rcases hstate with h | h | h <;> simp [h]
    change execFscFetShort n m held s = _
    rw [execFscFetShort, unit_pos (decide_eq_true hn), when_pos (by simp [hoff, offCurrent, fscLimit, hsense,
      hheld]),
      fetShorted]
  case fscEnWrite_1 =>
    intro w n s hn hmayWrite hstate
    change execFscEnWrite w n true s = _
    rw [execFscEnWrite, unit_pos (decide_eq_true hn), guardWrite_may hmayWrite]
    rw [fscEnable]
    simp only [bit, if_true]
    rw [if_pos hstate]
  case fscEnWrite_2 =>
    intro w n s hn hmayWrite hstate
    change execFscEnWrite w n false s = _
    rw [execFscEnWrite, unit_pos (decide_eq_true hn), guardWrite_may hmayWrite, fscEnable]
    simp only [bit, Bool.false_eq_true, if_false]
    rw [if_neg (by omega)]
  case fscUnlatch_1 =>
    intro w n m s hn hmayWrite hstate
    change execFscUnlatch w n m s = _
    rw [execFscUnlatch, unit_pos (decide_eq_true hn), guardWrite_may hmayWrite]
    exact congrArg _ (if_pos (.inl hstate))
  case fscUnlatch_2 =>
    intro w n m s hn hmayWrite hstate hvout
    have htest : (offCurrent s n m || offVoltage m) = true := by simp [offVoltage, hvout]
    change execFscUnlatch w n m s = _
    rw [execFscUnlatch, unit_pos (decide_eq_true hn), guardWrite_may hmayWrite, htest]
    exact congrArg _ (if_neg (by simp [hstate]))
  case fscHoldBegin_1 =>
    intro n vin s hn hstate
    change execFscHoldBegin n .powerState vin s = _
    rw [execFscHoldBegin, unit_pos (decide_eq_true hn), when_pos (by simp [holdBegins, hstate]), holdCode]
  case fscHoldBegin_2 =>
    intro n vin s hn hvin
    change execFscHoldBegin n .vinLow vin s = _
    rw [execFscHoldBegin, unit_pos (decide_eq_true hn), when_pos (by simp [holdBegins, hvin]), holdCode]
  case fscHoldEnd =>
    intro n vin s hn hvin hheld hstate
    change execFscHoldEnd n .vinLow vin s = _
    rw [execFscHoldEnd, unit_pos (decide_eq_true hn), when_pos (by simp [holdEnds, hvin]), holdCode, holdOff,
      if_pos hheld]
    exact congrArg _ (if_pos hstate)

end Sys2Proof.Proofs
end

/-! PROOFS. Feeds, ORing and the node hot-swap (chapter 12). -/

section
open Sys2Proof Sys2Proof.Machine

namespace Sys2Proof.Proofs

/-- A feed whose voltage moves it to a state is moved there. -/
theorem exec_feedStateChange_moves {x v held : Nat} {st : FeedTo} {s : State} (hx : x < 2)
    (htarget : feedTarget (getF s (feedFld x)) v held = some st) :
    exec (.feedStateChange x v held) s = .next (fetCheck (moveFeed x st s)) := by
  change execFeedStateChange x v held s = _
  rw [execFeedStateChange, unit_pos (decide_eq_true hx), htarget]

/-- A feed whose voltage moves it nowhere is only seen in the band above 61.5 V. -/
theorem exec_feedStateChange_stays {x v held : Nat} {s : State} (hx : x < 2)
    (htarget : feedTarget (getF s (feedFld x)) v held = none) :
    exec (.feedStateChange x v held) s = .next (feedBand x v s) := by
  change execFeedStateChange x v held s = _
  rw [execFeedStateChange, unit_pos (decide_eq_true hx), htarget]

/-- Settles O34: each clause is its command where its guards hold; a feed's voltage decides by feedTarget
where it moves, and log 255 lets the source turn off again. -/
theorem feedsNode : Obligations.FeedsNode := by
  unfold Obligations.FeedsNode
  refine ⟨?feedStateChange_1, ?feedStateChange_2, ?feedStateChange_3, ?feedStateChange_4, ?feedStateChange_5,
    ?feedStateChange_6, ?feedStateChange_7, ?feedQualified, ?oringReverse, ?oringFetFault_1,
    ?oringFetFault_2, ?oringFetFault_3, ?nodePhaseChange_1, ?nodePhaseChange_2, ?nodeTrip_1, ?nodeTrip_2,
    ?nodeRetry, ?feedWarnAssert_1, ?feedWarnAssert_2, ?feedWarnRelease⟩
  case feedStateChange_1 =>
    intro x v held s hx hv hv2 hfld hfld2
    have htarget : feedTarget (getF s (feedFld x)) v held = some .qualifying := by
      rw [feedTarget, if_neg (by omega), if_neg (by omega), if_neg (by omega), if_pos hv, if_neg (by omega)]
    rw [exec_feedStateChange_moves hx htarget]
    simp [moveFeed, hfld, hfld2]
  case feedStateChange_2 =>
    intro x v held s hx hv hheld hfld hfld2
    rw [exec_feedStateChange_moves (st := .absent) hx (by simp [feedTarget, hv, hheld, hfld])]
    simp [moveFeed, hfld2]
  case feedStateChange_3 =>
    intro x v held s hx hv hheld hfld
    rw [exec_feedStateChange_moves (st := .absent) hx (by simp [feedTarget, hv, hheld, hfld])]
    simp [moveFeed, hfld]
  case feedStateChange_4 =>
    intro x v held s hx hv hv2 hheld hfld
    have htarget : feedTarget (getF s (feedFld x)) v held = some .under := by
      rw [feedTarget, if_neg (by omega), if_neg (by omega), if_neg (by omega), if_neg (by omega),
        if_neg (by omega),
        if_pos hfld, if_pos (by simp [hv2, hheld])]
    rw [exec_feedStateChange_moves hx htarget]
    simp [moveFeed, hfld]
  case feedStateChange_5 =>
    intro x v held s hx hv hheld hfld
    rw [exec_feedStateChange_moves (st := .over) hx (by simp [feedTarget, hfld, hv, hheld]; omega)]
    simp [moveFeed, hfld]
  case feedStateChange_6 =>
    intro x v held s hx hv hv2 hfld
    have htarget : feedTarget (getF s (feedFld x)) v held = none := by
      simp [feedTarget, hfld, Nat.not_lt.2 hv, Nat.not_lt.2 hv2, show ¬ v < 9000 by omega]
    rw [exec_feedStateChange_stays hx htarget]
    simp [feedBand, hfld]
  case feedStateChange_7 =>
    intro x v held s hx hv hv2 hfld
    have htarget : feedTarget (getF s (feedFld x)) v held = none := by
      rw [feedTarget, if_neg (by omega), if_neg (by omega), if_pos hv]
    rw [exec_feedStateChange_stays hx htarget]
    simp [feedBand, hfld, hv]
  case feedQualified =>
    intro x vfeed vnode u s hx hgetF hgetFeed hdue hu hnode
    subst hu
    change execFeedQualified x vfeed vnode s = _
    simp [execFeedQualified, unit_pos, when_pos, hx, hgetF, hgetFeed, hdue, hnode]
  case oringReverse =>
    intro x vin bus s hx hgood hrev
    change execOringReverse x vin bus s = _
    rw [execOringReverse, unit_pos (decide_eq_true hx), when_pos hgood, decide_eq_false (by omega)]
    rfl
  case oringFetFault_1 =>
    intro x vx vother bus held s hx hgood hother hbus hheld
    have hopen : fetOpen s x vx vother bus = true := by simp [fetOpen, hgood, hother, hbus]
    change execOringFetFault x vx vother bus held s = _
    rw [execOringFetFault, unit_pos (decide_eq_true hx), if_pos hopen, when_pos (decide_eq_true hheld),
      fetFault]
    simp only [Bool.false_eq_true, if_false]
  case oringFetFault_2 =>
    intro x vx vother bus held s hx hgood hgood2 hvx hbus hheld
    have hopen : fetOpen s x vx vother bus = false := by simp [fetOpen, hgood]
    have hshort : fetShort s x vx bus = true := by simp [fetShort, hgood, hgood2, hvx, hbus]
    change execOringFetFault x vx vother bus held s = _
    rw [execOringFetFault, unit_pos (decide_eq_true hx), if_neg (by simp [hopen]), if_pos hshort,
      when_pos (decide_eq_true hheld), fetFault]
    simp only [if_true]
  case oringFetFault_3 =>
    intro x vx vother bus held s hx hgood hvx hfet
    have hopen : fetOpen s x vx vother bus = false := by simp [fetOpen, hgood]; omega
    have hshort : fetShort s x vx bus = false := by simp [fetShort, hgood]
    change execOringFetFault x vx vother bus held s = _
    rw [execOringFetFault, unit_pos (decide_eq_true hx), if_neg (by simp [hopen]), if_neg (by simp [hshort]),
      when_pos (by simp [hfet]), fetOver]
  case nodePhaseChange_1 =>
    intro vfeed vnode s hnode hvfeed hvnode
    change execNodePhaseChange vfeed vnode true s = _
    simp only [execNodePhaseChange, hnode]
    rw [when_pos (by simp [hvfeed, hvnode]), nodeGo]
  case nodePhaseChange_2 =>
    intro vfeed vnode e s hnode hvfeed
    change execNodePhaseChange vfeed vnode e s = _
    simp only [execNodePhaseChange, hnode]
    rw [when_pos (decide_eq_true hvfeed), nodeGo]
  case nodeTrip_1 =>
    intro vfeed vnode sense held u s hnode hsense hu
    subst hu
    change execNodeTrip vfeed vnode sense held s = _
    rw [execNodeTrip, when_pos (by simp [nodeTrips, hnode, hsense])]
    simp only [hnode, nodeGo, Nat.reduceEqDiff, if_false]
  case nodeTrip_2 =>
    intro vfeed vnode sense held u s hnode hsense hheld hu
    subst hu
    change execNodeTrip vfeed vnode sense held s = _
    rw [execNodeTrip, when_pos (by simp [nodeTrips, nodeLimit, hnode, hsense, hheld])]
    simp only [hnode, nodeGo, if_true]
  case nodeRetry =>
    intro d s hsfedretryAt hnode hdue
    change execNodeRetry s = _
    simp [execNodeRetry, when_pos, hsfedretryAt, hnode, hdue]
  case feedWarnAssert_1 =>
    intro vnode held s hnode hwarn
    have hlow : warnLow s = s := if_pos hwarn
    change execFeedWarnAssert vnode held s = _
    simp only [execFeedWarnAssert, when, hlow, ite_self]
  case feedWarnAssert_2 =>
    intro vnode held u s hnode hvnode hheld hwarn hu
    subst hu
    change execFeedWarnAssert vnode held s = _
    rw [execFeedWarnAssert, when_pos (by simp [hnode, warnLevel, hvnode, hheld]), warnLow,
      if_neg (by simp [hwarn])]
  case feedWarnRelease =>
    intro vnode held d s hwarnClear hwarn hdue hvnode hheld
    change execFeedWarnRelease vnode held s = _
    simp only [execFeedWarnRelease, hwarnClear]
    rw [when_pos (by simp [hwarn, warnLevel, hdue, hvnode, hheld]), hwarnClear]

end Sys2Proof.Proofs
end

/-! PROOFS. Frames of the operations of a ring port's link, its measurements and its pair, in the manner of the frames above. -/

section
open Sys2Proof Sys2Proof.Machine

namespace Sys2Proof.Proofs

section
variable {ps : List Part} {s₀ : State}

@[simp ↓] theorem only_with_draw (x : Nat) (s : State) (hm : .draw ∈ ps) :
    Only ps s₀ { s with draw := x } ↔ Only ps s₀ s := Only.iff_step [.draw] rfl (by simpa)
@[simp ↓] theorem only_with_byps (x : Tab Bypass) (s : State) (hm : .byps ∈ ps) :
    Only ps s₀ { s with byps := x } ↔ Only ps s₀ s := Only.iff_step [.byps] rfl (by simpa)

@[simp ↓] theorem only_comeUp (p rate : Nat) (s : State) (hm : [Part.regs, .ports, .byps, .ring, .flt, .sec] ⊆ ps) :
    Only ps s₀ (comeUp p rate s) ↔ Only ps s₀ s :=
  Only.iff_step _ (by simp [comeUp]) hm

@[simp ↓] theorem only_wiringStop (p : Nat) (s : State) (hm : [Part.regs, .ports, .flt] ⊆ ps) :
    Only ps s₀ (wiringStop p s) ↔ Only ps s₀ s :=
  Only.iff_step _ (by simp [wiringStop]) hm

@[simp ↓] theorem only_rateLow (p : Nat) (s : State) (hm : [Part.regs, .ports, .flt] ⊆ ps) :
    Only ps s₀ (rateLow p s) ↔ Only ps s₀ s :=
  Only.iff_step _ (by simp [rateLow]) hm

@[simp ↓] theorem only_setDom (i v : Nat) (s : State) (hm : [Part.regs] ⊆ ps) :
    Only ps s₀ (setDom i v s) ↔ Only ps s₀ s :=
  Only.iff_step _ (by simp [setDom]) hm

@[simp ↓] theorem only_cellarRest (s : State) (hm : [Part.regs] ⊆ ps) :
    Only ps s₀ (cellarRest s) ↔ Only ps s₀ s :=
  Only.iff_step _ (by simp [cellarRest]) hm

@[simp ↓] theorem only_releasePair (x : Nat) (s : State) (hm : [Part.regs, .swq, .ports, .byps, .flt] ⊆ ps) :
    Only ps s₀ (releasePair x s) ↔ Only ps s₀ s :=
  Only.iff_step _ (by simp [releasePair]) hm

@[simp ↓] theorem only_insertPair (x : Nat) (s : State) (hm : [Part.regs, .byps] ⊆ ps) :
    Only ps s₀ (insertPair x s) ↔ Only ps s₀ s :=
  Only.iff_step _ (by simp [insertPair]) hm

@[simp ↓] theorem only_lockOut (x : Nat) (s : State) (hm : [Part.regs, .swq, .ports, .byps, .flt] ⊆ ps) :
    Only ps s₀ (lockOut x s) ↔ Only ps s₀ s :=
  Only.iff_step _ (by simp [lockOut]) hm

@[simp ↓] theorem only_irBegin (p : Nat) (s : State) (hm : [Part.draw, .regs, .ports] ⊆ ps) :
    Only ps s₀ (irBegin p s) ↔ Only ps s₀ s :=
  Only.iff_step _ (by simp [irBegin]) hm

@[simp ↓] theorem only_irDueNow (p : Nat) (s : State) (hm : [Part.draw, .regs, .ports] ⊆ ps) :
    Only ps s₀ (irDueNow p s) ↔ Only ps s₀ s :=
  Only.iff_step _ (by simp [irDueNow]) hm

@[simp ↓] theorem only_sendInfo (p : Nat) (s : State) (hm : [Part.out] ⊆ ps) :
    Only ps s₀ (sendInfo p s) ↔ Only ps s₀ s :=
  Only.iff_step _ (by simp [sendInfo]) hm

@[simp ↓] theorem only_tdrReturn (p : Nat) (s : State) (hm : [Part.out, .regs, .ports] ⊆ ps) :
    Only ps s₀ (tdrReturn p s) ↔ Only ps s₀ s :=
  Only.iff_step _ (by simp [tdrReturn]) hm

@[simp ↓] theorem only_toKeepalive (p : Nat) (s : State) (hm : [Part.regs, .ports] ⊆ ps) :
    Only ps s₀ (toKeepalive p s) ↔ Only ps s₀ s :=
  Only.iff_step _ (by simp [toKeepalive]) hm

@[simp ↓] theorem only_sendShift (p : Nat) (s : State) (hm : [Part.out, .ports] ⊆ ps) :
    Only ps s₀ (sendShift p s) ↔ Only ps s₀ s :=
  Only.iff_step _ (by simp [sendShift]) hm

end

end Sys2Proof.Proofs
end

/-! PROOFS. The rules of a ring port's link (chapter 06): which registers its operations write, and what they leave in the
port's status, its own state and the fault lines. -/

section
open Sys2Proof Sys2Proof.Machine

namespace Sys2Proof.Proofs

/-! ### Registers written -/

/-- `t` holds the registers of `s` but for those at the listed offsets. -/
def Writes (l : List Nat) (s t : State) : Prop := ∀ o, o ∉ l → reg t o = reg s o

namespace Writes

variable {l m : List Nat} {s t u : State}

theorem refl (l : List Nat) (s : State) : Writes l s s := fun _ _ => rfl

theorem trans (h : Writes l s t) (k : Writes l t u) : Writes l s u := fun o ho => (k o ho).trans (h o ho)

theorem mono (h : Writes m s t) (hm : m ⊆ l) : Writes l s t := fun o ho => h o fun hom => ho (hm hom)

theorem of_regs (h : t.regs = s.regs) : Writes l s t := fun o _ => reg_congr h o

theorem setF {f : Fld} (v : Nat) (s : State) (h : f.off ∈ l) : Writes l s (Machine.setF f v s) :=
  fun _ ho => reg_setF_other fun e => ho (e ▸ h)

theorem setReg {o : Nat} (v : Word) (s : State) (h : o ∈ l) : Writes l s (Machine.setReg o v s) := fun p hp => by
  rw [reg_setReg, if_neg (show p ≠ o from fun e => hp (e ▸ h))]

theorem foldl {α : Type} {f : State → α → State} (hf : ∀ t a, Writes l t (f t a)) (as : List α) (s : State) :
    Writes l s (as.foldl f s) := by
  induction as generalizing s with
  | nil => exact refl l s
  | cons a as ih => exact (hf s a).trans (ih _)

theorem getF (h : Writes l s t) {f : Fld} (hf : f.off ∉ l) : getF t f = Machine.getF s f := getF_of_reg_eq f (h _ hf)

theorem flag (h : Writes l s t) {f : Fld} (hf : f.off ∉ l) : flag t f = Machine.flag s f := flag_of_reg_eq f (h _ hf)

theorem domOn (h : Writes l s t) (h3 : 0x4003 ∉ l) (h4 : 0x4004 ∉ l) (i : Nat) : domOn t i = Machine.domOn s i := by
  simp only [Machine.domOn, domState, h _ h3, h _ h4]

end Writes

/-! ### What a port's conditions read -/

/-- The registers that say whether a port signals. -/
def aliveRegs (p : Nat) : List Nat := [oRGx_PHY_CTL p, oPWR_STATUS, 0x4003, 0x4004]

theorem Writes.portAlive {l : List Nat} {s t : State} (h : Writes l s t) {p : Nat} (hp : ∀ o ∈ aliveRegs p, o ∉ l) :
    portAlive t p = Machine.portAlive s p := by
  have hctl : oRGx_PHY_CTL p ∉ l := hp _ (by simp [aliveRegs])
  have hdom := h.domOn (hp _ (by simp [aliveRegs])) (hp _ (by simp [aliveRegs])) (1 + p / 2)
  have hpwr : Machine.getF t fPWR_STATUS_STATE = Machine.getF s fPWR_STATUS_STATE := h.getF (hp oPWR_STATUS (by simp [aliveRegs]))
  have hen : portEn t p = portEn s p := h.flag hctl
  have hmed : Machine.getF t (fRGx_PHY_CTL_MEDIUM p) = Machine.getF s (fRGx_PHY_CTL_MEDIUM p) := h.getF hctl
  simp only [Machine.portAlive, isCopper, isOptical, hen, hmed, hdom, hpwr]

theorem Writes.inSelf {l : List Nat} {s t : State} (h : Writes l s t) {p : Nat} (hp : oRGx_BYP_STAT (p / 2) ∉ l) :
    inSelf t p = Machine.inSelf s p := by
  have hst : Machine.getF t (fRGx_BYP_STAT_STATE (p / 2)) = Machine.getF s (fRGx_BYP_STAT_STATE (p / 2)) := h.getF hp
  simp only [Machine.inSelf, hst]

/-- The registers that a port's link writes as it goes up and down, and as the port detects and trains. -/
def linkRegs (p : Nat) : List Nat :=
  [oRGx_PHY_STAT p, oRGx_DOWN_CNT p, oSEC_LP_STAT p, oRGx_RP_FLUSH p, oRTM_STATUS, oRGx_RP_STAT (p / 2)]

theorem not_mem_linkRegs {p o : Nat} : o ∉ linkRegs p ↔ o ≠ oRGx_PHY_STAT p ∧ o ≠ oRGx_DOWN_CNT p ∧ o ≠ oSEC_LP_STAT p ∧
    o ≠ oRGx_RP_FLUSH p ∧ o ≠ oRTM_STATUS ∧ o ≠ oRGx_RP_STAT (p / 2) := by
  simp only [linkRegs, List.mem_cons, List.not_mem_nil, or_false, not_or]

/-- A port's link writes none of the registers that say whether a port signals. -/
theorem aliveRegs_not_mem_linkRegs {p : Nat} (q : Nat) (hp : p < 4) : ∀ o ∈ aliveRegs q, o ∉ linkRegs p := by
  intro o ho
  simp only [aliveRegs, List.mem_cons, List.not_mem_nil, or_false, oRGx_PHY_CTL, oPWR_STATUS] at ho
  simp only [not_mem_linkRegs, oRGx_PHY_STAT, oRGx_DOWN_CNT, oSEC_LP_STAT, oRGx_RP_FLUSH, oRTM_STATUS, oRGx_RP_STAT]
  omega

theorem bypStat_not_mem_linkRegs {p : Nat} (x : Nat) (hp : p < 4) : oRGx_BYP_STAT x ∉ linkRegs p := by
  simp only [not_mem_linkRegs, oRGx_BYP_STAT, oRGx_PHY_STAT, oRGx_DOWN_CNT, oSEC_LP_STAT, oRGx_RP_FLUSH, oRTM_STATUS,
    oRGx_RP_STAT]
  omega

theorem modStat_not_mem_linkRegs {p : Nat} (q : Nat) (hp : p < 4) : oRGx_MOD_STAT q ∉ linkRegs p := by
  simp only [not_mem_linkRegs, oRGx_MOD_STAT, oRGx_PHY_STAT, oRGx_DOWN_CNT, oSEC_LP_STAT, oRGx_RP_FLUSH, oRTM_STATUS,
    oRGx_RP_STAT]
  omega

theorem phyStat_mem_linkRegs (p : Nat) : oRGx_PHY_STAT p ∈ linkRegs p := by simp [linkRegs]

/-! ### A port's own state -/

@[simp] theorem getPort_setReg (o : Nat) (v : Word) (s : State) (p : Nat) : getPort (setReg o v s) p = getPort s p := rfl
@[simp] theorem getPort_setF (f : Fld) (v : Nat) (s : State) (p : Nat) : getPort (setF f v s) p = getPort s p := rfl
@[simp] theorem getPort_wrapF (f : Fld) (s : State) (p : Nat) : getPort (wrapF f s) p = getPort s p := rfl
@[simp] theorem getPort_addF (f : Fld) (n : Nat) (s : State) (p : Nat) : getPort (addF f n s) p = getPort s p := rfl
@[simp] theorem getPort_raise (n : Nat) (s : State) (p : Nat) : getPort (raise n s) p = getPort s p := rfl
@[simp] theorem getPort_causeOn (n : Nat) (s : State) (p : Nat) : getPort (causeOn n s) p = getPort s p := rfl
@[simp] theorem getPort_causeOff (n : Nat) (s : State) (p : Nat) : getPort (causeOff n s) p = getPort s p := rfl
@[simp] theorem getPort_setByp (x : Nat) (b : Bypass) (s : State) (p : Nat) : getPort (setByp x b s) p = getPort s p := rfl
@[simp] theorem getPort_emit (o : Out) (s : State) (p : Nat) : getPort (emit o s) p = getPort s p := rfl
@[simp] theorem getPort_downCause (q v : Nat) (s : State) (p : Nat) : getPort (downCause q v s) p = getPort s p := rfl
@[simp] theorem getPort_setPortState (q v : Nat) (s : State) (p : Nat) :
    getPort (setPortState q v s) p = getPort s p := rfl
@[simp] theorem getPort_setPort_self (p : Nat) (x : Port) (s : State) : getPort (setPort p x s) p = x := by
  rw [getPort_setPort, if_pos rfl]

/-! ### A port's state and cause -/

theorem writes_setPortState (p v : Nat) (s : State) : Writes (linkRegs p) s (setPortState p v s) := fun o ho => by
  obtain ⟨hstat, -, -, -, hrtm, -⟩ := not_mem_linkRegs.1 ho
  exact reg_setPortState_other v s hstat hrtm

theorem writes_downCause (p v : Nat) (s : State) : Writes (linkRegs p) s (downCause p v s) :=
  .setF v s (phyStat_mem_linkRegs p)

theorem phyStat_ne_rtmStatus (p : Nat) : oRGx_PHY_STAT p ≠ oRTM_STATUS := by
  simp only [oRGx_PHY_STAT, oRTM_STATUS]
  omega

theorem portState_setPortState {p v : Nat} (hv : v < 8) (s : State) :
    portState (setPortState p v s) p = v := by
  rw [setPortState, portState, getF_setF_other _ _ (by decide) (.inl (phyStat_ne_rtmStatus p)),
    getF_setF_self _ _ (by simp [fRGx_PHY_STAT_STATE])]
  exact Nat.mod_eq_of_lt hv

/-- STATE of a port is apart from the other fields of its status. -/
theorem getF_setPortState_other {p v : Nat} {f : Fld} (s : State) (hoff : f.off = oRGx_PHY_STAT p)
    (hlo : 3 ≤ f.lo) : getF (setPortState p v s) f = getF s f := by
  rw [setPortState, getF_setF_other _ _ (by decide) (.inl (hoff ▸ phyStat_ne_rtmStatus p)),
    getF_setF_other _ _ (by simp [fRGx_PHY_STAT_STATE]) (.inr (.inr (by simpa [fRGx_PHY_STAT_STATE] using hlo)))]

theorem linkUp_setPortState {p v : Nat} (s : State) : linkUp (setPortState p v s) p = linkUp s p := by
  simp only [linkUp, flag, getF_setPortState_other s (f := fRGx_PHY_STAT_LINK p) rfl (by simp [fRGx_PHY_STAT_LINK])]

theorem getF_downCause {p v : Nat} (hv : v < 16) (s : State) :
    getF (downCause p v s) (fRGx_PHY_STAT_DOWN_CAUSE p) = v := by
  rw [downCause, getF_setF_self _ _ (by simp [fRGx_PHY_STAT_DOWN_CAUSE])]
  exact Nat.mod_eq_of_lt hv

theorem getF_downCause_other {p v : Nat} {f : Fld} (s : State) (h : f.lo + f.w ≤ 6 ∨ 10 ≤ f.lo) :
    getF (downCause p v s) f = getF s f :=
  getF_setF_other _ _ (by simp [fRGx_PHY_STAT_DOWN_CAUSE]) (.inr h)

theorem portState_downCause (p v : Nat) (s : State) : portState (downCause p v s) p = portState s p :=
  getF_downCause_other s (.inl (by simp [fRGx_PHY_STAT_STATE]))

/-! ### A link goes down -/

theorem writes_takeDown (p c : Nat) (lost : Bool) (s : State) : Writes (linkRegs p) s (takeDown p c lost s) :=
  fun o ho => by
    obtain ⟨hstat, hcnt, hsec, hflush, -, -⟩ := not_mem_linkRegs.1 ho
    exact reg_takeDown_other c lost s hstat hcnt hsec hflush

/-- What going down writes in the port's status: the cause, and LINK 0. -/
theorem reg_phyStat_takeDown {p : Nat} (c : Nat) (lost : Bool) (hp : p < 4) (s : State) :
    reg (takeDown p c lost s) (oRGx_PHY_STAT p) =
      reg (if linkUp s p then setF (fRGx_PHY_STAT_LINK p) 0 (downCause p c s) else downCause p c s) (oRGx_PHY_STAT p) := by
  have hcnt : oRGx_PHY_STAT p ≠ oRGx_DOWN_CNT p := by simp only [oRGx_PHY_STAT, oRGx_DOWN_CNT]; omega
  have hsec : oRGx_PHY_STAT p ≠ oSEC_LP_STAT p := by simp only [oRGx_PHY_STAT, oSEC_LP_STAT]; omega
  have hflush : oRGx_PHY_STAT p ≠ oRGx_RP_FLUSH p := by simp only [oRGx_PHY_STAT, oRGx_RP_FLUSH]; omega
  unfold takeDown
  simp only [linkUp_downCause]
  split
  · rw [reg_congr (notePair_regs _ _), reg_flushPort_other _ hflush, reg_unkeyPort_other _ hsec, forgetLink,
      reg_causeOff, reg_setPort]
    cases lost
    · rw [if_neg Bool.false_ne_true, wrapF, reg_setF_other hcnt]
    · rw [if_pos rfl, reg_causeOn, wrapF, reg_setF_other hcnt]
  · rfl

theorem linkUp_takeDown {p : Nat} (c : Nat) (lost : Bool) (hp : p < 4) (s : State) :
    linkUp (takeDown p c lost s) p = false := by
  rw [linkUp, flag_of_reg_eq (fRGx_PHY_STAT_LINK p) (reg_phyStat_takeDown c lost hp s)]
  split
  · rw [flag_setF_self _ _ (by simp [fRGx_PHY_STAT_LINK])]
    simp
  · next h => rw [← linkUp, linkUp_downCause, Bool.eq_false_iff.2 h]

/-- Going down leaves the fields of the port's status other than LINK and DOWN_CAUSE. -/
theorem getF_takeDown_other {p : Nat} {f : Fld} (c : Nat) (lost : Bool) (hp : p < 4) (s : State)
    (hoff : f.off = oRGx_PHY_STAT p) (h : f.lo + f.w ≤ 5 ∨ 10 ≤ f.lo) :
    getF (takeDown p c lost s) f = getF s f := by
  rw [getF_of_reg_eq f (hoff ▸ reg_phyStat_takeDown c lost hp s)]
  split
  · rw [getF_setF_other _ _ (by simp [fRGx_PHY_STAT_LINK]) (.inr (by simp only [fRGx_PHY_STAT_LINK]; omega)),
      getF_downCause_other s (by omega)]
  · exact getF_downCause_other s (by omega)

theorem portState_takeDown {p : Nat} (c : Nat) (lost : Bool) (hp : p < 4) (s : State) :
    portState (takeDown p c lost s) p = portState s p :=
  getF_takeDown_other c lost hp s rfl (.inl (by simp [fRGx_PHY_STAT_STATE]))

theorem getF_cause_takeDown {p c : Nat} (lost : Bool) (hp : p < 4) (hc : c < 16) (s : State) :
    getF (takeDown p c lost s) (fRGx_PHY_STAT_DOWN_CAUSE p) = c := by
  rw [getF_of_reg_eq (fRGx_PHY_STAT_DOWN_CAUSE p) (reg_phyStat_takeDown c lost hp s)]
  split
  · rw [getF_setF_other _ _ (by simp [fRGx_PHY_STAT_LINK])
      (by simp [fRGx_PHY_STAT_LINK, fRGx_PHY_STAT_DOWN_CAUSE]), getF_downCause hc]
  · exact getF_downCause hc s

/-- A link that is lost raises the port's source of a lost link. -/
theorem mem_level_takeDown {p : Nat} (c : Nat) {s : State} (h : linkUp s p = true) :
    mediaSource p 0 ∈ (takeDown p c true s).flt.level := by
  have hup : linkUp (downCause p c s) p = true := (linkUp_downCause p c p s).trans h
  unfold takeDown
  dsimp only
  rw [if_pos hup, notePair_flt, flushPort_flt, unkeyPort_flt, if_pos rfl]
  exact (mem_delSet _ _ _).2 ⟨by simp [mediaSource], mem_level_causeOn _ _⟩

/-- What a port holds of a link that has been up is forgotten as it goes down; nothing else of the port changes. -/
theorem getPort_takeDown (p c : Nat) (lost : Bool) (s : State) : getPort (takeDown p c lost s) p =
    if linkUp s p then { getPort s p with coeffs := false, shiftSent := false, lowSince := none, uncSec := 0, uncRun := 0 }
    else getPort s p := by
  have hafter (t : State) : (notePair p (flushPort p (unkeyPort p t))).ports = t.ports :=
    (show Only [.regs, .swq, .byps] t (notePair p (flushPort p (unkeyPort p t))) by simp).same .ports (by decide)
  unfold takeDown
  simp only [linkUp_downCause]
  split
  · rw [getPort, hafter, ← getPort, forgetLink]
    cases lost <;> simp
  · rfl

/-! ### Detection starts -/

theorem writes_startDetect (p : Nat) (s : State) : Writes (linkRegs p) s (startDetect p s) :=
  (Writes.of_regs rfl).trans (writes_setPortState p _ _)

theorem portState_startDetect {p : Nat} (s : State) : portState (startDetect p s) p =
    if !portAlive s p then 0 else if inSelf s p then 6 else 1 := by
  rw [startDetect, portState_setPortState (by split_ifs <;> decide)]
  rfl

/-- Detection of a port that signals, outside self-training. -/
theorem portState_startDetect_alive {p : Nat} {s : State} (halive : portAlive s p = true)
    (hself : inSelf s p = false) : portState (startDetect p s) p = 1 := by
  simp [portState_startDetect, halive, hself]

theorem getF_startDetect_other {p : Nat} {f : Fld} (s : State) (hoff : f.off = oRGx_PHY_STAT p)
    (hlo : 3 ≤ f.lo) : getF (startDetect p s) f = getF s f := by
  rw [startDetect, getF_setPortState_other _ hoff hlo, getF_setPort]

theorem linkUp_startDetect {p : Nat} (s : State) : linkUp (startDetect p s) p = linkUp s p := by
  rw [startDetect, linkUp_setPortState]
  rfl

theorem getPort_startDetect (p : Nat) (s : State) : getPort (startDetect p s) p =
    { getPort s p with retryAt := none, infoOk := false, infoCand := none } := by
  simp [startDetect]

theorem startDetect_flt (p : Nat) (s : State) : (startDetect p s).flt = s.flt := rfl

/-! ### A link comes up -/

theorem writes_seedPair (x : Nat) (s : State) : Writes [oRGx_RP_STAT x] s (seedPair x s) := by
  unfold seedPair
  split
  · exact (Writes.of_regs rfl).trans (.setF 1 _ (by simp [fRGx_RP_STAT_SEEDING]))
  · exact .refl _ s

theorem writes_keyPort (p : Nat) (s : State) : Writes [oSEC_LP_STAT p] s (keyPort p s) := by
  have hepoch (t : State) : Writes [oSEC_LP_STAT p] t (newEpoch p t) := by
    unfold newEpoch
    dsimp only
    split
    · exact (Writes.setF (f := fSEC_LP_STAT_STATE p) 4 t (by simp [fSEC_LP_STAT_STATE])).trans (.of_regs rfl)
    · exact (Writes.of_regs rfl).trans (.setF 2 _ (by simp [fSEC_LP_STAT_STATE]))
  unfold keyPort
  dsimp only
  split
  · exact .setReg _ _ (by simp)
  · split
    · exact .setReg _ _ (by simp)
    · split
      · exact (Writes.of_regs rfl).trans ((Writes.setReg 3 _ (by simp)).trans (.of_regs rfl))
      · refine .trans (.trans (.trans (.of_regs rfl) (.setF _ _ ?_)) (.setF _ _ ?_)) (hepoch _)
        · simp [fSEC_LP_STAT_NODE]
        · simp [fSEC_LP_STAT_ENTRY]

/-- The writes of a link that comes up, in the port's status. -/
def upStatus (p rate : Nat) (s : State) : State :=
  downCause p 0 (setF (fRGx_PHY_STAT_RATE p) rate (setPortState p 3 (setF (fRGx_PHY_STAT_LINK p) 1 s)))

/-- The port of a link that comes up waits for no retry and holds coefficients. -/
def upPort (p : Nat) (s : State) : State := setPort p { getPort s p with retryAt := none, coeffs := true } s

theorem writes_comeUp_upStatus (p rate : Nat) (s : State) :
    Writes [oSEC_LP_STAT p, oRGx_RP_STAT (p / 2)] (upStatus p rate (upPort p s)) (comeUp p rate s) := by
  have hpair (t : State) : Writes [oSEC_LP_STAT p, oRGx_RP_STAT (p / 2)] t
      (notePair p (causeOff (mediaSource p 0) (causeOff (mediaSource p 1) (causeOff (mediaSource p 2) t)))) :=
    .of_regs (notePair_regs p _)
  exact (hpair _).trans (((writes_keyPort p _).mono (by simp)).trans ((writes_seedPair (p / 2) _).mono (by simp)))

theorem writes_upStatus (p rate : Nat) (s : State) : Writes (linkRegs p) s (upStatus p rate s) :=
  ((Writes.setF 1 s (phyStat_mem_linkRegs p)).trans (writes_setPortState p 3 _)).trans
    ((Writes.setF rate _ (phyStat_mem_linkRegs p)).trans (writes_downCause p 0 _))

theorem writes_comeUp (p rate : Nat) (s : State) : Writes (linkRegs p) s (comeUp p rate s) :=
  (Writes.of_regs (t := upPort p s) rfl).trans
    ((writes_upStatus p rate _).trans ((writes_comeUp_upStatus p rate s).mono (by simp [linkRegs])))

/-- What a link that comes up shows in the port's status. -/
theorem status_comeUp {p rate : Nat} (hp : p < 4) (hrate : rate < 4) (s : State) :
    linkUp (comeUp p rate s) p = true ∧ portState (comeUp p rate s) p = 3 ∧
      getF (comeUp p rate s) (fRGx_PHY_STAT_RATE p) = rate ∧
      getF (comeUp p rate s) (fRGx_PHY_STAT_DOWN_CAUSE p) = 0 := by
  have hreg : reg (comeUp p rate s) (oRGx_PHY_STAT p) = reg (upStatus p rate (upPort p s)) (oRGx_PHY_STAT p) :=
    writes_comeUp_upStatus p rate s _ (by simp [oRGx_PHY_STAT, oSEC_LP_STAT, oRGx_RP_STAT]; omega)
  have hwide : (fRGx_PHY_STAT_RATE p).lo + (fRGx_PHY_STAT_RATE p).w ≤ 24 := by simp [fRGx_PHY_STAT_RATE]
  rw [linkUp, portState, flag_of_reg_eq (fRGx_PHY_STAT_LINK p) hreg, getF_of_reg_eq (fRGx_PHY_STAT_STATE p) hreg,
    getF_of_reg_eq (fRGx_PHY_STAT_RATE p) hreg, getF_of_reg_eq (fRGx_PHY_STAT_DOWN_CAUSE p) hreg, upStatus]
  refine ⟨?_, ?_, ?_, getF_downCause (by decide) _⟩
  · rw [← linkUp, linkUp_downCause, linkUp,
      flag_setF_other _ _ hwide (by simp [fRGx_PHY_STAT_RATE, fRGx_PHY_STAT_LINK]), ← linkUp, linkUp_setPortState,
      linkUp, flag_setF_self _ _ (by simp [fRGx_PHY_STAT_LINK])]
    simp [fRGx_PHY_STAT_LINK]
  · rw [← portState, portState_downCause, portState,
      getF_setF_other _ _ hwide (by simp [fRGx_PHY_STAT_RATE, fRGx_PHY_STAT_STATE])]
    exact portState_setPortState (by decide) _
  · rw [getF_downCause_other _ (.inl (by simp [fRGx_PHY_STAT_RATE])), getF_setF_self _ _ hwide]
    exact Nat.mod_eq_of_lt hrate

/-! ### Detection again, after a wait -/

/-- A failed wiring check leaves the port in detection, with its cause and the next try in 1 s. -/
theorem wiringStop_shows {p : Nat} (s : State) :
    portState (wiringStop p s) p = 1 ∧ getF (wiringStop p s) (fRGx_PHY_STAT_DOWN_CAUSE p) = 4 ∧
      (getPort (wiringStop p s) p).retryAt = some (s.clk + 1000000000) ∧ 64 + 8 * p + 1 ∈ (wiringStop p s).flt.pulse := by
  unfold wiringStop
  refine ⟨?_, ?_, ?_, mem_pulse_raise _ _⟩
  · rw [portState, getF_raise, ← portState, portState_downCause, portState_setPortState (by decide)]
  · rw [getF_raise, getF_downCause (by decide)]
  · simp

/-- A rate too low leaves the port in detection, with its cause and the next try in 10 s. -/
theorem rateLow_shows {p : Nat} (s : State) :
    portState (rateLow p s) p = 1 ∧ getF (rateLow p s) (fRGx_PHY_STAT_DOWN_CAUSE p) = 5 ∧
      (getPort (rateLow p s) p).retryAt = some (s.clk + 10000000000) ∧ 64 + 8 * p + 2 ∈ (rateLow p s).flt.pulse := by
  unfold rateLow
  refine ⟨?_, ?_, ?_, mem_pulse_raise _ _⟩
  · rw [portState, getF_raise, ← portState, portState_downCause, portState_setPortState (by decide)]
  · rw [getF_raise, getF_downCause (by decide)]
  · simp

end Sys2Proof.Proofs
end

/-! PROOFS. Optical modules (chapter 06). -/

section
open Sys2Proof Sys2Proof.Machine

namespace Sys2Proof.Proofs

/-- The accepted information field of a port is apart from its module's status. -/
theorem sameRole_setF_modStat (p v : Nat) (s : State) :
    sameRole (setF (fRGx_MOD_STAT_RX_LOS p) v s) p = sameRole s p := by
  have hlo : oRGx_PHY_INFO_LO p ≠ oRGx_MOD_STAT p := by simp only [oRGx_PHY_INFO_LO, oRGx_MOD_STAT]; omega
  have hhi : oRGx_PHY_INFO_HI p ≠ oRGx_MOD_STAT p := by simp only [oRGx_PHY_INFO_HI, oRGx_MOD_STAT]; omega
  rw [sameRole, farInfo, reg_setF_other hlo, reg_setF_other hhi]
  rfl

/-- The identification of a module, as it is read into the port's registers. -/
def readId (p : Nat) (id : List Nat) (s : State) : State :=
  (List.range 32).foldl (fun t i => setReg (oRGx_MOD_ID p i)
    (wd (ofLE [id.getD (3 * i) 0 % 256, id.getD (3 * i + 1) 0 % 256, id.getD (3 * i + 2) 0 % 256])) t) s

/-- The status of a module that is there: PRESENT, its interface, no fault, SUITED by its rate, and the
transmitter on
or off with it. -/
def showModule (p : Nat) (id : List Nat) (suited : Bool) (s : State) : State :=
  let s := setF (fRGx_MOD_STAT_DDM p) (id.getD 92 0 / 64) (setF (fRGx_MOD_STAT_PRESENT p) 1 (readId p id s))
  let s := setF (fRGx_MOD_STAT_TX_FAULT p) 0 s
  setPort p { getPort s p with txDis := !suited } (setF (fRGx_MOD_STAT_SUITED p) (bit suited) s)

theorem exec_moduleInserted {p : Nat} {id : List Nat} {s : State} (hp : p < 4) (hopt : isOptical s p = true) :
    exec (.moduleInserted p id) s = .next (
      let suited := decide (25000 ≤ moduleRate id)
      let t := showModule p id suited s
      if suited then (if getF t (fRGx_PHY_STAT_DOWN_CAUSE p) = 6 then startDetect p (downCause p 0 t) else t)
      else raise (mediaSource p 4) (downCause p 6 t)) := by
  change execModuleInserted p id s = _
  rw [execModuleInserted, unit_pos (decide_eq_true hp), if_neg (by simp [hopt])]
  rfl

theorem showModule_shows (p : Nat) (id : List Nat) (suited : Bool) (s : State) :
    flag (showModule p id suited s) (fRGx_MOD_STAT_PRESENT p) = true ∧
      flag (showModule p id suited s) (fRGx_MOD_STAT_SUITED p) = suited ∧
      flag (showModule p id suited s) (fRGx_MOD_STAT_TX_FAULT p) = false ∧
      (getPort (showModule p id suited s) p).txDis = !suited := by
  refine ⟨?_, ?_, ?_, by simp [showModule]⟩
  · rw [showModule, flag_setPort, flag_setF_other, flag_setF_other, flag_setF_other, flag_setF_self]
    all_goals simp [fRGx_MOD_STAT_SUITED, fRGx_MOD_STAT_TX_FAULT, fRGx_MOD_STAT_DDM, fRGx_MOD_STAT_PRESENT]
  · rw [showModule, flag_setPort, flag_setF_self]
    · cases suited <;> simp [fRGx_MOD_STAT_SUITED, bit]
    · simp [fRGx_MOD_STAT_SUITED]
  · rw [showModule, flag_setPort, flag_setF_other, flag_setF_self]
    all_goals simp [fRGx_MOD_STAT_SUITED, fRGx_MOD_STAT_TX_FAULT]

/-- The module's status is apart from the port's. -/
theorem flag_mod_downCause (p v : Nat) (s : State) {f : Fld} (hf : f.off = oRGx_MOD_STAT p) :
    flag (downCause p v s) f = flag s f :=
  flag_of_reg_eq f <| reg_setF_other <| by
    rw [hf]
    simp only [oRGx_MOD_STAT, fRGx_PHY_STAT_DOWN_CAUSE, oRGx_PHY_STAT]
    omega

/-- The status after a module's fault or its removal: its bits, and the transmitter off. -/
def showFault (p : Nat) (absent : Bool) (s : State) : State :=
  let s := if absent then setF (fRGx_MOD_STAT_SUITED p) 0 (setF (fRGx_MOD_STAT_PRESENT p) 0 s)
    else setF (fRGx_MOD_STAT_TX_FAULT p) 1 s
  setPort p { getPort s p with txDis := true } s

theorem flag_present_showFault {p : Nat} (absent : Bool) {s : State} (h : flag s (fRGx_MOD_STAT_PRESENT p) =
  true) :
    flag (showFault p absent s) (fRGx_MOD_STAT_PRESENT p) = !absent := by
  cases absent
  · rw [showFault, flag_setPort, if_neg Bool.false_ne_true, flag_setF_other, h]
    all_goals simp [fRGx_MOD_STAT_TX_FAULT, fRGx_MOD_STAT_PRESENT]
  · rw [showFault, flag_setPort, if_pos rfl, flag_setF_other, flag_setF_self]
    all_goals simp [fRGx_MOD_STAT_SUITED, fRGx_MOD_STAT_PRESENT]

theorem exec_moduleFault {p : Nat} {absent : Bool} {s : State} (hp : p < 4) (hopt : isOptical s p = true)
    (hpresent : flag s (fRGx_MOD_STAT_PRESENT p) = true) : exec (.moduleFault p absent) s = .next (
      let t := takeDown p 6 true (showFault p absent s)
      raise (mediaSource p 4) (if portState t p = 0 then t else startDetect p t)) := by
  change execModuleFault p absent s = _
  rw [execModuleFault, unit_pos (decide_eq_true hp), if_neg (by simp [hopt])]
  simp only [hpresent, Bool.true_or, if_true]
  rfl

/-- Settles O13: a module is shown by its status, and the port goes down, comes up or waits by the rules of
its link. -/
theorem mediaModules : Obligations.MediaModules := by
  unfold Obligations.MediaModules
  refine ⟨?moduleInserted_1, ?moduleInserted_2, ?moduleFault, ?ddmPoll_1, ?ddmPoll_2, ?opticalLinkUp_1,
    ?opticalLinkUp_2⟩
  case moduleInserted_1 =>
    intro p id s hp hopt hrate
    obtain ⟨hpresent, hsuited, -, hdis⟩ := showModule_shows p id false s
    refine ⟨raise (mediaSource p 4) (downCause p 6 (showModule p id false s)), ?_, ?_, ?_, ?_, ?_,
      mem_pulse_raise _ _⟩
    · rw [exec_moduleInserted hp hopt]
      simp only [decide_eq_false (Nat.not_le.2 hrate), Bool.false_eq_true, if_false]
    · rw [flag_raise, flag_mod_downCause p 6 _ rfl, hpresent]
    · rw [flag_raise, flag_mod_downCause p 6 _ rfl, hsuited]
    · rw [getF_raise, getF_downCause (by decide)]
    · rw [getPort_raise, getPort_downCause, hdis]
      rfl
  case moduleInserted_2 =>
    intro p id s hp hopt hrate
    obtain ⟨hpresent, hsuited, hfault, hdis⟩ := showModule_shows p id true s
    have hkept (f : Fld) (hf : f.off = oRGx_MOD_STAT p) :
        flag (startDetect p (downCause p 0 (showModule p id true s))) f = flag (showModule p id true s) f :=
          by
      rw [(writes_startDetect p _).flag (hf ▸ modStat_not_mem_linkRegs p hp), flag_mod_downCause p 0 _ hf]
    refine ⟨_, exec_moduleInserted hp hopt, ?_⟩
    simp only [decide_eq_true hrate, if_true]
    split
    · refine ⟨(hkept _ rfl).trans hpresent, (hkept _ rfl).trans hsuited, (hkept _ rfl).trans hfault, ?_⟩
      rw [getPort_startDetect, getPort_downCause]
      exact hdis
    · exact ⟨hpresent, hsuited, hfault, hdis⟩
  case moduleFault =>
    intro p absent s hp hopt hpresent
    refine ⟨_, exec_moduleFault hp hopt hpresent, ?_⟩
    dsimp only
    have hdown := linkUp_takeDown 6 true hp (showFault p absent s)
    have hcause := getF_cause_takeDown true hp (c := 6) (by decide) (showFault p absent s)
    have hmod (f : Fld) (hf : f.off = oRGx_MOD_STAT p) :
        flag (takeDown p 6 true (showFault p absent s)) f = flag (showFault p absent s) f :=
      (writes_takeDown p 6 true _).flag (hf ▸ modStat_not_mem_linkRegs p hp)
    have hdis : (getPort (takeDown p 6 true (showFault p absent s)) p).txDis = true := by
      rw [getPort_takeDown]
      split <;> simp [showFault]
    have hdetect (f : Fld) (hf : f.off = oRGx_MOD_STAT p) (t : State) : flag (startDetect p t) f = flag t f :=
      (writes_startDetect p t).flag (hf ▸ modStat_not_mem_linkRegs p hp)
    rw [← flag_present_showFault absent hpresent, ← hmod _ rfl]
    generalize takeDown p 6 true (showFault p absent s) = t at hdown hcause hdis
    refine ⟨?_, ?_, ?_, ?_, mem_pulse_raise _ _⟩
    · rw [linkUp, flag_raise]
      split
      · exact hdown
      · exact (linkUp_startDetect _).trans hdown
    · rw [getF_raise]
      split
      · exact hcause
      · rw [getF_startDetect_other _ rfl (by simp [fRGx_PHY_STAT_DOWN_CAUSE]), hcause]
    · rw [getPort_raise]
      split
      · exact hdis
      · rw [getPort_startDetect]
        exact hdis
    · rw [flag_raise]
      split
      · rfl
      · exact hdetect _ rfl t
  case ddmPoll_1 =>
    intro p s hp hpresent hsuited hddm
    change execDdmPoll p none s = _
    rw [execDdmPoll, unit_pos (decide_eq_true hp), if_neg (by simp [hpresent, hsuited, hddm])]
    rfl
  case ddmPoll_2 =>
    intro p bs flags s hp hpresent hsuited hddm hflags
    change execDdmPoll p (some (bs, flags)) s = _
    simp [execDdmPoll, unit_pos, hp, hpresent, hsuited, hddm, hflags]
  case opticalLinkUp_1 =>
    intro p s hp hready hrole
    have hrole' : sameRole (setF (fRGx_MOD_STAT_RX_LOS p) 0 s) p = false := (sameRole_setF_modStat ..).trans
      hrole
    refine ⟨comeUp p 0 (setF (fRGx_MOD_STAT_RX_LOS p) 0 s), ?_, ?_⟩
    · change execOpticalLinkUp p s = _
      simp only [execOpticalLinkUp, unit_pos (decide_eq_true hp), hready, hrole', if_true,
        Bool.false_eq_true, if_false]
    · obtain ⟨hup, hst, hrate,
      hcause⟩ := status_comeUp hp (rate := 0) (by decide) (setF (fRGx_MOD_STAT_RX_LOS p) 0 s)
      refine ⟨hup, hst, hrate, ?_, hcause⟩
      rw [(writes_comeUp p 0 _).flag (f := fRGx_MOD_STAT_RX_LOS p) (modStat_not_mem_linkRegs p hp),
        flag_setF_self _ _ (by simp [fRGx_MOD_STAT_RX_LOS])]
      simp
  case opticalLinkUp_2 =>
    intro p s hp hready hrole
    have hrole' : sameRole (setF (fRGx_MOD_STAT_RX_LOS p) 0 s) p = true := (sameRole_setF_modStat ..).trans
      hrole
    refine ⟨wiringStop p (setF (fRGx_MOD_STAT_RX_LOS p) 0 s), ?_, wiringStop_shows _⟩
    change execOpticalLinkUp p s = _
    simp only [execOpticalLinkUp, unit_pos (decide_eq_true hp), hready, hrole', if_true]

end Sys2Proof.Proofs
end

/-! PROOFS. Insulation measurement, reflectometry and quiet requests (chapter 06). -/

section
open Sys2Proof Sys2Proof.Machine

namespace Sys2Proof.Proofs

theorem infoLo_not_mem_linkRegs {p : Nat} (q : Nat) (hp : p < 4) : oRGx_PHY_INFO_LO q ∉ linkRegs p := by
  simp only [not_mem_linkRegs, oRGx_PHY_INFO_LO, oRGx_PHY_STAT, oRGx_DOWN_CNT, oSEC_LP_STAT, oRGx_RP_FLUSH, oRTM_STATUS,
    oRGx_RP_STAT]
  omega

theorem tdrStat_not_mem_linkRegs {p : Nat} (q : Nat) (hp : p < 4) : oRGx_TDR_STAT q ∉ linkRegs p := by
  simp only [not_mem_linkRegs, oRGx_TDR_STAT, oRGx_PHY_STAT, oRGx_DOWN_CNT, oSEC_LP_STAT, oRGx_RP_FLUSH, oRTM_STATUS,
    oRGx_RP_STAT]
  omega

/-- A measurement of a port whose link is down begins its guard check at once (R202). -/
theorem irTry_of_down {p : Nat} {s : State} (h : linkUp s p = false) :
    irTry p s = setPort p { getPort s p with irRetry := none, irSince := s.clk } s := by
  have hdown : linkUp (setPort p { getPort s p with irRetry := none, irSince := s.clk } s) p = false := h
  rw [irTry]
  simp [hdown]

/-- The word that TDR_START writes: START set, and the other bits as they are. -/
theorem tdrWord_bits (v : Word) : bitsOf (wd (v.toNat / 2 * 2 + 1)).toNat 0 1 = 1 ∧
    bitsOf (wd (v.toNat / 2 * 2 + 1)).toNat 1 1 = bitsOf v.toNat 1 1 := by
  have hv := v.isLt
  simp only [bitsOf, BitVec.toNat_ofNat, Nat.shiftRight_eq_div_pow, Nat.reducePow] at hv ⊢
  omega

/-- A run of reflectometry begins on a copper port in line whose link is down (R207). -/
theorem tdrWrite_begins {p : Nat} (v : Word) {s : State} (hup : linkUp s p = false) (hstart : bitsOf v.toNat 0 1 = 1)
    (hphase : (getPort s p).tdrPhase = 0) (hline : pairInLine s (p / 2) = true) (hcopper : isCopper s p = true) :
    tdrWrite p v s =
      let t := setReg (oRGx_TDR_STAT p) 1 (setReg (oRGx_TDR_CTL p) (wd (v.toNat / 2 % 2 ^ 19 * 2)) s)
      setPortState p 5 (sendInfo p (setPort p { getPort t p with tdrPhase := 1, tdrSince := t.clk, retryAt := none } t)) :=
        by
  have hstat : (fRGx_PHY_STAT_LINK p).off ≠ oRGx_TDR_CTL p ∧ (fRGx_PHY_STAT_LINK p).off ≠ oRGx_TDR_STAT p := by
    simp only [fRGx_PHY_STAT_LINK, oRGx_PHY_STAT, oRGx_TDR_CTL, oRGx_TDR_STAT]
    omega
  have hbyp : (fRGx_BYP_STAT_STATE (p / 2)).off ≠ oRGx_TDR_CTL p := by
    simp only [fRGx_BYP_STAT_STATE, oRGx_BYP_STAT, oRGx_TDR_CTL]
    omega
  have hctl : (fRGx_PHY_CTL_MEDIUM p).off ≠ oRGx_TDR_CTL p := by
    simp only [fRGx_PHY_CTL_MEDIUM, oRGx_PHY_CTL, oRGx_TDR_CTL]
    omega
  have hline' (w : Word) : pairInLine (setReg (oRGx_TDR_CTL p) w s) (p / 2) = true := by
    rw [pairInLine, getF_setReg_other hbyp]
    exact hline
  have hcopper' (w : Word) : isCopper (setReg (oRGx_TDR_CTL p) w s) p = true := by
    rw [isCopper, getF_setReg_other hctl]
    exact hcopper
  have hup' (w : Word) (x : Port) : linkUp (sendInfo p (setPort p x (setReg (oRGx_TDR_STAT p) 1
      (setReg (oRGx_TDR_CTL p) w s)))) p = false := by
    rw [linkUp, flag, sendInfo, getF_emit, getF_setPort, getF_setReg_other hstat.2, getF_setReg_other hstat.1]
    exact hup
  rw [tdrWrite]
  simp only [hup, hstart, hphase, hline', hcopper', hup', beq_self_eq_true, Bool.and_false, Bool.false_and,
    Bool.not_true, Bool.false_or, bne_self_eq_false, getPort_setReg, Bool.false_eq_true, if_false]

/-- A port that ends what silences it: its link is down, and the silence lasts 100 ms (R208). -/
theorem goQuiet_shows {p : Nat} {s : State} (hp : p < 4) (hphase : (getPort s p).tdrPhase = 0) :
    linkUp (goQuiet p s) p = false ∧ portState (goQuiet p s) p = 1 ∧
      (getPort (goQuiet p s) p).quietUntil = some (s.clk + 100000000) ∧ (getPort (goQuiet p s) p).retryAt = none := by
  obtain ⟨t, hquiet, hclk, hdown, hport⟩ : ∃ t, (if linkUp s p then takeDown p 7 false s else s) = t ∧
      t.clk = s.clk ∧ linkUp t p = false ∧ (getPort t p).tdrPhase = 0 := by
    refine ⟨_, rfl, ?_⟩
    split
    · refine ⟨(show Only [.regs, .flt, .ports, .byps, .swq] s (takeDown p 7 false s) by simp).same .clk (by decide),
        linkUp_takeDown 7 false hp s, ?_⟩
      rw [getPort_takeDown]
      split <;> exact hphase
    · next h => exact ⟨rfl, Bool.eq_false_iff.2 h, hphase⟩
  rw [goQuiet]
  simp only [hquiet, getPort_setPort_self, hport, if_true]
  refine ⟨?_, portState_setPortState (by decide) _, ?_, ?_⟩
  · rw [linkUp_setPortState]
    exact hdown
  · rw [getPort_setPortState, getPort_setPort_self, hclk]
  · rw [getPort_setPortState, getPort_setPort_self]

/-- A reflectometry run ends: what is left of its port, where the port may signal. -/
theorem tdrReturn_shows {p : Nat} {s : State} (halive : portAlive s p = true) (hself : inSelf s p = false) :
    (∀ o, o ∉ linkRegs p → reg (tdrReturn p s) o = reg s o) ∧ (getPort (tdrReturn p s) p).tdrPhase = 0 ∧
      portState (tdrReturn p s) p = 1 := by
  have hregs : (sendInfo p (setPort p { getPort s p with tdrPhase := 0 } s)).regs = s.regs := rfl
  have hkept : Writes [] s (sendInfo p (setPort p { getPort s p with tdrPhase := 0 } s)) := .of_regs hregs
  refine ⟨(hkept.mono (List.nil_subset _)).trans (writes_startDetect p _), ?_, ?_⟩
  · rw [tdrReturn, getPort_startDetect, sendInfo, getPort_emit, getPort_setPort_self]
  · exact portState_startDetect_alive ((hkept.portAlive (by simp)).trans halive) ((hkept.inSelf (by simp)).trans hself)

/-- The results of a measurement or of a reflectometry run are none of the registers that a port's link writes, or that
say whether it signals. -/
theorem tdr_not_mem {p o : Nat} (hp : p < 4) (ho : o = oRGx_TDR_STAT p ∨ ∃ k < 4, o = oRGx_TDR_RES p k) :
    o ∉ linkRegs p ∧ o ∉ aliveRegs p ∧ o ≠ oRGx_BYP_STAT (p / 2) := by
  simp only [not_mem_linkRegs, aliveRegs, List.mem_cons, List.not_mem_nil, or_false, not_or, oRGx_TDR_STAT, oRGx_TDR_RES,
    oRGx_PHY_STAT, oRGx_DOWN_CNT, oSEC_LP_STAT, oRGx_RP_FLUSH, oRTM_STATUS, oRGx_RP_STAT, oRGx_PHY_CTL, oPWR_STATUS,
    oRGx_BYP_STAT] at ho ⊢
  obtain rfl | ⟨k, hk, rfl⟩ := ho <;> omega

/-- The results of a reflectometry run leave what says whether its port signals. -/
theorem writes_tdr_alive {p : Nat} {l : List Nat} {s t : State} (hp : p < 4)
    (hl : ∀ o ∈ l, o = oRGx_TDR_STAT p ∨ ∃ k < 4, o = oRGx_TDR_RES p k) (h : Writes l s t) :
    portAlive t p = portAlive s p ∧ inSelf t p = inSelf s p :=
  ⟨h.portAlive fun o ho hol => (tdr_not_mem hp (hl o hol)).2.1 ho,
    h.inSelf fun hol => (tdr_not_mem hp (hl _ hol)).2.2 rfl⟩

/-- The reflections of a run, as they are stored in its four result registers. -/
def storeReflections (p : Nat) (l : List (Nat × Int)) (s : State) : State :=
  [0, 1, 2, 3].foldl (fun t k => setReg (oRGx_TDR_RES p k) ((l.map reflWord).getD k 0) t) s

theorem reg_storeReflections {p k : Nat} (l : List (Nat × Int)) (hk : k < 4) (s : State) :
    reg (storeReflections p l s) (oRGx_TDR_RES p k) = (l.map reflWord).getD k 0 := by
  simp only [storeReflections, List.foldl_cons, List.foldl_nil, reg_setReg, oRGx_TDR_RES, Nat.add_left_cancel_iff]
  interval_cases k <;> simp

/-- The registers of a reflectometry run's results. -/
def tdrRegs (p : Nat) : List Nat := oRGx_TDR_STAT p :: [0, 1, 2, 3].map (oRGx_TDR_RES p)

theorem mem_tdrRegs {p o : Nat} (h : o ∈ tdrRegs p) : o = oRGx_TDR_STAT p ∨ ∃ k < 4, o = oRGx_TDR_RES p k := by
  simp only [tdrRegs, List.map_cons, List.map_nil, List.mem_cons, List.not_mem_nil, or_false] at h
  rcases h with h | h | h | h | h
  · exact .inl h
  · exact .inr ⟨0, by decide, h⟩
  · exact .inr ⟨1, by decide, h⟩
  · exact .inr ⟨2, by decide, h⟩
  · exact .inr ⟨3, by decide, h⟩

theorem writes_storeReflections (p : Nat) (l : List (Nat × Int)) (s : State) :
    Writes (tdrRegs p) s (storeReflections p l s) :=
  ((((Writes.setReg _ _ (by simp [tdrRegs])).trans (.setReg _ _ (by simp [tdrRegs]))).trans
    (.setReg _ _ (by simp [tdrRegs]))).trans (.setReg _ _ (by simp [tdrRegs])))

/-- The state of an insulation measurement that is over: its result, its alarms, and RUNNING 0. -/
def irShown (p r : Nat) (alarm trend : Bool) (res : Word) (s : State) : State :=
  let s := setReg (oRGx_IR_RES p) res s
  let s := setF (fRGx_IR_STAT_RUNNING p) 0 (setF (fRGx_IR_STAT_ALARM p) (bit alarm) (setF (fRGx_IR_STAT_TREND p) (bit
    trend) s))
  let x := getPort s p
  let s := setPort p { x with irMin := min x.irMin r, irTries := 0, irRetry := none } s
  causeIs trend (mediaSource p 6) (causeIs alarm (mediaSource p 5) s)

theorem causeIs_only (b : Bool) (n : Nat) (s : State) : Only [.flt] s (causeIs b n s) := by simp

theorem irShown_shows (p r : Nat) (alarm trend : Bool) (res : Word) (s : State) :
    reg (irShown p r alarm trend res s) (oRGx_IR_RES p) = res ∧
      flag (irShown p r alarm trend res s) (fRGx_IR_STAT_RUNNING p) = false ∧
      flag (irShown p r alarm trend res s) (fRGx_IR_STAT_ALARM p) = alarm ∧
      (getPort (irShown p r alarm trend res s) p).irMin = min (getPort s p).irMin r := by
  have hcauses (t : State) : Only [.flt] t (causeIs trend (mediaSource p 6) (causeIs alarm (mediaSource p 5) t)) := by simp
  have hne : oRGx_IR_RES p ≠ oRGx_IR_STAT p := by
    simp only [oRGx_IR_RES, oRGx_IR_STAT]
    omega
  refine ⟨?_, ?_, ?_, ?_⟩
  · rw [irShown, reg_congr ((hcauses _).same .regs (by decide)), reg_setPort, reg_setF_other hne, reg_setF_other hne,
      reg_setF_other hne, reg_setReg, if_pos rfl]
  · rw [irShown, flag_congr ((hcauses _).same .regs (by decide)), flag_setPort,
      flag_setF_self _ _ (by simp [fRGx_IR_STAT_RUNNING])]
    simp
  · rw [irShown, flag_congr ((hcauses _).same .regs (by decide)), flag_setPort, flag_setF_other, flag_setF_self]
    · cases alarm <;> simp [fRGx_IR_STAT_ALARM, bit]
    all_goals simp [fRGx_IR_STAT_RUNNING, fRGx_IR_STAT_ALARM]
  · rw [irShown, getPort, (hcauses _).same .ports (by decide), ← getPort, getPort_setPort_self]
    simp

/-- Settles O14: each command's results stand in registers that the port's link leaves; log 3 gives the drawn wait. -/
theorem mediaMeasurements : Obligations.MediaMeasurements := by
  unfold Obligations.MediaMeasurements
  refine ⟨?irStart_1, ?irStart_2, ?irStart_3, ?irGuardRetry_1, ?irGuardRetry_2, ?irGuardRetry_3, ?irComplete,
    ?irHourRollover, ?tdrStart_1, ?tdrStart_2, ?tdrSilence_1, ?tdrSilence_2, ?tdrComplete, ?quietReceived, ?quietTimeout⟩
  case irStart_1 =>
    intro p s hp
    change execIrStart p true s = _
    simp [execIrStart, unit_pos, hp]
  case irStart_2 =>
    intro p s hp hrunning hallowed hdown
    have hdown' : linkUp (setF (fRGx_IR_STAT_RUNNING p) 1
        (setPort p { getPort s p with irTries := 0, irLast := s.clk, irPend := false } s)) p = false := by
      rw [linkUp, flag_setF_other _ _ (by simp [fRGx_IR_STAT_RUNNING])
        (.inl (by simp only [fRGx_PHY_STAT_LINK, fRGx_IR_STAT_RUNNING, oRGx_PHY_STAT, oRGx_IR_STAT]; omega))]
      exact hdown
    refine ⟨irBegin p s, ?_, ?_⟩
    · change execIrStart p true s = _
      simp [execIrStart, irDueNow, hp, hrunning, hallowed]
    · rw [irBegin, irTry_of_down hdown']
      refine ⟨?_, ?_, ?_, ?_, ?_⟩
      · rw [flag_setPort, flag_setF_self _ _ (by simp [fRGx_IR_STAT_RUNNING])]
        simp [fRGx_IR_STAT_RUNNING]
      all_goals simp
  case irStart_3 =>
    intro p s hp hrunning hallowed
    change ∃ t, execIrStart p true s = .next t ∧ _
    simp [execIrStart, irDueNow, hp, hrunning, hallowed]
  case irGuardRetry_1 =>
    intro p s hp hrunning hallowed hretry hearly htries
    change execIrGuardRetry p s = _
    rw [execIrGuardRetry, unit_pos (decide_eq_true hp), if_neg (by simp [hrunning]), if_neg (by simp [hallowed])]
    simp only [hretry, hearly, if_true, guardFailed]
    rw [if_pos (by omega)]
  case irGuardRetry_2 =>
    intro p s hp hrunning hallowed hretry hearly htries
    change execIrGuardRetry p s = _
    rw [execIrGuardRetry, unit_pos (decide_eq_true hp), if_neg (by simp [hrunning]), if_neg (by simp [hallowed])]
    simp only [hretry, hearly, if_true, guardFailed]
    rw [if_neg (by omega)]
  case irGuardRetry_3 =>
    intro p d s hp hrunning hallowed hretry hdue hdown
    change execIrGuardRetry p s = _
    rw [execIrGuardRetry, unit_pos (decide_eq_true hp), if_neg (by simp [hrunning]), if_neg (by simp [hallowed])]
    simp only [hretry, hdue, if_true]
    rw [irTry_of_down hdown]
  case irComplete =>
    intro p kohm s hp hrunning hallowed hretry hdue h100 hkohm
    refine ⟨_, ?_, irShown_shows p kohm (decide (kohm < getF s (fRGx_IR_ALARM_ALARM p)))
      (decide (kohm < getF s (fRGx_IR_TREND_TREND p)) && (match irHighest s p with
        | some m => decide (10 * kohm < m)
        | none => false)) (wd (kohm + 2 ^ 23)) s⟩
    change execIrComplete p kohm s = _
    rw [execIrComplete, unit_pos (decide_eq_true hp), if_neg (by simp [hrunning]), if_neg (by simp [hallowed]),
      if_neg (by simp [hretry, Nat.not_lt.2 hdue])]
    simp only [Nat.not_lt.2 h100, Nat.not_lt.2 hkohm, if_false]
    rfl
  case irHourRollover =>
    intro s
    change execIrHourRollover s = _
    simp [execIrHourRollover]
  case tdrStart_1 =>
    intro w p v s hp hmayWrite hup hforce
    obtain ⟨hstart, hbit⟩ := tdrWord_bits v
    change execTdrStart w p v s = _
    rw [execTdrStart, unit_pos (decide_eq_true hp), guardWrite_may hmayWrite, tdrWrite, hstart, hbit, hforce, hup]
    rfl
  case tdrStart_2 =>
    intro w p v s hp hmayWrite hup hphase hline hcopper
    obtain ⟨hstart, -⟩ := tdrWord_bits v
    refine ⟨tdrWrite p (wd (v.toNat / 2 * 2 + 1)) s, ?_, ?_⟩
    · change execTdrStart w p v s = _
      rw [execTdrStart, unit_pos (decide_eq_true hp), guardWrite_may hmayWrite]
    · rw [tdrWrite_begins _ hup hstart hphase hline hcopper]
      refine ⟨portState_setPortState (by decide) _, ?_, ?_, ?_⟩
      · simp [sendInfo]
      · simp [sendInfo]
      · rw [writes_setPortState p 5 _ _ (tdr_not_mem hp (.inl rfl)).1]
        simp [sendInfo, oRGx_TDR_STAT]
  case tdrSilence_1 =>
    intro p s hp hgetPort hdue
    change execTdrSilence p true s = _
    simp [execTdrSilence, unit_pos, hp, hgetPort, hdue]
  case tdrSilence_2 =>
    intro p s hp hphase hdue halive hself
    have hwrites : Writes (tdrRegs p) s (setReg (oRGx_TDR_STAT p) (wd (3 + 1 * 4)) s) := .setReg _ _ (by simp [tdrRegs])
    obtain ⟨halive', hself'⟩ := writes_tdr_alive hp (fun o ho => mem_tdrRegs ho) hwrites
    obtain ⟨hregs, hphase', hstate⟩ := tdrReturn_shows (halive'.trans halive) (hself'.trans hself)
    refine ⟨tdrReturn p (setReg (oRGx_TDR_STAT p) (wd (3 + 1 * 4)) s), ?_, ?_, hphase', hstate⟩
    · change execTdrSilence p false s = _
      simp [execTdrSilence, hp, hphase, hdue]
    · rw [hregs _ (tdr_not_mem hp (.inl rfl)).1, reg_setReg, if_pos rfl]
  case tdrComplete =>
    intro p l r s hp hphase hdue halive hself hr
    subst hr
    have hwrites : Writes (tdrRegs p) s (setReg (oRGx_TDR_STAT p) (wd (2 + (reflections s p l).length * 16))
        (storeReflections p (reflections s p l) s)) :=
      (writes_storeReflections p _ s).trans (.setReg _ _ (by simp [tdrRegs]))
    obtain ⟨halive', hself'⟩ := writes_tdr_alive hp (fun o ho => mem_tdrRegs ho) hwrites
    obtain ⟨hregs, hphase', hstate⟩ := tdrReturn_shows (halive'.trans halive) (hself'.trans hself)
    refine ⟨_, ?_, ?_, fun k hk => ?_, hphase', hstate⟩
    · change execTdrComplete p l s = _
      rw [execTdrComplete, unit_pos (decide_eq_true hp), if_neg (by simp [hphase, Nat.not_lt.2 hdue])]
      rfl
    · rw [hregs _ (tdr_not_mem hp (.inl rfl)).1, reg_setReg, if_pos rfl]
    · have hne : oRGx_TDR_RES p k ≠ oRGx_TDR_STAT p := by
        simp only [oRGx_TDR_RES, oRGx_TDR_STAT]
        omega
      rw [hregs _ (tdr_not_mem hp (.inr ⟨k, hk, rfl⟩)).1, reg_setReg, if_neg hne, reg_storeReflections _ hk]
  case quietReceived =>
    intro p s hp halive hsilent hphase
    exact ⟨goQuiet p s, exec_quietReceived hp halive hsilent, goQuiet_shows hp hphase⟩
  case quietTimeout =>
    intro p d s hp hquiet hdue halive hself
    refine ⟨endQuiet p s, ?_, ?_, ?_, ?_⟩
    · change execQuietTimeout p s = _
      simp only [execQuietTimeout, unit_pos (decide_eq_true hp), hquiet, hdue, if_true]
    · exact portState_startDetect_alive halive hself
    · simp [endQuiet, getPort_startDetect]
    · simp [endQuiet, getPort_startDetect]

end Sys2Proof.Proofs
end

/-! PROOFS. Bypass pairs (chapter 06). -/

section
open Sys2Proof Sys2Proof.Machine

namespace Sys2Proof.Proofs

/-! A write of some bits of a register. -/

/-- A field whose bits are not in the mask stays. -/
theorem getF_writeBits_unmasked {f : Fld} {m : Nat} (v : Nat) (s : State) (hf : f.lo + f.w ≤ 24)
    (h : ∀ i < f.w, m.testBit (f.lo + i) = false) : getF (writeBits f.off m v s) f = getF s f := by
  apply Nat.eq_of_testBit_eq
  intro i
  rw [getF, getF, testBit_bitsOf, testBit_bitsOf, reg_writeBits, if_pos rfl]
  by_cases hi : i < f.w
  · have h24 : f.lo + i < 24 := by omega
    rw [BitVec.toNat_ofNat, Nat.testBit_mod_two_pow, testBit_mergeBits h24, h i hi]
    simp [h24]
  · simp [hi]

theorem writes_writeBits (o m v : Nat) (s : State) : Writes [o] s (writeBits o m v s) := .setReg _ s (by simp)

/-! A bypass's own state. -/

@[simp] theorem getByp_setReg (o : Nat) (v : Word) (s : State) (x : Nat) : getByp (setReg o v s) x = getByp s x := rfl
@[simp] theorem getByp_setF (f : Fld) (v : Nat) (s : State) (x : Nat) : getByp (setF f v s) x = getByp s x := rfl
@[simp] theorem getByp_raise (n : Nat) (s : State) (x : Nat) : getByp (raise n s) x = getByp s x := rfl
@[simp] theorem getByp_causeOn (n : Nat) (s : State) (x : Nat) : getByp (causeOn n s) x = getByp s x := rfl
@[simp] theorem getByp_causeOff (n : Nat) (s : State) (x : Nat) : getByp (causeOff n s) x = getByp s x := rfl
@[simp] theorem getByp_wrapF (f : Fld) (s : State) (x : Nat) : getByp (wrapF f s) x = getByp s x := rfl
@[simp] theorem getByp_bypState (y v : Nat) (s : State) (x : Nat) : getByp (bypState y v s) x = getByp s x := rfl
@[simp] theorem getByp_downCause (p v : Nat) (s : State) (x : Nat) : getByp (downCause p v s) x = getByp s x := rfl
@[simp] theorem getByp_setPortState (p v : Nat) (s : State) (x : Nat) : getByp (setPortState p v s) x = getByp s x := by
  simp [setPortState]
@[simp] theorem getByp_setByp_self (x : Nat) (b : Bypass) (s : State) : getByp (setByp x b s) x = b := by
  rw [getByp_setByp, if_pos rfl]

theorem getByp_congr {s t : State} (h : t.byps = s.byps) (x : Nat) : getByp t x = getByp s x := by
  rw [getByp, getByp, h]

/-! A port of a pair that is inserted (Table 7 step 1). -/

def insertPort (p : Nat) (s : State) : State := setPortState p 6 (downCause p 8 (setF (fRGx_PHY_CTL_EN p) 1 s))

theorem insertPair_eq (x : Nat) (s : State) : insertPair x s = insertPort (2 * x + 1) (insertPort (2 * x)
    (bypState x 1 (setByp x { getByp s x with trainAt := s.clk, downSince := none, settleAt := none } s))) := by
  simp only [insertPair, pairPorts, List.foldl_cons, List.foldl_nil, insertPort]

theorem writes_insertPort (p : Nat) (s : State) :
    Writes [oRGx_PHY_CTL p, oRGx_PHY_STAT p, oRTM_STATUS] s (insertPort p s) :=
  ((Writes.setF 1 s (by simp [fRGx_PHY_CTL_EN])).trans (.setF 8 _ (by simp [fRGx_PHY_STAT_DOWN_CAUSE]))).trans
    ((Writes.setF 6 _ (by simp [fRGx_PHY_STAT_STATE])).trans (.setF _ _ (by simp [fRTM_STATUS_KEEPALIVE])))

theorem insertPort_shows (p : Nat) (s : State) : portEn (insertPort p s) p = true ∧ portState (insertPort p s) p = 6 ∧
    getF (insertPort p s) (fRGx_PHY_STAT_DOWN_CAUSE p) = 8 := by
  have hother : (fRGx_PHY_CTL_EN p).off ∉ [oRGx_PHY_STAT p, oRTM_STATUS] := by
    simp only [fRGx_PHY_CTL_EN, oRGx_PHY_CTL, oRGx_PHY_STAT, oRTM_STATUS, List.mem_cons, List.not_mem_nil, or_false]
    omega
  have hstatus (t : State) : Writes [oRGx_PHY_STAT p, oRTM_STATUS] t (setPortState p 6 (downCause p 8 t)) :=
    (Writes.setF 8 t (by simp [fRGx_PHY_STAT_DOWN_CAUSE])).trans
      ((Writes.setF 6 _ (by simp [fRGx_PHY_STAT_STATE])).trans (.setF _ _ (by simp [fRTM_STATUS_KEEPALIVE])))
  refine ⟨?_, portState_setPortState (by decide) _, ?_⟩
  · rw [insertPort, portEn, (hstatus _).flag hother, flag_setF_self _ _ (by simp [fRGx_PHY_CTL_EN])]
    simp [fRGx_PHY_CTL_EN]
  · rw [insertPort, getF_setPortState_other _ rfl (by simp [fRGx_PHY_STAT_DOWN_CAUSE]), getF_downCause (by decide)]

/-- The insertion of a pair writes its bypass's state, and its ports' enables and status. -/
theorem writes_insertPair (x : Nat) (s : State) : Writes (oRGx_BYP_STAT x :: oRTM_STATUS ::
    [oRGx_PHY_CTL (2 * x), oRGx_PHY_STAT (2 * x), oRGx_PHY_CTL (2 * x + 1), oRGx_PHY_STAT (2 * x + 1)]) s
      (insertPair x s) := by
  have hbypass : Writes [oRGx_BYP_STAT x] s
      (bypState x 1 (setByp x { getByp s x with trainAt := s.clk, downSince := none, settleAt := none } s)) :=
    (Writes.of_regs (setByp_regs _ _ _)).trans (.setF 1 _ (by simp [fRGx_BYP_STAT_STATE]))
  rw [insertPair_eq]
  refine ((hbypass.mono ?_).trans ((writes_insertPort (2 * x) _).mono ?_)).trans
    ((writes_insertPort (2 * x + 1) _).mono ?_) <;> simp

/-- The insertion of a pair enables both ports, which train through the local loop (Table 7 step 1). -/
theorem insertPair_shows (x : Nat) (s : State) : portEn (insertPair x s) (2 * x) = true ∧
    portEn (insertPair x s) (2 * x + 1) = true ∧ portState (insertPair x s) (2 * x + 1) = 6 ∧
    getF (insertPair x s) (fRGx_PHY_STAT_DOWN_CAUSE (2 * x + 1)) = 8 ∧ (getByp (insertPair x s) x).trainAt = s.clk := by
  obtain ⟨hwest, hstate, hcause⟩ := insertPort_shows (2 * x + 1) (insertPort (2 * x)
    (bypState x 1 (setByp x { getByp s x with trainAt := s.clk, downSince := none, settleAt := none } s)))
  rw [insertPair_eq]
  refine ⟨?_, hwest, hstate, hcause, ?_⟩
  · have hother : (fRGx_PHY_CTL_EN (2 * x)).off ∉
        [oRGx_PHY_CTL (2 * x + 1), oRGx_PHY_STAT (2 * x + 1), oRTM_STATUS] := by
      simp only [fRGx_PHY_CTL_EN, oRGx_PHY_CTL, oRGx_PHY_STAT, oRTM_STATUS, List.mem_cons, List.not_mem_nil, or_false]
      omega
    rw [portEn, (writes_insertPort _ _).flag hother]
    exact (insertPort_shows _ _).1
  · simp [insertPort]

/-! A pair that is released (R216). -/

/-- The registers that the release of a pair writes. -/
def releaseRegs (x : Nat) : List Nat :=
  oRGx_BYP_STAT x :: oRGx_IR_STAT (2 * x) :: oRGx_IR_STAT (2 * x + 1) :: (linkRegs (2 * x) ++ linkRegs (2 * x + 1))

theorem writes_portsDown (x : Nat) (s : State) : Writes (linkRegs (2 * x) ++ linkRegs (2 * x + 1)) s
    ((pairPorts x).foldl (fun t p => setPortState p 0 (takeDown p 8 true t)) s) := by
  have hport (p : Nat) (t : State) : Writes (linkRegs p) t (setPortState p 0 (takeDown p 8 true t)) :=
    (writes_takeDown p 8 true t).trans (writes_setPortState p 0 _)
  exact ((hport (2 * x) s).mono (by simp)).trans ((hport (2 * x + 1) _).mono (by simp))

theorem writes_irHalt (p : Nat) (s : State) : Writes [oRGx_IR_STAT p] s (irHalt p s) :=
  fun _ ho => reg_irHalt_other s (by simpa using ho)

/-- What follows the ports' going down in a release: the bypass's state, and the ends of measurements. -/
theorem writes_releasePair_rest (x : Nat) (s : State) :
    Writes [oRGx_BYP_STAT x, oRGx_IR_STAT (2 * x), oRGx_IR_STAT (2 * x + 1)]
      ((pairPorts x).foldl (fun t p => setPortState p 0 (takeDown p 8 true t)) s) (releasePair x s) := by
  unfold releasePair
  generalize (pairPorts x).foldl (fun t p => setPortState p 0 (takeDown p 8 true t)) s = t
  refine .trans (t := bypState x 0 (setF (fRGx_BYP_STAT_HOLD x) 0 (setF (fRGx_BYP_STAT_SENSED x) 0 t))) ?_ ?_
  · exact ((Writes.setF 0 t (by simp [fRGx_BYP_STAT_SENSED])).trans (.setF 0 _ (by simp [fRGx_BYP_STAT_HOLD]))).trans
      (.setF 0 _ (by simp [fRGx_BYP_STAT_STATE]))
  · exact (Writes.of_regs (setByp_regs _ _ _)).trans
      (((writes_irHalt (2 * x) _).mono (by simp)).trans ((writes_irHalt (2 * x + 1) _).mono (by simp)))

theorem writes_releasePair (x : Nat) (s : State) : Writes (releaseRegs x) s (releasePair x s) :=
  ((writes_portsDown x s).mono fun o ho => by simpa [releaseRegs] using .inr (.inr (.inr (by simpa using ho)))).trans
    ((writes_releasePair_rest x s).mono (by simp [releaseRegs]))

theorem phyStat_not_mem_linkRegs {p q : Nat} (hp : p < 4) (hpq : q ≠ p) : oRGx_PHY_STAT q ∉ linkRegs p := by
  simp only [not_mem_linkRegs, oRGx_PHY_STAT, oRGx_DOWN_CNT, oSEC_LP_STAT, oRGx_RP_FLUSH, oRTM_STATUS, oRGx_RP_STAT]
  omega

/-- Both links of a pair that is released are down. -/
theorem linkUp_releasePair {x : Nat} (hx : x < 2) (s : State) :
    linkUp (releasePair x s) (2 * x) = false ∧ linkUp (releasePair x s) (2 * x + 1) = false := by
  have hrest (p : Nat) : (fRGx_PHY_STAT_LINK p).off ∉
      [oRGx_BYP_STAT x, oRGx_IR_STAT (2 * x), oRGx_IR_STAT (2 * x + 1)] := by
    simp only [fRGx_PHY_STAT_LINK, oRGx_PHY_STAT, oRGx_BYP_STAT, oRGx_IR_STAT, List.mem_cons, List.not_mem_nil, or_false]
    omega
  have hdown (p : Nat) (hp : p < 4) (t : State) : linkUp (setPortState p 0 (takeDown p 8 true t)) p = false := by
    rw [linkUp_setPortState, linkUp_takeDown 8 true hp]
  have hwest (t : State) : Writes (linkRegs (2 * x + 1)) t (setPortState (2 * x + 1) 0 (takeDown (2 * x + 1) 8 true t)) :=
    (writes_takeDown _ 8 true t).trans (writes_setPortState _ 0 _)
  simp only [linkUp]
  refine ⟨?_, ?_⟩
  · rw [(writes_releasePair_rest x s).flag (hrest _)]
    exact ((hwest _).flag (phyStat_not_mem_linkRegs (by omega) (by omega))).trans (hdown (2 * x) (by omega) s)
  · rw [(writes_releasePair_rest x s).flag (hrest _)]
    exact hdown (2 * x + 1) (by omega) _

/-- A bypass's control and its holds are apart from what a release and an insertion write. -/
theorem bypCtl_not_mem_releaseRegs {x : Nat} (y : Nat) (hx : x < 2) : oRGx_BYP_CTL y ∉ releaseRegs x := by
  simp only [releaseRegs, List.mem_cons, List.mem_append, not_or, not_mem_linkRegs, oRGx_BYP_CTL, oRGx_BYP_STAT,
    oRGx_IR_STAT, oRGx_PHY_STAT, oRGx_DOWN_CNT, oSEC_LP_STAT, oRGx_RP_FLUSH, oRTM_STATUS, oRGx_RP_STAT]
  omega

theorem drops_notePair (p x : Nat) (s : State) : (getByp (notePair p s) x).drops = (getByp s x).drops := by
  unfold notePair
  dsimp only
  split_ifs
  · rw [getByp_setByp]
    split
    · next h => rw [h]
    · rfl
  · rfl
  · rw [getByp_setByp]
    split
    · next h => rw [h]
    · rfl

theorem drops_takeDown (p c x : Nat) (lost : Bool) (s : State) :
    (getByp (takeDown p c lost s) x).drops = (getByp s x).drops := by
  have hbefore (t u : State) (h : Only [.regs, .flt, .ports, .swq] t u) : (getByp u x).drops = (getByp t x).drops := by
    rw [getByp_congr (h.same .byps (by decide))]
  have hframe (t : State) : Only [.regs, .flt, .ports, .swq] t (flushPort p (unkeyPort p (forgetLink p t))) := by simp
  unfold takeDown
  dsimp only
  split
  · rw [drops_notePair, hbefore _ _ (hframe _)]
    cases lost <;> simp
  · simp

theorem drops_releasePair (x y : Nat) (s : State) : (getByp (releasePair x s) y).drops = (getByp s y).drops := by
  have hhalts (t : State) : (getByp ((pairPorts x).foldl (fun t p => irHalt p t) t) y).drops = (getByp t y).drops := by
    rw [getByp_congr ((show Only [.regs, .ports] t ((pairPorts x).foldl (fun t p => irHalt p t) t) by simp).same .byps
      (by decide))]
  have hport (p : Nat) (t : State) : (getByp (setPortState p 0 (takeDown p 8 true t)) y).drops = (getByp t y).drops := by
    rw [getByp_setPortState, drops_takeDown]
  have hports : (getByp ((pairPorts x).foldl (fun t p => setPortState p 0 (takeDown p 8 true t)) s) y).drops =
      (getByp s y).drops := by
    simp only [pairPorts, List.foldl_cons, List.foldl_nil, hport]
  unfold releasePair
  rw [hhalts, getByp_setByp, ← hports]
  split
  · next h => simp [h]
  · simp

/-- The times of a pair's drops are left by the release and the insertion that follow. -/
theorem drops_reinserted (x : Nat) (s : State) : (getByp (insertPair x (releasePair x s)) x).drops = (getByp s x).drops :=
  by
  have hinsert (t : State) : (getByp (insertPair x t) x).drops = (getByp t x).drops := by
    simp [insertPair_eq, insertPort]
  rw [hinsert, drops_releasePair]

/-- The count of a pair's drops is left by the release and the insertion that follow. -/
theorem getF_drops_reinserted {x : Nat} (hx : x < 2) (s : State) :
    getF (insertPair x (releasePair x s)) (fRGx_BYP_STAT_DROPS x) = getF s (fRGx_BYP_STAT_DROPS x) := by
  obtain ⟨u, hu, hrel⟩ := reg_bypStat_releasePair hx s
  rw [getF_of_reg_eq (fRGx_BYP_STAT_DROPS x) (reg_bypStat_insertPair hx _), bypState, getF_setF_other,
    getF_of_reg_eq (fRGx_BYP_STAT_DROPS x) hrel, bypState, getF_setF_other, getF_setF_other, getF_setF_other]
  · exact getF_of_reg_eq (fRGx_BYP_STAT_DROPS x) hu
  all_goals simp [fRGx_BYP_STAT_STATE, fRGx_BYP_STAT_HOLD, fRGx_BYP_STAT_SENSED, fRGx_BYP_STAT_DROPS]

/-! The write of a bypass's control register (R213). -/

/-- The fields other than HOLD_EN, as they are written. -/
def bypBits (x : Nat) (v : Word) (s : State) : State :=
  let s := writeBits (oRGx_BYP_CTL x) 0x0F0002 v.toNat s
  if flag s (fRGx_BYP_STAT_HOLD x) then setF (fRGx_BYP_STAT_CFG_REJECT x) 1 s
  else writeBits (oRGx_BYP_CTL x) 0x30FFFC v.toNat s

theorem exec_bypHoldEnWrite {w : Writer} {x : Nat} {v : Word} {s : State} (hx : x < 2)
    (hmay : mayWrite w (oRGx_BYP_CTL x) s = true) :
    exec (.bypHoldEnWrite w x v) s = .next (writeHoldEn x (bitsOf v.toNat 0 1 == 1) (bypBits x v s)) := by
  change execBypHoldEnWrite w x v s = _
  rw [execBypHoldEnWrite, unit_pos (decide_eq_true hx), guardWrite_may hmay]
  rfl

theorem bypStat_ne_bypCtl (x : Nat) : oRGx_BYP_STAT x ≠ oRGx_BYP_CTL x := by
  simp only [oRGx_BYP_STAT, oRGx_BYP_CTL]
  omega

theorem flag_holdEn_bypBits (x : Nat) (v : Word) (s : State) :
    flag (bypBits x v s) (fRGx_BYP_CTL_HOLD_EN x) = flag s (fRGx_BYP_CTL_HOLD_EN x) := by
  have hlow (t : State) : flag (writeBits (oRGx_BYP_CTL x) 0x0F0002 v.toNat t) (fRGx_BYP_CTL_HOLD_EN x) =
      flag t (fRGx_BYP_CTL_HOLD_EN x) := by
    have hbit := getF_writeBits_unmasked (f := fRGx_BYP_CTL_HOLD_EN x) (m := 0x0F0002) v.toNat t
      (by simp [fRGx_BYP_CTL_HOLD_EN]) (by simp [fRGx_BYP_CTL_HOLD_EN])
    exact congrArg (· != 0) hbit
  have hhigh (t : State) : flag (writeBits (oRGx_BYP_CTL x) 0x30FFFC v.toNat t) (fRGx_BYP_CTL_HOLD_EN x) =
      flag t (fRGx_BYP_CTL_HOLD_EN x) := by
    have hbit := getF_writeBits_unmasked (f := fRGx_BYP_CTL_HOLD_EN x) (m := 0x30FFFC) v.toNat t
      (by simp [fRGx_BYP_CTL_HOLD_EN]) (by simp [fRGx_BYP_CTL_HOLD_EN])
    exact congrArg (· != 0) hbit
  unfold bypBits
  dsimp only
  split
  · rw [Writes.flag (l := [oRGx_BYP_STAT x]) (.setF 1 _ (by simp [fRGx_BYP_STAT_CFG_REJECT]))
      (by simpa [fRGx_BYP_CTL_HOLD_EN] using (bypStat_ne_bypCtl x).symm), hlow]
  · rw [hhigh, hlow]

theorem flag_lockedOut_bypBits (x : Nat) (v : Word) (s : State) :
    flag (bypBits x v s) (fRGx_BYP_STAT_LOCKED_OUT x) = flag s (fRGx_BYP_STAT_LOCKED_OUT x) := by
  have hbits (m : Nat) (t : State) : flag (writeBits (oRGx_BYP_CTL x) m v.toNat t) (fRGx_BYP_STAT_LOCKED_OUT x) =
      flag t (fRGx_BYP_STAT_LOCKED_OUT x) := (writes_writeBits _ m v.toNat t).flag
        (by simpa [fRGx_BYP_STAT_LOCKED_OUT] using bypStat_ne_bypCtl x)
  unfold bypBits
  dsimp only
  split
  · rw [flag_setF_other _ _ (by simp [fRGx_BYP_STAT_CFG_REJECT])
      (by simp [fRGx_BYP_STAT_CFG_REJECT, fRGx_BYP_STAT_LOCKED_OUT]), hbits]
  · rw [hbits, hbits]

theorem bypBits_clk (x : Nat) (v : Word) (s : State) : (bypBits x v s).clk = s.clk := by
  unfold bypBits
  dsimp only
  split <;> rfl

/-! A pair whose relay has settled comes into line (Table 7 step 4). -/

def settled (x : Nat) (s : State) : State :=
  let s := bypState x 3 (setF (fRGx_BYP_STAT_SENSED x) 1 s)
  let s := setByp x { getByp s x with settleAt := none, downSince := some s.clk } s
  (pairPorts x).foldl (fun t p => startDetect p (downCause p 0 t)) s

theorem reg_bypStat_settled {x : Nat} (hx : x < 2) (s : State) : reg (noteServing (settled x s)) (oRGx_BYP_STAT x) =
    reg (bypState x 3 (setF (fRGx_BYP_STAT_SENSED x) 1 s)) (oRGx_BYP_STAT x) := by
  rw [reg_noteServing_other _ (bypStat_ne_boot x), settled]
  rw [reg_foldl_pairPorts, reg_setByp]
  intro t p hp
  have hp4 := lt_of_mem_pairPorts hx hp
  exact ((writes_downCause p 0 t).trans (writes_startDetect p _)) _ (bypStat_not_mem_linkRegs x hp4)

theorem getByp_settled (x : Nat) (s : State) : getByp (noteServing (settled x s)) x =
    { getByp s x with settleAt := none, downSince := some s.clk } := by
  have hrest (t : State) : Only [.regs, .ports] t
      (noteServing ((pairPorts x).foldl (fun t p => startDetect p (downCause p 0 t)) t)) := by simp
  rw [settled, getByp_congr ((hrest _).same .byps (by decide)), getByp_setByp_self, getByp_bypState, getByp_setF]
  rfl

/-- Settles O15: an insertion and a release are shown by the registers they write and by what the pair holds; log 215 gives
the wait after a failed self-training. -/
theorem mediaBypass : Obligations.MediaBypass := by
  unfold Obligations.MediaBypass
  refine ⟨?bypHoldEnWrite_1, ?bypHoldEnWrite_2, ?bypHoldEnWrite_3, ?selfTrainDone, ?selfTrainFail, ?bypassSettle_1,
    ?bypassSettle_2, ?autoDrop_1, ?autoDrop_2⟩
  case bypHoldEnWrite_1 =>
    intro w x v s hx hmayWrite
    change execBypHoldEnWrite w x v s = _
    simp [execBypHoldEnWrite, unit_pos, guardWrite_may, hx, hmayWrite]
  case bypHoldEnWrite_2 =>
    intro w x v s hx hmayWrite hbit hen hout
    have hsame : flag (setF (fRGx_BYP_CTL_HOLD_EN x) 1 (bypBits x v s)) (fRGx_BYP_STAT_LOCKED_OUT x) = false := by
      rw [Writes.flag (l := [oRGx_BYP_CTL x]) (.setF 1 _ (by simp [fRGx_BYP_CTL_HOLD_EN]))
        (by simpa [fRGx_BYP_STAT_LOCKED_OUT] using bypStat_ne_bypCtl x), flag_lockedOut_bypBits, hout]
    have hctl : (fRGx_BYP_CTL_HOLD_EN x).off ∉ oRGx_BYP_STAT x :: oRTM_STATUS ::
        [oRGx_PHY_CTL (2 * x), oRGx_PHY_STAT (2 * x), oRGx_PHY_CTL (2 * x + 1), oRGx_PHY_STAT (2 * x + 1)] := by
      simp only [fRGx_BYP_CTL_HOLD_EN, oRGx_BYP_CTL, oRGx_BYP_STAT, oRTM_STATUS, oRGx_PHY_CTL, oRGx_PHY_STAT, List.mem_cons,
        List.not_mem_nil, or_false]
      omega
    obtain ⟨heast, hwest, hstate, hcause, htrain⟩ := insertPair_shows x (setF (fRGx_BYP_CTL_HOLD_EN x) 1 (bypBits x v s))
    refine ⟨insertPair x (setF (fRGx_BYP_CTL_HOLD_EN x) 1 (bypBits x v s)), ?_, ?_, getF_state_insertPair hx _, heast,
      hwest,
      hstate, hcause, htrain.trans (bypBits_clk x v s)⟩
    · rw [exec_bypHoldEnWrite hx hmayWrite, hbit, writeHoldEn]
      simp only [flag_holdEn_bypBits, hen, beq_self_eq_true, Bool.not_false, Bool.and_self, bit, if_true, hsame]
    · rw [(writes_insertPair x _).flag hctl, flag_setF_self _ _ (by simp [fRGx_BYP_CTL_HOLD_EN])]
      simp [fRGx_BYP_CTL_HOLD_EN]
  case bypHoldEnWrite_3 =>
    intro w x v s hx hmayWrite hbit hen
    have hwrites (t : State) : Writes [oRGx_BYP_STAT x, oGLB_BOOT] t
        (noteServing (causeOff (bypSource x) (setF (fRGx_BYP_STAT_LOCKED_OUT x) 0 t))) := fun o ho => by
      simp only [List.mem_cons, List.not_mem_nil, or_false, not_or] at ho
      rw [reg_noteServing_other _ ho.2, reg_causeOff, reg_setF_other ho.1]
    have hctl : oRGx_BYP_CTL x ∉ [oRGx_BYP_STAT x, oGLB_BOOT] := by
      simp only [oRGx_BYP_CTL, oRGx_BYP_STAT, oGLB_BOOT, List.mem_cons, List.not_mem_nil, or_false]
      omega
    have hphy (p : Nat) : oRGx_PHY_STAT p ∉ [oRGx_BYP_STAT x, oGLB_BOOT] := by
      simp only [oRGx_PHY_STAT, oRGx_BYP_STAT, oGLB_BOOT, List.mem_cons, List.not_mem_nil, or_false]
      omega
    have hbyp (t : State) : reg (noteServing (causeOff (bypSource x) (setF (fRGx_BYP_STAT_LOCKED_OUT x) 0 t)))
      (oRGx_BYP_STAT x) =
        reg (setF (fRGx_BYP_STAT_LOCKED_OUT x) 0 t) (oRGx_BYP_STAT x) := by
      rw [reg_noteServing_other _ (bypStat_ne_boot x), reg_causeOff]
    obtain ⟨heast, hwest⟩ := linkUp_releasePair hx (setF (fRGx_BYP_CTL_HOLD_EN x) 0 (bypBits x v s))
    refine ⟨noteServing (causeOff (bypSource x) (setF (fRGx_BYP_STAT_LOCKED_OUT x) 0
      (releasePair x (setF (fRGx_BYP_CTL_HOLD_EN x) 0 (bypBits x v s))))), ?_, ?_, ?_, ?_, ?_, ?_⟩
    · rw [exec_bypHoldEnWrite hx hmayWrite, hbit, writeHoldEn]
      simp only [flag_holdEn_bypBits, hen, Nat.reduceBEq, Bool.false_and, Bool.false_eq_true, if_false, Bool.not_false,
        Bool.and_self,
        bit, if_true]
    · rw [(hwrites _).flag hctl, (writes_releasePair x _).flag (bypCtl_not_mem_releaseRegs x hx),
        flag_setF_self _ _ (by simp [fRGx_BYP_CTL_HOLD_EN])]
      simp
    · rw [flag_of_reg_eq (fRGx_BYP_STAT_HOLD x) (hbyp _), flag_setF_other, flag_hold_releasePair hx]
      all_goals simp [fRGx_BYP_STAT_LOCKED_OUT, fRGx_BYP_STAT_HOLD]
    · rw [getF_of_reg_eq (fRGx_BYP_STAT_STATE x) (hbyp _), getF_setF_other, getF_state_releasePair hx]
      all_goals simp [fRGx_BYP_STAT_LOCKED_OUT, fRGx_BYP_STAT_STATE]
    · exact ((hwrites _).flag (hphy _)).trans heast
    · exact ((hwrites _).flag (hphy _)).trans hwest
  case selfTrainDone =>
    intro x re rw s hx htrained hin
    have hkept (t : State) : Writes [oRGx_BYP_STAT x] t (bypState x 2 (setF (fRGx_BYP_STAT_HOLD x) 1 t)) :=
      (Writes.setF 1 t (by simp [fRGx_BYP_STAT_HOLD])).trans (.setF 2 _ (by simp [fRGx_BYP_STAT_STATE]))
    have hctl : oRGx_BYP_CTL x ∉ [oRGx_BYP_STAT x] := by simpa using (bypStat_ne_bypCtl x).symm
    refine ⟨energise x ((pairPorts x).foldl (fun t p => causeOff (mediaSource p 1) t) s), ?_, ?_, ?_, ?_, ?_⟩
    · change execSelfTrainDone x re rw s = _
      simp [execSelfTrainDone, hx, htrained, hin]
    · rw [energise, getF_setByp, bypState, getF_setF_self _ _ (by simp [fRGx_BYP_STAT_STATE])]
      simp [fRGx_BYP_STAT_STATE]
    · rw [energise, flag_setByp, bypState, flag_setF_other, flag_setF_self]
      all_goals simp [fRGx_BYP_STAT_STATE, fRGx_BYP_STAT_HOLD]
    · rw [energise, getByp_setByp_self, (hkept _).getF (f := fRGx_BYP_CTL_SETTLE x) hctl]
      simp only [pairPorts, List.foldl_cons, List.foldl_nil, getF_causeOff]
      rfl
    · rw [energise, getByp_setByp_self, (hkept _).getF (f := fRGx_BYP_CTL_PULL x) hctl]
      simp only [pairPorts, List.foldl_cons, List.foldl_nil, getF_causeOff]
      rfl
  case selfTrainFail =>
    intro x s hx hstate hdue
    refine ⟨setByp x { getByp s x with trainAt := s.clk + 10000000000 }
      (raise (mediaSource (2 * x + 1) 1) (raise (mediaSource (2 * x) 1) s)), ?_, ?_, ?_, ?_⟩
    · change execSelfTrainFail x s = _
      rw [execSelfTrainFail, unit_pos (decide_eq_true hx), if_neg (by simp [hstate, Nat.not_lt.2 hdue])]
      rfl
    · rw [getByp_setByp, if_pos rfl]
    · exact (mem_insSet _ _ _).2 (.inr ((mem_insSet _ _ _).2 (.inl (by simp only [mediaSource]; omega))))
    · exact (mem_insSet _ _ _).2 (.inl (by simp only [mediaSource]; omega))
  case bypassSettle_1 =>
    intro x sense d s hx hsettle hdue hstate hen hsense
    subst hsense
    change execBypassSettle x _ s = _
    rw [execBypassSettle, unit_pos (decide_eq_true hx)]
    simp [hsettle, hstate, hdue, hen]
  case bypassSettle_2 =>
    intro x sense d s hx hsettle hdue hstate hsense
    have hline : (sense != flag s (fRGx_BYP_CTL_SENSE_POL x)) = true := by simpa using hsense
    refine ⟨noteServing (settled x s), ?_, ?_, ?_, ?_⟩
    · change execBypassSettle x sense s = _
      rw [execBypassSettle, unit_pos (decide_eq_true hx)]
      simp [hsettle, hstate, hdue, hline, settled, bit]
    · rw [getF_of_reg_eq (fRGx_BYP_STAT_STATE x) (reg_bypStat_settled hx s), bypState,
        getF_setF_self _ _ (by simp [fRGx_BYP_STAT_STATE])]
      simp [fRGx_BYP_STAT_STATE]
    · rw [flag_of_reg_eq (fRGx_BYP_STAT_SENSED x) (reg_bypStat_settled hx s), bypState, flag_setF_other, flag_setF_self]
      all_goals simp [fRGx_BYP_STAT_STATE, fRGx_BYP_STAT_SENSED]
    · rw [getByp_settled]
      exact ⟨rfl, rfl⟩
  case autoDrop_1 =>
    intro x d l u s hx hsince hline hauto hdue hl hless hu
    subst hl
    have hfew : ¬ 3 ≤ (dropsNow s x).length := Nat.not_le.2 hless
    rw [hu, exec_autoDrop_due hx hsince hline hauto hdue, if_neg hfew]
    rfl
  case autoDrop_2 =>
    intro x d s hx hsince hline hauto hdue hnone
    have hdrops : dropsNow s x = [s.clk] := by rw [dropsNow, hnone]; rfl
    refine ⟨insertPair x (releasePair x (noteDrop x s)), ?_, getF_state_insertPair hx _, ?_, ?_, ?_⟩
    · exact (exec_autoDrop_due hx hsince hline hauto hdue).trans (by rw [if_neg (by simp [hdrops])])
    · rw [flag_insertPair hx _ rfl (by simp [fRGx_BYP_STAT_HOLD]), flag_hold_releasePair hx]
    · rw [getF_drops_reinserted hx, noteDrop, hdrops, getF_setF_self _ _ (by simp [fRGx_BYP_STAT_DROPS])]
      simp [fRGx_BYP_STAT_DROPS]
    · rw [drops_reinserted, noteDrop, hdrops]
      simp

end Sys2Proof.Proofs
end

/-! PROOFS. Ports: enable, training, detection, links up and down, and keep-alive (chapter 06). -/

section
open Sys2Proof Sys2Proof.Machine

namespace Sys2Proof.Proofs

/-! Registers apart from those of a port's link. -/

theorem phyCtl_not_mem_linkRegs {p : Nat} (q : Nat) (hp : p < 4) : oRGx_PHY_CTL q ∉ linkRegs p :=
  aliveRegs_not_mem_linkRegs q hp _ (by simp [aliveRegs])

theorem phyInfo_not_mem_linkRegs {p : Nat} (hp : p < 4) :
    oRGx_PHY_INFO_LO p ∉ linkRegs p ∧ oRGx_PHY_INFO_HI p ∉ linkRegs p := by
  simp only [not_mem_linkRegs, oRGx_PHY_INFO_LO, oRGx_PHY_INFO_HI, oRGx_PHY_STAT, oRGx_DOWN_CNT, oSEC_LP_STAT,
    oRGx_RP_FLUSH, oRTM_STATUS, oRGx_RP_STAT]
  omega

theorem phyMargin_not_mem_linkRegs {p : Nat} (hp : p < 4) :
    oRGx_PHY_MARGIN p ∉ linkRegs p ∧ oRGx_TRAIN_TIME p ∉ linkRegs p := by
  simp only [not_mem_linkRegs, oRGx_PHY_MARGIN, oRGx_TRAIN_TIME, oRGx_PHY_STAT, oRGx_DOWN_CNT, oSEC_LP_STAT,
    oRGx_RP_FLUSH, oRTM_STATUS, oRGx_RP_STAT]
  omega

/-! A link that goes down and detects again. -/

/-- A link that is taken down for detection of a port that signals, outside self-training. -/
theorem redetect_shows {p c : Nat} {s : State} (hp : p < 4) (hc : c < 16) (halive : portAlive s p = true)
    (hself : inSelf s p = false) :
    linkUp (startDetect p (takeDown p c true s)) p = false ∧ portState (startDetect p (takeDown p c true s)) p = 1 ∧
      getF (startDetect p (takeDown p c true s)) (fRGx_PHY_STAT_DOWN_CAUSE p) = c ∧
      (linkUp s p = true → 64 + 8 * p ∈ (startDetect p (takeDown p c true s)).flt.level) := by
  have hkept := writes_takeDown p c true s
  have halive' := (hkept.portAlive (aliveRegs_not_mem_linkRegs p hp)).trans halive
  have hself' := (hkept.inSelf (bypStat_not_mem_linkRegs _ hp)).trans hself
  refine ⟨?_, portState_startDetect_alive halive' hself', ?_, fun hup => ?_⟩
  · rw [linkUp_startDetect, linkUp_takeDown c true hp]
  · rw [getF_startDetect_other _ rfl (by simp [fRGx_PHY_STAT_DOWN_CAUSE]), getF_cause_takeDown true hp hc]
  · rw [startDetect_flt]
    exact mem_level_takeDown c hup

/-! The write of EN (R191, R194). -/

theorem exec_portEnable {w : Writer} {p : Nat} {en : Bool} {s : State} (hp : p < 4)
    (hmay : mayWrite w (oRGx_PHY_CTL p) s = true) : exec (.portEnable w p en) s = .next (writeEn p en s) := by
  change execPortEnable w p en s = _
  rw [execPortEnable, unit_pos (decide_eq_true hp), guardWrite_may hmay]

theorem writeEn_on {p : Nat} {s : State} (hen : portEn s p = false)
    (halive : portAlive (setF (fRGx_PHY_CTL_EN p) 1 s) p = true) :
    writeEn p true s = startDetect p (downCause p 0 (setF (fRGx_PHY_CTL_EN p) 1 s)) := by
  simp only [writeEn, hen, bit, halive, Bool.not_false, Bool.and_self, if_true]

/-- A port that is disabled: what is left of it after its link went down. -/
def disabled (p : Nat) (u : State) : State :=
  causeOff (mediaSource p 0) (setPortState p 0 (setPort p { getPort u p with retryAt := none, quietUntil := none } u))

theorem writeEn_off {p : Nat} {s : State} (hen : portEn s p = true) : writeEn p false s =
    disabled p (if linkUp (setF (fRGx_PHY_CTL_EN p) 0 s) p then
        raise (mediaSource p 0) (takeDown p 1 false (setF (fRGx_PHY_CTL_EN p) 0 s))
      else takeDown p 1 false (setF (fRGx_PHY_CTL_EN p) 0 s)) := by
  simp only [writeEn, hen, bit, Bool.false_and, Bool.false_eq_true, if_false, Bool.not_false, Bool.and_self, if_true]
  rfl

/-- EN is apart from the port's status. -/
theorem linkUp_setF_en (p v : Nat) (s : State) : linkUp (setF (fRGx_PHY_CTL_EN p) v s) p = linkUp s p :=
  flag_of_reg_eq (fRGx_PHY_STAT_LINK p) <| reg_setF_other <| by
    simp only [fRGx_PHY_STAT_LINK, fRGx_PHY_CTL_EN, oRGx_PHY_STAT, oRGx_PHY_CTL]
    omega

theorem inSelf_setF_en (p v : Nat) (s : State) : inSelf (setF (fRGx_PHY_CTL_EN p) v s) p = inSelf s p := by
  have hne : oRGx_BYP_STAT (p / 2) ∉ [oRGx_PHY_CTL p] := by
    simp only [oRGx_BYP_STAT, oRGx_PHY_CTL, List.mem_singleton]
    omega
  exact (Writes.setF v s (by simp [fRGx_PHY_CTL_EN])).inSelf hne

theorem exec_retrain {w : Writer} {p : Nat} {s : State} (hp : p < 4) (hmay : mayWrite w (oRGx_PHY_CTL p) s = true)
    (hen : portEn s p = true) : exec (.retrain w p) s = .next (startDetect p (takeDown p 0 true s)) := by
  change execRetrain w p s = _
  rw [execRetrain, unit_pos (decide_eq_true hp), guardWrite_may hmay, retrainPort, if_pos hen]

theorem portEn_of_alive {p : Nat} {s : State} (h : portAlive s p = true) : portEn s p = true := by
  simp only [portAlive, Bool.and_eq_true] at h
  exact h.1.1

theorem portAlive_of_mayTrain {p : Nat} {s : State} (h : mayTrain s p = true) : portAlive s p = true := by
  simp only [mayTrain, portReady, Bool.and_eq_true] at h
  obtain ⟨⟨⟨⟨⟨⟨hen, hmed⟩, hdom⟩, -⟩, -⟩, -⟩, -⟩ := h
  simp [portAlive, hen, hmed, hdom]

theorem portAlive_of_ready {p : Nat} {s : State} (h : portReady s p = true) : portAlive s p = true := by
  simp only [portReady, Bool.and_eq_true] at h
  obtain ⟨⟨⟨hen, hmed⟩, hdom⟩, -⟩ := h
  simp [portAlive, hen, hmed, hdom]

/-- EN = 0 of a port whose link is up takes the link down with its cause, and the loss is reported. -/
theorem exec_portEnable_off {w : Writer} {p : Nat} {s : State} (hp : p < 4)
    (hmayWrite : mayWrite w (oRGx_PHY_CTL p) s = true) (hen : portEn s p = true) (hup : linkUp s p = true) :
    ∃ t, exec (.portEnable w p false) s = .next t ∧ portEn t p = false ∧ linkUp t p = false ∧ portState t p = 0 ∧
      getF t (fRGx_PHY_STAT_DOWN_CAUSE p) = 1 ∧ 64 + 8 * p ∈ t.flt.pulse := by
  have hup' : linkUp (setF (fRGx_PHY_CTL_EN p) 0 s) p = true := (linkUp_setF_en p 0 s).trans hup
  have hoff : portEn (takeDown p 1 false (setF (fRGx_PHY_CTL_EN p) 0 s)) p = false := by
    rw [portEn, (writes_takeDown p 1 false _).flag (phyCtl_not_mem_linkRegs p hp),
      flag_setF_self _ _ (by simp [fRGx_PHY_CTL_EN])]
    simp
  have hdown := linkUp_takeDown 1 false hp (setF (fRGx_PHY_CTL_EN p) 0 s)
  have hcause := getF_cause_takeDown false hp (c := 1) (by decide) (setF (fRGx_PHY_CTL_EN p) 0 s)
  refine ⟨_, (exec_portEnable hp hmayWrite).trans (by rw [writeEn_off hen, if_pos hup']), ?_⟩
  generalize takeDown p 1 false (setF (fRGx_PHY_CTL_EN p) 0 s) = u at hoff hdown hcause
  unfold disabled
  refine ⟨?_, ?_, ?_, ?_, ?_⟩
  · rw [portEn, flag_causeOff, (writes_setPortState p 0 _).flag (phyCtl_not_mem_linkRegs p hp), flag_setPort,
    flag_raise]
    exact hoff
  · rw [linkUp, flag_causeOff, ← linkUp, linkUp_setPortState, linkUp, flag_setPort, flag_raise]
    exact hdown
  · rw [portState, getF_causeOff, ← portState, portState_setPortState (by decide)]
  · rw [getF_causeOff, getF_setPortState_other _ rfl (by simp [fRGx_PHY_STAT_DOWN_CAUSE]), getF_setPort, getF_raise]
    exact hcause
  · show 64 + 8 * p ∈ insSet (mediaSource p 0) u.flt.pulse
    exact (mem_insSet _ _ _).2 (.inl rfl)

/-! An accepted information field (R190, R191). -/

/-- The two registers of an accepted field. -/
def storeInfo (p : Nat) (info : BitVec 48) (s : State) : State :=
  setReg (oRGx_PHY_INFO_HI p) (wd (info.toNat / 2 ^ 24)) (setReg (oRGx_PHY_INFO_LO p) (wd info.toNat) s)

theorem writes_storeInfo (p : Nat) (info : BitVec 48) (s : State) :
    Writes [oRGx_PHY_INFO_LO p, oRGx_PHY_INFO_HI p] s (storeInfo p info s) :=
  (Writes.setReg _ s (by simp)).trans (.setReg _ _ (by simp))

theorem reg_storeInfo (p : Nat) (info : BitVec 48) (s : State) :
    reg (storeInfo p info s) (oRGx_PHY_INFO_LO p) = wd info.toNat ∧
      reg (storeInfo p info s) (oRGx_PHY_INFO_HI p) = wd (info.toNat / 2 ^ 24) := by
  have hne : oRGx_PHY_INFO_LO p ≠ oRGx_PHY_INFO_HI p := by
    simp only [oRGx_PHY_INFO_LO, oRGx_PHY_INFO_HI]
    omega
  rw [storeInfo, reg_setReg, if_neg hne, reg_setReg, if_pos rfl, reg_setReg, if_pos rfl]
  exact ⟨rfl, rfl⟩

/-- The far end's bits are those of the field accepted. -/
theorem farInfo_of_reg {p : Nat} {info : BitVec 48} {t : State} (hlo : reg t (oRGx_PHY_INFO_LO p) = wd info.toNat)
    (hhi : reg t (oRGx_PHY_INFO_HI p) = wd (info.toNat / 2 ^ 24)) (lo w : Nat) :
    farInfo t p lo w = bitsOf info.toNat lo w := by
  have hlt := info.isLt
  have hwhole : info.toNat % 2 ^ 24 + 2 ^ 24 * (info.toNat / 2 ^ 24 % 2 ^ 24) = info.toNat := by
    simp only [Nat.reducePow] at hlt ⊢
    omega
  rw [farInfo, hlo, hhi, BitVec.toNat_ofNat, BitVec.toNat_ofNat, hwhole]

theorem exec_infoFieldRx_second {p : Nat} {info : BitVec 48} {s : State} (hp : p < 4) (halive : portAlive s p = true)
    (hcand : (getPort s p).infoCand = some info.toNat) : exec (.infoFieldRx p info) s =
      .next (infoAccepted p (setPort p { getPort s p with infoOk := true } (storeInfo p info s))) := by
  change execInfoFieldRx p info s = _
  rw [execInfoFieldRx, unit_pos (decide_eq_true hp), if_neg (by simp [halive]), if_pos hcand]
  rfl

theorem writes_infoAccepted (p : Nat) (s : State) : Writes (linkRegs p) s (infoAccepted p s) := by
  have hquiet : Writes (linkRegs p) s (goQuiet p s) := by
    have hdown : Writes (linkRegs p) s (if linkUp s p then takeDown p 7 false s else s) := by
      split
      · exact writes_takeDown p 7 false s
      · exact .refl _ s
    refine hdown.trans ?_
    unfold goQuiet
    generalize (if linkUp s p then takeDown p 7 false s else s) = t
    dsimp only
    split
    · exact (Writes.of_regs (setPort_regs _ _ _)).trans (writes_setPortState p 1 _)
    · exact .of_regs (setPort_regs _ _ _)
  unfold infoAccepted
  split
  · split
    · exact .refl _ s
    · exact hquiet
  · split
    · exact (Writes.of_regs (setPort_regs _ _ _)).trans (writes_startDetect p _)
    · split
      · exact (Writes.of_regs (setPort_regs _ _ _)).trans (writes_setPortState p 2 _)
      · exact .refl _ s

theorem Writes.mayTrain {l : List Nat} {s t : State} (h : Writes l s t) {p : Nat} (hp : ∀ o ∈ aliveRegs p, o ∉ l)
    (hboot : t.boot = s.boot) (hquiet : (getPort t p).quietUntil = (getPort s p).quietUntil)
    (hretry : (getPort t p).retryAt = (getPort s p).retryAt) : mayTrain t p = Machine.mayTrain s p := by
  have hctl : oRGx_PHY_CTL p ∉ l := hp _ (by simp [aliveRegs])
  have hdom := h.domOn (hp _ (by simp [aliveRegs])) (hp _ (by simp [aliveRegs])) (1 + p / 2)
  have hen : portEn t p = portEn s p := h.flag hctl
  have hmed : Machine.getF t (fRGx_PHY_CTL_MEDIUM p) = Machine.getF s (fRGx_PHY_CTL_MEDIUM p) := h.getF hctl
  simp only [Machine.mayTrain, portReady, isCopper, isOptical, silent, hen, hmed, hdom, hboot, hquiet, hretry]

/-- A field of a port that detects, from the other role and without QUIET, begins training. -/
theorem infoAccepted_trains {p : Nat} {s : State} (hmay : mayTrain s p = true) (hst : portState s p = 1)
    (hquiet : farInfo s p 10 1 = 0) (hrole : farInfo s p 4 1 ≠ p % 2) :
    infoAccepted p s = setPortState p 2 (setPort p { getPort s p with trainRate := bestRate s p } s) := by
  have hloud : silent s p = false := by
    simp only [mayTrain, Bool.and_eq_true, Bool.not_eq_true'] at hmay
    exact hmay.1.2
  simp [infoAccepted, hquiet, hloud, hmay, hst, sameRole, hrole]

/-! Loss of a link (R194, R257). -/

/-- The codewords of a copper link that lost its lock. -/
def countLoss (p : Nat) (c : DownCause) (s : State) : State :=
  if isCopper s p && c == .lockLost then addF (fRGx_CW_UNCORR_CW_UNCORR p) (lossWords s p) s else s

/-- The signal of an optical link that is lost. -/
def showLos (p : Nat) (c : DownCause) (s : State) : State :=
  if isOptical s p then setF (fRGx_MOD_STAT_RX_LOS p) (bit (c == .noSignal)) s else s

/-- DOWN_CAUSE of a link that is lost. -/
def lossCause : DownCause → Nat
  | .noSignal => 2
  | .lockLost => 3

theorem exec_linkDown {p : Nat} {c : DownCause} {s : State} (hp : p < 4) (hup : linkUp s p = true) :
    exec (.linkDown p c) s =
      .next (cellarRest (startDetect p (showLos p c (takeDown p (lossCause c) true (countLoss p c s))))) := by
  change execLinkDown p c s = _
  unfold execLinkDown
  rw [unit_pos (decide_eq_true hp), if_pos hup]
  cases c <;> rfl

theorem writes_countLoss (p : Nat) (c : DownCause) (s : State) : Writes [oRGx_CW_UNCORR p] s (countLoss p c s) := by
  unfold countLoss
  split
  · exact .setF _ s (by simp [fRGx_CW_UNCORR_CW_UNCORR])
  · exact .refl _ s

theorem writes_showLos (p : Nat) (c : DownCause) (s : State) : Writes [oRGx_MOD_STAT p] s (showLos p c s) := by
  unfold showLos
  split
  · exact .setF _ s (by simp [fRGx_MOD_STAT_RX_LOS])
  · exact .refl _ s

theorem showLos_flt (p : Nat) (c : DownCause) (s : State) : (showLos p c s).flt = s.flt := by
  unfold showLos
  split <;> rfl

/-- The counters of a loss and the module's status are apart from the port's and from what says whether it signals. -/
theorem loss_not_mem {p o : Nat} (ho : o = oRGx_PHY_STAT p ∨ o ∈ aliveRegs p ∨ o = oRGx_BYP_STAT (p / 2)) :
    o ∉ [oRGx_CW_UNCORR p] ∧ o ∉ [oRGx_MOD_STAT p] := by
  simp only [aliveRegs, List.mem_cons, List.not_mem_nil, or_false, oRGx_PHY_STAT, oRGx_PHY_CTL, oPWR_STATUS,
    oRGx_BYP_STAT, oRGx_CW_UNCORR, oRGx_MOD_STAT] at ho ⊢
  omega

theorem cellarRest_awake {s : State} (h : getF s fPWR_STATUS_STATE ≠ 2) : cellarRest s = s := by
  simp [cellarRest, h]

/-- A link that is lost goes down with its cause, and the port detects again. -/
theorem exec_linkDown_shows {p : Nat} {c : DownCause} {s : State} (hp : p < 4) (hup : linkUp s p = true)
    (halive : portAlive s p = true) (hself : inSelf s p = false) (hawake : getF s fPWR_STATUS_STATE ≠ 2) :
    ∃ t, exec (.linkDown p c) s = .next t ∧ linkUp t p = false ∧ portState t p = 1 ∧
      getF t (fRGx_PHY_STAT_DOWN_CAUSE p) = lossCause c ∧
      (isOptical s p = true → flag t (fRGx_MOD_STAT_RX_LOS p) = (c == .noSignal)) ∧ 64 + 8 * p ∈ t.flt.level := by
  have hcount := writes_countLoss p c s
  have hdown := writes_takeDown p (lossCause c) true (countLoss p c s)
  have hlos := writes_showLos p c (takeDown p (lossCause c) true (countLoss p c s))
  have hup' : linkUp (countLoss p c s) p = true := (hcount.flag (loss_not_mem (.inl rfl)).1).trans hup
  have hmed : isOptical (takeDown p (lossCause c) true (countLoss p c s)) p = isOptical s p := by
    simp only [isOptical, hdown.getF (f := fRGx_PHY_CTL_MEDIUM p) (phyCtl_not_mem_linkRegs p hp),
      hcount.getF (f := fRGx_PHY_CTL_MEDIUM p) (loss_not_mem (.inr (.inl (List.mem_cons_self ..)))).1]
  have halive' : portAlive (showLos p c (takeDown p (lossCause c) true (countLoss p c s))) p = true := by
    rw [hlos.portAlive fun o ho => (loss_not_mem (.inr (.inl ho))).2, hdown.portAlive (aliveRegs_not_mem_linkRegs p hp),
      hcount.portAlive fun o ho => (loss_not_mem (.inr (.inl ho))).1, halive]
  have hself' : inSelf (showLos p c (takeDown p (lossCause c) true (countLoss p c s))) p = false := by
    rw [hlos.inSelf (loss_not_mem (.inr (.inr rfl))).2, hdown.inSelf (bypStat_not_mem_linkRegs _ hp),
      hcount.inSelf (loss_not_mem (.inr (.inr rfl))).1, hself]
  have hpwr : oPWR_STATUS ∈ aliveRegs p := by simp [aliveRegs]
  have hawake' : getF (startDetect p (showLos p c (takeDown p (lossCause c) true (countLoss p c s)))) fPWR_STATUS_STATE
    ≠ 2 := by
    rw [(writes_startDetect p _).getF (f := fPWR_STATUS_STATE) (aliveRegs_not_mem_linkRegs p hp _ hpwr),
      hlos.getF (f := fPWR_STATUS_STATE) (loss_not_mem (.inr (.inl hpwr))).2,
      hdown.getF (f := fPWR_STATUS_STATE) (aliveRegs_not_mem_linkRegs p hp _ hpwr),
      hcount.getF (f := fPWR_STATUS_STATE) (loss_not_mem (.inr (.inl hpwr))).1]
    exact hawake
  have hcause : lossCause c < 16 := by cases c <;> decide
  refine ⟨_, (exec_linkDown hp hup).trans (by rw [cellarRest_awake hawake']), ?_,
    portState_startDetect_alive halive' hself', ?_, fun hopt => ?_, ?_⟩
  · rw [linkUp_startDetect, linkUp, hlos.flag (loss_not_mem (.inl rfl)).2]
    exact linkUp_takeDown _ true hp _
  · rw [getF_startDetect_other _ rfl (by simp [fRGx_PHY_STAT_DOWN_CAUSE]), hlos.getF (loss_not_mem (.inl rfl)).2,
      getF_cause_takeDown true hp hcause]
  · rw [(writes_startDetect p _).flag (modStat_not_mem_linkRegs p hp), showLos, if_pos (hmed.trans hopt),
      flag_setF_self _ _ (by simp [fRGx_MOD_STAT_RX_LOS])]
    cases c <;> simp [fRGx_MOD_STAT_RX_LOS, bit]
  · rw [startDetect_flt, showLos_flt]
    exact mem_level_takeDown _ hup'

/-! Keep-alive (R195, R196). -/

theorem sendShift_shows (p : Nat) (s : State) : (sendShift p s).regs = s.regs ∧ (getPort (sendShift p s) p).shiftSent =
  true := by
  unfold sendShift
  split
  · next h => exact ⟨rfl, h⟩
  · exact ⟨rfl, by simp [sendInfo]⟩

/-- The rate and the state of a port whose link stays up. -/
theorem status_rate_state {p r v : Nat} (hr : r < 4) (hv : v < 8) (s : State) :
    linkUp (setF (fRGx_PHY_STAT_RATE p) r (setPortState p v s)) p = linkUp s p ∧
      portState (setF (fRGx_PHY_STAT_RATE p) r (setPortState p v s)) p = v ∧
      getF (setF (fRGx_PHY_STAT_RATE p) r (setPortState p v s)) (fRGx_PHY_STAT_RATE p) = r := by
  have hwide : (fRGx_PHY_STAT_RATE p).lo + (fRGx_PHY_STAT_RATE p).w ≤ 24 := by simp [fRGx_PHY_STAT_RATE]
  refine ⟨?_, ?_, ?_⟩
  · rw [linkUp, flag_setF_other _ _ hwide (by simp [fRGx_PHY_STAT_RATE, fRGx_PHY_STAT_LINK]), ← linkUp,
      linkUp_setPortState]
  · rw [portState, getF_setF_other _ _ hwide (by simp [fRGx_PHY_STAT_RATE, fRGx_PHY_STAT_STATE]), ← portState,
      portState_setPortState hv]
  · rw [getF_setF_self _ _ hwide]
    exact Nat.mod_eq_of_lt hr

/-! The end of training (R191 steps 6 and 7). -/

/-- What a finished training reports. -/
def showTraining (p margin us : Nat) (s : State) : State :=
  setF (fRGx_TRAIN_TIME_TRAIN_TIME p) (min us 0xFFFFFF) (setF (fRGx_PHY_MARGIN_MARGIN p) (min margin 255) s)

theorem getF_showTraining_ctl {p : Nat} {f : Fld} (margin us : Nat) (s : State) (hf : f.off = oRGx_PHY_CTL p) :
    getF (showTraining p margin us s) f = getF s f := by
  have hwrites : Writes [oRGx_PHY_MARGIN p, oRGx_TRAIN_TIME p] s (showTraining p margin us s) :=
    (Writes.setF _ s (by simp [fRGx_PHY_MARGIN_MARGIN])).trans (.setF _ _ (by simp [fRGx_TRAIN_TIME_TRAIN_TIME]))
  refine hwrites.getF ?_
  rw [hf]
  simp only [oRGx_PHY_CTL, oRGx_PHY_MARGIN, oRGx_TRAIN_TIME, List.mem_cons, List.not_mem_nil, or_false]
  omega

theorem showTraining_shows (p margin us : Nat) (s : State) :
    getF (showTraining p margin us s) (fRGx_PHY_MARGIN_MARGIN p) = min margin 255 ∧
      getF (showTraining p margin us s) (fRGx_TRAIN_TIME_TRAIN_TIME p) = min us 0xFFFFFF := by
  refine ⟨?_, ?_⟩
  · rw [showTraining, getF_setF_other _ _ (by simp [fRGx_TRAIN_TIME_TRAIN_TIME])
      (.inl (by simp only [fRGx_PHY_MARGIN_MARGIN, fRGx_TRAIN_TIME_TRAIN_TIME, oRGx_PHY_MARGIN,
        oRGx_TRAIN_TIME]; omega)),
      getF_setF_self _ _ (by simp [fRGx_PHY_MARGIN_MARGIN])]
    exact Nat.mod_eq_of_lt (Nat.lt_succ_of_le (Nat.min_le_right _ _))
  · rw [showTraining, getF_setF_self _ _ (by simp [fRGx_TRAIN_TIME_TRAIN_TIME])]
    exact Nat.mod_eq_of_lt (Nat.lt_succ_of_le (Nat.min_le_right _ _))

theorem exec_trainingComplete_up {p rate margin us : Nat} {s : State} (hp : p < 4) (hmay : mayTrain s p = true)
    (hst : portState s p = 2) (hq : mayQualify s p rate = true) (hmargin : 30 ≤ margin) :
    exec (.trainingComplete p (.up rate margin us)) s = .next (qualify p rate (showTraining p margin us s)) := by
  change execTrainingComplete p (.up rate margin us) s = _
  simp only [execTrainingComplete, unit_pos (decide_eq_true hp), hmay, if_true]
  rw [when_pos (by simp [hst, hq, hmargin])]
  rfl

theorem qualify_up {p rate : Nat} {s : State} (h : rate ≤ getF s (fRGx_PHY_CTL_RATE_MIN p)) :
    qualify p rate s = comeUp p rate s := if_neg (Nat.not_lt.2 h)

theorem qualify_low {p rate : Nat} {s : State} (h : getF s (fRGx_PHY_CTL_RATE_MIN p) < rate) :
    qualify p rate s = rateLow p s := if_pos h

theorem lt_of_mayQualify {s : State} {p rate : Nat} (h : mayQualify s p rate = true) : rate < 4 := by
  simp only [mayQualify, Bool.and_eq_true, decide_eq_true_eq] at h
  omega

/-! A link's report (R193). -/

/-- The counters and the margin that a report sets. -/
def countReport (p margin corrected uncorrectable : Nat) (s : State) : State :=
  addF (fRGx_CW_UNCORR_CW_UNCORR p) uncorrectable (addF (fRGx_CW_CORR_CW_CORR p) corrected
    (if isCopper s p then setF (fRGx_PHY_MARGIN_MARGIN p) (min margin 255) s else s))

theorem writes_countReport (p margin ce uc : Nat) (s : State) :
    Writes [oRGx_PHY_MARGIN p, oRGx_CW_CORR p, oRGx_CW_UNCORR p] s (countReport p margin ce uc s) := by
  have hcount (t : State) : Writes [oRGx_PHY_MARGIN p, oRGx_CW_CORR p, oRGx_CW_UNCORR p] t
      (addF (fRGx_CW_UNCORR_CW_UNCORR p) uc (addF (fRGx_CW_CORR_CW_CORR p) ce t)) :=
    (Writes.setF _ t (by simp [fRGx_CW_CORR_CW_CORR])).trans (.setF _ _ (by simp [fRGx_CW_UNCORR_CW_UNCORR]))
  unfold countReport
  split
  · exact (Writes.setF _ s (by simp [fRGx_PHY_MARGIN_MARGIN])).trans (hcount _)
  · exact hcount s

theorem countReport_same (p margin ce uc : Nat) (s : State) : (countReport p margin ce uc s).clk = s.clk ∧
    getPort (countReport p margin ce uc s) p = getPort s p := by
  unfold countReport
  split <;> exact ⟨rfl, by simp⟩

/-- The status and the control of a port are none of a report's registers. -/
theorem countReport_phy (p margin ce uc : Nat) (s : State) {f : Fld}
  (hf : f.off = oRGx_PHY_STAT p ∨ f.off = oRGx_PHY_CTL p) :
    getF (countReport p margin ce uc s) f = getF s f := by
  refine (writes_countReport p margin ce uc s).getF ?_
  simp only [oRGx_PHY_STAT, oRGx_PHY_CTL] at hf
  simp only [oRGx_PHY_MARGIN, oRGx_CW_CORR, oRGx_CW_UNCORR, List.mem_cons, List.not_mem_nil, or_false]
  omega

theorem getF_margin_countReport {p : Nat} (margin ce uc : Nat) {s : State} (h : isCopper s p = true) :
    getF (countReport p margin ce uc s) (fRGx_PHY_MARGIN_MARGIN p) = min margin 255 := by
  have hcount (t : State) : Writes [oRGx_CW_CORR p, oRGx_CW_UNCORR p] t
      (addF (fRGx_CW_UNCORR_CW_UNCORR p) uc (addF (fRGx_CW_CORR_CW_CORR p) ce t)) :=
    (Writes.setF _ t (by simp [fRGx_CW_CORR_CW_CORR])).trans (.setF _ _ (by simp [fRGx_CW_UNCORR_CW_UNCORR]))
  have hapart : (fRGx_PHY_MARGIN_MARGIN p).off ∉ [oRGx_CW_CORR p, oRGx_CW_UNCORR p] := by
    simp only [fRGx_PHY_MARGIN_MARGIN, oRGx_PHY_MARGIN, oRGx_CW_CORR, oRGx_CW_UNCORR, List.mem_cons, List.not_mem_nil,
      or_false]
    omega
  rw [countReport, if_pos h, (hcount _).getF hapart, getF_setF_self _ _ (by simp [fRGx_PHY_MARGIN_MARGIN])]
  exact Nat.mod_eq_of_lt (Nat.lt_succ_of_le (Nat.min_le_right _ _))

/-- A report that finds the link degraded leaves it up, with its source standing and the port as the watches say. -/
theorem exec_linkDegraded_degraded {p margin ce uc : Nat} {s : State} (hp : p < 4) (hup : linkUp s p = true)
    (hdeg : degraded s (watchLink margin uc s p) = true) :
    ∃ t, exec (.linkDegraded p margin ce uc) s = .next t ∧ 64 + 8 * p + 3 ∈ t.flt.level ∧ linkUp t p = true ∧
      getF t (fRGx_PHY_MARGIN_MARGIN p) = getF (countReport p margin ce uc s) (fRGx_PHY_MARGIN_MARGIN p) ∧
      getPort t p = watchLink margin uc s p := by
  obtain ⟨hclk, hport⟩ := countReport_same p margin ce uc s
  have hmed : isCopper (countReport p margin ce uc s) p = isCopper s p :=
    congrArg (· == 2) (countReport_phy p margin ce uc s (f := fRGx_PHY_CTL_MEDIUM p) (.inr rfl))
  have hwatch : watchLink margin uc (countReport p margin ce uc s) p = watchLink margin uc s p := by
    simp only [watchLink, hport, hclk, hmed, countReport_phy p margin ce uc s (f := fRGx_PHY_CTL_DEG_MARGIN p)
      (.inr rfl)]
  have hdeg' : degraded (countReport p margin ce uc s) (watchLink margin uc s p) = true := by
    rw [← hdeg, degraded, degraded, hclk]
  refine ⟨causeOn (mediaSource p 3) (setPort p (watchLink margin uc s p) (countReport p margin ce uc s)), ?_, ?_, ?_,
    ?_, ?_⟩
  · change execLinkDegraded p margin ce uc s = _
    rw [execLinkDegraded, unit_pos (decide_eq_true hp), if_pos hup]
    change Host.Outcome.next (causeIs (degraded (countReport p margin ce uc s)
      (watchLink margin uc (countReport p margin ce uc s) p))
      (mediaSource p 3) (setPort p (watchLink margin uc (countReport p margin ce uc s) p)
        (countReport p margin ce uc s))) = _
    rw [hwatch, hdeg', causeIs, if_pos rfl]
  · exact mem_level_causeOn _ _
  · rw [linkUp, flag_causeOn, flag_setPort, flag, countReport_phy p margin ce uc s (.inl rfl)]
    exact hup
  · rw [getF_causeOn, getF_setPort]
  · simp

/-- Settles O12: each command ends in the rules of its link, under the readings of logs 55, 56, 57, 60 and 212. -/
theorem mediaLinks : Obligations.MediaLinks := by
  unfold Obligations.MediaLinks
  refine ⟨?portEnable_1, ?portEnable_2, ?portEnable_3, ?portEnable_4, ?retrain_1, ?retrain_2, ?trainingComplete_1,
    ?trainingComplete_2, ?trainingComplete_3, ?trainingComplete_4, ?trainingComplete_5, ?detectionRetry_1,
    ?detectionRetry_2, ?infoFieldRx_1, ?infoFieldRx_2, ?infoFieldRx_3, ?linkDown_1, ?linkDown_2, ?linkUp_1, ?linkUp_2,
    ?linkUp_3, ?linkDegraded_1, ?linkDegraded_2, ?keepaliveShift, ?keepaliveExit_1, ?keepaliveExit_2⟩
  case portEnable_1 =>
    intro w p u s hp hmayWrite hen hu halive
    subst hu
    rw [exec_portEnable hp hmayWrite, writeEn_on hen halive]
  case portEnable_2 =>
    intro w p s hp hmayWrite hen halive hself
    have hkept := (writes_downCause p 0 (setF (fRGx_PHY_CTL_EN p) 1 s))
    refine ⟨startDetect p (downCause p 0 (setF (fRGx_PHY_CTL_EN p) 1 s)), ?_, ?_, ?_, ?_, ?_⟩
    · rw [exec_portEnable hp hmayWrite, writeEn_on hen halive]
    · rw [portEn, (hkept.trans (writes_startDetect p _)).flag (phyCtl_not_mem_linkRegs p hp),
        flag_setF_self _ _ (by simp [fRGx_PHY_CTL_EN])]
      simp [fRGx_PHY_CTL_EN]
    · refine portState_startDetect_alive ((hkept.portAlive (aliveRegs_not_mem_linkRegs p hp)).trans halive) ?_
      rw [hkept.inSelf (bypStat_not_mem_linkRegs _ hp), inSelf_setF_en, hself]
    · rw [getF_startDetect_other _ rfl (by simp [fRGx_PHY_STAT_DOWN_CAUSE]), getF_downCause (by decide)]
    · rw [getPort_startDetect]
  case portEnable_3 =>
    intro w p u s hp hmayWrite hen hdown hu
    subst hu
    rw [exec_portEnable hp hmayWrite, writeEn_off hen, if_neg (by simp [hdown])]
    rfl
  case portEnable_4 =>
    intro w p s hp hmayWrite hen hup
    exact exec_portEnable_off hp hmayWrite hen hup
  case retrain_1 =>
    intro w p s hp hmayWrite hen
    exact exec_retrain hp hmayWrite hen
  case retrain_2 =>
    intro w p s hp hmayWrite halive hup hself
    obtain ⟨hdown, hstate, hcause, hlost⟩ := redetect_shows (c := 0) hp (by decide) halive hself
    exact ⟨_, exec_retrain hp hmayWrite (portEn_of_alive halive), hdown, hstate, hcause, hlost hup⟩
  case trainingComplete_1 =>
    intro p s hp hmayTrain hst hinfo hrole
    refine ⟨wiringStop p s, ?_, wiringStop_shows s⟩
    change execTrainingComplete p .wiring s = _
    simp [execTrainingComplete, hp, hmayTrain, hst, hinfo, hrole]
  case trainingComplete_2 =>
    intro p s hp hmayTrain hst
    refine ⟨rateLow p s, ?_, rateLow_shows s⟩
    change execTrainingComplete p .noRate s = _
    simp [execTrainingComplete, hp, hmayTrain, hst]
  case trainingComplete_3 =>
    intro p rate margin us s hp hmayTrain hportState hmayQualify h30
    change execTrainingComplete p (.up rate margin us) s = _
    simp [execTrainingComplete, unit_pos, when_pos, hp, hmayTrain, hportState, hmayQualify, h30]
  case trainingComplete_4 =>
    intro p rate margin us s hp hmayTrain hst hq hrate h30
    obtain ⟨hup, hstate, hrate', hcause⟩ := status_comeUp hp (lt_of_mayQualify hq) (showTraining p margin us s)
    obtain ⟨hmargin, htime⟩ := showTraining_shows p margin us s
    obtain ⟨hmarginReg, htimeReg⟩ := phyMargin_not_mem_linkRegs hp
    refine ⟨comeUp p rate (showTraining p margin us s), ?_, hup, hstate, hrate', hcause, ?_, ?_⟩
    · rw [exec_trainingComplete_up hp hmayTrain hst hq h30, 
        qualify_up ((getF_showTraining_ctl (f := fRGx_PHY_CTL_RATE_MIN p) margin us s rfl).symm ▸ hrate)]
    · rw [(writes_comeUp p rate _).getF (f := fRGx_PHY_MARGIN_MARGIN p) hmarginReg, hmargin]
    · rw [(writes_comeUp p rate _).getF (f := fRGx_TRAIN_TIME_TRAIN_TIME p) htimeReg, htime]
  case trainingComplete_5 =>
    intro p rate margin us s hp hmayTrain hst hq hmin h30
    refine ⟨rateLow p (showTraining p margin us s), ?_, rateLow_shows _⟩
    rw [exec_trainingComplete_up hp hmayTrain hst hq h30, 
      qualify_low ((getF_showTraining_ctl (f := fRGx_PHY_CTL_RATE_MIN p) margin us s rfl).symm ▸ hmin)]
  case detectionRetry_1 =>
    intro p d s hp hgetPort hdue hportAlive hsilent
    change execDetectionRetry p s = _
    simp [execDetectionRetry, unit_pos, hp, hgetPort, hdue, hportAlive, hsilent]
  case detectionRetry_2 =>
    intro p d s hp hretry hdue halive hsilent hself
    refine ⟨startDetect p s, ?_, portState_startDetect_alive halive hself, ?_, ?_, ?_⟩
    · change execDetectionRetry p s = _
      simp [execDetectionRetry, hp, hretry, hdue, halive, hsilent]
    all_goals rw [getPort_startDetect]
  case infoFieldRx_1 =>
    intro p info s hp hportAlive hgetPort
    change execInfoFieldRx p info s = _
    simp [execInfoFieldRx, unit_pos, hp, hportAlive, hgetPort]
  case infoFieldRx_2 =>
    intro p info s hp halive hcand
    obtain ⟨hlo, hhi⟩ := reg_storeInfo p info s
    obtain ⟨hloReg, hhiReg⟩ := phyInfo_not_mem_linkRegs hp
    refine ⟨_, exec_infoFieldRx_second hp halive hcand, ?_, ?_⟩
    · rw [writes_infoAccepted p _ _ hloReg, reg_setPort, hlo]
    · rw [writes_infoAccepted p _ _ hhiReg, reg_setPort, hhi]
  case infoFieldRx_3 =>
    intro p info s hp hmay hst hcand hquiet hrole
    obtain ⟨hlo, hhi⟩ := reg_storeInfo p info s
    have hwrites : Writes [oRGx_PHY_INFO_LO p, oRGx_PHY_INFO_HI p] s
        (setPort p { getPort s p with infoOk := true } (storeInfo p info s)) :=
      (writes_storeInfo p info s).trans (.of_regs (setPort_regs _ _ _))
    have hfar := farInfo_of_reg (t := setPort p { getPort s p with infoOk := true } (storeInfo p info s)) hlo hhi
    have hapart : ∀ o ∈ aliveRegs p, o ∉ [oRGx_PHY_INFO_LO p, oRGx_PHY_INFO_HI p] := by
      intro o ho
      simp only [aliveRegs, List.mem_cons, List.not_mem_nil, or_false, oRGx_PHY_CTL, oPWR_STATUS, oRGx_PHY_INFO_LO,
        oRGx_PHY_INFO_HI] at ho ⊢
      omega
    have hstat : (fRGx_PHY_STAT_STATE p).off ∉ [oRGx_PHY_INFO_LO p, oRGx_PHY_INFO_HI p] := by
      simp only [fRGx_PHY_STAT_STATE, oRGx_PHY_STAT, oRGx_PHY_INFO_LO, oRGx_PHY_INFO_HI, List.mem_cons,
        List.not_mem_nil,
        or_false]
      omega
    have hmay' := (hwrites.mayTrain hapart rfl (by simp) (by simp)).trans hmay
    have htrains := infoAccepted_trains hmay' ((hwrites.getF hstat).trans hst) ((hfar 10 1).trans hquiet)
      ((hfar 4 1).symm ▸ hrole)
    exact ⟨_, (exec_infoFieldRx_second hp (portAlive_of_mayTrain hmay) hcand).trans (by rw [htrains]),
      portState_setPortState (by decide) _⟩
  case linkDown_1 =>
    intro p s hp hup halive hself hawake
    obtain ⟨t, hexec, hdown, hstate, hcause, -, hlost⟩ :=
      exec_linkDown_shows (c := .lockLost) hp hup halive hself hawake
    exact ⟨t, hexec, hdown, hstate, hcause, hlost⟩
  case linkDown_2 =>
    intro p s hp hup halive hself hawake hopt
    obtain ⟨t, hexec, hdown, hstate, hcause, hlos, hlost⟩ :=
      exec_linkDown_shows (c := .noSignal) hp hup halive hself hawake
    exact ⟨t, hexec, hdown, hstate, hcause, hlos hopt, hlost⟩
  case linkUp_1 =>
    intro p s hp hmayTrain hportState hmayQualify
    change execLinkUp p s = _
    simp [execLinkUp, unit_pos, hp, hmayTrain, hportState, hmayQualify]
  case linkUp_2 =>
    intro p s hp hmayTrain hst hq hmin
    refine ⟨comeUp p (getPort s p).trainRate s, ?_, status_comeUp hp (lt_of_mayQualify hq) s⟩
    change execLinkUp p s = _
    rw [execLinkUp, unit_pos (decide_eq_true hp), if_pos (by simp [hmayTrain, hst, hq]), qualify_up hmin]
  case linkUp_3 =>
    intro p s hp hmayTrain hready hrole
    refine ⟨comeUp p 0 s, ?_, status_comeUp hp (by decide) s⟩
    change execLinkUp p s = _
    simp [execLinkUp, hp, hmayTrain, hready, hrole]
  case linkDegraded_1 =>
    intro p margin ce d s hp hup hcopper hmargin hlow hdue
    have hdeg : degraded s (watchLink margin 0 s p) = true := by
      have hsince : (watchLink margin 0 s p).lowSince = some d := by
        simp only [watchLink, hcopper, hmargin, hlow, decide_true, Bool.and_self, if_true, Option.getD_some]
        split <;> rfl
      rw [degraded, hsince]
      simp only [hdue, decide_true, Bool.or_true]
    obtain ⟨t, hexec, hsource, hlink, hm, -⟩ := exec_linkDegraded_degraded (ce := ce) hp hup hdeg
    exact ⟨t, hexec, hsource, hlink, hm.trans (getF_margin_countReport margin ce 0 hcopper)⟩
  case linkDegraded_2 =>
    intro p margin ce uc s hp hup huc hrun hsec
    have hwatch : (watchLink margin uc s p).uncRun = (getPort s p).uncRun + 1 := by
      have hlater : ¬ ((getPort s p).uncRun ≠ 0 ∧ (getPort s p).uncSec = s.clk / 1000000000) := by omega
      have hnext : (getPort s p).uncRun ≠ 0 ∧ (getPort s p).uncSec + 1 = s.clk / 1000000000 := ⟨by omega, hsec⟩
      rw [watchLink]
      simp only [if_neg huc, if_neg hlater, if_pos hnext]
    have hdeg : degraded s (watchLink margin uc s p) = true := by
      rw [degraded, hwatch, decide_eq_true (by omega), Bool.true_or]
    obtain ⟨t, hexec, hsource, hlink, -, hport⟩ := exec_linkDegraded_degraded (ce := ce) hp hup hdeg
    exact ⟨t, hexec, hsource, hlink, by rw [hport, hwatch]⟩
  case keepaliveShift =>
    intro p s hp hup hst hfar hawake
    obtain ⟨hregs, hsent⟩ := sendShift_shows p s
    obtain ⟨hup', hst', hrate⟩ := status_rate_state (p := p) (r := 3) (v := 4) (by decide) (by decide)
      (setPort p { getPort (sendShift p s) p with keptRate := getF (sendShift p s) (fRGx_PHY_STAT_RATE p) }
        (sendShift p s))
    have hlink : linkUp (sendShift p s) p = true := (flag_congr hregs _).trans hup
    have hawake' : getF (toKeepalive p (sendShift p s)) fPWR_STATUS_STATE ≠ 2 := by
      have hwrites : Writes (linkRegs p) (sendShift p s) (toKeepalive p (sendShift p s)) :=
        ((Writes.of_regs (setPort_regs _ _ _)).trans (writes_setPortState p 4 _)).trans
          (.setF 3 _ (phyStat_mem_linkRegs p))
      rw [hwrites.getF (aliveRegs_not_mem_linkRegs p hp oPWR_STATUS (by simp [aliveRegs])), getF_congr hregs]
      exact hawake
    refine ⟨toKeepalive p (sendShift p s), ?_, hup'.trans hlink, hst', hrate, ?_, ?_⟩
    · change execKeepaliveShift p s = _
      rw [execKeepaliveShift, unit_pos (decide_eq_true hp), if_pos (by simp [hup, hst, hfar]), cellarRest_awake hawake']
    · simp [toKeepalive, getF_congr hregs]
    · simp [toKeepalive, hsent]
  case keepaliveExit_1 =>
    intro p s hp hup hst hready hcoeffs hfar hkept
    obtain ⟨hup', hst', hrate⟩ := status_rate_state (p := p) (v := 3) hkept (by decide)
      (setPort p { getPort s p with shiftSent := false } s)
    refine ⟨_, ?_, hup'.trans hup, hst', hrate, by simp⟩
    change execKeepaliveExit p true s = _
    simp [execKeepaliveExit, hp, hup, hst, hready, hcoeffs, hfar]
  case keepaliveExit_2 =>
    intro p s hp hup hst hready hself
    obtain ⟨hdown, hstate, -, hlost⟩ := redetect_shows (c := 0) hp (by decide)
      (s := setPort p { getPort s p with shiftSent := false } s) (portAlive_of_ready hready) hself
    refine ⟨startDetect p (takeDown p 0 true (setPort p { getPort s p with shiftSent := false } s)), ?_, hdown, hstate,
      hlost hup, ?_⟩
    · change execKeepaliveExit p false s = _
      simp [execKeepaliveExit, hp, hup, hst, hready]
    · rw [getPort_startDetect, getPort_takeDown]
      split <;> simp

end Sys2Proof.Proofs
end

/-! PROOFS. The switch of volumes where the settings fall back to their defaults (chapter 15). -/

section
open Sys2Proof Sys2Proof.Machine

namespace Sys2Proof.Proofs

/-- A register that every step of a fold leaves. -/
theorem reg_foldl_of_mem {α : Type} {f : State → α → State} {o : Nat} {as : List α}
    (hf : ∀ t, ∀ a ∈ as, reg (f t a) o = reg t o) (s : State) : reg (as.foldl f s) o = reg s o := by
  induction as generalizing s with
  | nil => rfl
  | cons a as ih =>
    rw [List.foldl_cons, ih fun t b hb => hf t b (List.mem_cons_of_mem a hb), hf s a (List.mem_cons_self ..)]

/-! The switch of volumes of a hub whose steward holds a line 81,680, beyond the part. -/

/-- A steward that runs, with volume 1 armed for now, and a line whose mode lies at the offset of SEC_VOL. -/
def strayLine : State :=
  let s := setReg 0x4003 0x555555 State.reset
  { s with
    stw := { s.stw with booted := true }
    boot := { s.boot with coreReset := false }
    sec := { s.sec with volArmed := some (1, false, 0) }
    dio := { s.dio with lines := [(81680, Line.init)] } }

/-- The state of that hub as its settings fall back to defaults. -/
def strayTrial : State :=
  let s := setSec { strayLine.sec with volArmed := none, record := some ⟨1, true, false, 0⟩,
                                       trial := some ⟨0, false, closedPairs strayLine, none, false⟩ } strayLine
  let s := setVol 1 { getVol s 1 with state := 3 } s
  let s := setF fSEC_VOL_ARMED 0 (setF fSEC_VOL_PHASE 1 (setF fSEC_VOL_RUNNING 1 (setF fSEC_VOL_LATE 0 s)))
  restartSteward (trialShelf 0 1 s)

theorem exec_volumeSwitch_stray : exec .volumeSwitch strayLine = .next (unloadEdition strayTrial) := by
  have hdef : flag strayTrial fSEC_STATUS_SETTINGS_DEFAULTED = true := by decide
  have hruns : (stwRuns strayLine && 0 ≤ strayLine.ringNs && strayLine.sec.trial.isNone) = true := by decide
  have harmed : strayLine.sec.volArmed = some (1, false, 0) := rfl
  have hed : strayLine.stw.inForce = none := rfl
  have hrec : strayLine.sec.record = none := rfl
  have hold : runningVol strayLine = 0 := by decide
  have hlate : decide (0 + 1000000 < strayLine.ringNs) = false := by decide
  change execVolumeSwitch strayLine = _
  unfold execVolumeSwitch
  simp only [harmed, hruns, if_true, hlate, hed, hrec, hold, bit, Bool.false_eq_true, if_false]
  exact congrArg _ (if_pos hdef)

/-- The mode of that line is written over RUNNING, PHASE and ARMED. -/
theorem phase_of_stray_mode (w : State) : getF (setF (fDIO_LCFG_MODE 81680) 0 w) fSEC_VOL_PHASE = 0 := by
  have hmode : getF (setF (fDIO_LCFG_MODE 81680) 0 w) (fDIO_LCFG_MODE 81680) = 0 := getF_setF_self 0 w (by decide)
  have hoff : (fDIO_LCFG_MODE 81680).off = fSEC_VOL_PHASE.off := by decide
  rw [getF, hoff] at hmode
  rw [getF]
  simp only [bitsOf, fDIO_LCFG_MODE, fSEC_VOL_PHASE, Nat.shiftRight_eq_div_pow] at hmode ⊢
  omega

/-- The binding of one place, unloaded. -/
def unloadPlace (t : State) (n : Nat) : State :=
  match servingEngine t n with
  | some e => unserve n (engineIdle e t)
  | none => t

/-- The edition's number, the node and the bindings, unloaded. -/
def unloadPlaces (s : State) : State :=
  (List.range 104).foldl unloadPlace (setReg oGLB_NODE 0xFFF (setReg oGLB_NODE2 0 (setReg oDSK_ED_ACTIVE 0xFFFF
    (setStw { s.stw with inForce := none } s))))

/-- The lines, unloaded. -/
def unloadLines (s : State) : State :=
  (s.dio.lines.map (·.1)).foldl (fun t n => setLine n
    { getLine t n with drive := .highZ, cmds := [], settling := false } (setF (fDIO_LCFG_MODE n) 0 t)) s

theorem unloadEdition_eq (s : State) : unloadEdition s =
    (List.range 64).foldl (fun t n => if chanEn t n then setF (fANA_CHCFG_EN n) 0 t else t) (unloadLines (unloadPlaces s)) :=
  rfl

/-- The unloading of the bindings leaves the lines. -/
theorem unloadPlaces_dio (s : State) : (unloadPlaces s).dio = s.dio := by
  have hplace (n : Nat) (t : State) : Only [.out, .regs, .cnts, .stk, .swq, .places, .engines, .ring, .hif, .stw, .flt] t
      (unloadPlace t n) := by
    unfold unloadPlace
    split <;> simp
  have h (t : State) := (only_foldl (fun t n => hplace n t) (List.range 104) t).2 (Only.refl _ t)
  exact (h _).same .dio (by decide)

/-- The channels' controls are apart from the state of the volumes. -/
theorem reg_vol_chansOff (s : State) :
    reg ((List.range 64).foldl (fun t n => if chanEn t n then setF (fANA_CHCFG_EN n) 0 t else t) s) oSEC_VOL =
      reg s oSEC_VOL := by
  refine reg_foldl_of_mem (fun t n hn => ?_) s
  have hapart : oSEC_VOL ≠ (fANA_CHCFG_EN n).off := by
    have hlt := List.mem_range.1 hn
    simp only [oSEC_VOL, fANA_CHCFG_EN, oANA_CHCFG]
    omega
  split
  · exact reg_setF_other hapart
  · rfl

/-- Unloading with that line among the lines clears PHASE. -/
theorem phase_unloadEdition_stray {s : State} (h : s.dio.lines = [(81680, Line.init)]) :
    getF (unloadEdition s) fSEC_VOL_PHASE = 0 := by
  rw [unloadEdition_eq, getF_of_reg_eq fSEC_VOL_PHASE (reg_vol_chansOff _), unloadLines, unloadPlaces_dio, h]
  exact phase_of_stray_mode _

/-- Refutes O40: the clause of VOLUME_SWITCH. The statement ranges over every state, and where the hub's lines hold one of
number 81,680 the unloading of the edition writes that line's mode at offset 0x44010, over RUNNING and PHASE. -/
theorem not_securityVolumes : ¬ Obligations.SecurityVolumes := by
  unfold Obligations.SecurityVolumes
  rintro ⟨-, -, -, -, -, -, hswitch, -⟩
  obtain ⟨t, ht, -, -, hphase, -⟩ := hswitch 1 false 0 strayLine (by decide) rfl (by decide) (by decide) (by decide) rfl
  rw [exec_volumeSwitch_stray] at ht
  injection ht with ht
  have hlines : strayTrial.dio.lines = [(81680, Line.init)] := by decide
  rw [← ht, phase_unloadEdition_stray hlines] at hphase
  exact absurd hphase (by decide)

end Sys2Proof.Proofs
end

/-! PROOFS. A ring time past its 64 bits, stepped to a second (chapter 07). -/

section
open Sys2Proof Sys2Proof.Machine

namespace Sys2Proof.Proofs

theorem excludeAll_ringNs (s : State) : (excludeAll s).ringNs = s.ringNs := by
  have h : Only [.ana] s (excludeAll s) := by
    unfold excludeAll
    simp
  exact h.same .ringNs (by decide)

/-- A step of ring time keeps 64 bits of the new time. -/
theorem stepTime_ringNs (t : Nat) (s : State) : (stepTime t s).ringNs = t % 2 ^ 64 := by
  rw [stepTime, realign, excludeAll_ringNs]

/-- An unlocked grandmaster more than 1 microsecond past a second steps to that second, within 64 bits. -/
theorem exec_ppsInEdge_steps {s : State} (hen : flag s fRTM_CTL_PPS_IN_EN = true) (hgm : s.rtime.gm = some (nodeId s))
    (hnum : numbered s = true) (hfree : flag s fRTM_STATUS_PPS_LOCKED = false) (hfar : 1000 < s.ringNs % 1000000000)
    (hnear : s.ringNs % 1000000000 < 500000000) :
    ∃ t, exec .ppsInEdge s = .next t ∧ t.ringNs = (s.ringNs - s.ringNs % 1000000000) % 2 ^ 64 := by
  have hd : 1000 < ((s.ringNs : Int) - ((s.ringNs - s.ringNs % 1000000000 : Nat) : Int)).natAbs := by
    have hle := Nat.mod_le s.ringNs 1000000000
    omega
  have hfree' (d : Int) (u : State) (hu : u.regs = s.regs) : flag (setOffset d u) fRTM_STATUS_PPS_LOCKED = false := by
    rw [setOffset, flag_setF_other _ _ (by decide) (by decide), flag_congr hu, hfree]
  change ∃ t, execPpsInEdge s = .next t ∧ _
  rw [execPpsInEdge, if_pos (by simp [hen, hgm, hnum])]
  simp only [if_pos hnear]
  rw [if_pos (by rw [Bool.and_eq_true]; exact ⟨decide_eq_true hd, congrArg not (hfree' _ _ rfl)⟩)]
  exact ⟨_, rfl, by rw [setF_ringNs, holdFreq, stepTime_ringNs]⟩

/-- The grandmaster with its pulse input on, 2,000 ns past a second that lies beyond 2^64 ns. -/
def lateSecond : State :=
  let s := setF fRTM_CTL_PPS_IN_EN 1 (setF fGLB_NODE2_NUMBERED 1 State.reset)
  { s with ringNs := 34359738368000002000, rtime := { s.rtime with gm := some (nodeId s) } }

/-- Refutes O19: the clause of an unlocked grandmaster that jumps to the second. Ring time has 64 bits; the statement ranges
over every state, and from a ring time past them the jump leaves the second's lower 64 bits. -/
theorem not_ringTime : ¬ Obligations.RingTime := by
  unfold Obligations.RingTime
  rintro ⟨-, -, -, -, -, -, -, -, -, -, -, -, -, hjump, -⟩
  have hen : flag lateSecond fRTM_CTL_PPS_IN_EN = true := by decide
  have hgm : lateSecond.rtime.gm = some (nodeId lateSecond) := by decide
  have hnum : numbered lateSecond = true := by decide
  have hfree : flag lateSecond fRTM_STATUS_PPS_LOCKED = false := by decide
  have hns : lateSecond.ringNs = 34359738368000002000 := rfl
  have hfar : 1000 < lateSecond.ringNs % 1000000000 := by rw [hns]; decide
  have hnear : lateSecond.ringNs % 1000000000 < 500000000 := by rw [hns]; decide
  obtain ⟨t, ht, hjumped, -⟩ := hjump lateSecond hen hgm hnum hfree hfar hnear
  obtain ⟨u, hu, hstepped⟩ := exec_ppsInEdge_steps hen hgm hnum hfree hfar hnear
  rw [ht] at hu
  injection hu with htu
  rw [← htu, hjumped, hns] at hstepped
  exact absurd hstepped (by decide)

end Sys2Proof.Proofs
end

/-! PROOFS. Register writes and reads by ownership, domain and access code (chapters 00, 07, 14 and 17). -/

section
open Sys2Proof Sys2Proof.Machine

namespace Sys2Proof.Proofs

/-! ### The two scratch words -/

theorem rowOf_scratch {i : Nat} (hi : i < 2) : rowOf (0x10 + i) = some (⟨0x10, [(2, 0x1)], [⟨0, 24, .rw, .live, 0x0⟩]⟩, [i]) := by
  interval_cases i <;> rfl

theorem pairOf_scratch {i : Nat} (hi : i < 2) : pairOf (0x10 + i) = none := by
  simp [pairOf, rowOf_scratch hi]

theorem heldByPlace_glb {off : Nat} (s : State) (h : off < 0x4000) : heldByPlace s off = none := by
  have hblock : blockOf off = some .glb := if_pos h
  simp only [heldByPlace, hblock]

/-- A row of one live field of 24 bits stores the word written. -/
theorem writeRow_word (off : Nat) (v : Word) (s : State) :
    writeRow off [⟨0, 24, .rw, .live, 0x0⟩] v.toNat s = setReg off v s := by
  have hlive : fldMask (fun f => f.acc == .rw && (f.chg == .live || f.chg == .none)) [⟨0, 24, .rw, .live, 0x0⟩] = 0xFFFFFF := by
    decide
  have hhalt : fldMask (fun f => f.acc == .rw && f.chg == .halted) [⟨0, 24, .rw, .live, 0x0⟩] = 0 := by decide
  have hstag : fldMask (fun f => f.acc == .rw && f.chg == .staged) [⟨0, 24, .rw, .live, 0x0⟩] = 0 := by decide
  have hw1c : fldMask (fun f => f.acc == .w1c) [⟨0, 24, .rw, .live, 0x0⟩] = 0 := by decide
  rw [writeRow, hlive, hhalt, hstag, hw1c]
  exact writeBits_full off v s

theorem rowWrite_scratch {i : Nat} (hi : i < 2) (v : Word) (s : State) : rowWrite (0x10 + i) v.toNat s = setReg (0x10 + i) v s := by
  have hglb : 0x10 + i < 0x4000 := by omega
  simp only [rowWrite, rowOf_scratch hi, heldByPlace_glb s hglb, pairOf_scratch hi]
  exact writeRow_word _ v s

theorem busPut_scratch {i : Nat} (hi : i < 2) (v : Word) (s : State) : busPut (0x10 + i) v s = setReg (0x10 + i) v s := by
  have hblock : blockOf (0x10 + i) = some .glb := if_pos (by omega)
  rw [busPut, if_neg (by simp only [oPWR_REQ]; omega), if_neg (by simp only [oPWR_DOM_OFF]; omega), regWrite, hblock]
  exact rowWrite_scratch hi v s

/-! ### A write that the host may not do -/

/-- A write of a register the host does not own is refused: its status, and its log where none is held. -/
theorem guardWrite_refused {off : Nat} {f : State → State} {s : State} (hb : regAt off = true)
    (how : hostWritable off = false) (hd : regDomOn s off = true) :
    guardWrite .host off f s = ownerReject .host off s := by
  simp [guardWrite, hb, how, hd]

theorem flag_ownerReject (off : Nat) (s : State) : flag (ownerReject .host off s) fGLB_STATUS_OWNER_REJECT = true := by
  have hset : flag (setF fGLB_STATUS_OWNER_REJECT 1 s) fGLB_STATUS_OWNER_REJECT = true := by
    rw [flag_setF_self _ _ (by decide)]
    decide
  unfold ownerReject
  dsimp only
  split
  · exact hset
  · rw [flag_setF_other _ _ (by decide) (by decide), flag_setF_other _ _ (by decide) (by decide),
      flag_setF_other _ _ (by decide) (by decide), flag_setF_other _ _ (by decide) (by decide), hset]

theorem writes_ownerReject (off : Nat) (s : State) :
    Writes [oGLB_STATUS, oGLB_OWNER_LOG, oGLB_OWNER_NODE] s (ownerReject .host off s) := by
  have hstatus : Writes [oGLB_STATUS, oGLB_OWNER_LOG, oGLB_OWNER_NODE] s (setF fGLB_STATUS_OWNER_REJECT 1 s) :=
    .setF 1 s (by decide)
  unfold ownerReject
  dsimp only
  split
  · exact hstatus
  · exact (hstatus.trans ((Writes.setF _ _ (by decide)).trans (.setF _ _ (by decide)))).trans
      ((Writes.setF _ _ (by decide)).trans (.setF _ _ (by decide)))

/-! ### Reads that change something -/

theorem findRow_ceCnt {b : Nat} (hb : b < 5) : findRow (0x28010 + b) (blockRows .stk) =
    some (⟨0x28010, [(5, 0x1)], [⟨0, 24, .rc, .none, 0x0⟩]⟩, [b]) := by
  interval_cases b <;> rfl

/-- A read of a counter of corrected errors clears it. -/
theorem readEffect_ceCnt {b : Nat} {s : State} (hb : b < 5) (hd : domOn s 3 = true) :
    readEffect (0x28010 + b) s = setReg (0x28010 + b) 0 s := by
  have hblock : blockOf (0x28010 + b) = some .stk := by interval_cases b <;> rfl
  have hdom : regDomOn s (0x28010 + b) = true := by rw [regDomOn, offDomain, hblock]; exact hd
  have hmeas : fedMeas (0x28010 + b) = false := by interval_cases b <;> rfl
  have hwin : clkWindow (0x28010 + b) = none := by rw [clkWindow, hblock]
  have hmask : fldMask (fun f => f.acc == .rc) [⟨0, 24, .rc, .none, 0x0⟩] = 0xFFFFFF := by decide
  have hzero (x : Nat) : x &&& (0xFFFFFF ^^^ 0xFFFFFF) = 0 := by simp
  rw [readEffect, hblock]
  simp only [hdom, hmeas, hwin, findRow_ceCnt hb, hmask, hzero]
  rw [if_neg (by simp), if_neg (by simp; omega), if_neg (by omega), if_neg (by omega), if_neg (by omega)]
  rfl

theorem readEffect_time {s : State} (hd : domOn s 0 = true) : readEffect oRTM_TIME0 s = { s with rtime := { s.rtime with
    latch1 := wd (s.ringNs / 2 ^ 24), latch2 := wd (s.ringNs / 2 ^ 48 % 2 ^ 16) } } := by
  have hblock : blockOf oRTM_TIME0 = some .rtm := rfl
  have hdom : regDomOn s oRTM_TIME0 = true := by rw [regDomOn, offDomain, hblock]; exact hd
  have hmeas : fedMeas oRTM_TIME0 = false := rfl
  rw [readEffect, hblock]
  simp only [hdom, hmeas]
  rw [if_neg (by simp), if_neg (by simp [oRTM_TIME0]), if_neg (by decide), if_pos (by decide)]

/-- A read of a counter's lower word latches its upper half. -/
theorem readEffect_cntLo {k : Nat} {s : State} (hk : k < 64) (hd : domOn s 3 = true) : readEffect (0x10200 + 2 * k) s =
    setCnt k { getCnt s k with latch := (getCnt s k).val / 2 ^ 24 } s := by
  have hblock : blockOf (0x10200 + 2 * k) = some .cnt := by
    unfold blockOf
    rw [if_neg (by omega), if_neg (by omega), if_neg (by omega), if_neg (by omega), if_pos (by omega)]
  have hdom : regDomOn s (0x10200 + 2 * k) = true := by rw [regDomOn, offDomain, hblock]; exact hd
  have hmeas : fedMeas (0x10200 + 2 * k) = false := by simp [fedMeas]; omega
  have hk' : (0x10200 + 2 * k - 0x10200) / 2 = k := by omega
  rw [readEffect, hblock]
  simp only [hdom, hmeas]
  rw [if_neg (by simp), if_neg (by simp; omega), if_neg (by omega), if_neg (by omega), if_pos (by omega), hk']

/-- Settles O2: each write goes by its guard, and each read by its effect. -/
theorem registerAccess : Obligations.RegisterAccess := by
  unfold Obligations.RegisterAccess
  refine ⟨?scratch, ?domainOff, ?notOwned, ?noRegister, ?readClears, ?timeRead, ?cntRead⟩
  case scratch =>
    intro w v s i hi hmay
    refine ⟨setReg (0x10 + i) v s, ?_, ?_, fun o ho => ?_⟩
    · change execRegisterWrite w (0x10 + i) v s = _
      rw [execRegisterWrite, busWrite, guardWrite_may hmay, busPut_scratch hi]
    · rw [reg_setReg, if_pos rfl]
    · rw [reg_setReg, if_neg ho]
  case domainOff =>
    intro off v s hb hd
    change execRegisterWrite .steward off v s = _
    rw [execRegisterWrite, busWrite, guardWrite_off hb hd]
  case notOwned =>
    intro off v s hb how hd
    refine ⟨ownerReject .host off s, ?_, flag_ownerReject off s, fun o hst hlog hnode => ?_⟩
    · change execRegisterWrite .host off v s = _
      rw [execRegisterWrite, busWrite, guardWrite_refused hb how hd]
    · exact writes_ownerReject off s o (by simp [hst, hlog, hnode])
  case noRegister =>
    intro w off v s hb
    change execRegisterWrite w off v s = _
    rw [execRegisterWrite, busWrite, guardWrite_none hb]
  case readClears =>
    intro s b hb hd
    change execRcRead (0x28010 + b) s = _
    rw [execRcRead, readEffect_ceCnt hb hd]
  case timeRead =>
    intro s hd
    change execRtmTimeRead s = _
    rw [execRtmTimeRead, readEffect_time hd]
  case cntRead =>
    intro s k hk hd
    change execCntLoRead k s = _
    rw [execCntLoRead, unit_pos (decide_eq_true hk), readEffect_cntLo hk hd]

end Sys2Proof.Proofs
end

/-! PROOFS. Point records (chapter 02): which registers a write of a record changes, what the record reads afterwards,
and O52. -/

section
open Sys2Proof Sys2Proof.Machine

namespace Sys2Proof.Proofs

/-! ### Registers that entering a queue writes -/

/-- The registers that an item entering queue `q` writes: the high-water marks of the queue and of the mirrors, and
MIR_SKIP. -/
def pushRegs (q : Nat) : List Nat := oSWQ_MIR_SKIP :: (q :: (List.range 8).map (88 + ·)).map oSWQ_QHWM

theorem mirSkip_mem_pushRegs (q : Nat) : oSWQ_MIR_SKIP ∈ pushRegs q := List.mem_cons_self ..

theorem qhwm_mem_pushRegs (q : Nat) : oSWQ_QHWM q ∈ pushRegs q := by simp [pushRegs]

theorem mirrorQhwm_mem_pushRegs (q : Nat) {k : Nat} (hk : k < 8) : oSWQ_QHWM (88 + k) ∈ pushRegs q :=
  List.mem_cons_of_mem _ (List.mem_map_of_mem (List.mem_cons_of_mem _ (List.mem_map_of_mem (List.mem_range.2 hk))))

theorem Writes.setItem {l : List Nat} (i : Nat) (x : Option Item) (s : State) : Writes l s (setItem i x s) := .of_regs rfl

theorem Writes.countEv {l : List Nat} (g i n : Nat) (s : State) : Writes l s (countEv g i n s) :=
  .of_regs (countEv_regs g i n s)

theorem writes_joinQ {l : List Nat} (i : Nat) (s : State) {q : Nat} (h : oSWQ_QHWM q ∈ l) : Writes l s (joinQ i s q) :=
  have hq : Writes l s (setQ q (getQ s q ++ [i]) s) := .of_regs rfl
  hq.trans ((Writes.setF (f := fSWQ_QHWM_HWM q) _ _ h).trans (.countEv _ _ _ _))

theorem writes_mirrorTo (i q : Nat) (qs : List Nat) (s : State) {k : Nat} (hk : k < 8) :
    Writes (pushRegs q) s (mirrorTo i qs s k) := by
  unfold mirrorTo
  split
  · split
    · split
      · exact .trans (.setItem _ _ _) (writes_joinQ _ _ (mirrorQhwm_mem_pushRegs q hk))
      · exact .refl _ _
    · exact .setF _ _ (mirSkip_mem_pushRegs q)
  · exact .refl _ _

theorem writes_mirrors (i q : Nat) (ks : List Nat) (hks : ∀ k ∈ ks, k < 8) (s : State) :
    Writes (pushRegs q) s (ks.foldl (mirrorTo i [q]) s) := by
  induction ks generalizing s with
  | nil => exact .refl _ _
  | cons k ks ih =>
    exact (writes_mirrorTo i q [q] s (hks k (by simp))).trans (ih (fun j hj => hks j (by simp [hj])) _)

theorem writes_joinMirrors (i q : Nat) {s t : State} (h : t.regs = s.regs) :
    Writes (pushRegs q) s ([0, 1, 2, 3, 4, 5, 6, 7].foldl (mirrorTo i [q]) (joinQ i t q)) :=
  ((Writes.of_regs h).trans (writes_joinQ i t (qhwm_mem_pushRegs q))).trans (writes_mirrors i q _ (by decide) _)

theorem writes_enterQ (q : Nat) (b : Body) (cls : Nat) (transit : Bool) (ch : List (Charge × Nat)) (s : State) :
    Writes (pushRegs q) s (enterQ [q] b cls transit ch s) := by
  simp only [enterQ, List.foldl_cons (f := joinQ _), List.foldl_nil (f := joinQ _)]
  apply writes_joinMirrors
  rfl

theorem writes_noteDesc {l : List Nat} (s : State) : Writes l s (noteDesc s) := .of_regs (noteDesc_swqOnly s).regs

theorem writes_pushBody (q : Nat) (b : Body) (cls : Nat) (s : State) : Writes (pushRegs q) s (pushBody [q] b cls s) := by
  unfold pushBody
  split
  · exact .refl _ _
  · dsimp only
    split
    · exact .of_regs rfl
    · split
      · exact (writes_enterQ _ _ _ _ _ _).trans (writes_noteDesc _)
      · exact .of_regs rfl

theorem writes_alarmItem (p : Nat) (s : State) : Writes (pushRegs 208) s (alarmItem p s) := by
  unfold alarmItem
  split
  · exact writes_pushBody _ _ _ _
  · exact .refl _ _

theorem setRecK_regs (k : Nat) (r : Rec) (s : State) : (setRecK k r s).regs = s.regs := rfl

theorem putRec_regs (k : Nat) (r : Rec) (s : State) : (putRec k r s).regs = s.regs := by
  unfold putRec
  split <;> rfl

theorem writes_storeRec (p : Nat) (r : Rec) (s : State) : Writes (pushRegs 208) s (storeRec p r s) := by
  have hput : Writes (pushRegs 208) s (countEv 7 1 1 (putRec (ptKey s p) r s)) :=
    .trans (.of_regs (putRec_regs _ _ _)) (.countEv _ _ _ _)
  unfold storeRec
  dsimp only
  split
  · exact hput.trans (writes_alarmItem _ _)
  · exact hput

/-! ### Keys -/

theorem bankMap_not_mem_pushRegs : 0x28004 ∉ pushRegs 208 := by decide

theorem Writes.physBank {l : List Nat} {s t : State} (h : Writes l s t) (hl : 0x28004 ∉ l) (b : Nat) :
    physBank t b = Machine.physBank s b := h.getF hl

theorem Writes.ptKey {l : List Nat} {s t : State} (h : Writes l s t) (hl : 0x28004 ∉ l) (p : Nat) :
    ptKey t p = Machine.ptKey s p := by
  unfold Machine.ptKey
  rw [h.physBank hl]

theorem ptKey_alarmItem (p q : Nat) (s : State) : ptKey (alarmItem p s) q = ptKey s q :=
  (writes_alarmItem p s).ptKey bankMap_not_mem_pushRegs q

theorem ptKey_storeRec (p : Nat) (r : Rec) (q : Nat) (s : State) : ptKey (storeRec p r s) q = ptKey s q :=
  (writes_storeRec p r s).ptKey bankMap_not_mem_pushRegs q

/-! ### Records -/

theorem getRecK_of_stk {s t : State} (h : t.stk = s.stk) (k : Nat) : getRecK t k = getRecK s k := by
  simp only [getRecK, h]

theorem countEv_stk (g i n : Nat) (s : State) : (countEv g i n s).stk = s.stk :=
  (show Only [.cnts] s (countEv g i n s) by simp).same .stk (by decide)

theorem alarmItem_stk (p : Nat) (s : State) : (alarmItem p s).stk = s.stk :=
  (show Only [.regs, .cnts, .swq] s (alarmItem p s) by simp).same .stk (by decide)

theorem storeRec_stk (p : Nat) (r : Rec) (s : State) : (storeRec p r s).stk = (putRec (ptKey s p) r s).stk := by
  unfold storeRec
  dsimp only
  split
  · rw [alarmItem_stk, countEv_stk]
  · exact countEv_stk ..

theorem getRecK_putRec_self (k : Nat) (r : Rec) (s : State) : getRecK (putRec k r s) k = r := by
  unfold putRec
  split <;> simp

/-- With no copy in progress a record has one place. -/
theorem putRec_of_copy_none {s : State} (h : s.stk.copy = none) (k : Nat) (r : Rec) : putRec k r s = setRecK k r s := by
  simp [putRec, dualKey, h]

theorem getPt_alarmItem (p q : Nat) (s : State) : getPt (alarmItem p s) q = getPt s q := by
  rw [getPt, ptKey_alarmItem, getRecK_of_stk (alarmItem_stk p s)]
  rfl

theorem getPt_storeRec (p : Nat) (r : Rec) (s : State) : getPt (storeRec p r s) p = r := by
  rw [getPt, ptKey_storeRec, getRecK_of_stk (storeRec_stk p r s), getRecK_putRec_self]

theorem getPt_storeRec_other {p q : Nat} {s : State} (r : Rec) (hcopy : s.stk.copy = none) (h : ptKey s q ≠ ptKey s p) :
    getPt (storeRec p r s) q = getPt s q := by
  rw [getPt, ptKey_storeRec, getRecK_of_stk (storeRec_stk p r s), putRec_of_copy_none hcopy, getRecK_setRecK, if_neg h]
  rfl

theorem getPt_writeRec (p : Nat) (r : Rec) (s : State) : getPt (writeRec p r s) p = withChanged (getPt s p) r :=
  getPt_storeRec ..

theorem withChanged_changed_iff (old new : Rec) : (withChanged old new).changed = true ↔ (old.changed = true ∨
    old.w0 ≠ new.w0 ∨ old.st ≠ new.st ∨ old.reason ≠ new.reason ∨ old.stale ≠ new.stale ∨ old.forced ≠ new.forced) := by
  simp [withChanged, alters, or_assoc]

/-! ### Events -/

theorem getPt_forceRec (p : Nat) (v : Word) (st : PSt) (s : State) :
    getPt (forceRec p v st s) p = withChanged (getPt (preRead p .ok s) p) { getPt (preRead p .ok s) p with
      w0 := v, st := st, reason := .none, time := usNow (preRead p .ok s), stale := false, forced := true } :=
  getPt_writeRec ..

theorem getPt_releaseRec {p : Nat} {s : State} (h : (getPt (preRead p .ok s) p).forced = true) :
    getPt (releaseRec p s) p = withChanged (getPt (preRead p .ok s) p) { getPt (preRead p .ok s) p with
      st := .uncertain, reason := .none, time := usNow (preRead p .ok s), stale := false, forced := false } := by
  unfold releaseRec
  dsimp only
  rw [if_pos h]
  exact getPt_writeRec ..

theorem getPt_writeFailed (p : Nat) (s : State) :
    getPt (writeFailed p s) p = withChanged (getPt (preRead p .ok s) p) { getPt (preRead p .ok s) p with
      st := if (getPt (preRead p .ok s) p).st = .good then .uncertain else (getPt (preRead p .ok s) p).st,
      reason := .writeFailed } :=
  getPt_writeRec ..

theorem getPt_strayWrite (src p : Nat) (s : State) : getPt (strayWrite src s) p = getPt s p := by
  unfold strayWrite
  split
  · rfl
  · rfl

theorem getPt_countEv (g i n p : Nat) (s : State) : getPt (countEv g i n s) p = getPt s p := by
  rw [getPt, (Writes.countEv (l := []) g i n s).ptKey (by simp), getRecK_of_stk (countEv_stk ..)]
  rfl

/-- A communication failure of the source that owns an unforced point. -/
theorem getPt_srcWrite_comms {src p now : Nat} {s : State} {c : Cat} {u : State} (hu : u = preRead p .ok s)
    (hc : c = getCatK u (ptKey u p)) (hsource : catSource c = src) (hloaded : c.mark = .loaded)
    (hforced : (getPt u p).forced = false) :
    getPt (srcWrite src p .comms now s) p =
      withChanged (getPt u p) { getPt u p with st := .bad, reason := .commsFail, time := now, stale := false } := by
  subst hu hc
  unfold srcWrite
  dsimp only
  rw [if_neg (by simp [hloaded]), if_neg (by simp [hsource]), if_neg (by simp [hforced])]
  split
  · rw [getPt_alarmItem, getPt_storeRec]
    rfl
  · rw [getPt_storeRec]
    rfl

/-- No source writes a forced point. -/
theorem getPt_srcWrite_of_forced {src p : Nat} (ev : SrcEv) (now : Nat) {s : State}
    (hforced : (getPt (preRead p .ok s) p).forced = true) :
    getPt (srcWrite src p ev now s) p = getPt (preRead p .ok s) p := by
  unfold srcWrite
  dsimp only
  rw [if_pos hforced]
  split
  · rfl
  · split
    · exact getPt_strayWrite ..
    · exact getPt_countEv ..

/-! ### Reads with no wrong bit held -/

theorem flipsAt_strike_ok (arr k : Nat) (s : State) (a j : Nat) : flipsAt (strike arr k .ok s) a j = flipsAt s a j := by
  unfold strike
  simp only [flipsAt, tget_tset, Nat.add_zero]
  split
  next h => rw [h]
  · rfl

/-- A read that meets no new wrong bit and finds none held only counts nothing anew. -/
theorem checkCat_ok {b i : Nat} {s : State} (h : flipsAt s 1 (bankSize * b + i) = 0) :
    checkCat b i .ok s = strike 1 (bankSize * b + i) .ok s := by
  unfold checkCat
  dsimp only
  rw [if_pos (.inl (by rw [flipsAt_strike_ok, h]))]

theorem checkRec_ok {b i : Nat} {s : State} (h : flipsAt s 0 (bankSize * b + i) = 0) :
    checkRec b i .ok s = strike 0 (bankSize * b + i) .ok s := by
  unfold checkRec
  dsimp only
  rw [if_pos (by rw [flipsAt_strike_ok, h])]

theorem ptKey_eq (s : State) (p : Nat) : bankSize * (ptKey s p / bankSize) + ptKey s p % bankSize = ptKey s p :=
  Nat.div_add_mod ..

theorem preRead_ok {p : Nat} {s : State} (h0 : flipsAt s 0 (ptKey s p) = 0) (h1 : flipsAt s 1 (ptKey s p) = 0) :
    preRead p .ok s = strike 0 (ptKey s p) .ok (strike 1 (ptKey s p) .ok s) := by
  have htouch : touchCat p .ok s = strike 1 (ptKey s p) .ok s := by
    rw [touchCat, checkCat_ok (by rw [ptKey_eq]; exact h1), ptKey_eq]
  have hkey : ptKey (strike 1 (ptKey s p) .ok s) p = ptKey s p := rfl
  unfold preRead
  dsimp only
  rw [htouch, hkey, checkRec_ok (by rw [ptKey_eq, flipsAt_strike_ok]; exact h0), ptKey_eq]

theorem getPt_preRead_ok {p : Nat} {s : State} (h0 : flipsAt s 0 (ptKey s p) = 0) (h1 : flipsAt s 1 (ptKey s p) = 0) :
    getPt (preRead p .ok s) p = getPt s p := by
  rw [preRead_ok h0 h1]
  rfl

/-- Settles O52, event by event, from what a write of a record leaves in it. -/
theorem recordEvents : Obligations.RecordEvents := by
  unfold Obligations.RecordEvents
  refine ⟨?force, ?release, ?direct, ?failed, ?comms, ?toForced, ?read, ?changed, ?other⟩
  case force =>
    rintro p v st u s rfl
    rw [getPt_forceRec]
    generalize preRead p .ok s = u
    rfl
  case release =>
    rintro p u s rfl hforced
    rw [getPt_releaseRec hforced]
    generalize preRead p .ok s = u at hforced ⊢
    simp [withChanged, alters, hforced]
  case direct =>
    intro p v s
    unfold directWrite
    rw [getPt_writeRec]
    rfl
  case failed =>
    rintro p u s t rfl rfl
    rw [getPt_writeFailed]
    generalize getPt (preRead p .ok s) p = r
    exact ⟨rfl, fun h => if_pos h, fun h => if_neg h⟩
  case comms =>
    rintro p src now u s t hu hsource hloaded hforced rfl
    rw [getPt_srcWrite_comms hu rfl hsource hloaded hforced]
    generalize getPt u p = r
    rfl
  case toForced =>
    rintro p src ev now u s rfl hforced
    exact getPt_srcWrite_of_forced ev now hforced
  case read =>
    intro p s h0 h1
    exact getPt_preRead_ok h0 h1
  case changed =>
    intro p r s
    rw [getPt_writeRec]
    exact withChanged_changed_iff ..
  case other =>
    intro p r q s hcopy hkey
    exact getPt_storeRec_other _ hcopy hkey

end Sys2Proof.Proofs
end

/-! PROOFS. Settles O4: the copy of a bank, its end, and the bank map (chapter 02). -/

section
open Sys2Proof Sys2Proof.Machine

namespace Sys2Proof.Proofs

/-! ### Tables in canonical form -/

theorem tget_of_lt {α : Type} [DecidableEq α] {d e : Nat → α} {lo k : Nat} {t : Tab α} (hwf : twf d lo t = true)
    (hk : k < lo) : tget e t k = e k := by
  induction t generalizing lo with
  | nil => rfl
  | cons x t ih =>
    obtain ⟨a, v⟩ := x
    simp only [twf, Bool.and_eq_true, decide_eq_true_eq] at hwf
    obtain ⟨⟨hlo, -⟩, ht⟩ := hwf
    rw [tget, if_neg (by omega)]
    exact ih ht (by omega)

theorem tget_congr_default {α : Type} {d e : Nat → α} {k : Nat} (t : Tab α) (h : d k = e k) : tget d t k =
  tget e t k := by
  induction t with
  | nil => exact h
  | cons x t ih => simp only [tget, ih]

/-! ### The keys of a bank -/

theorem bankSize_pos : 0 < bankSize := by decide

theorem bankKey_div {b i : Nat} (hi : i < bankSize) : (bankSize * b + i) / bankSize = b := by
  rw [Nat.mul_add_div bankSize_pos, Nat.div_eq_of_lt hi, Nat.add_zero]

theorem inBank_bankKey {b i : Nat} (hi : i < bankSize) : inBank b (bankSize * b + i) = true := by
  rw [inBank, bankKey_div hi, beq_self_eq_true]

/-- A key of bank `f` is the key of its index there. -/
theorem eq_bankKey_of_inBank {f i a : Nat} (ha : inBank f a = true) (hi : a % bankSize = i) : bankSize * f + i = a := by
  rw [← hi, ← eq_of_beq ha, Nat.div_add_mod]

/-! ### A copied table -/

/-- One step of a copy: an entry of bank `f` is written at the same index of bank `d`. -/
def copyEntry (f d : Nat) (fill : Nat → Rec) (t : Tab Rec) (e : Nat × Rec) : Tab Rec :=
  if inBank f e.1 then tset fill (bankSize * d + e.1 % bankSize) e.2 t else t

theorem copyRecs_stk (f d : Nat) (s : State) : (copyRecs f d s).stk =
    { s.stk with
      fill := s.stk.fill.set d (s.stk.fill.getD f (Rec.empty .none 0))
      recs := s.stk.recs.foldl (copyEntry f d (recFill (s.stk.fill.set d (s.stk.fill.getD f (Rec.empty .none 0)))))
        (tclear (inBank d) s.stk.recs)
      flips := tclear (fun k => inBank d (k / 2)) s.stk.flips } := rfl

theorem tget_copyEntry {f d i : Nat} (fill : Nat → Rec) (t : Tab Rec) (e : Nat × Rec) :
    tget fill (copyEntry f d fill t e) (bankSize * d + i) =
      if bankSize * f + i = e.1 ∧ i < bankSize then e.2 else tget fill t (bankSize * d + i) := by
  obtain ⟨a, r⟩ := e
  unfold copyEntry
  dsimp only
  split
  next ha =>
    rw [tget_tset]
    congr 1
    rw [Nat.add_left_cancel_iff]
    refine propext ⟨fun h => ⟨eq_bankKey_of_inBank ha h.symm, h ▸ Nat.mod_lt _ bankSize_pos⟩, fun ⟨h, hi⟩ => ?_⟩
    rw [← h, Nat.mul_add_mod, Nat.mod_eq_of_lt hi]
  next ha =>
    refine (if_neg fun ⟨h, hi⟩ => ha ?_).symm
    rw [← h, inBank_bankKey hi]

/-- After a copy, an index of the new bank reads as the same index of the old one in the table copied, or as before
where that table does not list it. -/
theorem tget_foldl_copyEntry {f d i lo : Nat} (fill dflt : Nat → Rec) {t : Tab Rec} (hi : i < bankSize)
    (hwf : twf dflt lo t = true) (acc : Tab Rec) :
    tget fill (t.foldl (copyEntry f d fill) acc) (bankSize * d + i) =
      tget (fun _ => tget fill acc (bankSize * d + i)) t (bankSize * f + i) := by
  induction t generalizing lo acc with
  | nil => rfl
  | cons e t ih =>
    obtain ⟨a, r⟩ := e
    simp only [twf, Bool.and_eq_true, decide_eq_true_eq] at hwf
    obtain ⟨-, ht⟩ := hwf
    rw [List.foldl_cons, ih ht, tget_copyEntry, tget]
    by_cases hkey : bankSize * f + i = a
    · rw [if_pos hkey, if_pos ⟨hkey, hi⟩, tget_of_lt ht (by omega)]
    · rw [if_neg hkey, if_neg fun h => hkey h.1]

/-! ### Banks -/

theorem fill_length {s : State} (h : Memory.wf s = true) : s.stk.fill.length = 5 := by
  simp only [Memory.wf, archiveWf, Bool.and_eq_true, beq_iff_eq] at h
  exact h.2.1

theorem recs_wf {s : State} (h : Memory.wf s = true) : twf (recFill s.stk.fill) 0 s.stk.recs = true := by
  simp only [Memory.wf, archiveWf, Bool.and_eq_true] at h
  exact h.2.2.1

theorem recFill_bankKey (fill : List Rec) {b i : Nat} (hi : i < bankSize) :
    recFill fill (bankSize * b + i) = fill.getD b (Rec.empty .none 0) := by
  rw [recFill, bankKey_div hi]

theorem recFill_set_bankKey {fill : List Rec} {b i : Nat} (r : Rec) (hb : b < fill.length) (hi : i < bankSize) :
    recFill (fill.set b r) (bankSize * b + i) = r := by
  rw [recFill_bankKey _ hi, List.getD_eq_getElem?_getD, List.getElem?_set_self hb, Option.getD_some]

theorem getRecK_bankFresh {b i : Nat} {s : State} (hwf : Memory.wf s = true) (hb : b < 5) (hi : i < bankSize) :
    getRecK (bankFresh b s) (bankSize * b + i) = Rec.empty .retentionLost (usNow s) := by
  simp only [getRecK, bankFresh]
  rw [tget_tclear, if_pos (inBank_bankKey hi), recFill_set_bankKey _ (by rw [fill_length hwf]; exact hb) hi]

theorem getRecK_copyRecs {f d i : Nat} {s : State} (hwf : Memory.wf s = true) (hd : d < 5) (hi : i < bankSize) :
    getRecK (copyRecs f d s) (bankSize * d + i) = getRecK s (bankSize * f + i) := by
  rw [getRecK, copyRecs_stk, getRecK]
  dsimp only
  rw [tget_foldl_copyEntry _ (recFill s.stk.fill) hi (recs_wf hwf)]
  refine tget_congr_default _ ?_
  rw [tget_tclear, if_pos (inBank_bankKey hi), recFill_set_bankKey _ (by rw [fill_length hwf]; exact hd) hi,
    recFill_bankKey _ hi]

/-! ### The copy control -/

theorem copyReads_of_no_flips {f : Nat} {s : State} (h : s.stk.flips = []) : copyReads f s = s := by
  simp only [copyReads, h, List.filter_nil, List.foldl_nil]

theorem raise_attic (n : Nat) (s : State) : (raise n s).flt.attic = s.flt.attic := rfl

theorem withArchive_flt (a : Archive) (s : State) : { s with stk := a }.flt = s.flt := rfl

theorem copyCats_flt (f d : Nat) (s : State) : (copyCats f d s).flt = s.flt := rfl

theorem copyRecs_flt (f d : Nat) (s : State) : (copyRecs f d s).flt = s.flt := rfl

theorem flag_withArchive (a : Archive) (s : State) (f : Fld) : flag { s with stk := a } f = flag s f := rfl

theorem atticFind_of_no_attic {s : State} (h : s.flt.attic = []) (kind : Nat) (ok : Swap → Bool) :
    atticFind s kind ok = none := by
  rw [atticFind, h, List.find?_nil]

theorem bankSwapped_of_no_attic {f d : Nat} {s : State} (h : s.flt.attic = []) : bankSwapped f d s = s := by
  simp only [bankSwapped, atticFind_of_no_attic h]

/-- A control word with START alone starts the copy, or is refused. -/
theorem copyCtlWrite_start {v : Word} {s : State} (hv : v.toNat / 64 % 4 = 1) (hcopy : s.stk.copy = none) :
    copyCtlWrite v s = copyStart (v.toNat % 8) (v.toNat / 8 % 8) (writeBits 0x28005 0x3F v.toNat s) := by
  unfold copyCtlWrite
  dsimp only
  rw [if_neg (by omega), if_pos (by omega), if_neg (by simp [hcopy])]

/-- A control word with ABORT alone ends the copy in progress. -/
theorem copyCtlWrite_abort {v : Word} {s : State} (hv : v.toNat / 64 % 4 = 2) (hcopy : s.stk.copy.isSome = true) :
    copyCtlWrite v s = copyAbort (setF fSTK_STATUS_CFG_REJECT 1 s) := by
  unfold copyCtlWrite
  dsimp only
  rw [if_pos (by omega), if_neg (by omega), if_pos hcopy]

/-- The state that a copy begins with. -/
def copyBegun (src dst : Nat) (s : State) : State :=
  { setReg 0x28006 (wd (2 ^ 19)) (setF fSTK_STATUS_COPY_BUSY 1 s) with
    stk := { s.stk with copy := some (src, dst), undef := insSet dst s.stk.undef } }

theorem copyStart_of_may {src dst : Nat} {s : State} (hcopy : s.stk.copy = none) (hspare : dst = spareBank s)
    (hfenced : bankFenced s dst = false) (hmapped : (List.range 4).any (fun l => physBank s l == src) = true) :
    copyStart src dst s = copyBegun src dst s := by
  unfold copyStart
  rw [if_neg (by simp [hcopy, ← hspare, hfenced, hmapped])]
  rfl

theorem flag_copyBegun (src dst : Nat) (s : State) : flag (copyBegun src dst s) fSTK_STATUS_COPY_BUSY = true := by
  have hregs : (copyBegun src dst s).regs = (setReg 0x28006 (wd (2 ^ 19)) (setF fSTK_STATUS_COPY_BUSY 1 s)).regs := rfl
  have hreg : reg (copyBegun src dst s) fSTK_STATUS_COPY_BUSY.off =
      reg (setF fSTK_STATUS_COPY_BUSY 1 s) fSTK_STATUS_COPY_BUSY.off := by
    rw [reg_congr hregs, reg_setReg, if_neg (by decide)]
  rw [flag_of_reg_eq _ hreg]
  exact flag_setF_self _ _ (by decide)

/-- The state that an aborted copy leaves. -/
def copyAborted (d : Nat) (s : State) : State :=
  let s := setF fSTK_STATUS_COPY_BUSY 0 s
  let s := setF fSTK_COPY_STAT_DUAL 0 (setF fSTK_COPY_STAT_DONE 0 (setF fSTK_COPY_STAT_ABORTED 1 s))
  raise (207 + d) { s with stk := { s.stk with copy := none, undef := insSet d s.stk.undef } }

theorem copyAborted_flt_attic (d : Nat) (s : State) : (copyAborted d s).flt.attic = s.flt.attic := by
  unfold copyAborted
  dsimp only
  rw [raise_attic, withArchive_flt, setF_flt, setF_flt, setF_flt, setF_flt]

theorem copyAbort_of_copy {f d : Nat} {s : State} (hcopy : s.stk.copy = some (f, d)) (hattic : s.flt.attic = []) :
    copyAbort s = copyAborted d s := by
  unfold copyAbort
  rw [hcopy]
  dsimp only
  change (match atticFind (copyAborted d s) 1 _ with
    | some w => atticEnd w 1 (copyAborted d s)
    | none => copyAborted d s) = _
  rw [atticFind_of_no_attic ((copyAborted_flt_attic d s).trans hattic)]

theorem flag_copyAborted (d : Nat) (s : State) : flag (copyAborted d s) fSTK_COPY_STAT_ABORTED = true := by
  have hflag (u : State) : flag (setF fSTK_COPY_STAT_DUAL 0
    (setF fSTK_COPY_STAT_DONE 0 (setF fSTK_COPY_STAT_ABORTED 1 u)))
      fSTK_COPY_STAT_ABORTED = true := by
    rw [flag_setF_other _ _ (by decide) (by decide), flag_setF_other _ _ (by decide) (by decide)]
    exact flag_setF_self _ _ (by decide)
  unfold copyAborted
  rw [flag_raise, flag_withArchive]
  exact hflag _

/-- The state that a finished copy leaves. -/
def copyDone (f d : Nat) (s : State) : State :=
  let s := copyCats f d (copyRecs f d s)
  let s := { s with stk := { s.stk with undef := delSet d s.stk.undef } }
  setF fSTK_COPY_STAT_NEXT 0 (setF fSTK_COPY_STAT_DONE 1 s)

theorem execBankCopyDone_eq {f d : Nat} {s : State} (hcopy : s.stk.copy = some (f, d))
    (hdone : flag s fSTK_COPY_STAT_DONE = false) (hflips : s.stk.flips = []) :
    execBankCopyDone [] s = .next (bankSwapped f d (copyDone f d s)) := by
  unfold execBankCopyDone
  rw [hcopy]
  dsimp only
  rw [if_neg (by simp [hdone]), List.foldl_nil, copyReads_of_no_flips hflips]
  rfl

theorem copyDone_flt (f d : Nat) (s : State) : (copyDone f d s).flt = s.flt := by
  unfold copyDone
  dsimp only
  rw [setF_flt, setF_flt, withArchive_flt, copyCats_flt, copyRecs_flt]

theorem copyDone_stk (f d : Nat) (s : State) :
    (copyDone f d s).stk = { (copyCats f d (copyRecs f d s)).stk with undef := delSet d s.stk.undef } := rfl

theorem flag_copyDone (f d : Nat) (s : State) : flag (copyDone f d s) fSTK_COPY_STAT_DONE = true := by
  unfold copyDone
  rw [flag_setF_other _ _ (by decide) (by decide)]
  exact flag_setF_self _ _ (by decide)

/-! ### The bank map -/

theorem bankMapWrite_refused {v : Word} {s : State} (h : mapRefused s v = true) :
    bankMapWrite v s = setF fSTK_STATUS_CFG_REJECT 1 s := if_pos h

theorem bankMapWrite_copied {v : Word} {s : State} {l : Nat} (hr : mapRefused s v = false) (hm : mapMoves s v = [l])
    (hn : bitsOf v.toNat 15 1 = 0) : bankMapWrite v s =
      { setF fSTK_STATUS_COPY_BUSY 0 (setF fSTK_COPY_STAT_DUAL 0 (mapApply v s)) with
        stk := { s.stk with copy := none } } := by
  unfold bankMapWrite
  rw [if_neg (by simp [hr]), if_neg (by simp [hm]), if_neg (by omega)]
  rfl

theorem bankMapWrite_nocopy {v : Word} {s : State} {l : Nat} (hr : mapRefused s v = false) (hm : mapMoves s v = [l])
    (hn : bitsOf v.toNat 15 1 = 1) : bankMapWrite v s = bankFresh (spareBank s) (mapApply v s) := by
  unfold bankMapWrite
  rw [if_neg (by simp [hr]), if_neg (by simp [hm]), if_pos hn]

/-- Settles O4, command by command. -/
theorem archiveBanks : Obligations.ArchiveBanks := by
  unfold Obligations.ArchiveBanks
  refine ⟨?start, ?abort, ?done, ?map, ?mapRefused, ?mapNocopy, ?fresh, ?copied⟩
  case start =>
    intro w v s hmayWrite hv hcopy hspare hfenced hmapped
    have hw : Writes [0x28005] s (writeBits 0x28005 0x3F v.toNat s) := writes_writeBits _ _ _ _
    refine ⟨_, congrArg Host.Outcome.next ((guardWrite_may hmayWrite).trans (copyCtlWrite_start hv hcopy)), ?_⟩
    rw [copyStart_of_may (by rw [show (writeBits _ _ _ s).stk = s.stk from rfl, hcopy])]
    · exact ⟨rfl, flag_copyBegun .., rfl, rfl⟩
    · rw [hspare]
      exact (hw.getF (by decide)).symm
    · rw [← hfenced, bankFenced, bankFenced, hw _ (by decide)]
    · simpa only [hw.physBank (by decide)] using hmapped
  case abort =>
    intro w v f d s hmayWrite hv hcopy hattic
    refine ⟨_, congrArg Host.Outcome.next ((guardWrite_may hmayWrite).trans (copyCtlWrite_abort hv (by simp [hcopy]))),
      ?_⟩
    rw [copyAbort_of_copy (by rw [setF_stk, hcopy]) (by rw [setF_flt, hattic])]
    exact ⟨rfl, flag_copyAborted .., mem_pulse_raise .., (mem_insSet ..).2 (.inl rfl)⟩
  case done =>
    intro f d s hcopy hdone hattic hflips
    refine ⟨_, execBankCopyDone_eq hcopy hdone hflips, ?_⟩
    rw [bankSwapped_of_no_attic (by rw [copyDone_flt, hattic])]
    exact ⟨copyDone_stk .., flag_copyDone ..⟩
  case map =>
    intro w v l s hmayWrite hrefused hmoves hnocopy
    exact congrArg Host.Outcome.next ((guardWrite_may hmayWrite).trans (bankMapWrite_copied hrefused hmoves hnocopy))
  case mapRefused =>
    intro w v s hmayWrite hrefused
    exact congrArg Host.Outcome.next ((guardWrite_may hmayWrite).trans (bankMapWrite_refused hrefused))
  case mapNocopy =>
    intro w v l s hmayWrite hrefused hmoves hnocopy
    exact congrArg Host.Outcome.next ((guardWrite_may hmayWrite).trans (bankMapWrite_nocopy hrefused hmoves hnocopy))
  case fresh =>
    intro b i s hwf hb hi
    exact getRecK_bankFresh hwf hb hi
  case copied =>
    intro f d i s hwf _ hd _ hi
    exact getRecK_copyRecs hwf hd hi

end Sys2Proof.Proofs
end

/-! PROOFS. Settles O3: stale limits, scrub visits and passes, catalogue reloads and alarm checks (chapter 02). -/

section
open Sys2Proof Sys2Proof.Machine

namespace Sys2Proof.Proofs

theorem stageBits_of_no_edition {s : State} (h : s.stw.inForce = none) (o m v : Nat) :
    stageBits o m v s = writeBits o m v s := if_pos (by rw [h]; rfl)

theorem scrubAdvance_next {s : State} (h : s.stk.scrub.index + 1 < bankSize) : scrubAdvance s =
    setF fSTK_SCRUB_STAT_BANK s.stk.scrub.bank
      { s with stk := { s.stk with scrub := { s.stk.scrub with index := s.stk.scrub.index + 1 } } } := if_pos h

/-- A scrub visit of a Catalogue record that holds no wrong bit changes nothing but the counters before it moves on. -/
theorem execScrubVisit_cat {s : State} (hruns : scrubRuns s = true) (hunfinished : s.stk.scrub.finished = false)
    (hdom : domOn s (5 + s.stk.scrub.bank) = true) (hcat : s.stk.scrub.cat = true) (hflips : s.stk.flips = []) :
    execScrubVisit .ok s = .next (scrubAdvance
      (strike 1 (bankSize * s.stk.scrub.bank + s.stk.scrub.index) .ok (countEv 7 5 1 s))) := by
  have hcheck : checkCat s.stk.scrub.bank s.stk.scrub.index .ok (countEv 7 5 1 s) =
      strike 1 (bankSize * s.stk.scrub.bank + s.stk.scrub.index) .ok (countEv 7 5 1 s) :=
    checkCat_ok (by rw [flipsAt, countEv_stk, hflips]; rfl)
  unfold execScrubVisit
  dsimp only
  rw [when_pos (by simp [hruns, hunfinished]), if_neg (by simp [hdom]), if_pos hcat, hcheck]
  congr 2
  split
  · rw [if_pos hcat]
  · rfl

theorem putCat_of_copy_none {s : State} (h : s.stk.copy = none) (k : Nat) (c : Cat) : putCat k c s = setCatK k c s := by
  simp [putCat, dualKey, h]

/-- The state in which no reload of a key is owed. -/
def reloadTaken (k : Nat) (s : State) : State := { s with stw := { s.stw with reloads := delSet k s.stw.reloads } }

theorem execCatalogueReload_inForce {p : Nat} {s : State} {e : Edition} (hp : p < 4 * bankSize)
  (hruns : stwRuns s = true)
    (hmark : (getCatK s (ptKey s p)).mark ≠ .loaded) (he : s.stw.inForce = some e) :
    execCatalogueReload p s = .next (putCat (ptKey s p) (editionCat e p) (reloadTaken (ptKey s p) s)) := by
  unfold execCatalogueReload
  rw [unit_pos (decide_eq_true hp), when_pos (by simp [hruns, hmark]), he]
  rfl

theorem execAlarmCheck_front {i p : Nat} {x : Item} {w : Word} {ws : List Word} {e : Edition} {a : AlarmSet}
  {u s : State}
    (hruns : stwRuns s = true) (hfront : frontQ s 208 = some (i, x)) (hbody : x.body = .words (w :: ws))
    (hp : p = w.toNat % (4 * bankSize)) (hu : u = touchPt p .ok (dropFront 208 s)) (he : u.stw.inForce = some e)
    (ha : tget (fun _ => none) e.alarms (catAlarm (catAt u p)) = some a) :
    execAlarmCheck s = .next (qualityCheck p a (limitChecks p 0 a.limits u)) := by
  unfold execAlarmCheck
  rw [when_pos hruns, hfront]
  dsimp only
  rw [hbody]
  dsimp only
  rw [← hp, ← hu, he]
  dsimp only
  rw [ha]

/-- Settles O3: by the rule of each command. -/
theorem archiveMaintenance : Obligations.ArchiveMaintenance := by
  unfold Obligations.ArchiveMaintenance
  refine ⟨?stkStaleLimWrite_1, ?stkStaleLimWrite_2, ?scrubVisit, ?scrubPassEnd_1, ?scrubPassEnd_2, ?catalogueReload,
    ?alarmCheck⟩
  case stkStaleLimWrite_1 =>
    intro w n v s hn hmayWrite hv hsstwinForce
    change execStkStaleLimWrite w n v s = _
    rw [execStkStaleLimWrite, unit_pos (decide_eq_true hn), guardWrite_may hmayWrite, staleLimWrite,
      if_neg (by simpa using hv),
      stageBits_of_no_edition hsstwinForce, writeBits_full]
  case stkStaleLimWrite_2 =>
    intro w n v s hn hmayWrite hv
    change execStkStaleLimWrite w n v s = _
    rw [execStkStaleLimWrite, unit_pos (decide_eq_true hn), guardWrite_may hmayWrite, staleLimWrite,
      if_pos (by simpa using hv)]
  case scrubVisit =>
    intro s hscrubRuns hunfinished hdomOn hcat hs hflips
    have hscrub : (strike 1 (bankSize * s.stk.scrub.bank + s.stk.scrub.index) .ok (countEv 7 5 1 s)).stk.scrub =
      s.stk.scrub := by
      rw [← countEv_stk 7 5 1 s]
      rfl
    refine ⟨_, execScrubVisit_cat hscrubRuns hunfinished hdomOn hcat hflips, ?_⟩
    rw [scrubAdvance_next (by rw [hscrub]; exact hs), hscrub, ← countEv_stk 7 5 1 s]
    exact ⟨rfl, rfl, rfl, rfl⟩
  case scrubPassEnd_1 =>
    intro b s hruns hbegan hdue hfinished hoverran
    change ∃ t, execScrubPassEnd s = .next t ∧ _
    simp only [execScrubPassEnd, hbegan]
    rw [when_pos (by simp [hruns, hdue]), if_neg (by simp [hfinished]), if_neg (by simp [hoverran])]
    refine ⟨_, rfl, ?_, mem_pulse_raise _ _⟩
    rw [flag_raise]
    exact flag_setF_self _ _ (by decide)
  case scrubPassEnd_2 =>
    intro b s hscrubRuns hsstkscrubbegan hdue hsstkscrubfinished
    change execScrubPassEnd s = _
    simp [execScrubPassEnd, when_pos, hscrubRuns, hsstkscrubbegan, hdue, hsstkscrubfinished]
  case catalogueReload =>
    intro p s e hp hruns hmark he hcopy
    refine ⟨_, execCatalogueReload_inForce hp hruns hmark he, ?_⟩
    rw [putCat_of_copy_none (s := reloadTaken _ s) hcopy]
    refine ⟨?_, fun k hk => ?_⟩
    · rw [getCatK_setCatK, if_pos rfl]
    · rw [getCatK_setCatK, if_neg hk]
      rfl
  case alarmCheck =>
    intro i x w ws e a p u s hruns hfront hbody hp hu he ha
    exact execAlarmCheck_front hruns hfront hbody hp hu he ha

end Sys2Proof.Proofs
end

/-! PROOFS. Settles O5: scan cycles, poll transactions and input items (chapters 03 and 04). -/

section
open Sys2Proof Sys2Proof.Machine

namespace Sys2Proof.Proofs

/-- A class that does not lead its place starts without a hand-over. -/
theorem startCycle_of_not_lead {n k d : Nat} {s : State} (hlead : leadClass s n ≠ some k)
    (hpoints : (classPoints s n k).isEmpty = false) : startCycle n k d s =
      setPlace n (setCycle k ⟨true, d, classPoints s n k, none, 0⟩ (getPlace s n)) s := by
  unfold startCycle
  dsimp only
  rw [if_neg hlead, if_neg (by simp [hpoints])]

/-- A place that carries out a poll ends it by what came from the field. -/
theorem execPollTransaction_poll {n k : Nat} {pts : List Nat} {r : PollEnd} {sd : Bool} {s : State} (hn : n < 104)
    (hon : placeOn s n = true) (hitem : (getPlace s n).item = some (.poll k pts)) (hup : placeUp s n = true)
    (hruns : placeRuns s n = true) (hended : (getPlace s n).ended = false) :
    execPollTransaction n r sd s = .next (pollEnds n k pts sd r s) := by
  unfold execPollTransaction
  rw [unit_pos (decide_eq_true hn), when_pos hon, wakePlace_busy (by rw [hitem]; rfl)]
  dsimp only
  rw [hitem]
  dsimp only
  rw [if_pos (by simp [hup, hruns, hended])]

theorem itemPoints_of_command {n : Nat} {s : State} (hitem : (getPlace s n).item = some .command)
    (hcmd : (headCmd s n).isSome = true) : (itemPoints s n).isEmpty = false := by
  obtain ⟨c, hc⟩ := Option.isSome_iff_exists.1 hcmd
  rw [itemPoints, hitem, hc]
  rfl

/-- Settles O5: by the rule of each event. -/
theorem clerkPolls : Obligations.ClerkPolls := by
  unfold Obligations.ClerkPolls
  refine ⟨?scanCycleDue_1, ?scanCycleDue_2, ?pollTransaction_1, ?pollTransaction_2, ?pollTransaction_3,
    ?attemptTimeout, ?unsolicitedInput, ?housekeepingStep, ?i2cBusTest⟩
  case scanCycleDue_1 =>
    intro n k c d l s hn hk hplaceOn hc hcdue hplaceUp hcstarted hdue hperiodNs hl hlisEmpty hleadClass hitem
    subst hc hl
    change execScanCycleDue n k s = _
    rw [execScanCycleDue, unit_pos (by simp [hn, hk]), when_pos hplaceOn]
    dsimp only
    rw [hcdue]
    dsimp only
    rw [if_pos (by simp [hplaceUp, hcstarted, hdue, hperiodNs]),
      startCycle_of_not_lead hleadClass hlisEmpty, wakePlace_busy]
    rw [getPlace_setPlace, if_pos rfl]
    exact hitem
  case scanCycleDue_2 =>
    intro n k d s hn hk hplaceOn hgetCycle hplaceUp hgetCycle2 hdue hperiodNs
    change execScanCycleDue n k s = _
    simp [execScanCycleDue, unit_pos, when_pos, hn, hk, hplaceOn, hgetCycle, hplaceUp, hgetCycle2, hdue, hperiodNs]
  case pollTransaction_1 =>
    intro n k pts r sd s hn hplaceOn hitem hplaceUp hplaceRuns hended
    exact execPollTransaction_poll hn hplaceOn hitem hplaceUp hplaceRuns hended
  case pollTransaction_2 =>
    intro n k pts d sd s hn hplaceOn hitem hplaceUp hplaceRuns hended htype
    refine (execPollTransaction_poll hn hplaceOn hitem hplaceUp hplaceRuns hended).trans ?_
    obtain ⟨h1, h3⟩ : placeType s n ≠ 1 ∧ placeType s n ≠ 3 := by simpa using htype
    simp [pollEnds, h1, h3]
  case pollTransaction_3 =>
    intro n k pts code sd s hn hplaceOn hitem hplaceUp hplaceRuns hended htype h1 hcode
    refine (execPollTransaction_poll hn hplaceOn hitem hplaceUp hplaceRuns hended).trans ?_
    simp [pollEnds, htype, hcode, Nat.ne_of_gt h1]
  case attemptTimeout =>
    intro n p s hn hplaceOn hp hitem hheadCmd hended htype hdue hattempts
    subst hp
    change execAttemptTimeout n s = _
    unfold execAttemptTimeout
    dsimp only
    rw [unit_pos (decide_eq_true hn), when_pos hplaceOn, when_pos]
    · rw [attemptFails, if_pos hattempts]
    · simpa [itemPoints_of_command hitem hheadCmd, hended, hdue] using htype
  case unsolicitedInput =>
    intro n v s hn hplaceOn hplaceUp hplaceRuns hunsolicitedOk hitem
    change execUnsolicitedInput n v s = _
    rw [execUnsolicitedInput, unit_pos (decide_eq_true hn), when_pos hplaceOn,
      when_pos (by simp [hplaceUp, hplaceRuns, hunsolicitedOk]), wakePlace_busy]
    rw [getPlace_setPlace, if_pos rfl]
    exact hitem
  case housekeepingStep =>
    intro n x s hn hplaceOn hplaceUp hplaceRuns hgetPlace
    change execHousekeepingStep n x s = _
    simp [execHousekeepingStep, unit_pos, when_pos, hn, hplaceOn, hplaceUp, hplaceRuns, hgetPlace]
  case i2cBusTest =>
    intro n s hn hplaceOn hplaceType hplaceRuns hdue
    change execI2cBusTest n true true true s = _
    simp [execI2cBusTest, unit_pos, when_pos, hn, hplaceOn, hplaceType, hplaceRuns, hdue]

end Sys2Proof.Proofs
end

/-! PROOFS. Settles O6: the ends of a place's commands and the state of its port (chapter 03). -/

section
open Sys2Proof Sys2Proof.Machine

namespace Sys2Proof.Proofs

/-- A place that carries out the command at the head of its queue ends it by what came from the field. -/
theorem execCommandItem_command {n : Nat} {r : CmdEnd} {c : Cmd} {s : State} (hn : n < 104) (hon : placeOn s n = true)
    (hup : placeUp s n = true) (hruns : placeRuns s n = true) (hended : (getPlace s n).ended = false)
    (hitem : (getPlace s n).item = some .command) (hcmd : headCmd s n = some c) :
    execCommandItem n r s = .next (cmdEnds n c r s) := by
  unfold execCommandItem
  rw [unit_pos (decide_eq_true hn), when_pos hon, if_neg (by simp [hup]), wakePlace_busy (by rw [hitem]; rfl)]
  dsimp only
  rw [hitem, hcmd]
  dsimp only
  rw [if_pos (by simp [hruns, hended])]

/-- Settles O6: by the rule of each event. -/
theorem clerkCommands : Obligations.ClerkCommands := by
  unfold Obligations.ClerkCommands
  refine ⟨?commandItem_1, ?commandItem_2, ?commandItem_3, ?commandItem_4, ?commandItem_5, ?portDown, ?portUp,
    ?holdTimerExpiry, ?itemLimitExpiry⟩
  case commandItem_1 =>
    intro n r c s hn hplaceOn hplaceUp hplaceRuns hended hitem hheadCmd
    exact execCommandItem_command hn hplaceOn hplaceUp hplaceRuns hended hitem hheadCmd
  case commandItem_2 =>
    intro n c s hn hplaceOn hplaceUp hplaceRuns hended hitem hheadCmd hconfirming
    refine (execCommandItem_command hn hplaceOn hplaceUp hplaceRuns hended hitem hheadCmd).trans ?_
    simp [cmdEnds, hconfirming]
  case commandItem_3 =>
    intro n c d p x s hn hplaceOn hplaceUp hplaceRuns hended hitem hheadCmd hreadData
    refine (execCommandItem_command hn hplaceOn hplaceUp hplaceRuns hended hitem hheadCmd).trans ?_
    simp [cmdEnds, cmdValue, hreadData]
  case commandItem_4 =>
    intro n c s hn hplaceOn hplaceUp hplaceRuns hended hitem hheadCmd hconfirming
    refine (execCommandItem_command hn hplaceOn hplaceUp hplaceRuns hended hitem hheadCmd).trans ?_
    simp [cmdEnds, hconfirming]
  case commandItem_5 =>
    intro n c s hn hplaceOn hplaceUp hplaceRuns hended hitem hheadCmd hconfirming
    refine (execCommandItem_command hn hplaceOn hplaceUp hplaceRuns hended hitem hheadCmd).trans ?_
    simp [cmdEnds, hconfirming]
  case portDown =>
    intro n b s hn hplaceOn
    change execPortDown n b s = _
    simp [execPortDown, unit_pos, when_pos, hn, hplaceOn]
  case portUp =>
    intro n u s hn hplaceOn hu hcanComeUp
    subst hu
    change execPortUp n s = _
    simp [execPortUp, unit_pos, when_pos, hn, hplaceOn, hcanComeUp]
  case holdTimerExpiry =>
    intro n d s hn hplaceOn hgetPlace hplaceUp hdue
    change execHoldTimerExpiry n s = _
    simp [execHoldTimerExpiry, unit_pos, when_pos, hn, hplaceOn, hgetPlace, hplaceUp, hdue]
  case itemLimitExpiry =>
    intro e n s he hplaceOn hn hservingEngine hgetPlace hgetPlace2 hgetPlace3
    subst hn
    change execItemLimitExpiry e s = _
    simp [execItemLimitExpiry, unit_pos, when_pos, he, hplaceOn, hservingEngine, hgetPlace, hgetPlace2, hgetPlace3]

end Sys2Proof.Proofs
end

/-! PROOFS. Settles O7: engines, their binding, pin groups, hand-over and rebinding (chapter 03). -/

section
open Sys2Proof Sys2Proof.Machine

namespace Sys2Proof.Proofs

theorem engRunWrite_idle {e : Nat} {s u : State} (hvalid : flag s (fCLK_ENG_STAT_CODE_VALID e) = true)
    (hu : u = setF (fCLK_ENG_CTL_RUN e) 1 (setEngine e { getEngine s e with halting := false } s))
    (hstate : getF u (fCLK_ENG_STAT_STATE e) = 1) (hrole : engRole u e ≠ 2)
    (htakeover : (getPlace u (enginePlace s e)).takeover ≠ some e) :
    engRunWrite e true s = wakePlace (enginePlace s e) (setF (fCLK_ENG_STAT_STATE e) 2 u) := by
  unfold engRunWrite
  dsimp only
  rw [if_pos rfl, if_neg (by simp [hvalid]), ← hu, if_pos hstate, if_neg (by simp [hrole, htakeover])]

theorem engRunWrite_halt {e : Nat} {s u : State} (hu : u = setF (fCLK_ENG_CTL_RUN e) 0 s)
    (hserving : servingEngine u (enginePlace s e) ≠ some e) : engRunWrite e false s = engineHalt e u := by
  unfold engRunWrite
  dsimp only
  rw [if_neg (by simp), ← hu, if_neg (by simp [hserving])]

theorem pinselWrite_halted {n : Nat} {s : State} (h : placeRuns s n = false) (g : Nat) :
    pinselWrite n g s = portTest n (attachGroup n (g % 32) s) := if_neg (by simp [h])

/-- A group beyond 23, or one that another place has, is refused. -/
theorem attachGroup_refused {n g : Nat} {s : State} (hg : g < 31) (h : 24 ≤ g ∨ groupTaken s n g = true) :
    attachGroup n g s = setF (fCLK_STAT_CFG_REJECT n) 1 s := by
  refine if_pos ?_
  by_cases hhigh : 24 ≤ g
  · simp [hhigh, Nat.ne_of_lt hg]
  · simpa [hhigh, Nat.lt_of_not_le hhigh] using h

theorem attachGroup_free {n g : Nat} {s : State} (h : g = 31 ∨ g < 24 ∧ groupTaken s n g = false) :
    attachGroup n g s = setF (fCLK_PINSEL_GROUP n) g s := by
  refine if_neg ?_
  rcases h with rfl | ⟨hg, htaken⟩
  · simp
  · simp [htaken, Nat.not_le.2 hg]

theorem causeOn_attic (i : Nat) (s : State) : (causeOn i s).flt.attic = s.flt.attic := rfl

theorem showCause_flt_attic (n : Nat) (s : State) : (showCause n s).flt.attic = s.flt.attic := by
  unfold showCause
  dsimp only
  generalize (if placeUp s n then 0 else (downConds s n).headD 0) = d
  split
  · rw [causeOn_attic, setF_flt]
  · rw [setF_flt]

theorem engineServe_flt_attic (n e : Nat) (s : State) : (engineServe n e s).flt.attic = s.flt.attic := by
  unfold engineServe
  rw [showCause_flt_attic]
  dsimp only
  split <;> rfl

theorem engineIdle_flt (e : Nat) (s : State) : (engineIdle e s).flt = s.flt :=
  (show Only [.regs, .engines] s (engineIdle e s) by simp).same .flt (by decide)

/-- The engine that takes over serves its place, and no row waits for the one it relieves. -/
theorem handOver_of_no_attic {n e old : Nat} {s : State} (htakeover : (getPlace s n).takeover = some e)
    (hruns : engineRuns s e = true) (hserving : servingEngine s n = some old) (hattic : s.flt.attic = []) :
    handOver n s = engineServe n e (engineIdle old s) := by
  unfold handOver
  rw [htakeover]
  dsimp only
  rw [if_pos hruns, hserving]
  dsimp only
  rw [atticFind_of_no_attic]
  rw [engineServe_flt_attic, engineIdle_flt, hattic]

theorem groupPin_of_output {g n e pin : Nat} {b : Bool} {s : State} (hplace : groupPlace s g = some n)
    (hengine : groupEngine s g = some e) (hon : domOn s (10 + g / 24) = true) (hshared : sharedPlace s n = false)
    (huse : pinUse (getF s (fCLK_ENG_BIND_TYPE e)) pin = .output (some b)) :
    groupPin s g pin = if (getPlace s n).item.isNone then .level b else .code := by
  unfold groupPin
  rw [hplace, hengine]
  dsimp only
  rw [if_neg (by simp [hon, hshared]), huse]

/-- Settles O7: by the rule of each command and of a group's pins. -/
theorem clerkEngines : Obligations.ClerkEngines := by
  unfold Obligations.ClerkEngines
  refine ⟨?engineStoreError_1, ?engineStoreError_2, ?clkEngRun_1, ?clkEngRun_2, ?clkEngBindWrite, ?clkPinselWrite_1,
    ?clkPinselWrite_2, ?clkPinselWrite_3, ?clkPinselWrite_4, ?engineHandover, ?placeRebind, ?rebindComplete, ?part_1,
    ?part_2, ?part_3⟩
  case engineStoreError_1 =>
    intro e s he hplaceOn
    change execEngineStoreError e .corrected s = _
    simp [execEngineStoreError, unit_pos, when_pos, he, hplaceOn]
  case engineStoreError_2 =>
    intro e s he hplaceOn hservingEngine
    change execEngineStoreError e .uncorrectable s = _
    simp [execEngineStoreError, unit_pos, when_pos, he, hplaceOn, hservingEngine]
  case clkEngRun_1 =>
    intro w e u s he hmayWrite hvalid hu hstate hrole htakeover
    refine Eq.trans (b := unit (e < 104) (guardWrite w (oCLK_ENG_CTL e) (engRunWrite e true) s)) rfl ?_
    rw [unit_pos (decide_eq_true he), guardWrite_may hmayWrite, engRunWrite_idle hvalid hu hstate hrole htakeover]
  case clkEngRun_2 =>
    intro w e u s he hmayWrite hu hserving
    refine Eq.trans (b := unit (e < 104) (guardWrite w (oCLK_ENG_CTL e) (engRunWrite e false) s)) rfl ?_
    rw [unit_pos (decide_eq_true he), guardWrite_may hmayWrite, engRunWrite_halt hu hserving]
  case clkEngBindWrite =>
    intro e v s he hmayWrite hstoreOpen
    change execClkEngBindWrite e v s = _
    rw [execClkEngBindWrite, unit_pos (decide_eq_true he), guardWrite_may hmayWrite, engBindWrite, if_pos hstoreOpen]
  case clkPinselWrite_1 =>
    intro w n s hn hmayWrite hplaceRuns
    change execClkPinselWrite w n 31 s = _
    rw [execClkPinselWrite, unit_pos (decide_eq_true hn), guardWrite_may hmayWrite, pinselWrite_halted hplaceRuns,
      attachGroup_free (.inl rfl)]
  case clkPinselWrite_2 =>
    intro w n g s hn hg hmayWrite hplaceRuns
    change execClkPinselWrite w n g s = _
    rw [execClkPinselWrite, unit_pos (decide_eq_true hn), guardWrite_may hmayWrite, pinselWrite, if_pos hplaceRuns]
  case clkPinselWrite_3 =>
    intro w n g s hn hg hmayWrite hplaceRuns h
    change execClkPinselWrite w n g s = _
    rw [execClkPinselWrite, unit_pos (decide_eq_true hn), guardWrite_may hmayWrite, pinselWrite_halted hplaceRuns,
      Nat.mod_eq_of_lt (by omega), attachGroup_refused hg h]
  case clkPinselWrite_4 =>
    intro w n g s hn hg hmayWrite hplaceRuns htaken
    change execClkPinselWrite w n g s = _
    rw [execClkPinselWrite, unit_pos (decide_eq_true hn), guardWrite_may hmayWrite, pinselWrite_halted hplaceRuns,
      Nat.mod_eq_of_lt (by omega), attachGroup_free (.inr ⟨hg, htaken⟩)]
  case engineHandover =>
    intro n e k d old s hn hplaceOn htakeover hlead hcdue hstarted hdue hruns hserving hattic
    change execEngineHandover n s = _
    rw [execEngineHandover, unit_pos (decide_eq_true hn), when_pos hplaceOn]
    dsimp only
    rw [hlead]
    dsimp only
    rw [hcdue]
    dsimp only
    rw [if_pos (by simp [hstarted, hdue]), handOver_of_no_attic htakeover hruns hserving hattic]
  case placeRebind =>
    intro n u s hn hplaceOn hitem hremoving hdue hu hserving
    change execPlaceRebind n s = _
    rw [execPlaceRebind, unit_pos (decide_eq_true hn), when_pos hplaceOn]
    dsimp only
    rw [if_neg (by simp [hitem]), if_neg (by simp [hremoving]), if_pos hdue, ← hu, hserving]
  case rebindComplete =>
    intro n b u s hn hplaceOn hgetPlace hplacementOf hu hservingEngine hcanComeUp
    subst hu
    change execRebindComplete n b s = _
    simp [execRebindComplete, unit_pos, when_pos, hn, hplaceOn, hgetPlace, hplacementOf, hservingEngine, hcanComeUp]
  case part_1 =>
    intro g pin s h
    unfold groupPin
    split
    next n e hplace hengine =>
      have hoff : domOn s (10 + g / 24) = false := by simpa [hplace, hengine] using h
      rw [if_pos (by simp [hoff])]
    · rfl
  case part_2 =>
    intro g pin n e s hplace hengine huse
    unfold groupPin
    rw [hplace, hengine]
    dsimp only
    split
    · rfl
    · rcases huse with huse | huse <;> rw [huse]
  case part_3 =>
    intro g pin n e b s hplace hengine hon hshared hitem huse
    rw [groupPin_of_output hplace hengine hon hshared huse, if_pos (by rw [hitem]; rfl)]

end Sys2Proof.Proofs
end

/-! PROOFS. Settles O10: the windows of analog channels, open sensors and steering (chapter 05). -/

section
open Sys2Proof Sys2Proof.Machine

namespace Sys2Proof.Proofs

/-- The state after a window: OVERLOAD shows, and the next window begins. -/
def windowEnded (n : Nat) (volts : List Int) (s : State) : State :=
  nextWindow n volts.length (setF (fANA_CHSTAT_OVERLOAD n) (bit ((windowSamples s n volts).any (sampleOver s n))) s)

/-- The samples of a window that are not excluded. -/
def keptSamples (n : Nat) (volts : List Int) (s : State) : List (Nat × Int) :=
  (windowSamples s n volts).filter (fun e => !excludedAt s n e.1)

theorem flag_open_windowEnded (n : Nat) (volts : List Int) (s : State) :
    flag (windowEnded n volts s) (fANA_CHSTAT_OPEN n) = flag s (fANA_CHSTAT_OPEN n) := by
  change flag (setF (fANA_CHSTAT_OVERLOAD n) _ s) (fANA_CHSTAT_OPEN n) = _
  exact flag_setF_other _ _ (by simp [fANA_CHSTAT_OVERLOAD]) (by simp [fANA_CHSTAT_OPEN, fANA_CHSTAT_OVERLOAD])

/-- A window of a stopped or open channel writes nothing. -/
theorem windowEnds_stopped {n : Nat} {s : State} (volts : List Int)
    (h : (getChan s n).stopped = true ∨ flag s (fANA_CHSTAT_OPEN n) = true) :
    windowEnds n volts s = windowEnded n volts s := by
  rw [← flag_open_windowEnded n volts s] at h
  unfold windowEnds
  dsimp only
  refine if_pos ?_
  rcases h with h | h
  · simp [h]
  · rw [Bool.or_eq_true, Bool.or_eq_true]
    exact .inl (.inr h)

/-- A window of a running channel with samples left writes its three points, or fails with its converter. -/
theorem windowEnds_running {n : Nat} {volts : List Int} {s : State} (hstopped : (getChan s n).stopped = false)
    (hopen : flag s (fANA_CHSTAT_OPEN n) = false) (hkept : (keptSamples n volts s).isEmpty = false) :
    windowEnds n volts s =
      if anaUntrue (windowEnded n volts s) then anaAll n .conv (raiseUntrue (windowEnded n volts s))
      else windowPoints n
        ((sampleAt (chanRate s n) ((getChan s n).first + volts.length - 1) - anaDelay s n) / 1000 % 2 ^ 40)
        ((keptSamples n volts s).any (sampleOver s n)) ((keptSamples n volts s).map (sampleCode s n))
        (windowEnded n volts s) := by
  rw [← flag_open_windowEnded n volts s] at hopen
  unfold windowEnds
  dsimp only
  refine if_neg ?_
  rw [Bool.or_eq_true, Bool.or_eq_true, not_or, not_or]
  exact ⟨⟨by simp [hstopped], (Bool.not_eq_true _).mpr hopen⟩, (Bool.not_eq_true _).mpr hkept⟩

theorem execAnaWindowEnd_full {ch : Nat} {volts : List Int} {s : State} (hch : ch < 64) (hon : anaOn s = true)
    (hen : chanEn s ch = true) (hfull : windowFull s ch volts.length = true) :
    execAnaWindowEnd ch volts s = .next (windowEnds ch volts s) := by
  rw [execAnaWindowEnd, unit_pos (decide_eq_true hch), when_pos (by simp [hon, hen, hfull])]

theorem closeSeg_of_disabled {n : Nat} {s : State} (h : chanEn s n = false) : closeSeg n s = s := if_neg (by simp [h])

theorem chcfgWrite_disabled {n : Nat} {v : Word} {s u : State}
    (hallowed : anaAllowed (bitsOf v.toNat 0 4) (bitsOf v.toNat 4 2) = true) (hen : chanEn s n = false)
    (hu : u = freshWindow n (setReg (oANA_CHCFG n) (wd (v.toNat % 2 ^ 15)) s))
    (hsteer : (getChan (useGain (chanConv u n) (getF u (fANA_CHCFG_GAIN n)) u) n).steerTo = none) :
    chcfgWrite n v s = excludeChan n 0 (useGain (chanConv u n) (getF u (fANA_CHCFG_GAIN n)) u) := by
  unfold chcfgWrite
  dsimp only
  rw [if_neg (by simp [hallowed]), if_pos (by simp [hen]), closeSeg_of_disabled hen, ← hu, hsteer]

/-- The state after an open-sensor check of a channel that found it open or not, before its group's source is set. -/
def openChecked (ch : Nat) (opened : Bool) (s : State) : State :=
  setF (fANA_CHSTAT_OPEN ch) (bit opened) (excludeChan ch (max 100000 (periods s ch 1))
    (setChan ch { getChan s ch with openDue := s.clk + 1000000000 * max 1 (getF s fANA_CTL_OPEN_PER) } s))

theorem execOpenSensorCheck_due {ch ohms : Nat} {opened : Bool} {s : State} (hch : ch < 64) (hon : anaOn s = true)
    (hen : flag s (fANA_CHCFG_OPEN_EN ch) = true) (hdue : (getChan s ch).openDue ≤ s.clk)
    (hfound : foundOpen s ch ohms = opened) (h : (opened && chanEn (openChecked ch opened s) ch) = false) :
    execOpenSensorCheck ch ohms s =
      .next (causeIs (openGroup (openChecked ch opened s) (ch / 4)) (490 + ch / 4) (openChecked ch opened s)) := by
  unfold execOpenSensorCheck
  dsimp only
  rw [unit_pos (decide_eq_true hch), if_neg (by simp [hon, hen, hdue]), hfound]
  have hkeep : (if (opened && chanEn (openChecked ch opened s) ch) = true
      then anaAll ch .sensor (openChecked ch opened s) else openChecked ch opened s) = openChecked ch opened s :=
    if_neg (by rw [h]; exact Bool.false_ne_true)
  exact congrArg (fun t => Host.Outcome.next (causeIs (openGroup t (ch / 4)) (490 + ch / 4) t)) hkeep

/-- Settles O10: by the rule of each command. -/
theorem analogChannels : Obligations.AnalogChannels := by
  unfold Obligations.AnalogChannels
  refine ⟨?anaWindowEnd_1, ?anaWindowEnd_2, ?anaWindowEnd_3, ?anaChcfgWrite_1, ?anaChcfgWrite_2, ?openSensorCheck_1,
    ?openSensorCheck_2, ?steerStart, ?steerSwitch⟩
  case anaWindowEnd_1 =>
    intro ch volts all kept u time s hch hon hen hfull hstopped hopen hall hkept hne hu htrue htime
    subst hall hkept hu htime
    refine (execAnaWindowEnd_full hch hon hen hfull).trans ?_
    rw [windowEnds_running hstopped hopen hne]
    exact congrArg Host.Outcome.next (if_neg (by rw [windowEnded, htrue]; exact Bool.false_ne_true))
  case anaWindowEnd_2 =>
    intro ch volts u s hch hon hen hfull hopen hu
    subst hu
    exact (execAnaWindowEnd_full hch hon hen hfull).trans (congrArg Host.Outcome.next (windowEnds_stopped volts hopen))
  case anaWindowEnd_3 =>
    intro ch volts all u s hch hon hen hfull hstopped hopen hall hne hu hfalse
    subst hall hu
    refine (execAnaWindowEnd_full hch hon hen hfull).trans ?_
    rw [windowEnds_running hstopped hopen hne]
    exact congrArg Host.Outcome.next (if_pos hfalse)
  case anaChcfgWrite_1 =>
    intro w ch v s hch hmayWrite hallowed
    change execAnaChcfgWrite w ch v s = _
    rw [execAnaChcfgWrite, unit_pos (decide_eq_true hch), guardWrite_may hmayWrite, chcfgWrite,
      if_pos (by simp [hallowed])]
  case anaChcfgWrite_2 =>
    intro w ch v u s hch hmayWrite hallowed hen hu hsteer
    change ∃ t, execAnaChcfgWrite w ch v s = .next t ∧ _
    rw [execAnaChcfgWrite, unit_pos (decide_eq_true hch), guardWrite_may hmayWrite,
      chcfgWrite_disabled hallowed hen hu hsteer]
    exact ⟨_, rfl, rfl⟩
  case openSensorCheck_1 =>
    intro ch ohms c u s hch hon hen hc hdue hohms hu hchan
    subst hc hu
    exact execOpenSensorCheck_due (opened := true) hch hon hen hdue (if_pos hohms) hchan
  case openSensorCheck_2 =>
    intro ch ohms c u s hch hon hen hc hdue hohms hu
    subst hc hu
    refine execOpenSensorCheck_due (opened := false) hch hon hen hdue ?_ rfl
    rw [foundOpen, if_neg (by omega), if_pos hohms]
  case steerStart =>
    intro w ch cv s hch hcv hmayWrite hidle hsteering
    change execSteerStart w ch cv s = _
    rw [execSteerStart, unit_pos (decide_eq_true hch), guardWrite_may hmayWrite, Nat.mod_eq_of_lt (by omega),
      chselWrite,
      if_neg (by simp [Nat.not_le.2 hcv, hidle, hsteering])]
  case steerSwitch =>
    intro ch pairs w diff s hch hgetChan hanaOn hpairslength hdue hdiff
    subst hdiff
    change execSteerSwitch ch pairs s = _
    simp [execSteerSwitch, unit_pos, hch, hgetChan, hanaOn, hpairslength, hdue]

end Sys2Proof.Proofs
end

/-! PROOFS. Settles O21: pushes, waiting pushes, pops and their checks (chapter 08). -/

section
open Sys2Proof Sys2Proof.Machine

namespace Sys2Proof.Proofs

/-- An item enters its queues where no push for one of them waits and the limits allow. -/
theorem pushBody_enters {qs : List Nat} {b : Body} {ch : List (Charge × Nat)} {s : State} (cls : Nat) (hqs : qs ≠ [])
    (hwaits : s.swq.waits.any (fun w => w.qs.any qs.contains) = false) (htake : canTake s qs b none = some ch) :
    pushBody qs b cls s = noteDesc (enterQ qs b cls false ch s) := by
  unfold pushBody
  dsimp only
  rw [if_neg (by simp [List.isEmpty_eq_false_iff.2 hqs]), if_neg (by rw [hwaits]; exact Bool.false_ne_true), htake]

/-- Otherwise it waits. -/
theorem pushBody_waits {qs : List Nat} {b : Body} {s : State} (cls : Nat) (hqs : qs ≠ [])
    (h : s.swq.waits.any (fun w => w.qs.any qs.contains) = true ∨ canTake s qs b none = none) :
    pushBody qs b cls s = { s with swq := { s.swq with waits := s.swq.waits ++ [⟨qs, b, cls, false, none⟩] } } := by
  unfold pushBody
  dsimp only
  rw [if_neg (by simp [List.isEmpty_eq_false_iff.2 hqs])]
  split
  · rfl
  next hwaits => rw [h.resolve_left hwaits]

theorem execQueuePush_ok {qs : List Nat} {ws : List Word} {s : State} (hqs : qs.all (fun q => q < 256) = true)
    (hok : pushOk qs ws = true) : execQueuePush qs ws s = .next (wakeQueues qs (pushBody qs (.words ws) 7 s)) := by
  rw [execQueuePush, unit_pos hqs, when_pos hok]

/-- The push that has waited longest enters as soon as it has room. -/
theorem resumePush_front {q : Nat} {w : PushWait} {l : List PushWait} {ch : List (Charge × Nat)} {s : State}
    (hq : w.qs.contains q = true) (htake : canTake s w.qs w.body none = some ch) :
    resumePush q [] (w :: l) s =
      noteDesc (enterQ w.qs w.body w.cls w.transit ch { s with swq := { s.swq with waits := l } }) := by
  unfold resumePush
  rw [if_pos (by rw [hq]; rfl), htake]
  rfl

/-! ### Pops -/

/-- A pop copies a frame's words for the steward only as it takes a good item. -/
theorem execQueuePop_eq {q : Nat} {chk : ItemCheck} {copies : List (Nat × Nat)} {s : State} (hq : q < 256)
    (h : ∀ i x, frontQ s q = some (i, x) → chk ≠ .ok ∨ x.refs = 0 ∨ flag s (fSWQ_QSTAT_FROZEN q) = true ∨ ∃ ws,
      x.body = .words ws) :
    execQueuePop q chk copies s = .next (popChecked q chk s) := by
  unfold execQueuePop
  rw [unit_pos (decide_eq_true hq)]
  dsimp only
  split
  next i x hfront =>
    split
    next f hbody =>
      refine congrArg Host.Outcome.next (if_neg ?_)
      rcases h i x hfront with h | h | h | ⟨ws, h⟩
      · simp [h]
      · simp [h]
      · simp [h]
      · rw [hbody] at h
        nomatch h
    · rfl
  · rfl

theorem popChecked_of_empty {q : Nat} {s : State} (chk : ItemCheck) (hfrozen : flag s (fSWQ_QSTAT_FROZEN q) = false)
    (hdom : domOn s 3 = true) (hfront : frontQ s q = none) : popChecked q chk s = emptyPop q s := by
  unfold popChecked
  rw [if_neg (by simp [hdom]), if_neg (by simp [hfrozen]), hfront]

theorem popChecked_of_frozen {q : Nat} {s : State} (chk : ItemCheck) (hfrozen : flag s (fSWQ_QSTAT_FROZEN q) = true)
    (hdom : domOn s 3 = true) :
    popChecked q chk s = { s with swq := { s.swq with popWaits := s.swq.popWaits ++ [q] } } := by
  unfold popChecked
  rw [if_neg (by simp [hdom]), if_pos hfrozen]

theorem popChecked_of_no_refs {q i : Nat} {x : Item} {s : State} (chk : ItemCheck)
    (hfrozen : flag s (fSWQ_QSTAT_FROZEN q) = false) (hdom : domOn s 3 = true) (hfront : frontQ s q = some (i, x))
    (hrefs : x.refs = 0) : popChecked q chk s = raise 134 (dropFront q s) := by
  unfold popChecked
  rw [if_neg (by simp [hdom]), if_neg (by simp [hfrozen]), hfront]
  exact if_pos (.inl hrefs)

/-- A pop that meets a pointer error freezes every queue that holds the item. -/
theorem popChecked_pointerCopies {q i : Nat} {x : Item} {s : State} (hfrozen : flag s (fSWQ_QSTAT_FROZEN q) = false)
    (hdom : domOn s 3 = true) (hfront : frontQ s q = some (i, x)) (hlow : 1 ≤ x.refs) (hhigh : x.refs ≤ 12)
    (hcheck : x.check = bodyCheck x.body) : popChecked q .pointerCopies s = freezeFor i q s := by
  unfold popChecked
  rw [if_neg (by simp [hdom]), if_neg (by simp [hfrozen]), hfront]
  dsimp only
  rw [if_neg (by omega), if_pos hcheck]
  rfl

/-- A pop of good words takes them off the queue and gives them. -/
theorem popChecked_words {q i : Nat} {x : Item} {ws : List Word} {s : State} (hq : q ≠ 64)
    (hfrozen : flag s (fSWQ_QSTAT_FROZEN q) = false) (hdom : domOn s 3 = true) (hfront : frontQ s q = some (i, x))
    (hlow : 1 ≤ x.refs) (hhigh : x.refs ≤ 12) (hcheck : x.check = bodyCheck x.body) (hbody : x.body = .words ws) :
    popChecked q .ok s = stalledReplays q (dropFront q (emit (.popped q x.body) s)) := by
  unfold popChecked
  rw [if_neg (by simp [hdom]), if_neg (by simp [hfrozen]), hfront]
  dsimp only
  rw [if_neg (by omega), if_pos hcheck, hbody, if_neg hq]
  rfl

/-- Settles O21: by the rules of a push and of a pop. -/
theorem switchQueues : Obligations.SwitchQueues := by
  unfold Obligations.SwitchQueues
  refine ⟨?queuePush_1, ?queuePush_2, ?queuePush_3, ?queuePushResume, ?queuePop_1, ?queuePop_2, ?queuePop_3,
    ?queuePop_4, ?queuePop_5⟩
  case queuePush_1 =>
    intro qs ws ch s hqs hok hne hwaits htake
    exact (execQueuePush_ok hqs hok).trans (by rw [pushBody_enters 7 hne hwaits htake])
  case queuePush_2 =>
    intro qs ws s hqs hok hne h
    exact (execQueuePush_ok hqs hok).trans (by rw [pushBody_waits 7 hne h])
  case queuePush_3 =>
    intro qs ws s hqs hok
    change execQueuePush qs ws s = _
    rw [execQueuePush, unit_pos hqs, when_neg hok]
  case queuePushResume =>
    intro q w l ch s hq hwaits hcontains htake
    change execQueuePushResume q s = _
    rw [execQueuePushResume, unit_pos (decide_eq_true hq), hwaits, resumePush_front hcontains htake]
  case queuePop_1 =>
    intro q chk copies s hq hfrozen hdom hfront
    refine (execQueuePop_eq hq fun i x h => ?_).trans (by rw [popChecked_of_empty chk hfrozen hdom hfront])
    rw [hfront] at h
    nomatch h
  case queuePop_2 =>
    intro q copies i x s hq hfrozen hdom hfront hlow hhigh hcheck
    refine (execQueuePop_eq hq fun _ _ _ => .inl (by decide)).trans ?_
    rw [popChecked_pointerCopies hfrozen hdom hfront hlow hhigh hcheck]
    rfl
  case queuePop_3 =>
    intro q chk copies i x s hq hfrozen hdom hfront hrefs
    refine (execQueuePop_eq hq fun j y h => .inr (.inl ?_)).trans
      (by rw [popChecked_of_no_refs chk hfrozen hdom hfront hrefs])
    obtain ⟨-, rfl⟩ : i = j ∧ x = y := by simpa [hfront] using h
    exact hrefs
  case queuePop_4 =>
    intro q chk copies s hq hfrozen hdom
    exact (execQueuePop_eq hq fun _ _ _ => .inr (.inr (.inl hfrozen))).trans
      (by rw [popChecked_of_frozen chk hfrozen hdom])
  case queuePop_5 =>
    intro q copies i x ws s hq h64 hfrozen hdom hfront hlow hhigh hcheck hbody
    refine (execQueuePop_eq hq fun j y h => .inr (.inr (.inr ⟨ws, ?_⟩))).trans
      (by rw [popChecked_words h64 hfrozen hdom hfront hlow hhigh hcheck hbody])
    obtain ⟨-, rfl⟩ : i = j ∧ x = y := by simpa [hfront] using h
    exact hbody

end Sys2Proof.Proofs
end

/-! PROOFS. Settles O22: the patrol of the cell memory, starvation, limits and the rebuilding of queues (chapter 08). -/

section
open Sys2Proof Sys2Proof.Machine

namespace Sys2Proof.Proofs

/-- The state after the patrol has visited a cell. -/
def patrolSeen (cell : Nat) (s : State) : State :=
  { s with swq := { s.swq with patrolAt := patrolPeriod s, patrolled := visitedNow s ++ [cell] } }

theorem execCellPatrolVisit_fresh {cell : Nat} {s : State} (bad linkBad : Bool) (hcell : cell < 16384)
    (hen : flag s fSWQ_CTL_PATROL_EN = true) (hfree : cellFree s.swq cell = true) (hdom : domOn s 3 = true)
    (hnew : (visitedNow s).contains cell = false) : execCellPatrolVisit cell bad linkBad s =
      .next (if linkBad then freezeFree (patrolSeen cell s) else if bad then retireCell cell (patrolSeen cell s)
        else patrolSeen cell s) := by
  rw [execCellPatrolVisit, unit_pos (decide_eq_true hcell), when_pos]
  · rfl
  · rw [hen, hfree, hdom, hnew]
    rfl

/-- The state after a cell has been retired, before a spare takes its place. -/
def cellGone (cell : Nat) (s : State) : State :=
  raise 132 (incF fSWQ_RETIRED_RETIRED
    { s with swq := { s.swq with back := s.swq.back.filter (· != cell), retired := s.swq.retired ++ [cell] } })

/-- The state after the first spare of `n` has entered the free list. -/
def spareTaken (n : Nat) (s : State) : State :=
  setF fSWQ_CELLS_SPARE (n - 1) { s with swq := { s.swq with back := s.swq.back ++ [16384 - n] } }

theorem retireCell_eq {cell n : Nat} {s : State} (hn : n = getF s fSWQ_CELLS_SPARE) (hpos : n ≠ 0) :
    retireCell cell s =
      if n = 1 then raise 133 (setF fSWQ_STATUS_SPARE_OUT 1 (spareTaken n (cellGone cell s)))
      else spareTaken n (cellGone cell s) := by
  unfold retireCell
  rw [← hn]
  exact if_neg hpos

theorem limitWrite_minimum {off : Nat} (v : Word) (s : State) (hlow : 0x20200 ≤ off) (hhigh : off < 0x20300) :
    limitWrite off v s =
      if fitsCells s (minimaWith s off v) (max (tresCells s (reg s 0x20004).toNat) (tresCells s (heldOr s 0x20004)))
      then setReg off v s else setF fSWQ_STATUS_CFG_REJECT 1 s := by
  unfold limitWrite
  rw [if_neg (by omega), if_pos ⟨hlow, hhigh⟩]

/-- Settles O22: by the rule of each command. -/
theorem switchMemory : Obligations.SwitchMemory := by
  unfold Obligations.SwitchMemory
  refine ⟨?cellPatrolVisit_1, ?cellPatrolVisit_2, ?cellPatrolVisit_3, ?cellPatrolVisit_4, ?descriptorStarve,
    ?swqLimitWrite_1, ?swqLimitWrite_2, ?queueRebuild⟩
  case cellPatrolVisit_1 =>
    intro cell u v n s hcell hen hfree hdom hnew hu hn h2 hv
    subst hu hv
    refine (execCellPatrolVisit_fresh true false hcell hen hfree hdom hnew).trans ?_
    rw [if_neg Bool.false_ne_true, if_pos rfl, retireCell_eq (s := patrolSeen cell s) hn (by omega), if_neg (by omega)]
    rfl
  case cellPatrolVisit_2 =>
    intro cell u v s hcell hen hfree hdom hnew hu hspare hv
    subst hu hv
    refine (execCellPatrolVisit_fresh true false hcell hen hfree hdom hnew).trans ?_
    rw [if_neg Bool.false_ne_true, if_pos rfl, retireCell_eq (s := patrolSeen cell s) hspare.symm (by omega),
      if_pos rfl]
    rfl
  case cellPatrolVisit_3 =>
    intro cell u s hcell hen hfree hdom hnew hu
    subst hu
    exact execCellPatrolVisit_fresh false false hcell hen hfree hdom hnew
  case cellPatrolVisit_4 =>
    intro cell bad u s hcell hen hfree hdom hnew hu
    subst hu
    exact execCellPatrolVisit_fresh bad true hcell hen hfree hdom hnew
  case descriptorStarve =>
    intro d s hsswqstarved hdue hsswqstarveRaised
    change execDescriptorStarve s = _
    simp [execDescriptorStarve, hsswqstarved, hdue, hsswqstarveRaised]
  case swqLimitWrite_1 =>
    intro w off v s hmayWrite hlow hhigh hfits
    change execSwqLimitWrite w off v s = _
    rw [execSwqLimitWrite, guardWrite_may hmayWrite, limitWrite_minimum v s hlow hhigh, if_pos hfits]
  case swqLimitWrite_2 =>
    intro w off v s hmayWrite hlow hhigh hfits
    change execSwqLimitWrite w off v s = _
    rw [execSwqLimitWrite, guardWrite_may hmayWrite, limitWrite_minimum v s hlow hhigh,
      if_neg (by rw [hfits]; exact Bool.false_ne_true)]
  case queueRebuild =>
    intro kept u v w s hstwRuns hfrozen hu hv hw
    subst hu hv hw
    change execQueueRebuild kept s = _
    simp [execQueueRebuild, when_pos, hstwRuns, hfrozen]

end Sys2Proof.Proofs
end

/-! PROOFS. Settles O16: frames received, sweeps, acknowledgements, beacons, events and their markers (chapter 07). -/

section
open Sys2Proof Sys2Proof.Machine

namespace Sys2Proof.Proofs

/-! ### Frames on a port -/

theorem authCheck_unprotected {p : Nat} {s : State} (r : RxFrame) (h : protectedPort s p = false) :
    authCheck p r s = some (true, s) := if_pos (by simp [h])

/-- A wrong header check counts and goes no further. -/
theorem receive_badHeader {p : Nat} {r : RxFrame} {s v : State} (hv : v = addF (fRGx_RP_BLK_ERR_BLK_ERR p) r.strays s)
    (hprot : protectedPort v p = false) (hchk : r.hchk ≠ frameHchk r.frame) :
    receive p r s = incF (fRGx_RP_HDR_ERR_HDR_ERR p) v := by
  unfold receive
  dsimp only
  rw [← hv, authCheck_unprotected r hprot]
  exact if_pos (by simp [hchk])

/-- What becomes of a good frame, by the way that its header gives it. -/
def followWay (p : Nat) (f : Frame) (u : State) : Way → State
  | .back => comeBack f u
  | .here => deliver (p / 2) f u
  | .over => cross (p / 2) f u
  | .on_ => passOn p f u
  | .hereOn => deliver (p / 2) f (passOn p f u)

theorem receive_good {p : Nat} {r : RxFrame} {s v u : State} (hv : v = addF (fRGx_RP_BLK_ERR_BLK_ERR p) r.strays s)
    (hprot : protectedPort v p = false) (hchk : r.hchk = frameHchk r.frame)
    (hcls : classAllowed r.frame.typ r.frame.cls = true) (hring : numbered v = true → r.frame.ring = pairRing v (p / 2))
    (hstate : portState v p ≠ 4) (hfin : r.fin = .good) (hcrc : r.crc = frameCrc r.frame)
    (hu : u = seedSeq (p / 2) r.frame (countEv 5 (8 * p + r.frame.cls) 1 v)) :
    receive p r s = followWay p (stamped u p r.frame) u (wayOf v (p / 2) r.frame) := by
  subst hu
  unfold receive
  dsimp only
  rw [← hv, authCheck_unprotected r hprot]
  dsimp only
  rw [if_neg (by simp [hchk, hcls]), if_neg (by simpa using hring), if_neg (by simp [hstate]),
    if_neg (by simp [hfin, hcrc])]
  cases wayOf v (p / 2) r.frame <;> rfl

theorem oSEC_LP_CTL_ne_blkErr (p : Nat) : oSEC_LP_CTL ≠ oRGx_RP_BLK_ERR p := by
  rw [oSEC_LP_CTL, oRGx_RP_BLK_ERR]
  omega

theorem protectedPort_addF_blkErr (p q n : Nat) (s : State) :
    protectedPort (addF (fRGx_RP_BLK_ERR_BLK_ERR p) n s) q = protectedPort s q := by
  have hreg : reg (addF (fRGx_RP_BLK_ERR_BLK_ERR p) n s) oSEC_LP_CTL = reg s oSEC_LP_CTL :=
    reg_addF_other n s (oSEC_LP_CTL_ne_blkErr p)
  rw [protectedPort, protectedPort, flag_of_reg_eq fSEC_LP_CTL_A_EN hreg, flag_of_reg_eq fSEC_LP_CTL_B_EN hreg]

theorem getF_hdrErr_badHeader (p n : Nat) (s : State) :
    getF (incF (fRGx_RP_HDR_ERR_HDR_ERR p) (addF (fRGx_RP_BLK_ERR_BLK_ERR p) n s)) (fRGx_RP_HDR_ERR_HDR_ERR p) =
      min (getF s (fRGx_RP_HDR_ERR_HDR_ERR p) + 1) 0xFFFFFF := by
  have hreg : reg (addF (fRGx_RP_BLK_ERR_BLK_ERR p) n s) (fRGx_RP_HDR_ERR_HDR_ERR p).off =
      reg s (fRGx_RP_HDR_ERR_HDR_ERR p).off :=
    reg_addF_other n s
      (by simp [fRGx_RP_HDR_ERR_HDR_ERR, fRGx_RP_BLK_ERR_BLK_ERR, oRGx_RP_HDR_ERR, oRGx_RP_BLK_ERR])
  rw [incF, getF_addF_self _ _ (by simp [fRGx_RP_HDR_ERR_HDR_ERR]), getF_of_reg_eq _ hreg, Nat.min_comm]
  rfl

theorem execFrameTransit_up {p : Nat} {r : RxFrame} {s : State} (hp : p < 4) (hup : ringUp s p = true) :
    execFrameTransit p r s = .next (receive p r s) := by
  rw [execFrameTransit, unit_pos (decide_eq_true hp), if_pos hup]

theorem egress_of_open {p : Nat} {s : State} (hup : ringUp s p = true) (hdom : domOn s 3 = true) : egress p s =
    match arbitrate s p with
    | none => incF fSWQ_IDLE_SENT_IDLE_SENT s
    | some (c, g) =>
      match offered s p c with
      | none => s
      | some (i, x, f) =>
        let s := match g with
          | some n => setArb p { getArb s p with cls := c, given := n } s
          | none => s
        serve p c i x f s := if_neg (by simp [hup, hdom])

theorem execEgressFrameEnd_due {p : Nat} {s : State} (hp : p < 4) (hdue : (getPort s p).txUntil ≤ s.clk) :
    execEgressFrameEnd p s = .next (egress p s) := by
  rw [execEgressFrameEnd, unit_pos (decide_eq_true hp), when_pos (by simp [hdue])]

/-! ### Frames taken by their type -/

theorem onRx_of_taken {typ : Nat} {h : Frame → State → State} {f : Frame} {s u : State}
    (htake : takeRx (fun f => f.typ == typ) s = some (f, u)) : onRx typ h s = h f u := by
  unfold onRx
  rw [htake]

theorem sweepIn_subscribed {f : Frame} {u v : State} (hcoupler : isCoupler u = false)
    (hsub : subscribed u f.src (f.dest % 64) = true)
    (hdeliver : deliverQ 32 (.words (wd (f.src % 4096) :: f.payload)) 0 u = some v) :
    sweepIn f u = twinCopy f (trackSweep f v) := by
  unfold sweepIn
  dsimp only
  rw [if_neg (c := (isCoupler u && _) = true) (by simp [hcoupler]), if_pos hsub, hdeliver]

theorem sweepIn_not_subscribed {f : Frame} {u : State} (hcoupler : isCoupler u = false)
    (hsub : subscribed u f.src (f.dest % 64) = false) : sweepIn f u = u := by
  unfold sweepIn
  dsimp only
  rw [if_neg (c := (isCoupler u && _) = true) (by simp [hcoupler]), if_neg (by simp [hsub])]

theorem evDist_self (n : Nat) : evDist n n = 0 := by
  rw [evDist, Nat.add_sub_cancel_left]

/-- An event of a known stream with the number expected is taken. -/
theorem eventIn_next {f : Frame} {u : State} {st : Stream}
    (hst : tget (fun _ => none) u.ring.streams (streamKey f) = some st) (hreplay : f.replay = false)
    (haux : f.aux = st.next) (hheld : st.held.any (fun g => g.aux == f.aux) = false) :
    eventIn f u = takeNext (streamKey f) st f u := by
  unfold eventIn
  dsimp only
  rw [hst]
  dsimp only
  rw [hheld, haux, evDist_self, if_neg (by simp [hreplay]), if_neg (by simp), if_pos rfl]

/-- Settles O16: by the way a frame goes and by the handler of each type. -/
theorem ringFrames : Obligations.RingFrames := by
  unfold Obligations.RingFrames
  refine ⟨?frameTransit_1, ?frameTransit_2, ?frameTransit_3, ?frameTransit_4, ?egressFrameEnd_1, ?egressFrameEnd_2,
    ?sweep_1, ?sweep_2, ?ack, ?nak, ?beacon_1, ?beacon_2, ?beacon_3, ?event_1, ?event_2, ?dfr, ?evtMark, ?replayGone⟩
  case frameTransit_1 =>
    intro p r s hp hringUp
    change execFrameTransit p r s = _
    simp [execFrameTransit, unit_pos, hp, hringUp]
  case frameTransit_2 =>
    intro p r s hp hlink hprot hchk
    have hup : ringUp s p = true := by simp [ringUp, hlink, hprot]
    refine ⟨_, execFrameTransit_up hp hup, ?_⟩
    rw [receive_badHeader rfl ((protectedPort_addF_blkErr _ _ _ s).trans hprot) hchk]
    exact ⟨getF_hdrErr_badHeader .., rfl⟩
  case frameTransit_3 =>
    intro p r v u s hp hup hv hprot hchk hcls hring hstate hfin hcrc hway hu
    refine (execFrameTransit_up hp hup).trans ?_
    rw [receive_good hv hprot hchk hcls hring hstate hfin hcrc hu, hway]
    rfl
  case frameTransit_4 =>
    intro p r v u s hp hup hv hprot hchk hcls hring hstate hfin hcrc hway hu
    refine (execFrameTransit_up hp hup).trans ?_
    rw [receive_good hv hprot hchk hcls (fun _ => hring) hstate hfin hcrc hu, hway]
    rfl
  case egressFrameEnd_1 =>
    intro p s hp hdue hup hdom harbitrate
    refine (execEgressFrameEnd_due hp hdue).trans ?_
    rw [egress_of_open hup hdom, harbitrate]
  case egressFrameEnd_2 =>
    intro p c g i x f s hp hdue hup hdom harbitrate hoffered hg
    subst hg
    refine ⟨_, execEgressFrameEnd_due hp hdue, ?_⟩
    rw [egress_of_open hup hdom, harbitrate]
    dsimp only
    rw [hoffered]
  case sweep_1 =>
    intro f u s htake hcoupler hsub
    exact ⟨_, congrArg Host.Outcome.next (onRx_of_taken htake), sweepIn_not_subscribed hcoupler hsub⟩
  case sweep_2 =>
    intro f u v s htake hcoupler hsub hdeliver
    exact congrArg Host.Outcome.next ((onRx_of_taken htake).trans (sweepIn_subscribed hcoupler hsub hdeliver))
  case ack =>
    intro f u a s htake hfind
    refine congrArg Host.Outcome.next ((onRx_of_taken htake).trans ?_)
    rw [takeAck, hfind]
  case nak =>
    intro f u a s htake hfind hcause
    refine congrArg Host.Outcome.next ((onRx_of_taken htake).trans ?_)
    rw [takeNak, hfind]
    dsimp only
    rw [if_pos hcause]
  case beacon_1 =>
    intro f u s htake hsrc hpayload
    refine congrArg Host.Outcome.next ((onRx_of_taken htake).trans ?_)
    rw [beaconIn, if_pos hsrc, ownBeacon, if_pos (by simpa using hpayload)]
  case beacon_2 =>
    intro f u s htake hsrc hhops hfabric
    refine congrArg Host.Outcome.next ((onRx_of_taken htake).trans ?_)
    rw [beaconIn, if_neg hsrc]
    dsimp only
    rw [if_neg (by simp [hfabric]), if_pos hhops]
  case beacon_3 =>
    intro f u d s htake hsrc hpayload hat hsq hback
    refine congrArg Host.Outcome.next ((onRx_of_taken htake).trans ?_)
    rw [beaconIn, if_pos hsrc, ownBeacon, if_neg (by simpa using hpayload), hat]
    dsimp only
    rw [if_pos hsq, hback, if_pos rfl]
  case event_1 =>
    intro f u s htake hstream hreplay
    refine congrArg Host.Outcome.next ((onRx_of_taken htake).trans ?_)
    rw [eventIn]
    dsimp only
    rw [hstream]
    exact if_neg (by simp [hreplay])
  case event_2 =>
    intro f u s htake hstream hreplay
    refine congrArg Host.Outcome.next ((onRx_of_taken htake).trans ?_)
    rw [eventIn]
    dsimp only
    rw [hstream]
    exact if_pos hreplay
  case dfr =>
    intro f u st s htake hstream hreplay haux hheld
    exact congrArg Host.Outcome.next ((onRx_of_taken htake).trans (eventIn_next hstream hreplay haux hheld))
  case evtMark =>
    intro f u v n s htake hdeliver hstream hn
    subst hn
    refine congrArg Host.Outcome.next ((onRx_of_taken htake).trans ?_)
    rw [markIn, hdeliver]
    dsimp only
    rw [hstream]
  case replayGone =>
    intro f u v st k s htake hdeliver hk hstream hgap
    subst hk
    refine congrArg Host.Outcome.next ((onRx_of_taken htake).trans ?_)
    rw [goneIn, hdeliver]
    dsimp only
    rw [hstream]
    exact if_pos (Option.isSome_iff_ne_none.2 hgap)

end Sys2Proof.Proofs
end

/-! PROOFS. Settles O17: register reads and writes over the ring and bulk transfers (chapter 07). -/

section
open Sys2Proof Sys2Proof.Machine

namespace Sys2Proof.Proofs

theorem onQ_of_taken {q typ : Nat} {h : Frame → State → State} {f : Frame} {s u : State}
    (htake : takeQ q (fun f => f.typ == typ) s = some (f, u)) : onQ q typ h s = h f u := by
  unfold onQ
  rw [htake]

/-- A frame of the steward's queue is taken while the steward runs. -/
theorem steward_onQ_of_taken {q typ : Nat} {h : Frame → State → State} {f : Frame} {s u : State}
  (hruns : stwRuns s = true)
    (htake : takeQ q (fun f => f.typ == typ) s = some (f, u)) : when (stwRuns s) (onQ q typ h) s = h f u := by
  rw [when_pos hruns, onQ_of_taken htake]

theorem readIn_of_local {ecc : List (Nat × Ecc)} {f : Frame} {u : State} (hnode : addrNode (reqAddr f) = nodeId u)
    (hlow : 1 ≤ reqCount f) (hhigh : reqCount f ≤ 682) : readIn ecc f u =
      match readCause u f.src (reqAddr f) (reqCount f) with
      | some c => readError f c u
      | none => readAnswer f (serveWords (reqAddr f) (reqCount f) ecc u).1
        (serveWords (reqAddr f) (reqCount f) ecc u).2 :=
  if_neg (by simp [hnode]; omega)

/-- The state in which a tag's read is closed: the tag is free, and its request waits for no acknowledgement. -/
def tagClosed (tag : Nat) (u : State) : State :=
  { u with ring := { u.ring with
    readTags := tset (fun _ => none) tag none u.ring.readTags
    unacked := match readUnacked u tag with
      | some a => u.ring.unacked.filter (fun v => v != a)
      | none => u.ring.unacked } }

theorem closeTag_of_open {f : Frame} {h : ReadOut → State → State} {r : ReadOut} {u : State}
    (hr : tget (fun _ => none) u.ring.readTags f.aux = some r) : closeTag f h u = h r (pump (tagClosed f.aux u)) := by
  unfold closeTag
  rw [hr]
  rfl

theorem takeRetry_of_open {f : Frame} {r : ReadOut} {u : State}
    (hr : tget (fun _ => none) u.ring.readTags f.aux = some r) : takeRetry f u =
      drawn { u with ring := { u.ring with
        readTags := tset (fun _ => none) f.aux (some { r with retryDue := some (u.clk + 1000 + freeVal u 15001) })
          u.ring.readTags } } := by
  unfold takeRetry
  rw [hr]

/-- Settles O17: by the handler of each frame. -/
theorem ringRequests : Obligations.RingRequests := by
  unfold Obligations.RingRequests
  refine ⟨?readReq_1, ?readReq_2, ?readReq_3, ?readResp, ?readErr, ?readRetry, ?write_1, ?write_2, ?bulkData_1,
    ?bulkData_2, ?bulkAck, ?bulkAbort, ?replayReq⟩
  case readReq_1 =>
    intro ecc f u s htake hnode
    refine congrArg Host.Outcome.next ((onQ_of_taken htake).trans ?_)
    exact if_pos (.inl (by simpa using hnode))
  case readReq_2 =>
    intro ecc cause f u s htake hnode hlow hhigh hcause
    refine congrArg Host.Outcome.next ((onQ_of_taken htake).trans ?_)
    rw [readIn_of_local hnode hlow hhigh, hcause]
  case readReq_3 =>
    intro ecc f u s htake hnode hlow hhigh hcause
    refine congrArg Host.Outcome.next ((onQ_of_taken htake).trans ?_)
    rw [readIn_of_local hnode hlow hhigh, hcause]
  case readResp =>
    intro f u r v s htake hr hv
    subst hv
    exact congrArg Host.Outcome.next ((onQ_of_taken htake).trans (closeTag_of_open hr))
  case readErr =>
    intro f u r v s htake hr hv
    subst hv
    exact congrArg Host.Outcome.next ((onQ_of_taken htake).trans (closeTag_of_open hr))
  case readRetry =>
    intro f u r s htake hr
    exact congrArg Host.Outcome.next ((onQ_of_taken htake).trans (takeRetry_of_open hr))
  case write_1 =>
    intro ecc f u s htake hnode hlow hhigh hcount
    refine congrArg Host.Outcome.next ((onQ_of_taken htake).trans ?_)
    refine if_neg ?_
    rw [hnode, bne_self_eq_false]
    simp only [Bool.false_eq_true, false_or]
    omega
  case write_2 =>
    intro ecc f u s htake hcount
    refine congrArg Host.Outcome.next ((onQ_of_taken htake).trans ?_)
    exact if_pos (.inr (.inr (.inr hcount)))
  case bulkData_1 =>
    intro f u s hruns htake htarget
    refine congrArg Host.Outcome.next ((steward_onQ_of_taken hruns htake).trans ?_)
    rw [bulkDataIn, htarget]
  case bulkData_2 =>
    intro f u g k b ws s hruns htake htarget hk hb hexpect hsince hws
    subst hk hws
    refine congrArg Host.Outcome.next ((steward_onQ_of_taken hruns htake).trans ?_)
    rw [bulkDataIn, htarget]
    dsimp only
    rw [hb, Option.getD_some, if_neg (show ¬b.since + 1 = 16 by omega), if_pos (by simp [hexpect]),
      if_pos (by simp [hexpect])]
  case bulkAck =>
    intro f u b s hruns htake hb hdest hwords
    refine congrArg Host.Outcome.next ((steward_onQ_of_taken hruns htake).trans ?_)
    rw [bulkAckIn, hb]
    dsimp only
    rw [if_neg (by simp [hdest]), if_pos hwords]
  case bulkAbort =>
    intro f u s hruns htake hb
    refine congrArg Host.Outcome.next ((steward_onQ_of_taken hruns htake).trans ?_)
    rw [bulkAbortIn, hb]
  case replayReq =>
    intro f u s hruns htake
    exact congrArg Host.Outcome.next (steward_onQ_of_taken hruns htake)

end Sys2Proof.Proofs
end

/-! PROOFS. Settles O18: desk sessions over the ring and the edition of a neighbour (chapters 07 and 11). -/

section
open Sys2Proof Sys2Proof.Machine

namespace Sys2Proof.Proofs

/-- A control frame that waits is taken while the steward runs. -/
theorem onControl_of_taken {kind : Nat} {h : Frame → State → State} {f : Frame} {s u : State} (hruns : stwRuns s = true)
    (htake : takeQ 34 (isControl kind) s = some (f, u)) : when (stwRuns s) (onControl kind h) s = h f u := by
  rw [when_pos hruns, onControl, htake]

/-- Settles O18: by the handler of each control frame. -/
theorem ringSessions : Obligations.RingSessions := by
  unfold Obligations.RingSessions
  refine ⟨?controlOpen_1, ?controlOpen_2, ?controlCommand_1, ?controlCommand_2, ?controlResponse, ?controlClose_1,
    ?controlClose_2, ?editionMismatchCheck⟩
  case controlOpen_1 =>
    intro f u d v s hruns htake hfree hv
    subst hv
    refine congrArg Host.Outcome.next ((onControl_of_taken hruns htake).trans ?_)
    dsimp only
    rw [hfree]
  case controlOpen_2 =>
    intro f u s hruns htake hnone
    refine congrArg Host.Outcome.next ((onControl_of_taken hruns htake).trans ?_)
    dsimp only
    rw [hnone]
  case controlCommand_1 =>
    intro f u s hruns htake hholds
    refine congrArg Host.Outcome.next ((onControl_of_taken hruns htake).trans ?_)
    exact if_neg (by simp [hholds])
  case controlCommand_2 =>
    intro f u s hruns htake hholds
    exact congrArg Host.Outcome.next ((onControl_of_taken hruns htake).trans (if_pos hholds))
  case controlResponse =>
    intro f u s hruns htake
    exact congrArg Host.Outcome.next (onControl_of_taken hruns htake)
  case controlClose_1 =>
    intro f u s hruns htake hholds
    exact congrArg Host.Outcome.next ((onControl_of_taken hruns htake).trans (if_pos hholds))
  case controlClose_2 =>
    intro f u s hruns htake hholds
    refine congrArg Host.Outcome.next ((onControl_of_taken hruns htake).trans ?_)
    exact if_neg (by simp [hholds])
  case editionMismatchCheck =>
    intro p node ed d s hp htget hdue hsringnbrRaised hstwRuns
    change execEditionMismatchCheck p s = _
    simp [execEditionMismatchCheck, unit_pos, hp, htget, hdue, hsringnbrRaised, hstwRuns]

end Sys2Proof.Proofs
end

/-! PROOFS. Settles O29: desks, their areas, doorbells and responses, and the checks of a command (chapter 11). -/

section
open Sys2Proof Sys2Proof.Machine

namespace Sys2Proof.Proofs

/-! ### Command areas and doorbells -/

theorem execDeskAreaWrite_on {d o : Nat} {v : Word} {s : State} (hd : d < 8)
    (ho : o < 0x400 ∨ 0x10000 ≤ o ∧ o < 0x20000 ∧ d < 6) (hdom : domOn s 4 = true) :
    execDeskAreaWrite d o v s = .next (if o < 0x40 ∨ o = 0x81 then deskWordWrite d o v s
      else if 0x10000 ≤ o then windowWrite d (o - 0x10000) v s else s) := by
  rw [execDeskAreaWrite, unit_pos (by simp; omega), when_pos hdom]

theorem cmdAreaWrite_busy {d i : Nat} {v : Word} {s : State} (h : getF s (fDSK_DESK_STATE d) = 1) :
    cmdAreaWrite d i v s = raise 519 (setDesk d { getDesk s d with reject := true } s) := if_pos h

theorem cmdAreaWrite_idle {d i : Nat} {v : Word} {s : State} (h : getF s (fDSK_DESK_STATE d) ≠ 1) :
    cmdAreaWrite d i v s = setDesk d { getDesk s d with cmd := tset (fun _ => 0) i v (getDesk s d).cmd } s := if_neg h

/-- The desk state that a doorbell leaves: the rights of that moment hold for the command. -/
def deskRung (d : Nat) (s : State) : Desk :=
  { getDesk s d with
    lastCmd := s.clk
    prepared := none
    rights := getF s (fDSK_DESK_RIGHTS d)
    node := getF s (fDSK_DESK_NODE d)
    sess := (getDesk s d).sessionId }

theorem ringDesk_of_session {d : Nat} {s : State} (hidle : getF s (fDSK_DESK_STATE d) ≠ 1)
    (hsession : flag s (fDSK_DESK_SESSION d) = true) : ringDesk d s =
      noteNotif (pushWords (72 + d) [wd d] (setF (fDSK_DESK_STATE d) 1 (setDesk d (deskRung d s) s))) := by
  have hopen : (if !flag s (fDSK_DESK_SESSION d) && ringOpens s d then openSession d 0 (if d = 7 then 0 else 15) s
      else s) = s :=
    if_neg (by simp [hsession])
  unfold ringDesk
  rw [if_neg hidle, hopen]
  exact if_neg (by simp [hsession])

theorem noteNotif_eq (s : State) : ∃ u, noteNotif s = { s with usb := u } := by
  unfold noteNotif
  dsimp only
  split
  · exact ⟨_, rfl⟩
  · exact ⟨_, rfl⟩

theorem noteNotif_regs (s : State) : (noteNotif s).regs = s.regs := by
  obtain ⟨u, hu⟩ := noteNotif_eq s
  rw [hu]

theorem noteNotif_desks (s : State) : (noteNotif s).desks = s.desks := by
  obtain ⟨u, hu⟩ := noteNotif_eq s
  rw [hu]

theorem writes_pushWords (q : Nat) (ws : List Word) (s : State) : Writes (pushRegs q) s (pushWords q ws s) :=
  writes_pushBody _ _ _ _

theorem pushWords_desks (q : Nat) (ws : List Word) (s : State) : (pushWords q ws s).desks = s.desks :=
  (show Only [.regs, .cnts, .swq] s (pushWords q ws s) by simp).same .desks (by decide)

theorem oDSK_DESK_not_mem_pushRegs {d : Nat} (hd : d < 8) : oDSK_DESK d ∉ pushRegs (72 + d) := by
  interval_cases d <;> decide

theorem getDesk_of_desks {s t : State} (h : t.desks = s.desks) (d : Nat) : getDesk t d = getDesk s d := by
  rw [getDesk, getDesk, h]

/-- A rung desk is BUSY. -/
theorem getF_state_ringDesk {d : Nat} {s : State} (hd : d < 8) (hidle : getF s (fDSK_DESK_STATE d) ≠ 1)
    (hsession : flag s (fDSK_DESK_SESSION d) = true) : getF (ringDesk d s) (fDSK_DESK_STATE d) = 1 := by
  rw [ringDesk_of_session hidle hsession, getF_congr (noteNotif_regs _),
    (writes_pushWords (72 + d) _ _).getF (oDSK_DESK_not_mem_pushRegs hd),
      getF_setF_self _ _ (by simp [fDSK_DESK_STATE])]
  rfl

theorem getDesk_ringDesk {d : Nat} {s : State} (hidle : getF s (fDSK_DESK_STATE d) ≠ 1)
    (hsession : flag s (fDSK_DESK_SESSION d) = true) : getDesk (ringDesk d s) d = deskRung d s := by
  rw [ringDesk_of_session hidle hsession, getDesk_of_desks (noteNotif_desks _), getDesk_of_desks (pushWords_desks ..),
    getDesk_of_desks (setF_desks ..), getDesk_setDesk, if_pos rfl]

/-! ### The order of the checks of a command -/

/-- A command that the round-robin serves next goes through its checks in this order. -/
theorem deskCmd_served {d op right : Nat} {lock : Bool} {ok : Nat → Bool} {run : List Nat → State → State} {u s : State}
    (hd : d < 8) (hnext : nextDesk s = some d) (hop : cmdOp s d = op) (hruns : stwRuns s = true)
    (hu : u = takeDoorbell d s) : deskCmd d op ok right lock run s =
      .next (if !ok (cmdLen u d) then answer d 2 0 [] u
        else if right != 0 && (getDesk u d).rights &&& right = 0 then answer d 4 0 [] u
        else if lock && u.stw.lock != some d then answer d 5 0 [] u
        else run (cmdArgs u d) u) := by
  unfold deskCmd
  rw [unit_pos (decide_eq_true hd), if_pos (by simp [hnext, hop, hruns])]
  simp only [hruns, ← hu, Bool.not_true, Bool.not_false, Bool.and_true]

/-! ### Responses -/

theorem deskDoneStep_of_prepared {d : Nat} {ws : List Word} {u s : State} (hu : u = answerUnknown d s)
    (hws : (getDesk u d).prepared = some ws) (hruns : stwRuns u = true) : deskDoneStep d s = publish d ws u := by
  unfold deskDoneStep
  dsimp only
  rw [← hu, hws]
  exact if_pos (by simp [hruns])

/-- Settles O29: by the rules of an area, of a doorbell and of the checks. -/
theorem deskAreas : Obligations.DeskAreas := by
  unfold Obligations.DeskAreas
  refine ⟨?deskAreaWrite_1, ?deskAreaWrite_2, ?deskAreaWrite_3, ?deskDoorbell_1, ?deskDoorbell_2, ?deskDone,
    ?sessionIdleTimeout, ?part_1, ?part_2, ?part_3⟩
  case deskAreaWrite_1 =>
    intro d o v s hd ho hdom hidle
    refine (execDeskAreaWrite_on hd (.inl (by omega)) hdom).trans ?_
    rw [if_pos (.inl ho), deskWordWrite, if_pos ho, cmdAreaWrite_idle hidle]
  case deskAreaWrite_2 =>
    intro d o v s hd ho hdom hbusy
    refine (execDeskAreaWrite_on hd (.inl (by omega)) hdom).trans ?_
    rw [if_pos (.inl ho), deskWordWrite, if_pos ho, cmdAreaWrite_busy hbusy]
  case deskAreaWrite_3 =>
    intro d o v s hd hlow hhigh hdom
    refine (execDeskAreaWrite_on (by omega) (.inr ⟨hlow, hhigh, hd⟩) hdom).trans ?_
    rw [if_neg (by omega), if_pos hlow, windowWrite]
  case deskDoorbell_1 =>
    intro d s hd hdom hbusy
    change execDeskDoorbell d s = _
    rw [execDeskDoorbell, unit_pos (decide_eq_true hd), when_pos hdom, ringDesk, if_pos hbusy]
  case deskDoorbell_2 =>
    intro d s hd hdom hidle hsession
    refine ⟨ringDesk d s, ?_, getF_state_ringDesk hd hidle hsession, ?_⟩
    · change execDeskDoorbell d s = _
      rw [execDeskDoorbell, unit_pos (decide_eq_true hd), when_pos hdom]
    · rw [getDesk_ringDesk hidle hsession]
      exact ⟨rfl, rfl, rfl⟩
  case deskDone =>
    intro d u ws s hd hu hws hruns hafter
    change execDeskDone d s = _
    rw [execDeskDone, unit_pos (decide_eq_true hd), deskDoneStep_of_prepared hu hws hruns]
    dsimp only
    rw [hafter]
  case sessionIdleTimeout =>
    intro d s h2 hd hstwRuns hsession hdue
    change execSessionIdleTimeout d s = _
    simp [execSessionIdleTimeout, unit_pos, when_pos, h2, hd, hstwRuns, hsession, hdue]
  case part_1 =>
    intro d op ok right lock run u s hd hnext hop hruns hu hok
    rw [deskCmd_served hd hnext hop hruns hu, if_pos (by simp [hok])]
  case part_2 =>
    intro d op ok right lock run u s hd hnext hop hruns hu hok hright hrights
    rw [deskCmd_served hd hnext hop hruns hu, if_neg (by simp [hok]), if_pos (by simp [hright, hrights])]
  case part_3 =>
    intro d op ok right run u s hd hnext hop hruns hu hok hright hlock
    rw [deskCmd_served hd hnext hop hruns hu, if_neg (by simp [hok]),
      if_neg (by simpa using fun h => hright.resolve_left h),
      if_pos (by simp [hlock])]

end Sys2Proof.Proofs
end

/-! PROOFS. Settles O30: identification, sessions, the lock and staging (chapter 11). -/

section
open Sys2Proof Sys2Proof.Machine

namespace Sys2Proof.Proofs

/-! ### A served command -/

theorem deskServes_iff {d op n right : Nat} {lock : Bool} {s : State} : deskServes d op n right lock s = true ↔
    ((((((d < 8 ∧ nextDesk s = some d) ∧ cmdOp s d = op) ∧ stwRuns s = true) ∧ cmdLen (takeDoorbell d s) d = n) ∧
      (right = 0 ∨ (getDesk (takeDoorbell d s) d).rights &&& right ≠ 0)) ∧
      (lock = false ∨ (takeDoorbell d s).stw.lock = some d)) := by
  simp only [deskServes, Bool.and_eq_true, decide_eq_true_eq, beq_iff_eq, Bool.or_eq_true, bne_iff_ne,
    Bool.not_eq_true']

/-- A command that passes its checks runs on the state that its doorbell has left. -/
theorem deskCmd_of_serves {d op n right : Nat} {lock : Bool} {ok : Nat → Bool} {run : List Nat → State → State}
    {r u s : State} (h : deskServes d op n right lock s = true) (hu : u = takeDoorbell d s) (hok : ok n = true)
    (hrun : run (cmdArgs u d) u = r) : deskCmd d op ok right lock run s = .next r := by
  subst hu hrun
  exact Laws.deskCmd_serves h hok

/-- The state in which it is desk `d`'s turn. -/
def turnTo (d : Nat) (s : State) : State := setStw { s.stw with deskTurn := d } s

theorem only_takeDoorbell (d : Nat) (s : State) : Only [.cnts, .swq] (turnTo d s) (takeDoorbell d s) := by
  change Only [.cnts, .swq] (turnTo d s) (dropFront (72 + d) (turnTo d s))
  simp

theorem stwRuns_takeDoorbell (d : Nat) (s : State) : stwRuns (takeDoorbell d s) = stwRuns s := by
  have hregs : (takeDoorbell d s).regs = (turnTo d s).regs := (only_takeDoorbell d s).same .regs (by decide)
  have hstw : (takeDoorbell d s).stw = (turnTo d s).stw := (only_takeDoorbell d s).stw (by decide) (by decide)
  have hboot : (takeDoorbell d s).boot = (turnTo d s).boot := (only_takeDoorbell d s).same .boot (by decide)
  have hturn : stwRuns (turnTo d s) = stwRuns s := rfl
  rw [← hturn]
  simp only [stwRuns, domOn, domState, reg_congr hregs, flag_congr hregs, hstw, hboot]

theorem stwRuns_of_serves {d op n right : Nat} {lock : Bool} {u s : State} (h : deskServes d op n right lock s = true)
    (hu : u = takeDoorbell d s) : stwRuns u = true := by
  subst hu
  obtain ⟨⟨⟨⟨-, hruns⟩, -⟩, -⟩, -⟩ := deskServes_iff.1 h
  rw [stwRuns_takeDoorbell, hruns]

/-- The checks of a STAGE_COMMIT that names a block within the image of a transfer whose right the session has. -/
theorem stageCommit_block {d n at_ : Nat} {g : Staging} {u : State} (hn : n ≤ 65536)
  (hend : at_ + n ≤ (g.length + 2) / 3)
    (hright : (getDesk u d).rights &&& stageRight g.kind ≠ 0) :
    ¬(65536 < n ∨ (g.length + 2) / 3 < at_ + n ∨ (getDesk u d).rights &&& stageRight g.kind = 0) := by
  rintro (h | h | h)
  · omega
  · omega
  · exact hright h

/-- Settles O30: by what each command does once its checks have passed. -/
theorem deskBasics : Obligations.DeskBasics := by
  unfold Obligations.DeskBasics
  refine ⟨?identify, ?sessionClose, ?lock_1, ?lock_2, ?unlock, ?stageOpen, ?stageCommit_1, ?stageCommit_2, ?stageClose,
    ?stageAbort⟩
  case identify =>
    intro d u s hserves hu
    change execIdentify d s = _
    unfold execIdentify
    refine deskCmd_of_serves hserves hu (by rfl) ?_
    simp only [stwRuns_of_serves hserves hu, Bool.not_true, Bool.false_eq_true, if_false]
  case sessionClose =>
    intro d u v s hserves hu hv
    subst hv
    change execSessionClose d s = _
    unfold execSessionClose
    refine deskCmd_of_serves hserves hu (by rfl) ?_
    rfl
  case lock_1 =>
    intro d u h s hserves hu htrial hlock hother
    change execLock d s = _
    unfold execLock
    refine deskCmd_of_serves hserves hu (by rfl) ?_
    simp only [htrial, hlock, Option.isSome_none, Bool.false_eq_true, if_false, hother]
  case lock_2 =>
    intro d u s hserves hu htrial hlock
    change execLock d s = _
    unfold execLock
    refine deskCmd_of_serves hserves hu (by rfl) ?_
    simp only [htrial, hlock, Option.isSome_none, Bool.false_eq_true, if_false, takeLock]
  case unlock =>
    intro d u s hserves hu hlock
    change execUnlock d s = _
    unfold execUnlock
    refine deskCmd_of_serves hserves hu (by rfl) ?_
    exact if_pos hlock
  case stageOpen =>
    intro d u a kind len s hserves hu ha hkind hlen hkind3 hright htrial harmed hstaging hmax hruns
    change execStageOpen d s = _
    unfold execStageOpen
    refine deskCmd_of_serves hserves hu (by rfl) ?_
    dsimp only
    rw [← ha, ← hkind, ← hlen, if_neg (by simp [hkind3, hruns]), if_neg hright,
      if_neg (by simp [htrial, harmed, hstaging]),
      if_neg (by omega)]
  case stageCommit_1 =>
    intro f d u n g a s hserves hu hstaging ha hn hmax hend hright hflash
    change execStageCommit d _ s = _
    unfold execStageCommit
    refine deskCmd_of_serves hserves hu (by rfl) ?_
    dsimp only
    rw [hstaging, ← ha, ← hn]
    dsimp only
    rw [if_neg (stageCommit_block hmax hend hright), if_pos (by rcases hflash with h | h <;> simp [h])]
  case stageCommit_2 =>
    intro d u n g a ws s hserves hu hstaging ha hn hmax hend hright hflash hws
    subst hws
    change execStageCommit d _ s = _
    unfold execStageCommit
    refine deskCmd_of_serves hserves hu (by rfl) ?_
    dsimp only
    rw [hstaging, ← ha, ← hn]
    dsimp only
    rw [if_neg (stageCommit_block hmax hend hright), if_neg (by simp [hflash])]
  case stageClose =>
    intro d u g s hserves hu hstaging hright hflash hkind
    change execStageClose d _ s = _
    unfold execStageClose
    refine deskCmd_of_serves hserves hu (by rfl) ?_
    dsimp only
    rw [hstaging]
    dsimp only
    rw [if_neg hright, if_neg (by simp [hflash]), if_pos hkind, closeStaging]
  case stageAbort =>
    intro d u g s hserves hu hstaging
    change execStageAbort d s = _
    unfold execStageAbort
    refine deskCmd_of_serves hserves hu (by rfl) ?_
    dsimp only
    rw [hstaging]

end Sys2Proof.Proofs
end

/-! PROOFS. Settles O31: editions, groups and their activation (chapter 11). -/

section
open Sys2Proof Sys2Proof.Machine

namespace Sys2Proof.Proofs

/-- The armed edition that a hub with settings holds is activated at its time. -/
theorem activateArmed_due {late f : Bool} {a : Armed} {e : Edition} {s : State} (harmed : s.stw.armed = some a)
    (hruns : stwRuns s = true) (hdue : a.t ≤ s.ringNs) (htrial : s.sec.trial = none)
    (hsettings : flag s fSEC_STATUS_SETTINGS_DEFAULTED = false) (he : slotEdition s a.number = some e) :
    activateArmed late f s = setArmed none 0 (activate e (changeSet s.stw.inForce e) late f s) := by
  unfold activateArmed
  rw [harmed]
  dsimp only
  rw [if_pos (by simp [hruns, hdue, htrial, hsettings]), he]

/-- Settles O31: by what each command does once its checks have passed, and by the activation of the armed edition. -/
theorem deskEditions : Obligations.DeskEditions := by
  unfold Obligations.DeskEditions
  refine ⟨?editionArm_1, ?editionArm_2, ?editionDisarm_1, ?editionDisarm_2, ?armLock, ?editionActivateNow_1,
    ?editionActivateNow_2, ?editionStatus, ?groupList, ?editionActivation, ?lateActivation⟩
  case editionArm_1 =>
    intro d u a n at0 e s hserves hu ha hn hat htrial harmed hactive hslot hlow hhigh hcount
    change execEditionArm d s = _
    unfold execEditionArm
    refine deskCmd_of_serves hserves hu (by rfl) ?_
    dsimp only
    rw [← ha, ← hn, ← hat, if_neg (by simp [htrial, harmed]), if_neg (by simp [hactive]), hslot]
    dsimp only
    rw [if_neg (by omega), if_neg (by omega), if_neg (by omega)]
  case editionArm_2 =>
    intro d u n e at0 s hserves hu hn hat htrial harmed hactive hslot hearly
    change execEditionArm d s = _
    unfold execEditionArm
    refine deskCmd_of_serves hserves hu (by rfl) ?_
    dsimp only
    rw [← hn, ← hat, if_neg (by simp [htrial, harmed]), if_neg (by simp [hactive]), hslot]
    exact if_pos hearly
  case editionDisarm_1 =>
    intro d u a s hserves hu harmed hearly
    change execEditionDisarm d s = _
    unfold execEditionDisarm
    refine deskCmd_of_serves hserves hu (by rfl) ?_
    rw [harmed]
    exact if_neg (by omega)
  case editionDisarm_2 =>
    intro d u a s hserves hu harmed hlate
    change execEditionDisarm d s = _
    unfold execEditionDisarm
    refine deskCmd_of_serves hserves hu (by rfl) ?_
    rw [harmed]
    exact if_pos hlate
  case armLock =>
    intro a s hsstwarmed hstwRuns hat
    change execArmLock s = _
    simp [execArmLock, hsstwarmed, hstwRuns, hat]
  case editionActivateNow_1 =>
    intro f d u n s hserves hu htrial hforce hn hstaged hactive hprevious
    change execEditionActivateNow d f s = _
    unfold execEditionActivateNow
    refine deskCmd_of_serves hserves hu (by rfl) ?_
    dsimp only
    rw [if_neg (by simp [htrial]), if_neg (by simp [hforce]), hstaged, hactive, hprevious]
    rfl
  case editionActivateNow_2 =>
    intro f d u e v s hserves hu htrial hforce hstaged hn hv
    subst hv
    change execEditionActivateNow d f s = _
    unfold execEditionActivateNow
    refine deskCmd_of_serves hserves hu (by rfl) ?_
    dsimp only
    rw [if_neg (by simp [htrial]), if_neg (by simp [hforce]), hstaged, List.findSome?_cons]
    dsimp only
    rw [if_pos hn]
  case editionStatus =>
    intro d u s hserves hu harmed
    change execEditionStatus d s = _
    unfold execEditionStatus
    refine deskCmd_of_serves hserves hu (by rfl) ?_
    dsimp only
    rw [harmed]
    rfl
  case groupList =>
    intro d u g l r s hserves hu hnumbered hnode hg hl hr
    subst hg hr
    change execGroupList d s = _
    unfold execGroupList
    refine deskCmd_of_serves hserves hu (by rfl) ?_
    dsimp only
    rw [if_pos (by simp [hnumbered, hnode]), hl]
  case editionActivation =>
    intro f a e s harmed hruns hdue htrial hsettings he
    exact congrArg Host.Outcome.next (activateArmed_due harmed hruns hdue htrial hsettings he)
  case lateActivation =>
    intro f a e s harmed hruns hdue htrial hsettings he
    exact congrArg Host.Outcome.next (activateArmed_due harmed hruns hdue htrial hsettings he)

end Sys2Proof.Proofs
end

/-! PROOFS. Settles O32: forcing points, spares and the power state (chapters 11, 13 and 14). -/

section
open Sys2Proof Sys2Proof.Machine

namespace Sys2Proof.Proofs

/-- What UNIT_RETURN answers for a core: the unit is back where its test passed, and 631 is raised where it failed. -/
def coreReturned (d n : Nat) (passed : Bool) (x g : Word) (u : State) : State :=
  if passed then
    spareChanged ⟨4, n, n, true, false⟩ 0 (atticLog ⟨4, n, n, true, false⟩ 0 (unitBack 4 n x g (answerOk d [] u)))
  else spareChanged ⟨4, n, n, true, false⟩ 1 (atticLog ⟨4, n, n, true, false⟩ 1 (raise 631 (answerOk d [] u)))

theorem isFenced_core (u : State) (n : Nat) : isFenced u 4 n = u.stw.fencedCores.contains n := rfl

theorem execUnitReturn_core {passed : Bool} {x g : Word} {d n : Nat} {u s : State}
    (hserves : deskServes d 0x41 2 8 false s = true) (hu : u = takeDoorbell d s) (hkind : argN (cmdArgs u d) 1 % 8 = 4)
    (hn : n = argN (cmdArgs u d) 2) (hfenced : u.stw.fencedCores.contains n = true) :
    execUnitReturn d passed x g s = .next (coreReturned d n passed x g u) := by
  unfold execUnitReturn
  refine deskCmd_of_serves hserves hu (by rfl) ?_
  dsimp only
  rw [← hn, hkind, if_neg (by simp), if_neg (by rw [isFenced_core, hfenced]; exact Bool.false_ne_true)]
  cases passed <;> rfl

/-- Settles O32: by what each command does once its checks have passed. -/
theorem deskPoints : Obligations.DeskPoints := by
  unfold Obligations.DeskPoints
  refine ⟨?pointForce_1, ?pointForce_2, ?pointRelease_1, ?pointRelease_2, ?spareSwap_1, ?spareSwap_2, ?unitReturn_1,
    ?unitReturn_2, ?unitReturn_3, ?powerState_1, ?powerState_2⟩
  case pointForce_1 =>
    intro d u a p v s hserves hu ha hp hv hforceable hform hquality
    subst hv
    change execPointForce d s = _
    unfold execPointForce
    refine deskCmd_of_serves hserves hu (by rfl) ?_
    dsimp only
    rw [← ha, hp]
    dsimp only
    rw [if_neg (by simp [hforceable]), if_neg (by simp [hform]), if_neg hquality]
  case pointForce_2 =>
    intro d u s hserves hu hp
    change execPointForce d s = _
    unfold execPointForce
    refine deskCmd_of_serves hserves hu (by rfl) ?_
    dsimp only
    rw [hp]
  case pointRelease_1 =>
    intro d u p s hserves hu hp hforced
    change execPointRelease d s = _
    unfold execPointRelease
    refine deskCmd_of_serves hserves hu (by rfl) ?_
    rw [hp]
    exact if_pos hforced
  case pointRelease_2 =>
    intro d u p s hserves hu hp hforced
    change execPointRelease d s = _
    unfold execPointRelease
    refine deskCmd_of_serves hserves hu (by rfl) ?_
    rw [hp]
    exact if_neg (by simp [hforced])
  case spareSwap_1 =>
    intro d u a k n s hserves hu ha hk hn hservice hbusy hattic hspares
    change execSpareSwap d s = _
    unfold execSpareSwap
    refine deskCmd_of_serves hserves hu (by rfl) ?_
    dsimp only
    rw [← ha, ← hk, ← hn, if_neg (by simp [hservice]), if_neg (by simp [hbusy, hattic]), if_pos (by rw [hspares]; rfl)]
  case spareSwap_2 =>
    intro d u a k n sp l s hserves hu ha hk hn hservice hbusy hattic hspares hany
    change execSpareSwap d s = _
    unfold execSpareSwap
    refine deskCmd_of_serves hserves hu (by rfl) ?_
    dsimp only
    rw [← ha, ← hk, ← hn, if_neg (by simp [hservice]), if_neg (by simp [hbusy, hattic]), if_neg (by simp [hspares]),
      if_neg (by simp [hany]), if_pos hany, hspares, List.headD_cons]
  case unitReturn_1 =>
    intro x g d u n s hserves hu hkind hn hfenced
    change execUnitReturn d false x g s = _
    rw [execUnitReturn_core hserves hu hkind hn hfenced, coreReturned, if_neg Bool.false_ne_true]
  case unitReturn_2 =>
    intro x g d u n s hserves hu hkind hn hfenced
    change execUnitReturn d true x g s = _
    rw [execUnitReturn_core hserves hu hkind hn hfenced, coreReturned, if_pos rfl]
  case unitReturn_3 =>
    intro passed x g d u s hserves hu hkind hbank hfenced
    change execUnitReturn d passed x g s = _
    unfold execUnitReturn
    refine deskCmd_of_serves hserves hu (by rfl) ?_
    dsimp only
    rw [if_neg (by simp [hbank, Nat.not_le.2 hkind]), if_pos (by simp [hfenced])]
  case powerState_1 =>
    intro d u a st limit s hserves hu ha hst hlimit hlow hhigh hstate hbusy hpwr
    subst hst
    change execPowerState d s = _
    unfold execPowerState
    refine deskCmd_of_serves hserves hu (by rfl) ?_
    dsimp only
    rw [← ha, ← hlimit, if_neg (by simp [hstate]; omega), if_neg (by simp [hbusy, hpwr]), if_neg hstate]
  case powerState_2 =>
    intro d u a limit s hserves hu ha hlimit hrange
    change execPowerState d s = _
    unfold execPowerState
    refine deskCmd_of_serves hserves hu (by rfl) ?_
    dsimp only
    rw [← ha, ← hlimit]
    exact if_pos (hrange.elim .inl fun h => .inr (.inl h))

end Sys2Proof.Proofs
end

/-! PROOFS. Settles O33: volumes, settings, time and restart (chapters 11 and 15). -/

section
open Sys2Proof Sys2Proof.Machine

namespace Sys2Proof.Proofs

theorem cmdArgs_length_of_serves {d op n right : Nat} {lock : Bool} {u s : State}
    (h : deskServes d op n right lock s = true) (hu : u = takeDoorbell d s) : (cmdArgs u d).length = n := by
  subst hu
  obtain ⟨⟨⟨-, hlen⟩, -⟩, -⟩ := deskServes_iff.1 h
  rw [cmdArgs, List.length_map, List.length_range, hlen]

/-- Settles O33: by what each command does once its checks have passed. -/
theorem deskVolumes : Obligations.DeskVolumes := by
  unfold Obligations.DeskVolumes
  refine ⟨?volumeStatus, ?volumeArm_1, ?volumeArm_2, ?volumeCommit_1, ?volumeCommit_2, ?volumeFallback_1,
    ?volumeFallback_2, ?settingsGet_1, ?settingsGet_2, ?settingsSet_1, ?settingsSet_2, ?timeSet_1, ?timeSet_2,
    ?timeEpoch_1, ?timeEpoch_2, ?restart⟩
  case volumeStatus =>
    intro d u s hserves hu
    change execVolumeStatus d s = _
    unfold execVolumeStatus
    exact deskCmd_of_serves hserves hu (by rfl) rfl
  case volumeArm_1 =>
    intro d u v s hserves hu hv harmed htrial hedition h1 h5
    change execVolumeArm d s = _
    unfold execVolumeArm
    refine deskCmd_of_serves hserves hu (by rfl) ?_
    dsimp only
    rw [← hv, if_neg (by simp [harmed, htrial, editionNear, hedition]), if_pos (by simp [h1, h5])]
  case volumeArm_2 =>
    intro d u a v auto at0 x s hserves hu ha hv hauto hat hx harmed htrial hedition hstate hgood hslot hversion hlow
      hhigh
    subst hauto
    change execVolumeArm d s = _
    unfold execVolumeArm
    refine deskCmd_of_serves hserves hu (by rfl) ?_
    dsimp only
    rw [← ha, ← hv, ← hat, ← hx, if_neg (by simp [harmed, htrial, editionNear, hedition]), if_neg (by simp [hstate]),
      if_neg (by simp [hgood, hslot, hversion]), if_neg (by omega), if_neg (by omega)]
  case volumeCommit_1 =>
    intro f d u s hserves hu htrial
    change execVolumeCommit d f s = _
    unfold execVolumeCommit
    refine deskCmd_of_serves hserves hu (by rfl) ?_
    exact if_pos (by simp [htrial])
  case volumeCommit_2 =>
    intro d u s hserves hu htrial hphase hflash
    change execVolumeCommit d true s = _
    unfold execVolumeCommit
    refine deskCmd_of_serves hserves hu (by rfl) ?_
    rw [if_neg (by simp [htrial]), if_neg (by simp [hphase]), if_neg (by simp [hflash])]
  case volumeFallback_1 =>
    intro d u s hserves hu htrial
    change execVolumeFallback d s = _
    unfold execVolumeFallback
    refine deskCmd_of_serves hserves hu (by rfl) ?_
    exact if_neg (by simp [htrial])
  case volumeFallback_2 =>
    intro d u s hserves hu htrial
    change execVolumeFallback d s = _
    unfold execVolumeFallback
    refine deskCmd_of_serves hserves hu (by rfl) ?_
    exact if_pos (by simp [htrial])
  case settingsGet_1 =>
    intro d u k s hserves hu hk hkey
    subst hk
    change execSettingsGet d s = _
    unfold execSettingsGet
    refine deskCmd_of_serves hserves hu (by rfl) ?_
    exact if_pos (by simpa [Option.isSome_iff_ne_none] using hkey)
  case settingsGet_2 =>
    intro d u k s hserves hu hk hro hbits hprog hrevoke
    subst hk
    change execSettingsGet d s = _
    unfold execSettingsGet
    refine deskCmd_of_serves hserves hu (by rfl) ?_
    dsimp only
    rw [if_neg (by simp [hro, hbits]), if_neg (by simp [hprog, hrevoke])]
  case settingsSet_1 =>
    intro d u k n s hserves hu hk hro hprog hrevoke hbits hfits hflash
    subst hk
    change execSettingsSet d true s = _
    unfold execSettingsSet
    refine deskCmd_of_serves hserves hu (by rfl) ?_
    dsimp only
    rw [if_neg (by simp [hro]), if_neg (by simp [hprog, hrevoke]), hbits]
    dsimp only
    rw [if_neg (by simp [cmdArgs_length_of_serves hserves hu]), if_neg (by omega), if_neg (by simp [hflash])]
  case settingsSet_2 =>
    intro f d u s hserves hu hro
    change execSettingsSet d f s = _
    unfold execSettingsSet
    refine deskCmd_of_serves hserves hu (by rfl) ?_
    exact if_pos hro
  case timeSet_1 =>
    intro d u s hserves hu hgm
    change execTimeSet d s = _
    unfold execTimeSet
    refine deskCmd_of_serves hserves hu (by rfl) ?_
    exact if_neg (by simp [hgm])
  case timeSet_2 =>
    intro d u s hserves hu hgm
    change execTimeSet d s = _
    unfold execTimeSet
    refine deskCmd_of_serves hserves hu (by rfl) ?_
    exact if_pos (by simp [hgm])
  case timeEpoch_1 =>
    intro d u v s hserves hu hset hflash hv
    subst hv
    change execTimeEpoch d true s = _
    unfold execTimeEpoch
    refine deskCmd_of_serves hserves hu (by rfl) ?_
    dsimp only
    rw [if_neg (by omega), if_neg (by simp [hflash])]
  case timeEpoch_2 =>
    intro f d u s hserves hu hget
    change execTimeEpoch d f s = _
    unfold execTimeEpoch
    refine deskCmd_of_serves hserves hu (by rfl) ?_
    exact if_pos hget
  case restart =>
    intro d u s hserves hu
    change execRestart d s = _
    unfold execRestart
    exact deskCmd_of_serves hserves hu (by rfl) rfl

end Sys2Proof.Proofs
end

/-! PROOFS. Settles O37: the fault registrar, the counters and wear (chapter 14). -/

section
open Sys2Proof Sys2Proof.Machine

namespace Sys2Proof.Proofs

/-! ### Writes that change nothing -/

theorem tclear_of_default {α : Type} [DecidableEq α] {d : Nat → α} {lo k : Nat} {t : Tab α} (hwf : twf d lo t = true)
    (h : tget d t k = d k) : tclear (fun a => a == k) t = t := by
  induction t generalizing lo with
  | nil => rfl
  | cons e t ih =>
    obtain ⟨a, v⟩ := e
    simp only [twf, Bool.and_eq_true, decide_eq_true_eq] at hwf
    obtain ⟨⟨-, hv⟩, ht⟩ := hwf
    have hne : k ≠ a := by
      rintro rfl
      exact hv (by simpa [tget] using h)
    rw [tget, if_neg hne] at h
    rw [tclear, if_neg (by simp [hne.symm]), ih ht h]

theorem tput_of_listed {α : Type} [DecidableEq α] {d : Nat → α} {lo k : Nat} {t : Tab α} (hwf : twf d lo t = true)
    (h : tget d t k ≠ d k) : tput k (tget d t k) t = t := by
  induction t generalizing lo with
  | nil => exact absurd rfl h
  | cons e t ih =>
    obtain ⟨a, v⟩ := e
    simp only [twf, Bool.and_eq_true, decide_eq_true_eq] at hwf
    obtain ⟨-, ht⟩ := hwf
    by_cases hka : k = a
    · rw [tget, if_pos hka, tput, if_neg (by omega), if_pos hka, hka]
    · rw [tget, if_neg hka] at h ⊢
      have hlt : ¬k < a + 1 := fun hk => h (tget_of_lt ht hk)
      rw [tput, if_neg (by omega), if_neg hka, ih ht h]

/-- A table in canonical form is left by a write of what it holds. -/
theorem tset_tget_self {α : Type} [DecidableEq α] {d : Nat → α} {lo : Nat} {t : Tab α} (hwf : twf d lo t = true)
  (k : Nat) :
    tset d k (tget d t k) t = t := by
  unfold tset
  split
  next h => exact tclear_of_default hwf h
  next h => exact tput_of_listed hwf h

/-- A field written with its own value is left. -/
theorem putBits_bitsOf_self (n lo w : Nat) : putBits n lo w (bitsOf n lo w) = n := by
  refine Nat.eq_of_testBit_eq fun i => ?_
  rw [testBit_putBits, testBit_bitsOf]
  split
  · rfl
  · split
    · rw [Nat.add_sub_cancel' (by omega), decide_eq_true (by omega), Bool.true_and]
    · rfl

theorem setReg_reg_self {s : State} (hwf : Memory.wf s = true) (o : Nat) : setReg o (reg s o) s = s := by
  simp only [Memory.wf, Bool.and_eq_true] at hwf
  rw [setReg, reg, tset_tget_self hwf.1]

theorem setF_getF_self {s : State} (hwf : Memory.wf s = true) (f : Fld) : setF f (getF s f) s = s := by
  rw [setF, getF, putBits_bitsOf_self, wd, BitVec.ofNat_toNat, BitVec.setWidth_eq, setReg_reg_self hwf]

theorem addF_zero {s : State} (hwf : Memory.wf s = true) (f : Fld) : addF f 0 s = s := by
  rw [addF, Nat.add_zero, Nat.min_eq_right (Nat.le_sub_one_of_lt (getF_lt s f)), setF_getF_self hwf]

/-! ### A cycle of the fault registrar -/

/-- The sources that rise in a cycle. -/
def risen (u : State) : List Nat := (activeSources u).filter (fun i => !u.flt.prev.contains i)

/-- The state in which the pulses have ended and the sources that rose are counted. -/
def risesCounted (u : State) : State :=
  (risen u).foldl (fun t i => countEv 1 i 1 t) { u with flt := { u.flt with pulse := [], prev := activeSources u } }

/-- The sources that rose and were not yet shown. -/
def freshOf (u : State) : List Nat := (risen u).filter (fun i => !fltStat (risesCounted u) i)

/-- The state in which repeats are counted too. -/
def repeatsCounted (u : State) : State :=
  addF fFLT_REPEATS_REPEATS ((risen u).length - (freshOf u).length) (risesCounted u)

/-- The first fault that a cycle records. -/
def firstRecorded (u : State) : Option Nat :=
  if flag (repeatsCounted u) fFLT_FIRST0_VALID then none else firstOf (repeatsCounted u) (freshOf u)

/-- The rest of a cycle: the first-fault record, the bits of the fresh sources and the reactions to them. -/
def recordFresh (first : Option Nat) (fresh : List Nat) (v : State) : State :=
  let others := match first with
    | some f => fresh.filter (· != f)
    | none => []
  let v := match first with
    | some f => firstFault f others v
    | none => v
  let v := fresh.foldl (fun t i => setF ⟨0xC020 + i / 24, i % 24, 1⟩ 1 t) v
  let order := match first with
    | some f => f :: others
    | none => fresh
  order.foldl (fun t i => react i (faultWord t i (first == some i) (others.contains i)) t) v

theorem execFaultRaise_eq {u s : State} (hu : u = atticRetry (drainRaises s)) :
    execFaultRaise s = .next (recordFresh (firstRecorded u) (freshOf u) (repeatsCounted u)) := by
  subst hu
  rfl

theorem risen_of_prev_nil {u : State} (h : u.flt.prev = []) : risen u = activeSources u := by
  rw [risen, h]
  simp

/-- A cycle with one risen source. -/
theorem risesCounted_single {u : State} {i : Nat} (hactive : activeSources u = [i]) (hprev : u.flt.prev = []) :
    risesCounted u = countEv 1 i 1 { u with flt := { u.flt with pulse := [], prev := [i] } } := by
  rw [risesCounted, risen_of_prev_nil hprev, hactive]
  rfl

theorem risesCounted_idle {u : State} (hactive : activeSources u = []) :
    risesCounted u = { u with flt := { u.flt with pulse := [], prev := [] } } := by
  rw [risesCounted, risen, hactive]
  rfl

theorem freshOf_single {u : State} {i : Nat} (hactive : activeSources u = [i]) (hprev : u.flt.prev = []) :
    freshOf u = if fltStat (risesCounted u) i then [] else [i] := by
  rw [freshOf, risen_of_prev_nil hprev, hactive]
  cases h : fltStat (risesCounted u) i <;> simp [h]

theorem fltStat_risesCounted (u : State) (i : Nat) : fltStat (risesCounted u) i = fltStat u i := by
  have hregs : (risesCounted u).regs = u.regs := by
    unfold risesCounted
    generalize risen u = l
    exact List.foldlRecOn l _ (motive := fun t : State => t.regs = u.regs) rfl fun t ht j _ => by rw [countEv_regs, ht]
  rw [fltStat, fltStat, reg_congr hregs]

/-! ### Counters cleared -/

theorem val_clearCounters {k : Nat} : ∀ (l : List Nat) (s : State),
    (getCnt (l.foldl (fun t k => setCnt k { getCnt t k with val := 0 } t) s) k).val =
      if k ∈ l then 0 else (getCnt s k).val
  | [], s => by simp
  | j :: l, s => by
    rw [List.foldl_cons, val_clearCounters l, getCnt_setCnt]
    by_cases hl : k ∈ l <;> by_cases hj : k = j <;> simp [hl, hj]

theorem getCnt_of_unlisted {s : State} {k : Nat} (h : k ∉ s.cnts.map (·.1)) : getCnt s k = Counter.init := by
  rw [getCnt]
  generalize s.cnts = l at h
  induction l with
  | nil => rfl
  | cons e l ih =>
    simp only [List.map_cons, List.mem_cons, not_or] at h
    rw [tget, if_neg h.1, ih h.2]

theorem val_cntClearAll (k : Nat) (s : State) : (getCnt (cntClearAll s) k).val = 0 := by
  rw [cntClearAll, val_clearCounters]
  split
  next => rfl
  next h => rw [getCnt_of_unlisted h]; rfl

theorem testBit_clearSelection (v : Word) (i : Nat) :
    (v ||| wd (2 ^ 18)).toNat.testBit i = (v.toNat.testBit i || decide (18 = i)) := by
  rw [BitVec.toNat_or, Nat.testBit_or, ← Nat.testBit_two_pow]
  rfl

/-- A selection written with the clear bit set clears the counter. -/
theorem clearSelection_clears (v : Word) : bitsOf (v ||| wd (2 ^ 18)).toNat 18 1 = 1 := by
  refine Nat.eq_of_testBit_eq fun i => ?_
  rw [testBit_bitsOf, testBit_clearSelection]
  cases i with
  | zero => simp
  | succ i => simp [Nat.testBit_succ]

/-- The clear bit is none of the selection's. -/
theorem clearSelection_selects (v : Word) : bitsOf (v ||| wd (2 ^ 18)).toNat 0 18 = bitsOf v.toNat 0 18 := by
  refine Nat.eq_of_testBit_eq fun i => ?_
  rw [testBit_bitsOf, testBit_bitsOf, testBit_clearSelection]
  by_cases hi : i < 18
  · rw [Nat.zero_add, decide_eq_false (show ¬ 18 = i by omega), Bool.or_false]
  · simp [hi]

/-! ### A worn row -/

/-- The state in which a row of an array has been taken out of use, a spare row stands in and 626 is raised. -/
def rowSpared (a w : Nat) (s : State) : State :=
  let s := { s with stk := { s.stk with ceRows := s.stk.ceRows.filter (fun e => e.1 != a || e.2.1 != w) } }
  let left := getF s (fFLT_ROWS_LEFT a) - 1
  raise 626 { setF (fFLT_ROWS_LEFT a) left s with flt := { s.flt with rows := tset (fun _ => 0) a (64 - left) s.flt.rows } }

theorem execRowReplace_spared {a w : Nat} {s : State} (ha : a < 10) (hleft : getF s (fFLT_ROWS_LEFT a) ≠ 0)
    (hworn : 5 ≤ a ∨ rowWorn s a w = true) :
    execRowReplace a w s = .next (
      if 8 < getF s (fFLT_ROWS_LEFT a) - 1 then rowSpared a w s
      else if a < 5 then raise 627 (wornUnit (192 + a) 1 a (rowSpared a w s))
      else if a < 8 then wornUnit 627 4 (a - 5) (rowSpared a w s)
      else raise 627 (rowSpared a w s)) := by
  rw [execRowReplace, unit_pos (decide_eq_true ha), when_pos (by simp [hleft, hworn])]
  rfl

theorem getF_rowSpared (a w : Nat) (s : State) :
    getF (rowSpared a w s) (fFLT_ROWS_LEFT a) = getF s (fFLT_ROWS_LEFT a) - 1 := by
  have hregs : (rowSpared a w s).regs = (setF (fFLT_ROWS_LEFT a) (getF s (fFLT_ROWS_LEFT a) - 1) s).regs := rfl
  rw [getF_congr hregs, getF_setF_self _ _ (by simp [fFLT_ROWS_LEFT])]
  refine Nat.mod_eq_of_lt ?_
  exact Nat.lt_of_le_of_lt (Nat.sub_le _ _) (getF_lt s (fFLT_ROWS_LEFT a))

theorem mem_pulse_rowSpared (a w : Nat) (s : State) : 626 ∈ (rowSpared a w s).flt.pulse := mem_pulse_raise _ _

theorem rowSpared_worn (a w : Nat) (s : State) : (rowSpared a w s).flt.worn = s.flt.worn := rfl

theorem getF_wornUnit (src kind u : Nat) (s : State) (f : Fld) : getF (wornUnit src kind u s) f = getF s f := rfl

theorem wornUnit_worn (src kind u : Nat) (s : State) : (wornUnit src kind u s).flt.worn = s.flt.worn ++ [(kind, u)] :=
  rfl

theorem mem_pulse_wornUnit {src kind u n : Nat} {s : State} (h : n ∈ s.flt.pulse) :
    n ∈ (wornUnit src kind u s).flt.pulse := (mem_insSet _ _ _).2 (.inr h)

/-- Settles O37: by the steps of a cycle and by the rule of each command. -/
theorem faultRegistrar : Obligations.FaultRegistrar := by
  unfold Obligations.FaultRegistrar
  refine ⟨?faultRaise_1, ?faultRaise_2, ?faultRaise_3, ?fltFirstClear, ?fltForceWrite_1, ?fltForceWrite_2,
    ?cntClearAll, ?cntClr, ?wearHourCheck, ?rowReplace_1, ?rowReplace_2, ?ringbStandin_1, ?ringbStandin_2⟩
  case faultRaise_1 =>
    intro u s hu hwf hactive
    refine (execFaultRaise_eq hu).trans (congrArg Host.Outcome.next ?_)
    have hfresh : freshOf u = [] := by rw [freshOf, risen, hactive]; rfl
    have hrepeats : repeatsCounted u = { u with flt := { u.flt with pulse := [], prev := [] } } := by
      rw [repeatsCounted, hfresh, risen, hactive, risesCounted_idle hactive]
      exact addF_zero (s := { u with flt := { u.flt with pulse := [], prev := [] } }) hwf _
    have hfirst : firstRecorded u = none := by rw [firstRecorded, hfresh]; exact ite_self none
    rw [hfresh, hfirst, hrepeats]
    rfl
  case faultRaise_2 =>
    intro u i s hu hactive hprev hstat hvalid
    have hfresh : freshOf u = [] := by rw [freshOf_single hactive hprev, fltStat_risesCounted, if_pos hstat]
    have hrepeats : repeatsCounted u = addF fFLT_REPEATS_REPEATS 1 (risesCounted u) := by
      rw [repeatsCounted, hfresh, risen_of_prev_nil hprev, hactive]
      rfl
    have hrises : risesCounted u = countEv 1 i 1 { u with flt := { u.flt with pulse := [], prev := [i] } } :=
      risesCounted_single hactive hprev
    have hfirst : firstRecorded u = none := by
      rw [firstRecorded, hfresh]
      exact ite_self none
    refine ⟨addF fFLT_REPEATS_REPEATS 1 (risesCounted u), ?_, ?_, ?_, ?_⟩
    · refine (execFaultRaise_eq hu).trans (congrArg Host.Outcome.next ?_)
      rw [hfresh, hfirst, hrepeats]
      rfl
    · rw [getF_addF_self _ _ (by decide), Nat.min_comm, hrises, getF_congr (countEv_regs ..)]
      rfl
    · rw [addF_flt, hrises, countEv_flt]
    · rw [addF_flt, hrises, countEv_flt]
  case faultRaise_3 =>
    intro u i v x s hu hactive hprev hv hstat hvalid hx
    rw [← risesCounted_single hactive hprev] at hv hstat
    have hfresh : freshOf u = [i] := by rw [freshOf_single hactive hprev, hstat]; rfl
    have hrepeats : repeatsCounted u = v := by
      rw [repeatsCounted, hfresh, risen_of_prev_nil hprev, hactive, hv]
      rfl
    have hfirst : firstRecorded u = some i := by
      rw [firstRecorded, hfresh, hrepeats, if_neg (by simp [hvalid])]
      rfl
    refine (execFaultRaise_eq hu).trans (congrArg Host.Outcome.next ?_)
    rw [hfresh, hfirst, hrepeats, recordFresh, hx]
    simp
  case fltFirstClear =>
    intro u s hu
    subst hu
    rfl
  case fltForceWrite_1 =>
    intro w i v s hi hmayWrite
    change execFltForceWrite w i v s = _
    rw [execFltForceWrite, unit_pos (decide_eq_true (by omega)), guardWrite_may hmayWrite, forceWrite,
      if_neg (by omega)]
  case fltForceWrite_2 =>
    intro w v s hmayWrite
    change execFltForceWrite w 26 v s = _
    rw [execFltForceWrite, unit_pos (by decide), guardWrite_may hmayWrite, forceWrite, if_pos rfl]
  case cntClearAll =>
    intro k s hdomOn
    change ∃ t, execCntClearAll s = .next t ∧ _
    exact ⟨cntClearAll s, by rw [execCntClearAll, when_pos hdomOn], val_cntClearAll k s⟩
  case cntClr =>
    intro k v s hk hdomOn
    refine ⟨cntSelWrite k (v ||| wd (2 ^ 18)) s, ?_, ?_⟩
    · change execCntClr k v s = _
      rw [execCntClr, unit_pos (decide_eq_true hk), when_pos hdomOn]
    rw [cntSelWrite, if_pos (clearSelection_clears v)]
    refine ⟨by rw [getCnt_setCnt, if_pos rfl], ?_⟩
    rw [reg_setCnt, reg_writeBits, if_pos rfl]
    exact (bitsOf_mergeBits_low (k := 18) _ _ (by decide)).trans (clearSelection_selects v)
  case wearHourCheck =>
    intro s hdue
    refine ⟨_, exec_wearHourCheck_due hdue, ?_, rfl, rfl⟩
    have hring : (wearFound s).ringNs = s.ringNs := (only_wearFound s).same .ringNs (by decide)
    change (wearFound s).ringNs / 3600000000000 = _
    rw [hring]
  case rowReplace_1 =>
    intro a w s h5 ha h8
    refine ⟨rowSpared a w s, ?_, getF_rowSpared a w s, mem_pulse_rowSpared a w s, rowSpared_worn a w s⟩
    change execRowReplace a w s = _
    rw [execRowReplace_spared ha (by omega) (.inl h5), if_pos h8]
  case rowReplace_2 =>
    intro a w s ha hworn hleft hfew
    refine ⟨raise 627 (wornUnit (192 + a) 1 a (rowSpared a w s)), ?_, ?_, ?_, mem_pulse_raise _ _, ?_⟩
    · change execRowReplace a w s = _
      rw [execRowReplace_spared (by omega) hleft (.inr hworn), if_neg (by omega), if_pos ha]
    · rw [getF_raise, getF_wornUnit, getF_rowSpared]
    · exact (mem_insSet _ _ _).2 (.inr (mem_pulse_wornUnit (mem_pulse_rowSpared a w s)))
    · exact (wornUnit_worn (192 + a) 1 a (rowSpared a w s)).trans (by rw [rowSpared_worn])
  case ringbStandin_1 =>
    intro e f w s hatticFind hselfTrained hstate
    refine ⟨energise 1 { releasePair 0 s with ring := { (releasePair 0 s).ring with
      seeded := tset (fun _ => false) 1 false (releasePair 0 s).ring.seeded } }, ?_, ?_, ?_, ?_⟩
    · change execRingbStandin (.selfTrained e f) s = _
      rw [execRingbStandin, hatticFind]
      dsimp only
      rw [if_pos hselfTrained]
    · rw [energise, getF_setByp, bypState, getF_setF_self _ _ (by decide)]
      rfl
    · rw [energise, flag_setByp, bypState, flag_setF_other, flag_setF_self]
      all_goals simp [fRGx_BYP_STAT_STATE, fRGx_BYP_STAT_HOLD]
    · rw [seedDone, (show ∀ t : State, (energise 1 t).ring = t.ring from fun _ => rfl), tget_tset_self]
      rfl
  case ringbStandin_2 =>
    intro w s hatticFind hringUp hringUp2 hseedDone hpairInLine
    change execRingbStandin .seeded s = _
    simp [execRingbStandin, hatticFind, hringUp, hringUp2, hseedDone, hpairInLine]

end Sys2Proof.Proofs
end
